-- ==== Sys2Proof/Word.lean ====
section
/-! DEFINITION. The word types of the register file (00_scope.md: register contents are 32-bit words). -/

namespace Sys2Proof

/-- A register, table or payload word. -/
abbrev Word := BitVec 32

end Sys2Proof
end

