-- ==== Sys2Proof/Syntax.lean ====
section
/-! DEFINITION. The commands of the block: one constructor of `Instr` for every row of spec/opcode_table.json,
with what arrives with it. Every command carries first the coarse count `t`, in ns, at which it arrives; what an
event brings from outside the part (a code, a level, a received message) stands in its other operands. -/

namespace Sys2Proof

/-- The two halves of the device (Table 0-3). -/
inductive Half where
  | north | south
  deriving DecidableEq, Repr

/-- The two servo axes (Table 18-1: 0 V, 1 H). -/
inductive Axis where
  | v | h
  deriving DecidableEq, Repr

/-- Where a UDP request came from, and what its reply needs (R299, R319); the IP address and UDP port that it was sent
to (R288). -/
structure Endpoint where
  ip    : Nat
  port  : Nat
  mac   : Nat
  ipv6  : Bool
  dst   : Nat
  dport : Nat
  /-- PCP and VID of a tagged request. -/
  tag  : Option (Nat × Nat)
  deriving DecidableEq, Repr

/-- Where a command came from (Table 13-6, SOURCE). -/
inductive Source where
  | lane (l : Fin 8) (ep : Endpoint)
  | spi
  | uart
  | recipe
  | device
  | cordLink
  deriving DecidableEq, Repr

/-- A Doley request as its header and payload give it (Table 13-1); the opcode is the row's. -/
structure Req where
  src     : Source
  version : Nat
  flags   : Nat
  status  : Nat
  seq     : Nat
  path    : Nat
  payload : List Nat
  deriving DecidableEq, Repr

/-- What a code-density run has measured on one front end (R70): the occupied bins of each attempt of the trim search,
the edge counts of the 128 bins and whether step 4 collected its edges in time, and the sums over 4,096 edges of the time
on inputs 1 to 7 minus the time on input 0, in 1/512 ns. -/
structure CdResult where
  occ    : List Nat
  counts : List Nat
  inTime : Bool
  skews  : List Int
  deriving DecidableEq, Repr

/-- A way of waking from PARK (R453): WAKE_N, an SPI command byte 0x5A, a byte on the UART. -/
inductive Wake where
  | pin | spi | uart
  deriving DecidableEq, Repr

/-- The data set that an Announce carries, which the BMCA compares (R50). -/
structure PtpData where
  priority1 : Nat
  class0    : Nat
  accuracy  : Nat
  variance  : Nat
  priority2 : Nat
  identity  : Nat
  steps     : Nat
  deriving DecidableEq, Repr

/-- A received PTP message (R50, R51). Times are in units of 2⁻¹⁶ ns. -/
structure PtpMsg where
  domain     : Nat
  /-- 0 UDP/IPv4, 1 UDP/IPv6, 2 Layer 2. -/
  transport  : Nat
  /-- The sender's port identity: clock identity × 2¹⁶ + port number. -/
  sender     : Nat
  seq        : Nat
  twoStep    : Bool
  /-- The timestamp that the message carries. -/
  origin     : Nat
  /-- Of a Pdelay_Resp with its Follow_Up: the responder's turnaround time. -/
  turnaround : Nat
  correction : Int
  /-- Of a response: the port identity whose request it answers. -/
  asked      : Nat
  /-- Of an Announce: its data set. -/
  data       : PtpData
  /-- Bytes of its frame. -/
  bytes      : Nat
  deriving DecidableEq, Repr

/-- A whole REG_WRITE or REG_READ packet for one register (R330): its source, sequence number, path and data word.
The register is the row's; the row's own action bit is set whatever `word` holds. -/
structure RegReq where
  src  : Source
  seq  : Nat
  path : Nat
  word : Nat
  deriving DecidableEq, Repr

/-- An SPI transaction that is not a write: its command byte, and the bytes clocked after a read's length (R322). -/
structure SpiTurn where
  command : Nat
  clocked : Nat
  deriving DecidableEq, Repr

/-- The close of an emitter's oldest shot window: bit k of `sat` says that the amplifier of channel k of the stave has
saturated since its last edge (R90, R149). -/
structure WindowEnd where
  em  : Fin 64
  sat : Fin 16
  deriving DecidableEq, Repr

/-- The close of a front end's injector window, and whether the amplifier has saturated since its last edge (R90,
R116). -/
structure InjWindowEnd where
  fe  : Fin 264
  sat : Bool
  deriving DecidableEq, Repr

/-- A returned roll call: the master's mode, and the numbers, modes and COMMITTED of the followers (R347, R350, R448). -/
structure RollReturn where
  lead    : Nat
  members : List (Nat × Nat × Bool)
  deriving DecidableEq, Repr

/-- The commands: one constructor for each row of spec/opcode_table.json. DESIGN CHOICE: log entry 5. -/
inductive Instr where
  /-- REG_READ (R330), received as the packet `q`. -/
  | regRead (t : Nat) (q : Req)
  /-- REG_WRITE (R330), received as the packet `q`. -/
  | regWrite (t : Nat) (q : Req)
  /-- REG_MODIFY (R330), received as the packet `q`. -/
  | regModify (t : Nat) (q : Req)
  /-- UNIT_READ (R331), received as the packet `q`. -/
  | unitRead (t : Nat) (q : Req)
  /-- UNIT_WRITE (R331), received as the packet `q`. -/
  | unitWrite (t : Nat) (q : Req)
  /-- TABLE_READ (R332, R463), received as the packet `q`. -/
  | tableRead (t : Nat) (q : Req)
  /-- TABLE_WRITE (R332), received as the packet `q`. -/
  | tableWrite (t : Nat) (q : Req)
  /-- TABLE_SWAP (R332), received as the packet `q`. -/
  | tableSwap (t : Nat) (q : Req)
  /-- MODE_SET (R333, R344, R350, R446, R450), received as the packet `q`. -/
  | modeSet (t : Nat) (q : Req)
  /-- MODE_GET (R329), received as the packet `q`. -/
  | modeGet (t : Nat) (q : Req)
  /-- RESET (R334), received as the packet `q`. -/
  | reset (t : Nat) (q : Req)
  /-- COMMIT (R335), received as the packet `q`. -/
  | commit (t : Nat) (q : Req)
  /-- CAL_RUN (R388), received as the packet `q`. -/
  | calRun (t : Nat) (q : Req)
  /-- CAL_STATUS (Table 13-5), received as the packet `q`. -/
  | calStatus (t : Nat) (q : Req)
  /-- CAL_STARTER (R402), received as the packet `q`. -/
  | calStarter (t : Nat) (q : Req)
  /-- NVS_IMAGE_WRITE (R417), received as the packet `q`. -/
  | nvsImageWrite (t : Nat) (q : Req)
  /-- NVS_IMAGE_ACTIVATE (R418), received as the packet `q`. -/
  | nvsImageActivate (t : Nat) (q : Req)
  /-- NVS_LIFE_READ (R420), received as the packet `q`. -/
  | nvsLifeRead (t : Nat) (q : Req)
  /-- NVS_COMPACT (R412), received as the packet `q`. -/
  | nvsCompact (t : Nat) (q : Req)
  /-- TALLY_SNAPSHOT (R430), received as the packet `q`. -/
  | tallySnapshot (t : Nat) (q : Req)
  /-- TALLY_READ (R429), received as the packet `q`. -/
  | tallyRead (t : Nat) (q : Req)
  /-- TALLY_DUMP (R431), received as the packet `q`. -/
  | tallyDump (t : Nat) (q : Req)
  /-- CORD_STATUS (R352), received as the packet `q`. -/
  | cordStatus (t : Nat) (q : Req)
  /-- CORD_RESET (R358), received as the packet `q`. -/
  | cordReset (t : Nat) (q : Req)
  /-- RECIPE_STORE (R337), received as the packet `q`. -/
  | recipeStore (t : Nat) (q : Req)
  /-- RECIPE_READ (Table 13-5), received as the packet `q`. -/
  | recipeRead (t : Nat) (q : Req)
  /-- RECIPE_ENABLE (R338), received as the packet `q`. -/
  | recipeEnable (t : Nat) (q : Req)
  /-- RECIPE_DELETE (R337), received as the packet `q`. -/
  | recipeDelete (t : Nat) (q : Req)
  /-- RECIPE_RUN (R338, R340), received as the packet `q`. -/
  | recipeRun (t : Nat) (q : Req)
  /-- SELFTEST_REPORT (R443), received as the packet `q`. -/
  | selftestReport (t : Nat) (q : Req)
  /-- FAULT_LOG_READ (R328), received as the packet `q`. -/
  | faultLogRead (t : Nat) (q : Req)
  /-- FAULT_LOG_CLEAR (R328), received as the packet `q`. -/
  | faultLogClear (t : Nat) (q : Req)
  /-- IDENT (Table 13-5), received as the packet `q`. -/
  | ident (t : Nat) (q : Req)
  /-- TIME_GET (R336), received as the packet `q`. -/
  | timeGet (t : Nat) (q : Req)
  /-- TIME_OF_DAY (R336), received as the packet `q`. -/
  | timeOfDay (t : Nat) (q : Req)
  /-- ACQUIRE as the present step of the running recipe (R341). -/
  | acquire (t : Nat)
  /-- An ACQUIRE has waited 100 ms (R341). -/
  | acquireTimeout (t : Nat)
  /-- RELEASE as the present step (R337). -/
  | release (t : Nat)
  /-- WAIT as the present step (R337). -/
  | wait (t : Nat)
  /-- The delay of a WAIT step has elapsed (R337). -/
  | waitExpire (t : Nat)
  /-- The recipe at the head of the queue is taken (R340). -/
  | recipeStart (t : Nat)
  /-- The present step of the running recipe is executed (R340). -/
  | recipeStep (t : Nat)
  /-- An SPI transaction that is not a write (R322). -/
  | hspiRead (t : Nat) (x : SpiTurn)
  /-- A UART frame with an error (R323). -/
  | uartFrameError (t : Nat)
  /-- A gap of more than 10 ms in a UART frame (R323). -/
  | uartGapTimeout (t : Nat)
  /-- No edge of REF_IN for 2 µs (R35, R36). -/
  | refLost (t : Nat)
  /-- A 100 µs window has counted REF_IN at `hz` (R32, R35). -/
  | refFreqWindow (t : Nat) (hz : Nat)
  /-- A level of REF_WARM has held for 1 ms (R37). -/
  | refWarmChange (t : Nat) (level : Bool)
  /-- The PLL is in lock (R36, R40). -/
  | pllLock (t : Nat)
  /-- RETURN_HOLD has passed (R38). -/
  | refReturn (t : Nat)
  /-- XTAL is declared absent (R40). -/
  | xtalFault (t : Nat)
  /-- XTAL is no longer declared absent (R40). -/
  | xtalReturn (t : Nat)
  /-- A write of TIME_STEP_CTRL.GO (R48). -/
  | timeStepGo (t : Nat) (x : RegReq)
  /-- A pending step is applied (R48). -/
  | timeStepApply (t : Nat)
  /-- A read of TIME_NOW_SEC_HI (R49). -/
  | timeNowLatch (t : Nat) (x : RegReq)
  /-- A write of TIME_SYNC_CTRL (R42). -/
  | syncSrcChange (t : Nat) (x : RegReq)
  /-- A Sync (R50, R53). -/
  | ptpSync (t : Nat) (l : Fin 8) (m : PtpMsg)
  /-- A Follow_Up (R50). -/
  | ptpFollowUp (t : Nat) (l : Fin 8) (m : PtpMsg)
  /-- A Delay_Resp (R50). -/
  | ptpDelayResp (t : Nat) (l : Fin 8) (m : PtpMsg)
  /-- A Pdelay_Req (R50). -/
  | ptpPdelayReq (t : Nat) (l : Fin 8) (m : PtpMsg)
  /-- A Pdelay_Resp (R50). -/
  | ptpPdelayResp (t : Nat) (l : Fin 8) (m : PtpMsg)
  /-- An Announce (R50). -/
  | ptpAnnounce (t : Nat) (l : Fin 8) (m : PtpMsg)
  /-- Three Announce intervals without an Announce (R53). -/
  | announceTimeout (t : Nat)
  /-- SYNC_HOLD_S has passed without lock (R53). -/
  | syncHoldExpire (t : Nat)
  /-- An edge of PPS_IN, `eighth` × 125 ps into its coarse period (R54, R55). -/
  | ppsEdge (t : Nat) (rising : Bool) (eighth : Nat)
  /-- An expected pulse does not arrive (R55). -/
  | ppsMissing (t : Nat)
  /-- The measurement of XTAL against REF_IN (R58). -/
  | xtalBinMeasure (t : Nat) (ppb : Int)
  /-- Learned bins are journalled (R58). -/
  | xtalBinJournal (t : Nat)
  /-- A 10 ms step of REF_TUNE (R57). -/
  | refTuneStep (t : Nat)
  /-- An edge at coarse count `c` and fine code `fine` on latch input `n`; `sat`: the amplifier has saturated (R61 to
  R67, R90). -/
  | tdcEdge (t : Nat) (f : Fin 264) (n : Fin 8) (c : Nat) (fine : Fin 128) (sat : Bool)
  /-- A write of TDC_CTRL (R77). -/
  | tdcModeWrite (t : Nat) (x : RegReq)
  /-- A delay-locked loop locks (R79). -/
  | dllLock (t : Nat) (f : Fin 264)
  /-- A write of TDC_STAT_CTRL.START (R85). -/
  | statStart (t : Nat) (h : Half) (x : RegReq)
  /-- A write of TDC_STAT_CTRL.ABORT (R84). -/
  | statAbort (t : Nat) (h : Half) (x : RegReq)
  /-- TIMEOUT_MS has elapsed (R84). -/
  | statTimeout (t : Nat) (h : Half)
  /-- A read of TDC_FE_LAST_FLAGS (R482). -/
  | tdcLastLatch (t : Nat) (f : Fin 264) (x : RegReq)
  /-- The emitter's oldest window closes (R149). -/
  | windowClose (t : Nat) (x : WindowEnd)
  /-- An injector window closes (R116). -/
  | injWindowClose (t : Nat) (x : InjWindowEnd)
  /-- A write of RX_FE_CFG (R93). -/
  | rxFeCfgWrite (t : Nat) (f : Fin 264) (x : RegReq)
  /-- A write of RX_FE_THR_A, and with `b` of RX_FE_THR_B (R97). -/
  | rxThresholdWrite (t : Nat) (f : Fin 264) (x : RegReq) (b : Nat)
  /-- A pending change has waited too long (R94). -/
  | gainStall (t : Nat) (f : Fin 264)
  /-- The DC restorer's estimate, 10 nA (R91). -/
  | dcUpdate (t : Nat) (f : Fin 264) (est : Nat)
  /-- A T0 crossing in a gap (R98). -/
  | backgroundEvent (t : Nat) (f : Fin 264)
  /-- A loop period ends (R99 to R103). -/
  | adaptPeriod (t : Nat) (f : Fin 264)
  /-- 100 µs of the bias ramp (R105). -/
  | biasRampStep (t : Nat) (g : Fin 8)
  /-- A write of RX_OCT_XBAR (R109). -/
  | xbarSubst (t : Nat) (g : Fin 8) (x : RegReq)
  /-- 1 ms after a switch request without a window (R111). -/
  | xbarSwitchTimeout (t : Nat) (g : Fin 8)
  /-- A write of RX_OCT_INJ_CTRL.GO (R117). -/
  | injGo (t : Nat) (g : Fin 8) (x : RegReq)
  /-- A write of RX_OCT_INJ_CTRL.STOP (R117). -/
  | injStop (t : Nat) (g : Fin 8) (x : RegReq)
  /-- The injector period elapses (R115, R116). -/
  | injPulse (t : Nat) (g : Fin 8)
  /-- LASER_PERMIT falls (R119, R120). -/
  | laserPermitLow (t : Nat)
  /-- LASER_PERMIT rises (R119). -/
  | laserPermitHigh (t : Nat)
  /-- LASER_PERMIT has been high for 10 ms (R119). -/
  | permitHoldExpire (t : Nat)
  /-- A frame boundary (R481). -/
  | frameBoundary (t : Nat)
  /-- The restore conditions have held for 1 s (R24). -/
  | restoreHoldExpire (t : Nat)
  /-- The next slot is decided; `late`: the fire queue is late; `pre`: current before the edge (R138, R144). -/
  | slotExecute (t : Nat) (late : Bool) (pre : Bool)
  /-- A pulse's current-sense result (R143). -/
  | csEvaluate (t : Nat) (e : Fin 64) (peak : Nat) (rise : Nat)
  /-- A budget window ends (R140). -/
  | eyeWindowEnd (t : Nat)
  /-- A diagnostic interval ends (R147). -/
  | diagIntervalEnd (t : Nat)
  /-- The next kerf begins (R103, R128). -/
  | kerfStart (t : Nat)
  /-- The kerf ends (R103). -/
  | kerfEnd (t : Nat)
  /-- The next proof shot of the kerf (R146). -/
  | proofShot (t : Nat) (pre : Bool)
  /-- A write of FIRE_SCHED.SWAP (R131). -/
  | schedSwap (t : Nat) (x : RegReq)
  /-- A write of FIRE_EM_STATUS.CLEAR (R145). -/
  | emitterClear (t : Nat) (e : Fin 64) (x : RegReq)
  /-- A write of FIRE_DIAG_CTRL.SWEEP (R148). -/
  | sweep (t : Nat) (x : RegReq)
  /-- The peak finder completes a list (R158). -/
  | peakListDone (t : Nat) (ch : Fin 256)
  /-- The filtered EXT_TRIG goes to a level (R163). -/
  | extTrigEdge (t : Nat) (level : Bool)
  /-- TIMEOUT_MS since arming (R164). -/
  | trigTimeout (t : Nat)
  /-- A read of ACQ_SPY_INFO (R169). -/
  | spyLatch (t : Nat) (x : RegReq)
  /-- The emitter's oldest closed shot is formed (R167, R192). -/
  | staveShotUnit (t : Nat) (e : Fin 64)
  /-- An output of the decimation chain, from the samples since the last one; a true flag marks blanking (R203 to
  R215). -/
  | pickoffOutput (t : Nat) (samples : List (Int × Bool))
  /-- A demodulator period ends (R198, R201). -/
  | demodPeriodBoundary (t : Nat) (peak : Nat)
  /-- Eight consecutive clipping codes (R201). -/
  | clipResetRequest (t : Nat)
  /-- RESET_MS since the previous reset (R201). -/
  | caResetTimer (t : Nat)
  /-- A write of ANGLE_CTRL.RESET_NOW (R201). -/
  | resetNow (t : Nat) (x : RegReq)
  /-- A write of ANGLE_CTRL.RUN (R195). -/
  | angleRun (t : Nat) (x : RegReq)
  /-- A write of ANGLE_EXC (R198). -/
  | excWrite (t : Nat) (x : RegReq)
  /-- An electrode is in fault: 0 PKO_INP, 1 PKO_INN (R216). -/
  | elecFault (t : Nat) (pin : Fin 2)
  /-- An electrode leaves fault (R217). -/
  | elecRecover (t : Nat) (pin : Fin 2)
  /-- A servo period starts (R222). -/
  | servoPeriodStart (t : Nat) (ax : Axis)
  /-- The output instant of a period; `finished`: the program has finished (R223). -/
  | outputInstant (t : Nat) (ax : Axis) (finished : Bool)
  /-- A write of SERVO_AXIS_CTRL.PARK (R231). -/
  | servoParkCmd (t : Nat) (ax : Axis) (x : RegReq)
  /-- A write of SERVO_AXIS_CTRL.UNPARK (R234). -/
  | unpark (t : Nat) (ax : Axis) (x : RegReq)
  /-- A write of SERVO_AXIS_CTRL.SWAP (R230). -/
  | servoSwap (t : Nat) (ax : Axis) (x : RegReq)
  /-- A write of SERVO_AXIS_CTRL.EN (R229). -/
  | servoEnWrite (t : Nat) (ax : Axis) (x : RegReq)
  /-- 10 µs of the drive DAC's return (R233). -/
  | parkSlewStep (t : Nat)
  /-- ACQ_MS in ACQUIRE (R231). -/
  | acqTimeout (t : Nat) (ax : Axis)
  /-- The raster's own timer reaches its period (R237). -/
  | rasterStart (t : Nat)
  /-- Newly accepted levels of ENC_A and ENC_B (R239). -/
  | encEdge (t : Nat) (a : Bool) (b : Bool)
  /-- A rising edge of ENC_I (R239). -/
  | encIndex (t : Nat)
  /-- A PWM period's centre (R242). -/
  | pwmUpdate (t : Nat)
  /-- No bridge-voltage result for 100 ms (R243). -/
  | vbusStale (t : Nat)
  /-- GATE_FAULT_N goes to a level (R244). -/
  | gateFault (t : Nat) (level : Bool)
  /-- ALIGN_MS has passed (R244). -/
  | alignDone (t : Nat)
  /-- A write of GEOM_POSE_CTRL.LOAD (R252). -/
  | poseLoad (t : Nat) (x : RegReq)
  /-- The pose matrix is computed (R252). -/
  | poseMatrixDone (t : Nat)
  /-- A write of GEOM_ENV_CTRL.APPLY (R255). -/
  | envApply (t : Nat) (x : RegReq)
  /-- A write of GEOM_CURV.KAPPA (R257). -/
  | kappaWrite (t : Nat) (x : RegReq)
  /-- The oldest sector closes (R258). -/
  | sectorClose (t : Nat)
  /-- The reports of the oldest closed sector (R261). -/
  | envelopeReport (t : Nat)
  /-- A frame start packet (R270). -/
  | csiFrameStart (t : Nat) (p : Fin 2) (fn : Nat) (vc : Fin 4)
  /-- A long packet; `used`: lines that the pipeline has consumed since the last event (R273). -/
  | csiLine (t : Nat) (p : Fin 2) (vc : Fin 4) (dt : Nat) (pixels : List Nat) (crcOk : Bool) (used : Nat)
  /-- A frame end packet (R270). -/
  | csiFrameEnd (t : Nat) (p : Fin 2) (vc : Fin 4)
  /-- A packet of another type or virtual channel (R266). -/
  | csiShortPacketIgnored (t : Nat) (p : Fin 2)
  /-- A start-of-transmission error (R267). -/
  | sotError (t : Nat) (p : Fin 2)
  /-- No packet for FE_TIMEOUT_US (R270). -/
  | feTimeout (t : Nat) (p : Fin 2)
  /-- A turn of the pipeline ends (R272). -/
  | pipelineTurn (t : Nat)
  /-- A write of CAM_PORT_CFG (R269). -/
  | camPortEnable (t : Nat) (p : Fin 2) (x : RegReq)
  /-- A write of CAM_CCI_CTRL.GO (R279). -/
  | cciGo (t : Nat) (p : Fin 2) (x : RegReq)
  /-- An I2C write of the relay completes (R280, R281). -/
  | cciWriteDone (t : Nat) (p : Fin 2) (ack : Bool)
  /-- What a lane's PCS and auto-negotiation show; lanes 8 and 9 are CORD0 and CORD1 (R285). -/
  | linkChange (t : Nat) (l : Fin 10) (pcs : Bool) (anDone : Bool) (half : Bool) (speed : Nat)
  /-- No equaliser tap has moved for 1 ms (R286). -/
  | eqLock (t : Nat) (l : Fin 8)
  /-- A MAC control frame (R287). -/
  | pauseFrameRx (t : Nat) (l : Fin 8) (bytes : Nat)
  /-- An ARP request (R288). -/
  | arpRequest (t : Nat) (l : Fin 8) (target : Nat) (mac : Nat) (ip : Nat)
  /-- A neighbour solicitation (R288). -/
  | neighborSolicitation (t : Nat) (l : Fin 8) (target : Nat) (mac : Nat) (ip : Nat)
  /-- An echo request (R288). -/
  | icmpEchoRequest (t : Nat) (l : Fin 8) (v6 : Bool) (dst : Nat) (mac : Nat) (ip : Nat) (bytes : Nat)
  /-- Any other received frame (R288). -/
  | rxDiscard (t : Nat) (l : Fin 8) (bytes : Nat)
  /-- FLUSH_US since the first item of an open datagram (R295). -/
  | flushTimeout (t : Nat) (n : Fin 16)
  /-- The hold time of frame `k` ends (R294). -/
  | echoFrameRelease (t : Nat) (n : Fin 16) (k : Nat)
  /-- A port may be granted (R303). -/
  | grant (t : Nat) (p : Fin 8)
  /-- A frame finishes transmission; port 8 is CORD0 (R303, R357). -/
  | frameTxEnd (t : Nat) (p : Fin 9)
  /-- No frame completes under a grant for EGRESS_WDT_MS (R306). -/
  | egressWdtBite (t : Nat) (p : Fin 8)
  /-- A requester has waited for STARVE_LIMIT_US (R305). -/
  | starve (t : Nat) (p : Fin 8) (req : Fin 6)
  /-- A write of LAND_PORT_CTRL.FREEZE (R304). -/
  | portFreeze (t : Nat) (p : Fin 8) (x : RegReq)
  /-- A write of LAND_REGION (R301). -/
  | regionWrite (t : Nat) (n : Fin 16) (x : RegReq)
  /-- A datagram on CORD1: its 64-bit words, then camera octets (R300, R357). -/
  | relayDatagram (t : Nat) (words : List Nat) (octets : List Nat)
  /-- Relayed bytes have stopped for LINK_TIMEOUT_US (R310). -/
  | cordRelayTimeout (t : Nat) (p : Fin 8)
  /-- The master sends a roll call (R347). -/
  | rollCall (t : Nat)
  /-- A roll call on CORD0 with the numbers before this member's (R347). -/
  | rollCallRx (t : Nat) (ms : List Nat)
  /-- The returned roll call, with the master's seeds (R347, R356). -/
  | rollCallReturn (t : Nat) (x : RollReturn) (seeds : List Nat)
  /-- A request forwarded by a coordinator (R348). -/
  | cordRequest (t : Nat) (op : Nat) (q : Req)
  /-- An answer has not come within LINK_TIMEOUT_US (R348, R349). -/
  | cordTimeout (t : Nat)
  /-- The check phase reaches a member (R349). -/
  | cordCheck (t : Nat) (op : Nat) (q : Req)
  /-- The apply phase reaches a member (R349). -/
  | cordApply (t : Nat)
  /-- A checked request is aborted (R349). -/
  | cordAbort (t : Nat)
  /-- Neither apply nor abort has come (R349). -/
  | cordApplyTimeout (t : Nat)
  /-- 1,500 ns before a frame start of the master (R353). -/
  | syncMarkerSend (t : Nat)
  /-- A marker of `width` ns reaches a follower (R353). -/
  | syncMarker (t : Nat) (width : Nat)
  /-- A due marker is missing (R355). -/
  | syncMiss (t : Nat)
  /-- The falling edge of the cord-reset marker (R358). -/
  | cordResetMarker (t : Nat)
  /-- The announcement of an epoch (R354). -/
  | epochAnnounce (t : Nat) (epoch : Nat) (event : Nat)
  /-- The master's heartbeat falls due (R360). -/
  | cordHeartbeatSend (t : Nat)
  /-- A cord heartbeat arrives (R360, R361). -/
  | cordHeartbeat (t : Nat) (mac : Nat) (member : Nat) (epoch : Nat)
  /-- No cord heartbeat for 250 µs (R361). -/
  | cordHeartbeatTimeout (t : Nat)
  /-- The checker of a half sends its claim (R359). -/
  | halfHeartbeatSend (t : Nat) (h : Half)
  /-- The checker of half `h` receives the other half's claim (R359). -/
  | halfHeartbeat (t : Nat) (h : Half) (claim : Fin 2)
  /-- The checker of half `h` has heard nothing for 250 µs (R359). -/
  | halfHeartbeatTimeout (t : Nat) (h : Half)
  /-- ROUND_US since the previous round start (R368). -/
  | hkRoundStart (t : Nat)
  /-- The SETTLE delay ends (R368). -/
  | hkSettleDone (t : Nat)
  /-- A conversion completes (R370). -/
  | hkConversionDone (t : Nat) (code : Nat)
  /-- A write of HK_INJECT.GO (R371). -/
  | hkInjectGo (t : Nat) (x : RegReq)
  /-- A 100 ms window ends (R376). -/
  | thermWindow (t : Nat)
  /-- A trip comparator reaches 140 °C (R383). -/
  | thermalTrip (t : Nat)
  /-- Every trip comparator is below 125 °C (R383). -/
  | tripRelease (t : Nat)
  /-- A write of THERM_SENS_FAIL (R373). -/
  | sensorReadmit (t : Nat) (x : RegReq)
  /-- A pending octant run may start (R389, R390). -/
  | calRunStart (t : Nat) (g : Fin 8)
  /-- A TDC step completes (R393). -/
  | calTdcStepDone (t : Nat) (g : Fin 8) (res : CdResult)
  /-- The INJ step on a front end completes (R394). -/
  | calInjStepDone (t : Nat) (g : Fin 8) (f : Fin 264)
  /-- The TIMING step of a front end completes (R395). -/
  | calTimingStepDone (t : Nat) (g : Fin 8) (f : Fin 264)
  /-- A measurement of a pickoff trim run completes: the first, or the second of a repeated one (R397, R401). -/
  | pkoRunDone (t : Nat) (second : Bool)
  /-- The entry in progress is written and verify-read (R409, R415). -/
  | journalWriteDone (t : Nat) (ok : Bool)
  /-- Compaction completes (R412). -/
  | compactionFlip (t : Nat)
  /-- FLUSH_S seconds have passed (R422, R424). -/
  | lifeFlush (t : Nat)
  /-- A powered second (R421). -/
  | lifeSecond (t : Nat)
  /-- A write of LIFE_EVENT.GO (R423). -/
  | serviceMark (t : Nat) (x : RegReq)
  /-- 600 s since the start of a trial (R419). -/
  | trialTimeout (t : Nat)
  /-- A write of TALLY_SNAP.SNAP (R430). -/
  | tallySnap (t : Nat) (x : RegReq)
  /-- A write of TALLY_DUMP_CFG.DUMP_NOW (R431). -/
  | dumpNow (t : Nat) (x : RegReq)
  /-- PERIOD_MS elapses (R431). -/
  | dumpPeriod (t : Nat)
  /-- The last record of a dump is admitted or discarded (R433). -/
  | dumpDone (t : Nat)
  /-- A meter window ends (R434). -/
  | bwWindow (t : Nat)
  /-- The sampling interrupt (R435). -/
  | sampleTick (t : Nat)
  /-- A loop period ends with the rate measured, MHz (R21, R22). -/
  | avsLoopPeriod (t : Nat) (measured : Nat)
  /-- The VOUT_COMMAND on the bus completes (R466). -/
  | pmbusCommandDone (t : Nat) (ack : Bool)
  /-- STATUS_WORD has been read (R466). -/
  | pmbusStatusPoll (t : Nat) (status : Nat)
  /-- PMB_ALERT_N goes low; STATUS_WORD is read (R466). -/
  | pmbAlert (t : Nat) (status : Nat)
  /-- PMB_ALERT_N has stayed low for more than 1 ms (R466). -/
  | pmbAlertTimeout (t : Nat)
  /-- A supply is out of its range (R436). -/
  | supplyOutOfRange (t : Nat)
  /-- RESET_N falls; `resets`: the pulse resets the device (R438). -/
  | resetNFall (t : Nat) (resets : Bool)
  /-- The internal reset is released, with the levels of the straps and which slots cannot be read (R436, R439). -/
  | resetRelease (t : Nat) (role : Bool) (id : Fin 8) (bad0 : Bool) (bad1 : Bool)
  /-- The self-tests finish: the failed ones, each with its first failing unit (R442 to R444). -/
  | selftestDone (t : Nat) (fails : List (Nat × Nat))
  /-- A mode transition completes (R446). -/
  | modeTransitionDone (t : Nat)
  /-- The command reset is taken (R334). -/
  | commandReset (t : Nat)
  /-- A core's watchdog expires (R456). -/
  | watchdogBite (t : Nat) (h : Half)
  /-- A core's firmware writes DEV_WDT.KICK (R456). -/
  | wdtKick (t : Nat) (h : Half)
  /-- A way of waking from PARK (R453). -/
  | wake (t : Nat) (how : Wake)
  /-- The regulator has acknowledged and the PLL is in lock (R453). -/
  | wakeComplete (t : Nat)
  /-- A packet's bytes as received (R314 to R319). -/
  | malformedPacket (t : Nat) (src : Source) (bytes : List Nat)
  /-- An answer reaches the coordinator (R348, R349). -/
  | cordMemberAnswer (t : Nat) (member : Nat) (status : Nat) (payload : List Nat) (address : Nat)
  /-- RESET_N rises, with the levels of the straps (R438, R345). -/
  | resetNRise (t : Nat) (role : Bool) (id : Fin 8)
  /-- A packet header with an uncorrectable ECC error (R267). -/
  | csiHdrEccError (t : Nat) (p : Fin 2)
  deriving DecidableEq, Repr

/-- The coarse count at which a command arrives. -/
def Instr.time (i : Instr) : Nat :=
  match i with
  | .regRead t _ => t
  | .regWrite t _ => t
  | .regModify t _ => t
  | .unitRead t _ => t
  | .unitWrite t _ => t
  | .tableRead t _ => t
  | .tableWrite t _ => t
  | .tableSwap t _ => t
  | .modeSet t _ => t
  | .modeGet t _ => t
  | .reset t _ => t
  | .commit t _ => t
  | .calRun t _ => t
  | .calStatus t _ => t
  | .calStarter t _ => t
  | .nvsImageWrite t _ => t
  | .nvsImageActivate t _ => t
  | .nvsLifeRead t _ => t
  | .nvsCompact t _ => t
  | .tallySnapshot t _ => t
  | .tallyRead t _ => t
  | .tallyDump t _ => t
  | .cordStatus t _ => t
  | .cordReset t _ => t
  | .recipeStore t _ => t
  | .recipeRead t _ => t
  | .recipeEnable t _ => t
  | .recipeDelete t _ => t
  | .recipeRun t _ => t
  | .selftestReport t _ => t
  | .faultLogRead t _ => t
  | .faultLogClear t _ => t
  | .ident t _ => t
  | .timeGet t _ => t
  | .timeOfDay t _ => t
  | .acquire t => t
  | .acquireTimeout t => t
  | .release t => t
  | .wait t => t
  | .waitExpire t => t
  | .recipeStart t => t
  | .recipeStep t => t
  | .hspiRead t _ => t
  | .uartFrameError t => t
  | .uartGapTimeout t => t
  | .refLost t => t
  | .refFreqWindow t _ => t
  | .refWarmChange t _ => t
  | .pllLock t => t
  | .refReturn t => t
  | .xtalFault t => t
  | .xtalReturn t => t
  | .timeStepGo t _ => t
  | .timeStepApply t => t
  | .timeNowLatch t _ => t
  | .syncSrcChange t _ => t
  | .ptpSync t _ _ => t
  | .ptpFollowUp t _ _ => t
  | .ptpDelayResp t _ _ => t
  | .ptpPdelayReq t _ _ => t
  | .ptpPdelayResp t _ _ => t
  | .ptpAnnounce t _ _ => t
  | .announceTimeout t => t
  | .syncHoldExpire t => t
  | .ppsEdge t _ _ => t
  | .ppsMissing t => t
  | .xtalBinMeasure t _ => t
  | .xtalBinJournal t => t
  | .refTuneStep t => t
  | .tdcEdge t _ _ _ _ _ => t
  | .tdcModeWrite t _ => t
  | .dllLock t _ => t
  | .statStart t _ _ => t
  | .statAbort t _ _ => t
  | .statTimeout t _ => t
  | .tdcLastLatch t _ _ => t
  | .windowClose t _ => t
  | .injWindowClose t _ => t
  | .rxFeCfgWrite t _ _ => t
  | .rxThresholdWrite t _ _ _ => t
  | .gainStall t _ => t
  | .dcUpdate t _ _ => t
  | .backgroundEvent t _ => t
  | .adaptPeriod t _ => t
  | .biasRampStep t _ => t
  | .xbarSubst t _ _ => t
  | .xbarSwitchTimeout t _ => t
  | .injGo t _ _ => t
  | .injStop t _ _ => t
  | .injPulse t _ => t
  | .laserPermitLow t => t
  | .laserPermitHigh t => t
  | .permitHoldExpire t => t
  | .frameBoundary t => t
  | .restoreHoldExpire t => t
  | .slotExecute t _ _ => t
  | .csEvaluate t _ _ _ => t
  | .eyeWindowEnd t => t
  | .diagIntervalEnd t => t
  | .kerfStart t => t
  | .kerfEnd t => t
  | .proofShot t _ => t
  | .schedSwap t _ => t
  | .emitterClear t _ _ => t
  | .sweep t _ => t
  | .peakListDone t _ => t
  | .extTrigEdge t _ => t
  | .trigTimeout t => t
  | .spyLatch t _ => t
  | .staveShotUnit t _ => t
  | .pickoffOutput t _ => t
  | .demodPeriodBoundary t _ => t
  | .clipResetRequest t => t
  | .caResetTimer t => t
  | .resetNow t _ => t
  | .angleRun t _ => t
  | .excWrite t _ => t
  | .elecFault t _ => t
  | .elecRecover t _ => t
  | .servoPeriodStart t _ => t
  | .outputInstant t _ _ => t
  | .servoParkCmd t _ _ => t
  | .unpark t _ _ => t
  | .servoSwap t _ _ => t
  | .servoEnWrite t _ _ => t
  | .parkSlewStep t => t
  | .acqTimeout t _ => t
  | .rasterStart t => t
  | .encEdge t _ _ => t
  | .encIndex t => t
  | .pwmUpdate t => t
  | .vbusStale t => t
  | .gateFault t _ => t
  | .alignDone t => t
  | .poseLoad t _ => t
  | .poseMatrixDone t => t
  | .envApply t _ => t
  | .kappaWrite t _ => t
  | .sectorClose t => t
  | .envelopeReport t => t
  | .csiFrameStart t _ _ _ => t
  | .csiLine t _ _ _ _ _ _ => t
  | .csiFrameEnd t _ _ => t
  | .csiShortPacketIgnored t _ => t
  | .sotError t _ => t
  | .feTimeout t _ => t
  | .pipelineTurn t => t
  | .camPortEnable t _ _ => t
  | .cciGo t _ _ => t
  | .cciWriteDone t _ _ => t
  | .linkChange t _ _ _ _ _ => t
  | .eqLock t _ => t
  | .pauseFrameRx t _ _ => t
  | .arpRequest t _ _ _ _ => t
  | .neighborSolicitation t _ _ _ _ => t
  | .icmpEchoRequest t _ _ _ _ _ _ => t
  | .rxDiscard t _ _ => t
  | .flushTimeout t _ => t
  | .echoFrameRelease t _ _ => t
  | .grant t _ => t
  | .frameTxEnd t _ => t
  | .egressWdtBite t _ => t
  | .starve t _ _ => t
  | .portFreeze t _ _ => t
  | .regionWrite t _ _ => t
  | .relayDatagram t _ _ => t
  | .cordRelayTimeout t _ => t
  | .rollCall t => t
  | .rollCallRx t _ => t
  | .rollCallReturn t _ _ => t
  | .cordRequest t _ _ => t
  | .cordTimeout t => t
  | .cordCheck t _ _ => t
  | .cordApply t => t
  | .cordAbort t => t
  | .cordApplyTimeout t => t
  | .syncMarkerSend t => t
  | .syncMarker t _ => t
  | .syncMiss t => t
  | .cordResetMarker t => t
  | .epochAnnounce t _ _ => t
  | .cordHeartbeatSend t => t
  | .cordHeartbeat t _ _ _ => t
  | .cordHeartbeatTimeout t => t
  | .halfHeartbeatSend t _ => t
  | .halfHeartbeat t _ _ => t
  | .halfHeartbeatTimeout t _ => t
  | .hkRoundStart t => t
  | .hkSettleDone t => t
  | .hkConversionDone t _ => t
  | .hkInjectGo t _ => t
  | .thermWindow t => t
  | .thermalTrip t => t
  | .tripRelease t => t
  | .sensorReadmit t _ => t
  | .calRunStart t _ => t
  | .calTdcStepDone t _ _ => t
  | .calInjStepDone t _ _ => t
  | .calTimingStepDone t _ _ => t
  | .pkoRunDone t _ => t
  | .journalWriteDone t _ => t
  | .compactionFlip t => t
  | .lifeFlush t => t
  | .lifeSecond t => t
  | .serviceMark t _ => t
  | .trialTimeout t => t
  | .tallySnap t _ => t
  | .dumpNow t _ => t
  | .dumpPeriod t => t
  | .dumpDone t => t
  | .bwWindow t => t
  | .sampleTick t => t
  | .avsLoopPeriod t _ => t
  | .pmbusCommandDone t _ => t
  | .pmbusStatusPoll t _ => t
  | .pmbAlert t _ => t
  | .pmbAlertTimeout t => t
  | .supplyOutOfRange t => t
  | .resetNFall t _ => t
  | .resetRelease t _ _ _ _ => t
  | .selftestDone t _ => t
  | .modeTransitionDone t => t
  | .commandReset t => t
  | .watchdogBite t _ => t
  | .wdtKick t _ => t
  | .wake t _ => t
  | .wakeComplete t => t
  | .malformedPacket t _ _ => t
  | .cordMemberAnswer t _ _ _ _ => t
  | .resetNRise t _ _ => t
  | .csiHdrEccError t _ => t

end Sys2Proof
end

