-- ==== Sys2Proof/Decode.lean ====
section
/-! DEFINITION. The command that a word spells by the bits of spec/opcode_table.json. No row of the table has bits:
a command reaches the block as a packet, a pin's edge or an event of a clock, never as an instruction word. -/

namespace Sys2Proof

/-- The rows that give bits are none. -/
def decodeTableWord (_nbits _w : Nat) : Option Instr := none

end Sys2Proof
end

