-- ==== Sys2Proof/Config.lean ====
section
/-! DEFINITION. What the factory or the implementation fixes, and the values that the manual leaves open. Every
constant here has no body: nothing can be proved of its value beyond what the definition that uses it bounds. -/

namespace Sys2Proof

/-- A value the manual leaves open, fresh at each use: applied to the state's counter `free`. DESIGN CHOICE: log entry
4. -/
opaque Config.freeNat : Nat → Nat

/-- The factory base MAC address, 48 bits (R288; NET_MAC_HI, NET_MAC_LO: reset "factory"). DESIGN CHOICE: log entry
3. -/
opaque Config.baseMac : Nat

/-- The silicon step of DEV_ID.STEP (Table 19-8: reset "factory"). DESIGN CHOICE: log entry 3. -/
opaque Config.siliconStep : Nat

/-- The CORDIC's departure from the exactly rounded point (R249): of a component 0 to 2, from the range code, the two
beam angles and the pose. The definition that uses it holds it within 1 LSB. DESIGN CHOICE: log entry 57. -/
opaque Config.pointDelta : Nat → Nat → Int → Int → List Int → Int

/-- The replica completion rate that a configuration needs (R20): the manual gives no formula. Applied to the schedule
in force, the emitters shed, and the rates of the other engines. DESIGN CHOICE: log entry 13. -/
opaque Config.requiredRate : List Nat → Nat

/-- A die sensor's factory trim (R372): the temperature of a code on a sensor, 1/16 °C. DESIGN CHOICE: log entry
101. -/
opaque Config.dieTrim : Nat → Nat → Int

/-- The demosaic's gradient across a site along a direction, 0 horizontal and 1 vertical (R276): the manual gives no
formula for it. Applied to the direction, the colour, BAYER, the site's row and column in the Bayer pattern, and the
25 values around the site in row-major order. DESIGN CHOICE: log entry 63. -/
opaque Config.gradient : Nat → Nat → Nat → Nat → Nat → List Nat → Nat

/-- The value of a missing colour that the demosaic takes along a direction (R276), applied to the same: the manual
gives no formula for it. The definition that uses it holds it within 12 bits. DESIGN CHOICE: log entry 63. -/
opaque Config.along : Nat → Nat → Nat → Nat → Nat → List Nat → Nat

/-- The settings that a lane's equaliser settles at (R286), continuous-time first, in steps from mid-range: of a tap,
at a use of the free values. DEDUCED: log entry 74. -/
opaque Config.eqTap : Nat → Nat → Int

/-- The serial number in the factory area (Table 17-1). DESIGN CHOICE: log entry 3. -/
opaque Config.serial : Nat

/-- The starter set (R402), by item, unit and index. Items: 0 bin width, 1 TRIM, 2 skew, 3 OFFSET_S, 4 E_S, 5 TC, 6
CAL_TEMP, 7 SLOPE, 8 W0, 9 walk breakpoint W, 10 WALK, 11 REF_PS, 12 ANGLE_TRIM.GAIN, 13 ANGLE_TRIM.OFFSET, 14
polynomial coefficient. DESIGN CHOICE: log entry 107. -/
opaque Config.starter : Nat → Nat → Nat → Int

/-- Raising TRIM raises the number of occupied bins (R70): the manual gives no direction. DESIGN CHOICE: log entry
26. -/
opaque Config.trimUp : Bool

/-- The width of a threshold whose falling time lies before its rising time, from the two times (R83): the manual
states none. DESIGN CHOICE: log entry 29. -/
opaque Config.crossedWidth : Nat → Nat → Nat

/-- BG_RATE of a front end, at a coarse count, whose last 16 periods hold no gap time (R99): the manual states no
result. DESIGN CHOICE: log entry 34. -/
opaque Config.gaplessRate : Nat → Nat → BitVec 23

/-- LOOP_PS of an octant (R394). DESIGN CHOICE: log entry 107. -/
opaque Config.loopPs : Nat → Int

/-- What another member's configuration gives to this member's checks (R312, R313, R357): the manual gives no message
that brings it. Applied to the fact, the member and the counter `free`. Facts: 0 the relayed need of the member in
bytes/s, 1 the same without O, 2 the largest MTU of its relayed regions, 3 the MTU of the master's lane that carries
the member's relayed datagrams. DESIGN CHOICE: log entry 69. -/
opaque Config.memberFact : Nat → Nat → Nat → Nat

/-- The rate adjustment that the sync servo chooses for an offset in 2⁻¹⁶ ns and the adjustment in force (R52): the
manual gives no law. The definition that uses it holds it within 500 ppm. DESIGN CHOICE: log entry 19. -/
opaque Config.slew : Int → Int → Int

/-- The DISCIPLINE integrator after a step, from TIME_RATE_ADJ and its value before (R57): the manual gives no law.
DESIGN CHOICE: log entry 22. -/
opaque Config.tuneIntegrator : Int → Int → Int

/-- The version that a firmware image carries, which IDENT returns: of the slot in use and the CRC of its selection.
DESIGN CHOICE: log entry 113. -/
opaque Config.imageVersion : Nat → Nat → Nat

end Sys2Proof
end

