-- ==== Sys2Proof/Machine/Bits.lean ====
section
/-! DEFINITION. Bit fields, signed readings, rounding and the two check codes: the plain arithmetic that the
chapters share. A field `[hi:lo]` of a word is read and written as a natural number. -/

namespace Sys2Proof.Machine

/-- Bits [hi:lo] of `w`. -/
def bitsOf (w hi lo : Nat) : Nat := w / 2 ^ lo % 2 ^ (hi + 1 - lo)

/-- `w` with bits [hi:lo] replaced by the low bits of `v`. -/
def setBits (w hi lo v : Nat) : Nat :=
  w / 2 ^ (hi + 1) * 2 ^ (hi + 1) + v % 2 ^ (hi + 1 - lo) * 2 ^ lo + w % 2 ^ lo

/-- Bit `i` of `w`. -/
def bitOf (w i : Nat) : Bool := w.testBit i

/-- `w` with bit `i` set. -/
def setBit (w i : Nat) : Nat := w ||| 2 ^ i

/-- `w` with bit `i` clear. -/
def clearBit (w i : Nat) : Nat := if w.testBit i then w - 2 ^ i else w

/-- A truth value as a field of one bit. -/
def b2n (b : Bool) : Nat := if b then 1 else 0

/-- The two's-complement reading of a `w`-bit field. -/
def toS (w x : Nat) : Int := if x % 2 ^ w < 2 ^ (w - 1) then (x % 2 ^ w : Nat) else (x % 2 ^ w : Nat) - (2 ^ w : Nat)

/-- The `w`-bit two's-complement field of an integer. -/
def ofS (w : Nat) (i : Int) : Nat := (i % (2 ^ w : Nat)).toNat

/-- `x` held between `lo` and `hi`. -/
def clampI (lo hi x : Int) : Int := if x < lo then lo else if hi < x then hi else x

/-- `x` held between `lo` and `hi`. -/
def clampN (lo hi x : Nat) : Nat := if x < lo then lo else if hi < x then hi else x

/-- The integer nearest to num ÷ den, ties to even. -/
def roundEven (num : Int) (den : Nat) : Int :=
  let q := num / den
  let r := num % den
  if 2 * r < den then q
  else if 2 * r > den then q + 1
  else if q % 2 = 0 then q else q + 1

/-- num ÷ den rounded up. -/
def ceilDiv (num den : Nat) : Nat := (num + den - 1) / den

/-- The number of bits set among the low `n` bits of `w`. -/
def popcount (w : Nat) : Nat → Nat
  | 0 => 0
  | n + 1 => popcount w n + b2n (w.testBit n)

/-- The positions of the bits set among the low `n` bits of `w`, ascending. -/
def bitList (w n : Nat) : List Nat := (List.range n).filter (fun i => w.testBit i)

/-- The square root of `n` rounded down, by binary digits. -/
def isqrtAux (n : Nat) : Nat → Nat → Nat
  | 0, r => r
  | k + 1, r => if (r + 2 ^ k) * (r + 2 ^ k) ≤ n then isqrtAux n k (r + 2 ^ k) else isqrtAux n k r

/-- The square root of `n < 2^128` rounded down. -/
def isqrt (n : Nat) : Nat := isqrtAux n 64 0

/-- One bit of CRC-32C, reflected (R316). -/
def crcBits (c : Nat) : Nat → Nat
  | 0 => c
  | k + 1 => crcBits (if c % 2 = 1 then (c / 2) ^^^ 0x82F63B78 else c / 2) k

/-- CRC-32C over bytes, before the final XOR (R316). -/
def crcRun (c : Nat) : List Nat → Nat
  | [] => c
  | b :: bs => crcRun (crcBits (c ^^^ (b % 256)) 8) bs

/-- CRC-32C of a list of bytes (R316). -/
def crc32c (bs : List Nat) : Nat := crcRun 0xFFFFFFFF bs ^^^ 0xFFFFFFFF

/-- The four bytes of a word, big-endian (00_scope.md). -/
def wordBytes (w : Nat) : List Nat := [w / 2 ^ 24 % 256, w / 2 ^ 16 % 256, w / 2 ^ 8 % 256, w % 256]

/-- The bytes of a list of words, big-endian. -/
def wordsBytes (ws : List Nat) : List Nat := ws.flatMap wordBytes

/-- A big-endian number from bytes. -/
def beNat (bs : List Nat) : Nat := bs.foldl (fun a b => a * 256 + b % 256) 0

/-- The words of a byte list, four bytes at a time; a rest of fewer than four bytes is dropped. -/
def bytesWords : List Nat → List Nat
  | a :: b :: c :: d :: r => beNat [a, b, c, d] :: bytesWords r
  | _ => []

/-- Insertion into a list kept in ascending order of a key, after the entries with an equal key. -/
def insertBy {α : Type} (k : α → Nat) (x : α) : List α → List α
  | [] => [x]
  | y :: ys => if k x < k y then x :: y :: ys else y :: insertBy k x ys

/-- A list in ascending order of a key, stable. -/
def sortBy {α : Type} (k : α → Nat) (l : List α) : List α := l.foldl (fun a x => insertBy k x a) []

/-- The list with the entry at `i` changed by `f`. -/
def updAt {α : Type} : List α → Nat → (α → α) → List α
  | [], _, _ => []
  | x :: xs, 0, f => f x :: xs
  | x :: xs, n + 1, f => x :: updAt xs n f

/-- `n` register addresses from `a`. -/
def addrRun (a step n : Nat) : List Nat := (List.range n).map (fun i => a + step * i)

end Sys2Proof.Machine
end

