-- ==== Sys2Proof/Machine/Fields.lean ====
section
/-! DEFINITION. A name for every field of the register tables (chapters 01 to 19): its byte address and its
bits. A field of a set takes the unit's number, and an array's field its index. -/

namespace Sys2Proof.Machine

/-- A field of one register: the byte address and the bits [hi:lo]. -/
structure Fld where
  addr : Nat
  hi   : Nat
  lo   : Nat
  deriving DecidableEq, Repr

/-- DEV_ID: the register's address. -/
def A.DEV_ID : Nat := 0x000000
def F.DEV_ID_PART : Fld := ⟨A.DEV_ID, 31, 16⟩
def F.DEV_ID_STEP : Fld := ⟨A.DEV_ID, 15, 8⟩
/-- DEV_MODE: the register's address. -/
def A.DEV_MODE : Nat := 0x000004
def F.DEV_MODE_TRANS : Fld := ⟨A.DEV_MODE, 16, 16⟩
def F.DEV_MODE_TARGET : Fld := ⟨A.DEV_MODE, 15, 8⟩
def F.DEV_MODE_MODE : Fld := ⟨A.DEV_MODE, 7, 0⟩
/-- DEV_STATUS: the register's address. -/
def A.DEV_STATUS : Nat := 0x000008
def F.DEV_STATUS_COMMITTED : Fld := ⟨A.DEV_STATUS, 31, 31⟩
def F.DEV_STATUS_ST_FAIL : Fld := ⟨A.DEV_STATUS, 30, 30⟩
def F.DEV_STATUS_SAFE_CAUSE : Fld := ⟨A.DEV_STATUS, 20, 16⟩
/-- DEV_BOOT: the register's address. -/
def A.DEV_BOOT : Nat := 0x00000C
def F.DEV_BOOT_AUTO_MODE : Fld := ⟨A.DEV_BOOT, 1, 0⟩
/-- DEV_RESET_CAUSE: the register's address. -/
def A.DEV_RESET_CAUSE : Nat := 0x000010
def F.DEV_RESET_CAUSE_TRIP : Fld := ⟨A.DEV_RESET_CAUSE, 4, 4⟩
def F.DEV_RESET_CAUSE_KIND : Fld := ⟨A.DEV_RESET_CAUSE, 2, 0⟩
/-- DEV_WDT: the register's address. -/
def A.DEV_WDT : Nat := 0x000014
def F.DEV_WDT_TIMEOUT_MS : Fld := ⟨A.DEV_WDT, 31, 16⟩
def F.DEV_WDT_KICK : Fld := ⟨A.DEV_WDT, 7, 0⟩
/-- DEV_ST_RESULT: the register's address. -/
def A.DEV_ST_RESULT : Nat := 0x000018
def F.DEV_ST_RESULT_FAIL : Fld := ⟨A.DEV_ST_RESULT, 31, 16⟩
def F.DEV_ST_RESULT_RUN : Fld := ⟨A.DEV_ST_RESULT, 15, 0⟩
/-- DEV_ST_DETAIL: the register's address. -/
def A.DEV_ST_DETAIL : Nat := 0x00001C
def F.DEV_ST_DETAIL_FIRST_TEST : Fld := ⟨A.DEV_ST_DETAIL, 31, 24⟩
def F.DEV_ST_DETAIL_UNIT : Fld := ⟨A.DEV_ST_DETAIL, 8, 0⟩
/-- DEV_INT_STATUS: the register's address. -/
def A.DEV_INT_STATUS : Nat := 0x000020
def F.DEV_INT_STATUS_INT : Fld := ⟨A.DEV_INT_STATUS, 20, 0⟩
/-- DEV_INT_EN: the register's address. -/
def A.DEV_INT_EN : Nat := 0x000024
def F.DEV_INT_EN_EN : Fld := ⟨A.DEV_INT_EN, 20, 0⟩
/-- TIME_REF_CTRL: the register's address. -/
def A.TIME_REF_CTRL : Nat := 0x010000
def F.TIME_REF_CTRL_RETURN_HOLD : Fld := ⟨A.TIME_REF_CTRL, 23, 16⟩
def F.TIME_REF_CTRL_REF_SEL : Fld := ⟨A.TIME_REF_CTRL, 1, 0⟩
/-- TIME_STATUS: the register's address. -/
def A.TIME_STATUS : Nat := 0x010004
def F.TIME_STATUS_REF_FREQ_DET : Fld := ⟨A.TIME_STATUS, 21, 20⟩
def F.TIME_STATUS_STEPPED : Fld := ⟨A.TIME_STATUS, 19, 19⟩
def F.TIME_STATUS_XTAL_FAULT : Fld := ⟨A.TIME_STATUS, 18, 18⟩
def F.TIME_STATUS_REF_FREQ_FAULT : Fld := ⟨A.TIME_STATUS, 17, 17⟩
def F.TIME_STATUS_REF_LOST : Fld := ⟨A.TIME_STATUS, 16, 16⟩
def F.TIME_STATUS_REF_PRESENT : Fld := ⟨A.TIME_STATUS, 13, 13⟩
def F.TIME_STATUS_REF_WARM : Fld := ⟨A.TIME_STATUS, 12, 12⟩
def F.TIME_STATUS_SYNC_STATE : Fld := ⟨A.TIME_STATUS, 9, 8⟩
def F.TIME_STATUS_FREQ_STATE : Fld := ⟨A.TIME_STATUS, 6, 4⟩
def F.TIME_STATUS_QUALITY : Fld := ⟨A.TIME_STATUS, 2, 0⟩
/-- TIME_SYNC_CTRL: the register's address. -/
def A.TIME_SYNC_CTRL : Nat := 0x010010
def F.TIME_SYNC_CTRL_PTP_TRANSPORT : Fld := ⟨A.TIME_SYNC_CTRL, 21, 20⟩
def F.TIME_SYNC_CTRL_PTP_LANE : Fld := ⟨A.TIME_SYNC_CTRL, 18, 16⟩
def F.TIME_SYNC_CTRL_PTP_DOMAIN : Fld := ⟨A.TIME_SYNC_CTRL, 14, 8⟩
def F.TIME_SYNC_CTRL_PTP_PROFILE : Fld := ⟨A.TIME_SYNC_CTRL, 2, 2⟩
def F.TIME_SYNC_CTRL_SYNC_SRC : Fld := ⟨A.TIME_SYNC_CTRL, 1, 0⟩
/-- TIME_LOCK: the register's address. -/
def A.TIME_LOCK : Nat := 0x010014
def F.TIME_LOCK_STEP_THRESH_US : Fld := ⟨A.TIME_LOCK, 31, 16⟩
def F.TIME_LOCK_LOCK_NS : Fld := ⟨A.TIME_LOCK, 15, 0⟩
/-- TIME_HOLD: the register's address. -/
def A.TIME_HOLD : Nat := 0x010018
def F.TIME_HOLD_SYNC_HOLD_S : Fld := ⟨A.TIME_HOLD, 15, 0⟩
/-- TIME_NOW_SEC_HI: the register's address. -/
def A.TIME_NOW_SEC_HI : Nat := 0x010020
def F.TIME_NOW_SEC_HI_SEC_HI : Fld := ⟨A.TIME_NOW_SEC_HI, 15, 0⟩
/-- TIME_NOW_SEC_LO: the register's address. -/
def A.TIME_NOW_SEC_LO : Nat := 0x010024
def F.TIME_NOW_SEC_LO_SEC_LO : Fld := ⟨A.TIME_NOW_SEC_LO, 31, 0⟩
/-- TIME_NOW_NS: the register's address. -/
def A.TIME_NOW_NS : Nat := 0x010028
def F.TIME_NOW_NS_NS : Fld := ⟨A.TIME_NOW_NS, 31, 0⟩
/-- TIME_NOW_FRAC: the register's address. -/
def A.TIME_NOW_FRAC : Nat := 0x01002C
def F.TIME_NOW_FRAC_FRAC : Fld := ⟨A.TIME_NOW_FRAC, 15, 0⟩
/-- TIME_RATE_ADJ: the register's address. -/
def A.TIME_RATE_ADJ : Nat := 0x010030
def F.TIME_RATE_ADJ_ADJ : Fld := ⟨A.TIME_RATE_ADJ, 31, 0⟩
/-- TIME_STEP_SEC: the register's address. -/
def A.TIME_STEP_SEC : Nat := 0x010034
def F.TIME_STEP_SEC_STEP_SEC : Fld := ⟨A.TIME_STEP_SEC, 31, 0⟩
/-- TIME_STEP_NS: the register's address. -/
def A.TIME_STEP_NS : Nat := 0x010038
def F.TIME_STEP_NS_STEP_NS : Fld := ⟨A.TIME_STEP_NS, 31, 0⟩
/-- TIME_STEP_CTRL: the register's address. -/
def A.TIME_STEP_CTRL : Nat := 0x01003C
def F.TIME_STEP_CTRL_PENDING : Fld := ⟨A.TIME_STEP_CTRL, 1, 1⟩
def F.TIME_STEP_CTRL_GO : Fld := ⟨A.TIME_STEP_CTRL, 0, 0⟩
/-- TIME_TUNE: the register's address. -/
def A.TIME_TUNE : Nat := 0x010040
def F.TIME_TUNE_MODE : Fld := ⟨A.TIME_TUNE, 17, 16⟩
def F.TIME_TUNE_CODE : Fld := ⟨A.TIME_TUNE, 15, 0⟩
/-- TIME_TUNE_POLY: the register's address. -/
def A.TIME_TUNE_POLY : Nat := 0x010044
def F.TIME_TUNE_POLY_C2 : Fld := ⟨A.TIME_TUNE_POLY, 31, 16⟩
def F.TIME_TUNE_POLY_C1 : Fld := ⟨A.TIME_TUNE_POLY, 15, 0⟩
/-- TIME_XTAL_COMP: the register's address. -/
def A.TIME_XTAL_COMP : Nat := 0x010048
def F.TIME_XTAL_COMP_LEARNED_NOW : Fld := ⟨A.TIME_XTAL_COMP, 31, 31⟩
def F.TIME_XTAL_COMP_LEARNED_MAP : Fld := ⟨A.TIME_XTAL_COMP, 30, 16⟩
def F.TIME_XTAL_COMP_CORR_PPB : Fld := ⟨A.TIME_XTAL_COMP, 15, 0⟩
/-- TIME_XTAL_BIN15: the register's address. -/
def A.TIME_XTAL_BIN15 : Nat := 0x01004C
def F.TIME_XTAL_BIN15_LEARNED : Fld := ⟨A.TIME_XTAL_BIN15, 15, 15⟩
/-- TIME_PPS_CTRL: the register's address. -/
def A.TIME_PPS_CTRL : Nat := 0x010050
def F.TIME_PPS_CTRL_CABLE_NS : Fld := ⟨A.TIME_PPS_CTRL, 31, 24⟩
def F.TIME_PPS_CTRL_EDGE : Fld := ⟨A.TIME_PPS_CTRL, 16, 16⟩
def F.TIME_PPS_CTRL_WIN_US : Fld := ⟨A.TIME_PPS_CTRL, 15, 0⟩
/-- TIME_LANE_LAT_n: the register's address. -/
def A.TIME_LANE_LAT (n : Nat) : Nat := 0x010080 + 4 * n
def F.TIME_LANE_LAT_TX_PS (n : Nat) : Fld := ⟨A.TIME_LANE_LAT n, 31, 16⟩
def F.TIME_LANE_LAT_RX_PS (n : Nat) : Fld := ⟨A.TIME_LANE_LAT n, 15, 0⟩
/-- TDC_CTRL: the register's address. -/
def A.TDC_CTRL : Nat := 0x020000
def F.TDC_CTRL_CD_LOG2 : Fld := ⟨A.TDC_CTRL, 12, 8⟩
def F.TDC_CTRL_MODE : Fld := ⟨A.TDC_CTRL, 0, 0⟩
/-- TDC_STATUS: the register's address. -/
def A.TDC_STATUS : Nat := 0x020004
def F.TDC_STATUS_UNLOCKED_OCT : Fld := ⟨A.TDC_STATUS, 15, 8⟩
def F.TDC_STATUS_DLL_ALL_LOCKED : Fld := ⟨A.TDC_STATUS, 0, 0⟩
/-- TDC_STAT_CTRL: the register's address. -/
def A.TDC_STAT_CTRL (u : Nat) : Nat := 0x020100 + 128 * u
def F.TDC_STAT_CTRL_START (u : Nat) : Fld := ⟨A.TDC_STAT_CTRL u, 31, 31⟩
def F.TDC_STAT_CTRL_ABORT (u : Nat) : Fld := ⟨A.TDC_STAT_CTRL u, 30, 30⟩
def F.TDC_STAT_CTRL_QTY (u : Nat) : Fld := ⟨A.TDC_STAT_CTRL u, 25, 25⟩
def F.TDC_STAT_CTRL_SOURCE (u : Nat) : Fld := ⟨A.TDC_STAT_CTRL u, 24, 24⟩
def F.TDC_STAT_CTRL_EDGE (u : Nat) : Fld := ⟨A.TDC_STAT_CTRL u, 23, 21⟩
def F.TDC_STAT_CTRL_FE (u : Nat) : Fld := ⟨A.TDC_STAT_CTRL u, 8, 0⟩
/-- TDC_STAT_N: the register's address. -/
def A.TDC_STAT_N (u : Nat) : Nat := 0x020104 + 128 * u
def F.TDC_STAT_N_N (u : Nat) : Fld := ⟨A.TDC_STAT_N u, 16, 0⟩
/-- TDC_STAT_GATE: the register's address. -/
def A.TDC_STAT_GATE (u : Nat) : Nat := 0x020108 + 128 * u
def F.TDC_STAT_GATE_GATE_HI (u : Nat) : Fld := ⟨A.TDC_STAT_GATE u, 31, 16⟩
def F.TDC_STAT_GATE_GATE_LO (u : Nat) : Fld := ⟨A.TDC_STAT_GATE u, 15, 0⟩
/-- TDC_STAT_TIMEOUT: the register's address. -/
def A.TDC_STAT_TIMEOUT (u : Nat) : Nat := 0x02010C + 128 * u
def F.TDC_STAT_TIMEOUT_TIMEOUT_MS (u : Nat) : Fld := ⟨A.TDC_STAT_TIMEOUT u, 15, 0⟩
/-- TDC_STAT_STATUS: the register's address. -/
def A.TDC_STAT_STATUS (u : Nat) : Nat := 0x020110 + 128 * u
def F.TDC_STAT_STATUS_BUSY (u : Nat) : Fld := ⟨A.TDC_STAT_STATUS u, 31, 31⟩
def F.TDC_STAT_STATUS_DONE (u : Nat) : Fld := ⟨A.TDC_STAT_STATUS u, 30, 30⟩
def F.TDC_STAT_STATUS_TIMEOUT (u : Nat) : Fld := ⟨A.TDC_STAT_STATUS u, 29, 29⟩
def F.TDC_STAT_STATUS_ABORTED (u : Nat) : Fld := ⟨A.TDC_STAT_STATUS u, 28, 28⟩
def F.TDC_STAT_STATUS_PREEMPTED (u : Nat) : Fld := ⟨A.TDC_STAT_STATUS u, 27, 27⟩
def F.TDC_STAT_STATUS_COUNT (u : Nat) : Fld := ⟨A.TDC_STAT_STATUS u, 16, 0⟩
/-- TDC_STAT_MEAN: the register's address. -/
def A.TDC_STAT_MEAN (u : Nat) : Nat := 0x020114 + 128 * u
def F.TDC_STAT_MEAN_MEAN (u : Nat) : Fld := ⟨A.TDC_STAT_MEAN u, 31, 0⟩
/-- TDC_STAT_SD: the register's address. -/
def A.TDC_STAT_SD (u : Nat) : Nat := 0x020118 + 128 * u
def F.TDC_STAT_SD_SD (u : Nat) : Fld := ⟨A.TDC_STAT_SD u, 31, 0⟩
/-- TDC_STAT_MIN: the register's address. -/
def A.TDC_STAT_MIN (u : Nat) : Nat := 0x02011C + 128 * u
def F.TDC_STAT_MIN_MIN (u : Nat) : Fld := ⟨A.TDC_STAT_MIN u, 22, 0⟩
/-- TDC_STAT_MAX: the register's address. -/
def A.TDC_STAT_MAX (u : Nat) : Nat := 0x020120 + 128 * u
def F.TDC_STAT_MAX_MAX (u : Nat) : Fld := ⟨A.TDC_STAT_MAX u, 22, 0⟩
/-- RX_CTRL: the register's address. -/
def A.RX_CTRL : Nat := 0x030000
def F.RX_CTRL_PEND_LIMIT_MS : Fld := ⟨A.RX_CTRL, 15, 0⟩
/-- RX_STATUS: the register's address. -/
def A.RX_STATUS : Nat := 0x030004
def F.RX_STATUS_GAIN_STALL_OCT : Fld := ⟨A.RX_STATUS, 15, 8⟩
def F.RX_STATUS_DC_OVER_OCT : Fld := ⟨A.RX_STATUS, 7, 0⟩
/-- RX_OCT_XBAR: the register's address. -/
def A.RX_OCT_XBAR (u : Nat) : Nat := 0x030100 + 64 * u
def F.RX_OCT_XBAR_SUBST_EN (u : Nat) : Fld := ⟨A.RX_OCT_XBAR u, 31, 31⟩
def F.RX_OCT_XBAR_CAL_HOLD (u : Nat) : Fld := ⟨A.RX_OCT_XBAR u, 30, 30⟩
def F.RX_OCT_XBAR_SWITCH_PEND (u : Nat) : Fld := ⟨A.RX_OCT_XBAR u, 29, 29⟩
def F.RX_OCT_XBAR_ROUTED (u : Nat) : Fld := ⟨A.RX_OCT_XBAR u, 28, 28⟩
def F.RX_OCT_XBAR_ROUTED_CH (u : Nat) : Fld := ⟨A.RX_OCT_XBAR u, 12, 8⟩
def F.RX_OCT_XBAR_SUBST_CH (u : Nat) : Fld := ⟨A.RX_OCT_XBAR u, 4, 0⟩
/-- RX_OCT_BIAS: the register's address. -/
def A.RX_OCT_BIAS (u : Nat) : Nat := 0x030104 + 64 * u
def F.RX_OCT_BIAS_OFF_CODE (u : Nat) : Fld := ⟨A.RX_OCT_BIAS u, 31, 20⟩
def F.RX_OCT_BIAS_TEMP_SRC (u : Nat) : Fld := ⟨A.RX_OCT_BIAS u, 18, 16⟩
def F.RX_OCT_BIAS_BASE (u : Nat) : Fld := ⟨A.RX_OCT_BIAS u, 11, 0⟩
/-- RX_OCT_BIAS_LIM: the register's address. -/
def A.RX_OCT_BIAS_LIM (u : Nat) : Nat := 0x030108 + 64 * u
def F.RX_OCT_BIAS_LIM_MAX (u : Nat) : Fld := ⟨A.RX_OCT_BIAS_LIM u, 27, 16⟩
def F.RX_OCT_BIAS_LIM_MIN (u : Nat) : Fld := ⟨A.RX_OCT_BIAS_LIM u, 11, 0⟩
/-- RX_OCT_BIAS_POLY: the register's address. -/
def A.RX_OCT_BIAS_POLY (u : Nat) : Nat := 0x03010C + 64 * u
def F.RX_OCT_BIAS_POLY_C2 (u : Nat) : Fld := ⟨A.RX_OCT_BIAS_POLY u, 31, 16⟩
def F.RX_OCT_BIAS_POLY_C1 (u : Nat) : Fld := ⟨A.RX_OCT_BIAS_POLY u, 15, 0⟩
/-- RX_OCT_BIAS_STATUS: the register's address. -/
def A.RX_OCT_BIAS_STATUS (u : Nat) : Nat := 0x030110 + 64 * u
def F.RX_OCT_BIAS_STATUS_RAMP (u : Nat) : Fld := ⟨A.RX_OCT_BIAS_STATUS u, 17, 17⟩
def F.RX_OCT_BIAS_STATUS_CLAMPED (u : Nat) : Fld := ⟨A.RX_OCT_BIAS_STATUS u, 16, 16⟩
def F.RX_OCT_BIAS_STATUS_CODE (u : Nat) : Fld := ⟨A.RX_OCT_BIAS_STATUS u, 11, 0⟩
/-- RX_OCT_INJ_CTRL: the register's address. -/
def A.RX_OCT_INJ_CTRL (u : Nat) : Nat := 0x030114 + 64 * u
def F.RX_OCT_INJ_CTRL_GO (u : Nat) : Fld := ⟨A.RX_OCT_INJ_CTRL u, 31, 31⟩
def F.RX_OCT_INJ_CTRL_STOP (u : Nat) : Fld := ⟨A.RX_OCT_INJ_CTRL u, 30, 30⟩
def F.RX_OCT_INJ_CTRL_RUN (u : Nat) : Fld := ⟨A.RX_OCT_INJ_CTRL u, 29, 29⟩
def F.RX_OCT_INJ_CTRL_OWNED (u : Nat) : Fld := ⟨A.RX_OCT_INJ_CTRL u, 28, 28⟩
def F.RX_OCT_INJ_CTRL_CONT (u : Nat) : Fld := ⟨A.RX_OCT_INJ_CTRL u, 22, 22⟩
def F.RX_OCT_INJ_CTRL_TARGET (u : Nat) : Fld := ⟨A.RX_OCT_INJ_CTRL u, 21, 16⟩
def F.RX_OCT_INJ_CTRL_AMPL (u : Nat) : Fld := ⟨A.RX_OCT_INJ_CTRL u, 15, 8⟩
def F.RX_OCT_INJ_CTRL_WIDTH (u : Nat) : Fld := ⟨A.RX_OCT_INJ_CTRL u, 3, 0⟩
/-- RX_OCT_INJ_TIME: the register's address. -/
def A.RX_OCT_INJ_TIME (u : Nat) : Nat := 0x030118 + 64 * u
def F.RX_OCT_INJ_TIME_DELAY_NS (u : Nat) : Fld := ⟨A.RX_OCT_INJ_TIME u, 26, 16⟩
def F.RX_OCT_INJ_TIME_DELAY_FINE (u : Nat) : Fld := ⟨A.RX_OCT_INJ_TIME u, 4, 0⟩
/-- RX_OCT_INJ_RATE: the register's address. -/
def A.RX_OCT_INJ_RATE (u : Nat) : Nat := 0x03011C + 64 * u
def F.RX_OCT_INJ_RATE_COUNT (u : Nat) : Fld := ⟨A.RX_OCT_INJ_RATE u, 31, 16⟩
def F.RX_OCT_INJ_RATE_PERIOD (u : Nat) : Fld := ⟨A.RX_OCT_INJ_RATE u, 15, 0⟩
/-- RX_OCT_INJ_STATUS: the register's address. -/
def A.RX_OCT_INJ_STATUS (u : Nat) : Nat := 0x030120 + 64 * u
def F.RX_OCT_INJ_STATUS_SKIPPED (u : Nat) : Fld := ⟨A.RX_OCT_INJ_STATUS u, 31, 16⟩
def F.RX_OCT_INJ_STATUS_REF_PS (u : Nat) : Fld := ⟨A.RX_OCT_INJ_STATUS u, 15, 0⟩
/-- FIRE_CTRL: the register's address. -/
def A.FIRE_CTRL : Nat := 0x040000
def F.FIRE_CTRL_STAGGER_Q : Fld := ⟨A.FIRE_CTRL, 31, 16⟩
def F.FIRE_CTRL_DITHER_MAX : Fld := ⟨A.FIRE_CTRL, 8, 0⟩
/-- FIRE_FRAME: the register's address. -/
def A.FIRE_FRAME : Nat := 0x040004
def F.FIRE_FRAME_SHADOW_NS : Fld := ⟨A.FIRE_FRAME, 23, 0⟩
/-- FIRE_FRAME_ACTIVE: the register's address. -/
def A.FIRE_FRAME_ACTIVE : Nat := 0x040008
def F.FIRE_FRAME_ACTIVE_ACTIVE_NS : Fld := ⟨A.FIRE_FRAME_ACTIVE, 23, 0⟩
/-- FIRE_SCHED: the register's address. -/
def A.FIRE_SCHED : Nat := 0x04000C
def F.FIRE_SCHED_SWAP : Fld := ⟨A.FIRE_SCHED, 31, 31⟩
def F.FIRE_SCHED_PEND : Fld := ⟨A.FIRE_SCHED, 17, 17⟩
def F.FIRE_SCHED_ACTIVE : Fld := ⟨A.FIRE_SCHED, 16, 16⟩
def F.FIRE_SCHED_SLOTS : Fld := ⟨A.FIRE_SCHED, 10, 0⟩
/-- FIRE_SCHED_REFUSED: the register's address. -/
def A.FIRE_SCHED_REFUSED : Nat := 0x040010
def F.FIRE_SCHED_REFUSED_REFUSED : Fld := ⟨A.FIRE_SCHED_REFUSED, 31, 16⟩
def F.FIRE_SCHED_REFUSED_LAST_ENTRY : Fld := ⟨A.FIRE_SCHED_REFUSED, 10, 0⟩
/-- FIRE_EYE_CTRL: the register's address. -/
def A.FIRE_EYE_CTRL : Nat := 0x040014
def F.FIRE_EYE_CTRL_WINDOW_MS : Fld := ⟨A.FIRE_EYE_CTRL, 9, 0⟩
/-- FIRE_DIAG_CTRL: the register's address. -/
def A.FIRE_DIAG_CTRL : Nat := 0x040018
def F.FIRE_DIAG_CTRL_SWEEP : Fld := ⟨A.FIRE_DIAG_CTRL, 31, 31⟩
def F.FIRE_DIAG_CTRL_SWEEP_BUSY : Fld := ⟨A.FIRE_DIAG_CTRL, 30, 30⟩
def F.FIRE_DIAG_CTRL_FAULT_COUNT : Fld := ⟨A.FIRE_DIAG_CTRL, 19, 16⟩
def F.FIRE_DIAG_CTRL_INTERVAL_MS : Fld := ⟨A.FIRE_DIAG_CTRL, 13, 0⟩
/-- FIRE_SWEEP_MASK_LO: the register's address. -/
def A.FIRE_SWEEP_MASK_LO : Nat := 0x04001C
def F.FIRE_SWEEP_MASK_LO_MASK : Fld := ⟨A.FIRE_SWEEP_MASK_LO, 31, 0⟩
/-- FIRE_SWEEP_MASK_HI: the register's address. -/
def A.FIRE_SWEEP_MASK_HI : Nat := 0x040020
def F.FIRE_SWEEP_MASK_HI_MASK : Fld := ⟨A.FIRE_SWEEP_MASK_HI, 31, 0⟩
/-- FIRE_STATUS: the register's address. -/
def A.FIRE_STATUS : Nat := 0x040024
def F.FIRE_STATUS_LASER_PERMIT : Fld := ⟨A.FIRE_STATUS, 31, 31⟩
def F.FIRE_STATUS_FIRE_ALLOW : Fld := ⟨A.FIRE_STATUS, 30, 30⟩
def F.FIRE_STATUS_PERMIT_N : Fld := ⟨A.FIRE_STATUS, 29, 29⟩
def F.FIRE_STATUS_PERMIT_S : Fld := ⟨A.FIRE_STATUS, 28, 28⟩
def F.FIRE_STATUS_PERMIT_WAIT : Fld := ⟨A.FIRE_STATUS, 27, 27⟩
def F.FIRE_STATUS_ZEROED_OCT : Fld := ⟨A.FIRE_STATUS, 7, 0⟩
/-- FIRE_OCT_LEVEL: the register's address. -/
def A.FIRE_OCT_LEVEL (u : Nat) : Nat := 0x040100 + 16 * u
def F.FIRE_OCT_LEVEL_TEMP_SRC (u : Nat) : Fld := ⟨A.FIRE_OCT_LEVEL u, 18, 16⟩
def F.FIRE_OCT_LEVEL_BANK (u : Nat) : Fld := ⟨A.FIRE_OCT_LEVEL u, 12, 12⟩
def F.FIRE_OCT_LEVEL_BASE (u : Nat) : Fld := ⟨A.FIRE_OCT_LEVEL u, 11, 0⟩
/-- FIRE_OCT_LEVEL_LIM: the register's address. -/
def A.FIRE_OCT_LEVEL_LIM (u : Nat) : Nat := 0x040104 + 16 * u
def F.FIRE_OCT_LEVEL_LIM_MAX (u : Nat) : Fld := ⟨A.FIRE_OCT_LEVEL_LIM u, 27, 16⟩
def F.FIRE_OCT_LEVEL_LIM_MIN (u : Nat) : Fld := ⟨A.FIRE_OCT_LEVEL_LIM u, 11, 0⟩
/-- FIRE_OCT_LEVEL_STATUS: the register's address. -/
def A.FIRE_OCT_LEVEL_STATUS (u : Nat) : Nat := 0x040108 + 16 * u
def F.FIRE_OCT_LEVEL_STATUS_ZEROED (u : Nat) : Fld := ⟨A.FIRE_OCT_LEVEL_STATUS u, 17, 17⟩
def F.FIRE_OCT_LEVEL_STATUS_CLAMPED (u : Nat) : Fld := ⟨A.FIRE_OCT_LEVEL_STATUS u, 16, 16⟩
def F.FIRE_OCT_LEVEL_STATUS_CODE (u : Nat) : Fld := ⟨A.FIRE_OCT_LEVEL_STATUS u, 11, 0⟩
/-- FIRE_BANK_LEVEL_POLY: the register's address. -/
def A.FIRE_BANK_LEVEL_POLY (u : Nat) : Nat := 0x040200 + 16 * u
def F.FIRE_BANK_LEVEL_POLY_L2 (u : Nat) : Fld := ⟨A.FIRE_BANK_LEVEL_POLY u, 31, 16⟩
def F.FIRE_BANK_LEVEL_POLY_L1 (u : Nat) : Fld := ⟨A.FIRE_BANK_LEVEL_POLY u, 15, 0⟩
/-- FIRE_BANK_DELAY_POLY: the register's address. -/
def A.FIRE_BANK_DELAY_POLY (u : Nat) : Nat := 0x040204 + 16 * u
def F.FIRE_BANK_DELAY_POLY_D2 (u : Nat) : Fld := ⟨A.FIRE_BANK_DELAY_POLY u, 31, 16⟩
def F.FIRE_BANK_DELAY_POLY_D1 (u : Nat) : Fld := ⟨A.FIRE_BANK_DELAY_POLY u, 15, 0⟩
/-- FIRE_EM_CFG: the register's address. -/
def A.FIRE_EM_CFG (u : Nat) : Nat := 0x041000 + 32 * u
def F.FIRE_EM_CFG_EN (u : Nat) : Fld := ⟨A.FIRE_EM_CFG u, 31, 31⟩
def F.FIRE_EM_CFG_BANK (u : Nat) : Fld := ⟨A.FIRE_EM_CFG u, 30, 30⟩
def F.FIRE_EM_CFG_DOMAIN (u : Nat) : Fld := ⟨A.FIRE_EM_CFG u, 29, 28⟩
def F.FIRE_EM_CFG_STAGGER_POS (u : Nat) : Fld := ⟨A.FIRE_EM_CFG u, 27, 22⟩
def F.FIRE_EM_CFG_TEMP_SRC (u : Nat) : Fld := ⟨A.FIRE_EM_CFG u, 21, 19⟩
def F.FIRE_EM_CFG_WIDTH (u : Nat) : Fld := ⟨A.FIRE_EM_CFG u, 6, 0⟩
/-- FIRE_EM_DELAY: the register's address. -/
def A.FIRE_EM_DELAY (u : Nat) : Nat := 0x041004 + 32 * u
def F.FIRE_EM_DELAY_DLY_BASE (u : Nat) : Fld := ⟨A.FIRE_EM_DELAY u, 15, 0⟩
/-- FIRE_EM_EYE: the register's address. -/
def A.FIRE_EM_EYE (u : Nat) : Nat := 0x041008 + 32 * u
def F.FIRE_EM_EYE_BUDGET (u : Nat) : Fld := ⟨A.FIRE_EM_EYE u, 31, 0⟩
/-- FIRE_EM_CS_CFG: the register's address. -/
def A.FIRE_EM_CS_CFG (u : Nat) : Nat := 0x04100C + 32 * u
def F.FIRE_EM_CS_CFG_MIN_RISE (u : Nat) : Fld := ⟨A.FIRE_EM_CS_CFG u, 31, 26⟩
def F.FIRE_EM_CS_CFG_SHORT_THR (u : Nat) : Fld := ⟨A.FIRE_EM_CS_CFG u, 25, 16⟩
def F.FIRE_EM_CS_CFG_OPEN_THR (u : Nat) : Fld := ⟨A.FIRE_EM_CS_CFG u, 9, 0⟩
/-- FIRE_EM_STATUS: the register's address. -/
def A.FIRE_EM_STATUS (u : Nat) : Nat := 0x041010 + 32 * u
def F.FIRE_EM_STATUS_CLEAR (u : Nat) : Fld := ⟨A.FIRE_EM_STATUS u, 31, 31⟩
def F.FIRE_EM_STATUS_FAULT (u : Nat) : Fld := ⟨A.FIRE_EM_STATUS u, 30, 30⟩
def F.FIRE_EM_STATUS_FAULT_KIND (u : Nat) : Fld := ⟨A.FIRE_EM_STATUS u, 29, 28⟩
def F.FIRE_EM_STATUS_EYE_HIT (u : Nat) : Fld := ⟨A.FIRE_EM_STATUS u, 27, 27⟩
def F.FIRE_EM_STATUS_UNVERIFIED (u : Nat) : Fld := ⟨A.FIRE_EM_STATUS u, 26, 26⟩
def F.FIRE_EM_STATUS_UNVER_RUN (u : Nat) : Fld := ⟨A.FIRE_EM_STATUS u, 25, 24⟩
def F.FIRE_EM_STATUS_PROOF_NEEDED (u : Nat) : Fld := ⟨A.FIRE_EM_STATUS u, 23, 23⟩
def F.FIRE_EM_STATUS_LAST_RESULT (u : Nat) : Fld := ⟨A.FIRE_EM_STATUS u, 22, 21⟩
def F.FIRE_EM_STATUS_DELAY_PS (u : Nat) : Fld := ⟨A.FIRE_EM_STATUS u, 15, 0⟩
/-- FIRE_EM_CS_LAST: the register's address. -/
def A.FIRE_EM_CS_LAST (u : Nat) : Nat := 0x041014 + 32 * u
def F.FIRE_EM_CS_LAST_RISE (u : Nat) : Fld := ⟨A.FIRE_EM_CS_LAST u, 31, 26⟩
def F.FIRE_EM_CS_LAST_PEAK (u : Nat) : Fld := ⟨A.FIRE_EM_CS_LAST u, 9, 0⟩
/-- FIRE_EM_EYE_ACC: the register's address. -/
def A.FIRE_EM_EYE_ACC (u : Nat) : Nat := 0x041018 + 32 * u
def F.FIRE_EM_EYE_ACC_ACC (u : Nat) : Fld := ⟨A.FIRE_EM_EYE_ACC u, 31, 0⟩
/-- ACQ_CTRL: the register's address. -/
def A.ACQ_CTRL : Nat := 0x050000
def F.ACQ_CTRL_K : Fld := ⟨A.ACQ_CTRL, 19, 16⟩
def F.ACQ_CTRL_TRIG_SRC : Fld := ⟨A.ACQ_CTRL, 9, 8⟩
def F.ACQ_CTRL_AUTO_NR : Fld := ⟨A.ACQ_CTRL, 0, 0⟩
/-- ACQ_TRIG: the register's address. -/
def A.ACQ_TRIG : Nat := 0x050004
def F.ACQ_TRIG_EDGE : Fld := ⟨A.ACQ_TRIG, 31, 31⟩
def F.ACQ_TRIG_FILTER : Fld := ⟨A.ACQ_TRIG, 30, 24⟩
def F.ACQ_TRIG_DELAY_NS : Fld := ⟨A.ACQ_TRIG, 23, 0⟩
/-- ACQ_TRIG_TIMEOUT: the register's address. -/
def A.ACQ_TRIG_TIMEOUT : Nat := 0x050008
def F.ACQ_TRIG_TIMEOUT_TIMEOUT_MS : Fld := ⟨A.ACQ_TRIG_TIMEOUT, 15, 0⟩
/-- ACQ_STATUS: the register's address. -/
def A.ACQ_STATUS : Nat := 0x05000C
def F.ACQ_STATUS_TRIG_ARMED : Fld := ⟨A.ACQ_STATUS, 31, 31⟩
def F.ACQ_STATUS_FORCED_LAST : Fld := ⟨A.ACQ_STATUS, 30, 30⟩
def F.ACQ_STATUS_EXT_TRIG_LEVEL : Fld := ⟨A.ACQ_STATUS, 29, 29⟩
def F.ACQ_STATUS_PEAK_LOST_OCT : Fld := ⟨A.ACQ_STATUS, 15, 8⟩
def F.ACQ_STATUS_SAT_OCT : Fld := ⟨A.ACQ_STATUS, 7, 0⟩
/-- ACQ_PEAK: the register's address. -/
def A.ACQ_PEAK : Nat := 0x050010
def F.ACQ_PEAK_MIN_COUNT : Fld := ⟨A.ACQ_PEAK, 15, 8⟩
def F.ACQ_PEAK_FACTOR : Fld := ⟨A.ACQ_PEAK, 3, 0⟩
/-- ACQ_SPY_SEL: the register's address. -/
def A.ACQ_SPY_SEL : Nat := 0x050020
def F.ACQ_SPY_SEL_FE : Fld := ⟨A.ACQ_SPY_SEL, 8, 0⟩
/-- ACQ_SPY_INFO: the register's address. -/
def A.ACQ_SPY_INFO : Nat := 0x050024
def F.ACQ_SPY_INFO_GROUP : Fld := ⟨A.ACQ_SPY_INFO, 31, 16⟩
def F.ACQ_SPY_INFO_VALID : Fld := ⟨A.ACQ_SPY_INFO, 15, 15⟩
def F.ACQ_SPY_INFO_PEAKS : Fld := ⟨A.ACQ_SPY_INFO, 4, 0⟩
/-- ACQ_SPY_PEAK_n: the register's address. -/
def A.ACQ_SPY_PEAK (n : Nat) : Nat := 0x050040 + 4 * n
def F.ACQ_SPY_PEAK_COUNT3 (n : Nat) : Fld := ⟨A.ACQ_SPY_PEAK n, 25, 16⟩
def F.ACQ_SPY_PEAK_BIN (n : Nat) : Fld := ⟨A.ACQ_SPY_PEAK n, 12, 0⟩
/-- ECHO_CTRL: the register's address. -/
def A.ECHO_CTRL : Nat := 0x060000
def F.ECHO_CTRL_FORM : Fld := ⟨A.ECHO_CTRL, 17, 16⟩
def F.ECHO_CTRL_SELECT : Fld := ⟨A.ECHO_CTRL, 8, 8⟩
def F.ECHO_CTRL_TOL : Fld := ⟨A.ECHO_CTRL, 1, 0⟩
/-- ECHO_CLASS_W: the register's address. -/
def A.ECHO_CLASS_W : Nat := 0x060004
def F.ECHO_CLASS_W_SOFT_W : Fld := ⟨A.ECHO_CLASS_W, 25, 16⟩
def F.ECHO_CLASS_W_HARD_W : Fld := ⟨A.ECHO_CLASS_W, 9, 0⟩
/-- ECHO_CLASS_T: the register's address. -/
def A.ECHO_CLASS_T : Nat := 0x060008
def F.ECHO_CLASS_T_GAP_NS : Fld := ⟨A.ECHO_CLASS_T, 31, 24⟩
def F.ECHO_CLASS_T_DECAY : Fld := ⟨A.ECHO_CLASS_T, 19, 16⟩
def F.ECHO_CLASS_T_SOFT_AMP : Fld := ⟨A.ECHO_CLASS_T, 9, 0⟩
/-- ECHO_STATUS: the register's address. -/
def A.ECHO_STATUS : Nat := 0x06000C
def F.ECHO_STATUS_OVF_OCT : Fld := ⟨A.ECHO_STATUS, 15, 8⟩
def F.ECHO_STATUS_TRUNC_OCT : Fld := ⟨A.ECHO_STATUS, 7, 0⟩
/-- ECHO_STAVE_CFG_n: the register's address. -/
def A.ECHO_STAVE_CFG (n : Nat) : Nat := 0x060100 + 4 * n
def F.ECHO_STAVE_CFG_UNCONF_SUPP (n : Nat) : Fld := ⟨A.ECHO_STAVE_CFG n, 1, 1⟩
def F.ECHO_STAVE_CFG_SOFT_SUPP (n : Nat) : Fld := ⟨A.ECHO_STAVE_CFG n, 0, 0⟩
/-- ANGLE_CTRL: the register's address. -/
def A.ANGLE_CTRL : Nat := 0x070000
def F.ANGLE_CTRL_RESET_NOW : Fld := ⟨A.ANGLE_CTRL, 31, 31⟩
def F.ANGLE_CTRL_EXTRAP : Fld := ⟨A.ANGLE_CTRL, 8, 8⟩
def F.ANGLE_CTRL_AUTO : Fld := ⟨A.ANGLE_CTRL, 4, 4⟩
def F.ANGLE_CTRL_RUN : Fld := ⟨A.ANGLE_CTRL, 0, 0⟩
/-- ANGLE_EXC: the register's address. -/
def A.ANGLE_EXC : Nat := 0x070004
def F.ANGLE_EXC_DIV : Fld := ⟨A.ANGLE_EXC, 23, 16⟩
def F.ANGLE_EXC_PHASE : Fld := ⟨A.ANGLE_EXC, 15, 8⟩
def F.ANGLE_EXC_AMP : Fld := ⟨A.ANGLE_EXC, 5, 0⟩
/-- ANGLE_CA: the register's address. -/
def A.ANGLE_CA : Nat := 0x070008
def F.ANGLE_CA_RESET_MS : Fld := ⟨A.ANGLE_CA, 31, 16⟩
def F.ANGLE_CA_RANGE : Fld := ⟨A.ANGLE_CA, 1, 0⟩
/-- ANGLE_DEC: the register's address. -/
def A.ANGLE_DEC : Nat := 0x07000C
def F.ANGLE_DEC_STAGES : Fld := ⟨A.ANGLE_DEC, 19, 16⟩
def F.ANGLE_DEC_SET_SEL : Fld := ⟨A.ANGLE_DEC, 8, 0⟩
/-- ANGLE_HB_A_n: the register's address. -/
def A.ANGLE_HB_A (n : Nat) : Nat := 0x070010 + 4 * n
def F.ANGLE_HB_A_H (n : Nat) : Fld := ⟨A.ANGLE_HB_A n, 17, 0⟩
/-- ANGLE_HB_B_n: the register's address. -/
def A.ANGLE_HB_B (n : Nat) : Nat := 0x070020 + 4 * n
def F.ANGLE_HB_B_H (n : Nat) : Fld := ⟨A.ANGLE_HB_B n, 17, 0⟩
/-- ANGLE_TRIM: the register's address. -/
def A.ANGLE_TRIM : Nat := 0x070030
def F.ANGLE_TRIM_GAIN : Fld := ⟨A.ANGLE_TRIM, 31, 16⟩
def F.ANGLE_TRIM_OFFSET : Fld := ⟨A.ANGLE_TRIM, 9, 0⟩
/-- ANGLE_LIN: the register's address. -/
def A.ANGLE_LIN : Nat := 0x070034
def F.ANGLE_LIN_TEMP_SRC : Fld := ⟨A.ANGLE_LIN, 2, 0⟩
/-- ANGLE_BLANK: the register's address. -/
def A.ANGLE_BLANK : Nat := 0x070038
def F.ANGLE_BLANK_FILL_PCT : Fld := ⟨A.ANGLE_BLANK, 31, 24⟩
def F.ANGLE_BLANK_POST_NS : Fld := ⟨A.ANGLE_BLANK, 23, 12⟩
def F.ANGLE_BLANK_PRE_NS : Fld := ⟨A.ANGLE_BLANK, 9, 0⟩
/-- ANGLE_BLANK_CTRL: the register's address. -/
def A.ANGLE_BLANK_CTRL : Nat := 0x07003C
def F.ANGLE_BLANK_CTRL_PIN_EN : Fld := ⟨A.ANGLE_BLANK_CTRL, 1, 1⟩
def F.ANGLE_BLANK_CTRL_SCHED_EN : Fld := ⟨A.ANGLE_BLANK_CTRL, 0, 0⟩
/-- ANGLE_BLANK_EM_LO: the register's address. -/
def A.ANGLE_BLANK_EM_LO : Nat := 0x070040
def F.ANGLE_BLANK_EM_LO_MASK : Fld := ⟨A.ANGLE_BLANK_EM_LO, 31, 0⟩
/-- ANGLE_BLANK_EM_HI: the register's address. -/
def A.ANGLE_BLANK_EM_HI : Nat := 0x070044
def F.ANGLE_BLANK_EM_HI_MASK : Fld := ⟨A.ANGLE_BLANK_EM_HI, 31, 0⟩
/-- ANGLE_CM_WIN: the register's address. -/
def A.ANGLE_CM_WIN : Nat := 0x07004C
def F.ANGLE_CM_WIN_HI : Fld := ⟨A.ANGLE_CM_WIN, 27, 16⟩
def F.ANGLE_CM_WIN_LO : Fld := ⟨A.ANGLE_CM_WIN, 11, 0⟩
/-- ANGLE_STATUS: the register's address. -/
def A.ANGLE_STATUS : Nat := 0x070050
def F.ANGLE_STATUS_RUNNING : Fld := ⟨A.ANGLE_STATUS, 31, 31⟩
def F.ANGLE_STATUS_EXC_PEND : Fld := ⟨A.ANGLE_STATUS, 30, 30⟩
def F.ANGLE_STATUS_ELEC_FAULT : Fld := ⟨A.ANGLE_STATUS, 29, 29⟩
def F.ANGLE_STATUS_ELEC_FAULT_P : Fld := ⟨A.ANGLE_STATUS, 28, 28⟩
def F.ANGLE_STATUS_ELEC_FAULT_N : Fld := ⟨A.ANGLE_STATUS, 27, 27⟩
def F.ANGLE_STATUS_INV_LEFT : Fld := ⟨A.ANGLE_STATUS, 20, 16⟩
def F.ANGLE_STATUS_RANGE_NOW : Fld := ⟨A.ANGLE_STATUS, 1, 0⟩
/-- ANGLE_OUT: the register's address. -/
def A.ANGLE_OUT : Nat := 0x070054
def F.ANGLE_OUT_INVALID : Fld := ⟨A.ANGLE_OUT, 31, 31⟩
def F.ANGLE_OUT_FILLED : Fld := ⟨A.ANGLE_OUT, 30, 30⟩
def F.ANGLE_OUT_VALUE : Fld := ⟨A.ANGLE_OUT, 17, 0⟩
/-- ANGLE_CHAIN: the register's address. -/
def A.ANGLE_CHAIN : Nat := 0x070058
def F.ANGLE_CHAIN_GROUP_DELAY_NS : Fld := ⟨A.ANGLE_CHAIN, 19, 0⟩
/-- SERVO_STAVE_MAP_n: the register's address. -/
def A.SERVO_STAVE_MAP (n : Nat) : Nat := 0x080000 + 4 * n
def F.SERVO_STAVE_MAP_MAP (n : Nat) : Fld := ⟨A.SERVO_STAVE_MAP n, 31, 0⟩
/-- SERVO_AXIS_CTRL: the register's address. -/
def A.SERVO_AXIS_CTRL (u : Nat) : Nat := 0x080100 + 256 * u
def F.SERVO_AXIS_CTRL_UNPARK (u : Nat) : Fld := ⟨A.SERVO_AXIS_CTRL u, 31, 31⟩
def F.SERVO_AXIS_CTRL_PARK (u : Nat) : Fld := ⟨A.SERVO_AXIS_CTRL u, 30, 30⟩
def F.SERVO_AXIS_CTRL_SWAP (u : Nat) : Fld := ⟨A.SERVO_AXIS_CTRL u, 29, 29⟩
def F.SERVO_AXIS_CTRL_OUT_PHASE (u : Nat) : Fld := ⟨A.SERVO_AXIS_CTRL u, 15, 8⟩
def F.SERVO_AXIS_CTRL_EN (u : Nat) : Fld := ⟨A.SERVO_AXIS_CTRL u, 0, 0⟩
/-- SERVO_AXIS_STATUS: the register's address. -/
def A.SERVO_AXIS_STATUS (u : Nat) : Nat := 0x080104 + 256 * u
def F.SERVO_AXIS_STATUS_CLAMPED (u : Nat) : Fld := ⟨A.SERVO_AXIS_STATUS u, 31, 31⟩
def F.SERVO_AXIS_STATUS_SAT (u : Nat) : Fld := ⟨A.SERVO_AXIS_STATUS u, 30, 30⟩
def F.SERVO_AXIS_STATUS_SWAP_PEND (u : Nat) : Fld := ⟨A.SERVO_AXIS_STATUS u, 29, 29⟩
def F.SERVO_AXIS_STATUS_BANK (u : Nat) : Fld := ⟨A.SERVO_AXIS_STATUS u, 28, 28⟩
def F.SERVO_AXIS_STATUS_COAST_RUN (u : Nat) : Fld := ⟨A.SERVO_AXIS_STATUS u, 27, 22⟩
def F.SERVO_AXIS_STATUS_OVR_RUN (u : Nat) : Fld := ⟨A.SERVO_AXIS_STATUS u, 21, 20⟩
def F.SERVO_AXIS_STATUS_CAUSE (u : Nat) : Fld := ⟨A.SERVO_AXIS_STATUS u, 15, 12⟩
def F.SERVO_AXIS_STATUS_STATE (u : Nat) : Fld := ⟨A.SERVO_AXIS_STATUS u, 2, 0⟩
/-- SERVO_AXIS_OVR: the register's address. -/
def A.SERVO_AXIS_OVR (u : Nat) : Nat := 0x080108 + 256 * u
def F.SERVO_AXIS_OVR_OVERRUNS (u : Nat) : Fld := ⟨A.SERVO_AXIS_OVR u, 31, 16⟩
def F.SERVO_AXIS_OVR_CLAMPS (u : Nat) : Fld := ⟨A.SERVO_AXIS_OVR u, 15, 0⟩
/-- SERVO_AXIS_ERR: the register's address. -/
def A.SERVO_AXIS_ERR (u : Nat) : Nat := 0x08010C + 256 * u
def F.SERVO_AXIS_ERR_ERR (u : Nat) : Fld := ⟨A.SERVO_AXIS_ERR u, 19, 0⟩
/-- SERVO_AXIS_OUT: the register's address. -/
def A.SERVO_AXIS_OUT (u : Nat) : Nat := 0x080110 + 256 * u
def F.SERVO_AXIS_OUT_OUT (u : Nat) : Fld := ⟨A.SERVO_AXIS_OUT u, 17, 0⟩
/-- SERVO_AXIS_INTEG: the register's address. -/
def A.SERVO_AXIS_INTEG (u : Nat) : Nat := 0x080114 + 256 * u
def F.SERVO_AXIS_INTEG_I (u : Nat) : Fld := ⟨A.SERVO_AXIS_INTEG u, 31, 0⟩
/-- SERVO_AXIS_ACQ: the register's address. -/
def A.SERVO_AXIS_ACQ (u : Nat) : Nat := 0x080118 + 256 * u
def F.SERVO_AXIS_ACQ_ACQ_MS (u : Nat) : Fld := ⟨A.SERVO_AXIS_ACQ u, 15, 0⟩
/-- SERVO_V_CFG: the register's address. -/
def A.SERVO_V_CFG : Nat := 0x080140
def F.SERVO_V_CFG_V_DIV : Fld := ⟨A.SERVO_V_CFG, 31, 24⟩
def F.SERVO_V_CFG_MODE : Fld := ⟨A.SERVO_V_CFG, 16, 16⟩
def F.SERVO_V_CFG_RASTER_FRAMES : Fld := ⟨A.SERVO_V_CFG, 15, 0⟩
/-- SERVO_V_LO: the register's address. -/
def A.SERVO_V_LO : Nat := 0x080144
def F.SERVO_V_LO_V_LO : Fld := ⟨A.SERVO_V_LO, 17, 0⟩
/-- SERVO_V_HI: the register's address. -/
def A.SERVO_V_HI : Nat := 0x080148
def F.SERVO_V_HI_V_HI : Fld := ⟨A.SERVO_V_HI, 17, 0⟩
/-- SERVO_V_TURN: the register's address. -/
def A.SERVO_V_TURN : Nat := 0x08014C
def F.SERVO_V_TURN_TURN_NS : Fld := ⟨A.SERVO_V_TURN, 23, 0⟩
/-- SERVO_V_DRIVE: the register's address. -/
def A.SERVO_V_DRIVE : Nat := 0x080150
def F.SERVO_V_DRIVE_PARK_SLEW : Fld := ⟨A.SERVO_V_DRIVE, 31, 16⟩
def F.SERVO_V_DRIVE_CENTRE_CODE : Fld := ⟨A.SERVO_V_DRIVE, 15, 0⟩
/-- SERVO_V_STATUS: the register's address. -/
def A.SERVO_V_STATUS : Nat := 0x080154
def F.SERVO_V_STATUS_PROFILE_PEND : Fld := ⟨A.SERVO_V_STATUS, 31, 31⟩
def F.SERVO_V_STATUS_PROFILE_BAD : Fld := ⟨A.SERVO_V_STATUS, 30, 30⟩
def F.SERVO_V_STATUS_DAC_CODE : Fld := ⟨A.SERVO_V_STATUS, 15, 0⟩
/-- SERVO_H_ENC: the register's address. -/
def A.SERVO_H_ENC : Nat := 0x080240
def F.SERVO_H_ENC_DIR : Fld := ⟨A.SERVO_H_ENC, 31, 31⟩
def F.SERVO_H_ENC_ENC_TOL : Fld := ⟨A.SERVO_H_ENC, 27, 24⟩
def F.SERVO_H_ENC_CPR : Fld := ⟨A.SERVO_H_ENC, 20, 0⟩
/-- SERVO_H_POS: the register's address. -/
def A.SERVO_H_POS : Nat := 0x080244
def F.SERVO_H_POS_ENC_REF : Fld := ⟨A.SERVO_H_POS, 31, 31⟩
def F.SERVO_H_POS_ENC_ERR : Fld := ⟨A.SERVO_H_POS, 30, 30⟩
def F.SERVO_H_POS_COUNT : Fld := ⟨A.SERVO_H_POS, 20, 0⟩
/-- SERVO_H_ZERO: the register's address. -/
def A.SERVO_H_ZERO : Nat := 0x080248
def F.SERVO_H_ZERO_H_ZERO : Fld := ⟨A.SERVO_H_ZERO, 19, 0⟩
/-- SERVO_H_REF: the register's address. -/
def A.SERVO_H_REF : Nat := 0x08024C
def F.SERVO_H_REF_H_PHASE : Fld := ⟨A.SERVO_H_REF, 19, 0⟩
/-- SERVO_H_REV: the register's address. -/
def A.SERVO_H_REV : Nat := 0x080250
def F.SERVO_H_REV_REV_FRAMES : Fld := ⟨A.SERVO_H_REV, 23, 0⟩
/-- SERVO_H_PWM: the register's address. -/
def A.SERVO_H_PWM : Nat := 0x080254
def F.SERVO_H_PWM_DEAD_NS : Fld := ⟨A.SERVO_H_PWM, 26, 16⟩
def F.SERVO_H_PWM_PWM_KHZ : Fld := ⟨A.SERVO_H_PWM, 6, 0⟩
/-- SERVO_H_COMM: the register's address. -/
def A.SERVO_H_COMM : Nat := 0x080258
def F.SERVO_H_COMM_POLES : Fld := ⟨A.SERVO_H_COMM, 20, 16⟩
def F.SERVO_H_COMM_COMM_OFS : Fld := ⟨A.SERVO_H_COMM, 15, 0⟩
/-- SERVO_H_BRIDGE: the register's address. -/
def A.SERVO_H_BRIDGE : Nat := 0x08025C
def F.SERVO_H_BRIDGE_BRIDGE_TAG : Fld := ⟨A.SERVO_H_BRIDGE, 31, 24⟩
def F.SERVO_H_BRIDGE_VBUS_NOM : Fld := ⟨A.SERVO_H_BRIDGE, 15, 0⟩
/-- SERVO_H_VSCALE: the register's address. -/
def A.SERVO_H_VSCALE : Nat := 0x080260
def F.SERVO_H_VSCALE_VSCALE : Fld := ⟨A.SERVO_H_VSCALE, 15, 0⟩
/-- SERVO_H_BUS: the register's address. -/
def A.SERVO_H_BUS : Nat := 0x080264
def F.SERVO_H_BUS_BRIDGE_STALE : Fld := ⟨A.SERVO_H_BUS, 31, 31⟩
def F.SERVO_H_BUS_GATE_FAULT : Fld := ⟨A.SERVO_H_BUS, 30, 30⟩
def F.SERVO_H_BUS_VBUS : Fld := ⟨A.SERVO_H_BUS, 15, 0⟩
/-- SERVO_H_ALIGN: the register's address. -/
def A.SERVO_H_ALIGN : Nat := 0x080268
def F.SERVO_H_ALIGN_ALIGN_MS : Fld := ⟨A.SERVO_H_ALIGN, 31, 16⟩
def F.SERVO_H_ALIGN_ALIGN_MV : Fld := ⟨A.SERVO_H_ALIGN, 15, 0⟩
/-- GEOM_CTRL: the register's address. -/
def A.GEOM_CTRL : Nat := 0x090000
def F.GEOM_CTRL_V_MULT : Fld := ⟨A.GEOM_CTRL, 17, 16⟩
def F.GEOM_CTRL_H_USE : Fld := ⟨A.GEOM_CTRL, 8, 8⟩
def F.GEOM_CTRL_INV_POINTS : Fld := ⟨A.GEOM_CTRL, 0, 0⟩
/-- GEOM_SECTOR: the register's address. -/
def A.GEOM_SECTOR : Nat := 0x090004
def F.GEOM_SECTOR_FRAMES : Fld := ⟨A.GEOM_SECTOR, 15, 0⟩
/-- GEOM_CURV: the register's address. -/
def A.GEOM_CURV : Nat := 0x090008
def F.GEOM_CURV_KAPPA : Fld := ⟨A.GEOM_CURV, 31, 0⟩
/-- GEOM_CURV_CFG: the register's address. -/
def A.GEOM_CURV_CFG : Nat := 0x09000C
def F.GEOM_CURV_CFG_STALE_FRAMES : Fld := ⟨A.GEOM_CURV_CFG, 15, 0⟩
/-- GEOM_POSE_TX: the register's address. -/
def A.GEOM_POSE_TX : Nat := 0x090010
def F.GEOM_POSE_TX_TX : Fld := ⟨A.GEOM_POSE_TX, 23, 0⟩
/-- GEOM_POSE_TY: the register's address. -/
def A.GEOM_POSE_TY : Nat := 0x090014
def F.GEOM_POSE_TY_TY : Fld := ⟨A.GEOM_POSE_TY, 23, 0⟩
/-- GEOM_POSE_TZ: the register's address. -/
def A.GEOM_POSE_TZ : Nat := 0x090018
def F.GEOM_POSE_TZ_TZ : Fld := ⟨A.GEOM_POSE_TZ, 23, 0⟩
/-- GEOM_POSE_ROLL: the register's address. -/
def A.GEOM_POSE_ROLL : Nat := 0x09001C
def F.GEOM_POSE_ROLL_ROLL : Fld := ⟨A.GEOM_POSE_ROLL, 19, 0⟩
/-- GEOM_POSE_PITCH: the register's address. -/
def A.GEOM_POSE_PITCH : Nat := 0x090020
def F.GEOM_POSE_PITCH_PITCH : Fld := ⟨A.GEOM_POSE_PITCH, 19, 0⟩
/-- GEOM_POSE_YAW: the register's address. -/
def A.GEOM_POSE_YAW : Nat := 0x090024
def F.GEOM_POSE_YAW_YAW : Fld := ⟨A.GEOM_POSE_YAW, 19, 0⟩
/-- GEOM_POSE_CTRL: the register's address. -/
def A.GEOM_POSE_CTRL : Nat := 0x090028
def F.GEOM_POSE_CTRL_LOAD : Fld := ⟨A.GEOM_POSE_CTRL, 31, 31⟩
def F.GEOM_POSE_CTRL_BUSY : Fld := ⟨A.GEOM_POSE_CTRL, 30, 30⟩
/-- GEOM_ENV_CTRL: the register's address. -/
def A.GEOM_ENV_CTRL : Nat := 0x090030
def F.GEOM_ENV_CTRL_APPLY : Fld := ⟨A.GEOM_ENV_CTRL, 3, 0⟩
/-- GEOM_ENV_STATUS: the register's address. -/
def A.GEOM_ENV_STATUS : Nat := 0x090034
def F.GEOM_ENV_STATUS_APPLY_PEND : Fld := ⟨A.GEOM_ENV_STATUS, 19, 16⟩
def F.GEOM_ENV_STATUS_LOST : Fld := ⟨A.GEOM_ENV_STATUS, 15, 12⟩
def F.GEOM_ENV_STATUS_INTR : Fld := ⟨A.GEOM_ENV_STATUS, 11, 8⟩
def F.GEOM_ENV_STATUS_ACTIVE : Fld := ⟨A.GEOM_ENV_STATUS, 3, 0⟩
/-- GEOM_STATUS: the register's address. -/
def A.GEOM_STATUS : Nat := 0x090038
def F.GEOM_STATUS_CURV_STALE : Fld := ⟨A.GEOM_STATUS, 31, 31⟩
def F.GEOM_STATUS_KAPPA_PEND : Fld := ⟨A.GEOM_STATUS, 30, 30⟩
def F.GEOM_STATUS_CURV_AGE : Fld := ⟨A.GEOM_STATUS, 15, 0⟩
/-- GEOM_SECTOR_NOW: the register's address. -/
def A.GEOM_SECTOR_NOW : Nat := 0x09003C
def F.GEOM_SECTOR_NOW_SECTOR : Fld := ⟨A.GEOM_SECTOR_NOW, 31, 0⟩
/-- GEOM_MATRIX_n: the register's address. -/
def A.GEOM_MATRIX (n : Nat) : Nat := 0x090040 + 4 * n
def F.GEOM_MATRIX_M (n : Nat) : Fld := ⟨A.GEOM_MATRIX n, 31, 0⟩
/-- CAM_CTRL: the register's address. -/
def A.CAM_CTRL : Nat := 0x0A0000
def F.CAM_CTRL_MUX : Fld := ⟨A.CAM_CTRL, 0, 0⟩
/-- CAM_STATUS: the register's address. -/
def A.CAM_STATUS : Nat := 0x0A0004
def F.CAM_STATUS_LOAD : Fld := ⟨A.CAM_STATUS, 9, 0⟩
/-- CAM_PORT_CFG: the register's address. -/
def A.CAM_PORT_CFG (u : Nat) : Nat := 0x0A0100 + 256 * u
def F.CAM_PORT_CFG_EN (u : Nat) : Fld := ⟨A.CAM_PORT_CFG u, 31, 31⟩
def F.CAM_PORT_CFG_GEN (u : Nat) : Fld := ⟨A.CAM_PORT_CFG u, 30, 30⟩
def F.CAM_PORT_CFG_LANES (u : Nat) : Fld := ⟨A.CAM_PORT_CFG u, 29, 28⟩
def F.CAM_PORT_CFG_VC (u : Nat) : Fld := ⟨A.CAM_PORT_CFG u, 27, 26⟩
def F.CAM_PORT_CFG_CCI_KHZ (u : Nat) : Fld := ⟨A.CAM_PORT_CFG u, 25, 24⟩
def F.CAM_PORT_CFG_LATENCY (u : Nat) : Fld := ⟨A.CAM_PORT_CFG u, 23, 22⟩
def F.CAM_PORT_CFG_FPS_MAX (u : Nat) : Fld := ⟨A.CAM_PORT_CFG u, 15, 8⟩
def F.CAM_PORT_CFG_LANE_10M (u : Nat) : Fld := ⟨A.CAM_PORT_CFG u, 7, 0⟩
/-- CAM_PORT_STATUS: the register's address. -/
def A.CAM_PORT_STATUS (u : Nat) : Nat := 0x0A0104 + 256 * u
def F.CAM_PORT_STATUS_ID_NOW (u : Nat) : Fld := ⟨A.CAM_PORT_STATUS u, 31, 16⟩
def F.CAM_PORT_STATUS_FRAME_OPEN (u : Nat) : Fld := ⟨A.CAM_PORT_STATUS u, 15, 15⟩
def F.CAM_PORT_STATUS_OVERFLOW (u : Nat) : Fld := ⟨A.CAM_PORT_STATUS u, 14, 14⟩
def F.CAM_PORT_STATUS_SOT_ERR (u : Nat) : Fld := ⟨A.CAM_PORT_STATUS u, 13, 13⟩
def F.CAM_PORT_STATUS_BUF_LINES (u : Nat) : Fld := ⟨A.CAM_PORT_STATUS u, 6, 0⟩
/-- CAM_PORT_SEQ: the register's address. -/
def A.CAM_PORT_SEQ (u : Nat) : Nat := 0x0A0108 + 256 * u
def F.CAM_PORT_SEQ_SEQ (u : Nat) : Fld := ⟨A.CAM_PORT_SEQ u, 31, 0⟩
/-- CAM_PORT_TIMEOUT: the register's address. -/
def A.CAM_PORT_TIMEOUT (u : Nat) : Nat := 0x0A010C + 256 * u
def F.CAM_PORT_TIMEOUT_FE_TIMEOUT_US (u : Nat) : Fld := ⟨A.CAM_PORT_TIMEOUT u, 15, 0⟩
/-- CAM_CCI_CTRL: the register's address. -/
def A.CAM_CCI_CTRL (u : Nat) : Nat := 0x0A0110 + 256 * u
def F.CAM_CCI_CTRL_GO (u : Nat) : Fld := ⟨A.CAM_CCI_CTRL u, 31, 31⟩
def F.CAM_CCI_CTRL_BUSY (u : Nat) : Fld := ⟨A.CAM_CCI_CTRL u, 30, 30⟩
def F.CAM_CCI_CTRL_KEEP_EXP (u : Nat) : Fld := ⟨A.CAM_CCI_CTRL u, 29, 29⟩
def F.CAM_CCI_CTRL_COUNT (u : Nat) : Fld := ⟨A.CAM_CCI_CTRL u, 4, 0⟩
/-- CAM_CCI_EXP: the register's address. -/
def A.CAM_CCI_EXP (u : Nat) : Nat := 0x0A0114 + 256 * u
def F.CAM_CCI_EXP_EXP_US (u : Nat) : Fld := ⟨A.CAM_CCI_EXP u, 19, 0⟩
/-- CAM_CCI_STATUS: the register's address. -/
def A.CAM_CCI_STATUS (u : Nat) : Nat := 0x0A0118 + 256 * u
def F.CAM_CCI_STATUS_NACK (u : Nat) : Fld := ⟨A.CAM_CCI_STATUS u, 31, 31⟩
def F.CAM_CCI_STATUS_DONE (u : Nat) : Fld := ⟨A.CAM_CCI_STATUS u, 20, 16⟩
def F.CAM_CCI_STATUS_ID (u : Nat) : Fld := ⟨A.CAM_CCI_STATUS u, 15, 0⟩
/-- CAM_CCI_DATA_n: the register's address. -/
def A.CAM_CCI_DATA (u : Nat) (n : Nat) : Nat := 0x0A0140 + 256 * u + 4 * n
def F.CAM_CCI_DATA_ADDR (u : Nat) (n : Nat) : Fld := ⟨A.CAM_CCI_DATA u n, 30, 24⟩
def F.CAM_CCI_DATA_REG (u : Nat) (n : Nat) : Fld := ⟨A.CAM_CCI_DATA u n, 23, 8⟩
def F.CAM_CCI_DATA_DATA (u : Nat) (n : Nat) : Fld := ⟨A.CAM_CCI_DATA u n, 7, 0⟩
/-- NET_MAC_HI: the register's address. -/
def A.NET_MAC_HI : Nat := 0x0B0000
def F.NET_MAC_HI_MAC_HI : Fld := ⟨A.NET_MAC_HI, 15, 0⟩
/-- NET_MAC_LO: the register's address. -/
def A.NET_MAC_LO : Nat := 0x0B0004
def F.NET_MAC_LO_MAC_LO : Fld := ⟨A.NET_MAC_LO, 31, 0⟩
/-- NET_DOLEY: the register's address. -/
def A.NET_DOLEY : Nat := 0x0B0008
def F.NET_DOLEY_SAFE_LANE : Fld := ⟨A.NET_DOLEY, 18, 16⟩
def F.NET_DOLEY_DOLEY_PORT : Fld := ⟨A.NET_DOLEY, 15, 0⟩
/-- NET_LANE_CFG: the register's address. -/
def A.NET_LANE_CFG (u : Nat) : Nat := 0x0B0100 + 64 * u
def F.NET_LANE_CFG_EN (u : Nat) : Fld := ⟨A.NET_LANE_CFG u, 31, 31⟩
def F.NET_LANE_CFG_MODE (u : Nat) : Fld := ⟨A.NET_LANE_CFG u, 30, 29⟩
def F.NET_LANE_CFG_AN_EN (u : Nat) : Fld := ⟨A.NET_LANE_CFG u, 28, 28⟩
def F.NET_LANE_CFG_EQ_FREEZE (u : Nat) : Fld := ⟨A.NET_LANE_CFG u, 27, 27⟩
def F.NET_LANE_CFG_TX_POL (u : Nat) : Fld := ⟨A.NET_LANE_CFG u, 26, 26⟩
def F.NET_LANE_CFG_RX_POL (u : Nat) : Fld := ⟨A.NET_LANE_CFG u, 25, 25⟩
def F.NET_LANE_CFG_TX_DEEMPH (u : Nat) : Fld := ⟨A.NET_LANE_CFG u, 21, 19⟩
def F.NET_LANE_CFG_MTU (u : Nat) : Fld := ⟨A.NET_LANE_CFG u, 13, 0⟩
/-- NET_LANE_IP4: the register's address. -/
def A.NET_LANE_IP4 (u : Nat) : Nat := 0x0B0104 + 64 * u
def F.NET_LANE_IP4_IP4 (u : Nat) : Fld := ⟨A.NET_LANE_IP4 u, 31, 0⟩
/-- NET_LANE_IP6_n: the register's address. -/
def A.NET_LANE_IP6 (u : Nat) (n : Nat) : Nat := 0x0B0108 + 64 * u + 4 * n
def F.NET_LANE_IP6_IP6 (u : Nat) (n : Nat) : Fld := ⟨A.NET_LANE_IP6 u n, 31, 0⟩
/-- NET_LANE_STATUS: the register's address. -/
def A.NET_LANE_STATUS (u : Nat) : Nat := 0x0B0118 + 64 * u
def F.NET_LANE_STATUS_LINK (u : Nat) : Fld := ⟨A.NET_LANE_STATUS u, 31, 31⟩
def F.NET_LANE_STATUS_EQ_LOCK (u : Nat) : Fld := ⟨A.NET_LANE_STATUS u, 30, 30⟩
def F.NET_LANE_STATUS_AN_DONE (u : Nat) : Fld := ⟨A.NET_LANE_STATUS u, 29, 29⟩
def F.NET_LANE_STATUS_HALF_DUP (u : Nat) : Fld := ⟨A.NET_LANE_STATUS u, 28, 28⟩
def F.NET_LANE_STATUS_SPEED (u : Nat) : Fld := ⟨A.NET_LANE_STATUS u, 27, 26⟩
def F.NET_LANE_STATUS_BLOCK_ERR (u : Nat) : Fld := ⟨A.NET_LANE_STATUS u, 15, 0⟩
/-- NET_DEST_MAC_HI: the register's address. -/
def A.NET_DEST_MAC_HI (u : Nat) : Nat := 0x0B0400 + 32 * u
def F.NET_DEST_MAC_HI_VID (u : Nat) : Fld := ⟨A.NET_DEST_MAC_HI u, 27, 16⟩
def F.NET_DEST_MAC_HI_MAC_HI (u : Nat) : Fld := ⟨A.NET_DEST_MAC_HI u, 15, 0⟩
/-- NET_DEST_MAC_LO: the register's address. -/
def A.NET_DEST_MAC_LO (u : Nat) : Nat := 0x0B0404 + 32 * u
def F.NET_DEST_MAC_LO_MAC_LO (u : Nat) : Fld := ⟨A.NET_DEST_MAC_LO u, 31, 0⟩
/-- NET_DEST_IP4: the register's address. -/
def A.NET_DEST_IP4 (u : Nat) : Nat := 0x0B0408 + 32 * u
def F.NET_DEST_IP4_IP4 (u : Nat) : Fld := ⟨A.NET_DEST_IP4 u, 31, 0⟩
/-- NET_DEST_IP6_n: the register's address. -/
def A.NET_DEST_IP6 (u : Nat) (n : Nat) : Nat := 0x0B040C + 32 * u + 4 * n
def F.NET_DEST_IP6_IP6 (u : Nat) (n : Nat) : Fld := ⟨A.NET_DEST_IP6 u n, 31, 0⟩
/-- NET_DEST_CFG: the register's address. -/
def A.NET_DEST_CFG (u : Nat) : Nat := 0x0B041C + 32 * u
def F.NET_DEST_CFG_IPV6 (u : Nat) : Fld := ⟨A.NET_DEST_CFG u, 31, 31⟩
def F.NET_DEST_CFG_TAG (u : Nat) : Fld := ⟨A.NET_DEST_CFG u, 30, 30⟩
def F.NET_DEST_CFG_PCP (u : Nat) : Fld := ⟨A.NET_DEST_CFG u, 29, 27⟩
def F.NET_DEST_CFG_DSCP (u : Nat) : Fld := ⟨A.NET_DEST_CFG u, 26, 21⟩
def F.NET_DEST_CFG_UDP_PORT (u : Nat) : Fld := ⟨A.NET_DEST_CFG u, 15, 0⟩
/-- LAND_CTRL: the register's address. -/
def A.LAND_CTRL : Nat := 0x0C0000
def F.LAND_CTRL_LOSSY_EGRESS : Fld := ⟨A.LAND_CTRL, 31, 31⟩
def F.LAND_CTRL_FLUSH_US : Fld := ⟨A.LAND_CTRL, 9, 0⟩
/-- LAND_BUDGET_STATUS: the register's address. -/
def A.LAND_BUDGET_STATUS : Nat := 0x0C0004
def F.LAND_BUDGET_STATUS_FAIL : Fld := ⟨A.LAND_BUDGET_STATUS, 31, 31⟩
def F.LAND_BUDGET_STATUS_KIND : Fld := ⟨A.LAND_BUDGET_STATUS, 30, 30⟩
def F.LAND_BUDGET_STATUS_LOSSY_ACTIVE : Fld := ⟨A.LAND_BUDGET_STATUS, 29, 29⟩
def F.LAND_BUDGET_STATUS_INDEX : Fld := ⟨A.LAND_BUDGET_STATUS, 19, 16⟩
/-- LAND_STARVE: the register's address. -/
def A.LAND_STARVE : Nat := 0x0C0008
def F.LAND_STARVE_STARVE_LIMIT_US : Fld := ⟨A.LAND_STARVE, 15, 0⟩
/-- LAND_WDT: the register's address. -/
def A.LAND_WDT : Nat := 0x0C000C
def F.LAND_WDT_EGRESS_WDT_MS : Fld := ⟨A.LAND_WDT, 15, 0⟩
/-- LAND_ECHO_MAP_n: the register's address. -/
def A.LAND_ECHO_MAP (n : Nat) : Nat := 0x0C0010 + 4 * n
def F.LAND_ECHO_MAP_MAP (n : Nat) : Fld := ⟨A.LAND_ECHO_MAP n, 31, 0⟩
/-- LAND_BURST_r: the register's address. -/
def A.LAND_BURST (n : Nat) : Nat := 0x0C0040 + 4 * n
def F.LAND_BURST_BURST (n : Nat) : Fld := ⟨A.LAND_BURST n, 12, 0⟩
/-- LAND_REGION_n: the register's address. -/
def A.LAND_REGION (n : Nat) : Nat := 0x0C0100 + 4 * n
def F.LAND_REGION_EN (n : Nat) : Fld := ⟨A.LAND_REGION n, 31, 31⟩
def F.LAND_REGION_STREAM (n : Nat) : Fld := ⟨A.LAND_REGION n, 30, 28⟩
def F.LAND_REGION_PORT (n : Nat) : Fld := ⟨A.LAND_REGION n, 26, 24⟩
def F.LAND_REGION_DEST (n : Nat) : Fld := ⟨A.LAND_REGION n, 22, 20⟩
def F.LAND_REGION_BASE (n : Nat) : Fld := ⟨A.LAND_REGION n, 13, 7⟩
def F.LAND_REGION_SIZE (n : Nat) : Fld := ⟨A.LAND_REGION n, 6, 0⟩
/-- LAND_REGION_FILL_n: the register's address. -/
def A.LAND_REGION_FILL (n : Nat) : Nat := 0x0C0140 + 4 * n
def F.LAND_REGION_FILL_NEED_KIB (n : Nat) : Fld := ⟨A.LAND_REGION_FILL n, 31, 16⟩
def F.LAND_REGION_FILL_FILL_KIB (n : Nat) : Fld := ⟨A.LAND_REGION_FILL n, 15, 0⟩
/-- LAND_PORT_CTRL: the register's address. -/
def A.LAND_PORT_CTRL (u : Nat) : Nat := 0x0C0200 + 16 * u
def F.LAND_PORT_CTRL_FREEZE (u : Nat) : Fld := ⟨A.LAND_PORT_CTRL u, 0, 0⟩
/-- LAND_PORT_STATUS: the register's address. -/
def A.LAND_PORT_STATUS (u : Nat) : Nat := 0x0C0204 + 16 * u
def F.LAND_PORT_STATUS_DRAINED (u : Nat) : Fld := ⟨A.LAND_PORT_STATUS u, 31, 31⟩
def F.LAND_PORT_STATUS_GRANTED (u : Nat) : Fld := ⟨A.LAND_PORT_STATUS u, 30, 30⟩
def F.LAND_PORT_STATUS_OWNER (u : Nat) : Fld := ⟨A.LAND_PORT_STATUS u, 29, 27⟩
def F.LAND_PORT_STATUS_WDT_BITE (u : Nat) : Fld := ⟨A.LAND_PORT_STATUS u, 26, 26⟩
def F.LAND_PORT_STATUS_WDT_REQ (u : Nat) : Fld := ⟨A.LAND_PORT_STATUS u, 25, 23⟩
def F.LAND_PORT_STATUS_STARVE (u : Nat) : Fld := ⟨A.LAND_PORT_STATUS u, 21, 16⟩
/-- LAND_PORT_BW: the register's address. -/
def A.LAND_PORT_BW (u : Nat) : Nat := 0x0C0208 + 16 * u
def F.LAND_PORT_BW_NEED_MBPS (u : Nat) : Fld := ⟨A.LAND_PORT_BW u, 31, 16⟩
def F.LAND_PORT_BW_CAP_MBPS (u : Nat) : Fld := ⟨A.LAND_PORT_BW u, 15, 0⟩
/-- CMD_UART: the register's address. -/
def A.CMD_UART : Nat := 0x0D0000
def F.CMD_UART_BAUD : Fld := ⟨A.CMD_UART, 21, 0⟩
/-- CMD_STATUS: the register's address. -/
def A.CMD_STATUS : Nat := 0x0D0004
def F.CMD_STATUS_QUEUE_N : Fld := ⟨A.CMD_STATUS, 23, 20⟩
def F.CMD_STATUS_QUEUE_S : Fld := ⟨A.CMD_STATUS, 19, 16⟩
def F.CMD_STATUS_FAULT_ENTRIES : Fld := ⟨A.CMD_STATUS, 4, 0⟩
/-- CMD_FAULT: the register's address. -/
def A.CMD_FAULT : Nat := 0x0D0008
def F.CMD_FAULT_OVERWRITTEN : Fld := ⟨A.CMD_FAULT, 15, 0⟩
/-- CMD_RECIPE: the register's address. -/
def A.CMD_RECIPE : Nat := 0x0D000C
def F.CMD_RECIPE_RUN_EN : Fld := ⟨A.CMD_RECIPE, 31, 31⟩
def F.CMD_RECIPE_RUNNING : Fld := ⟨A.CMD_RECIPE, 30, 30⟩
def F.CMD_RECIPE_NUMBER : Fld := ⟨A.CMD_RECIPE, 21, 16⟩
def F.CMD_RECIPE_STEP : Fld := ⟨A.CMD_RECIPE, 15, 8⟩
def F.CMD_RECIPE_QUEUED : Fld := ⟨A.CMD_RECIPE, 3, 0⟩
/-- CMD_RECIPE_EN_LO: the register's address. -/
def A.CMD_RECIPE_EN_LO : Nat := 0x0D0010
def F.CMD_RECIPE_EN_LO_EN : Fld := ⟨A.CMD_RECIPE_EN_LO, 31, 0⟩
/-- CMD_RECIPE_EN_HI: the register's address. -/
def A.CMD_RECIPE_EN_HI : Nat := 0x0D0014
def F.CMD_RECIPE_EN_HI_EN : Fld := ⟨A.CMD_RECIPE_EN_HI, 31, 0⟩
/-- CORD_STRAPS: the register's address. -/
def A.CORD_STRAPS : Nat := 0x0E0000
def F.CORD_STRAPS_MASTER : Fld := ⟨A.CORD_STRAPS, 4, 4⟩
def F.CORD_STRAPS_ROLE : Fld := ⟨A.CORD_STRAPS, 3, 3⟩
def F.CORD_STRAPS_ID : Fld := ⟨A.CORD_STRAPS, 2, 0⟩
/-- CORD_CTRL: the register's address. -/
def A.CORD_CTRL : Nat := 0x0E0004
def F.CORD_CTRL_RELAY : Fld := ⟨A.CORD_CTRL, 20, 16⟩
def F.CORD_CTRL_LINK_TIMEOUT_US : Fld := ⟨A.CORD_CTRL, 15, 0⟩
/-- CORD_SYNC_DLY: the register's address. -/
def A.CORD_SYNC_DLY : Nat := 0x0E0008
def F.CORD_SYNC_DLY_DLY_PS : Fld := ⟨A.CORD_SYNC_DLY, 17, 0⟩
/-- CORD_STATUS: the register's address. -/
def A.CORD_STATUS : Nat := 0x0E000C
def F.CORD_STATUS_FORMED : Fld := ⟨A.CORD_STATUS, 31, 31⟩
def F.CORD_STATUS_SPLIT : Fld := ⟨A.CORD_STATUS, 30, 30⟩
def F.CORD_STATUS_CAUSE : Fld := ⟨A.CORD_STATUS, 29, 26⟩
def F.CORD_STATUS_SIZE : Fld := ⟨A.CORD_STATUS, 19, 16⟩
def F.CORD_STATUS_PRESENT : Fld := ⟨A.CORD_STATUS, 7, 0⟩
/-- CORD_LINK_n: the register's address. -/
def A.CORD_LINK (n : Nat) : Nat := 0x0E0010 + 4 * n
def F.CORD_LINK_LINK (n : Nat) : Fld := ⟨A.CORD_LINK n, 31, 31⟩
def F.CORD_LINK_UNORDERED (n : Nat) : Fld := ⟨A.CORD_LINK n, 30, 30⟩
def F.CORD_LINK_TIMEOUTS (n : Nat) : Fld := ⟨A.CORD_LINK n, 15, 0⟩
/-- CORD_RELAY_MAP: the register's address. -/
def A.CORD_RELAY_MAP : Nat := 0x0E0018
def F.CORD_RELAY_MAP_PORT : Fld := ⟨A.CORD_RELAY_MAP, 23, 0⟩
/-- CORD_EPOCH: the register's address. -/
def A.CORD_EPOCH : Nat := 0x0E001C
def F.CORD_EPOCH_EPOCH : Fld := ⟨A.CORD_EPOCH, 31, 16⟩
def F.CORD_EPOCH_SYNC_MISS : Fld := ⟨A.CORD_EPOCH, 15, 0⟩
/-- CORD_AUTH: the register's address. -/
def A.CORD_AUTH : Nat := 0x0E0020
def F.CORD_AUTH_HB_S_OK : Fld := ⟨A.CORD_AUTH, 2, 2⟩
def F.CORD_AUTH_HB_N_OK : Fld := ⟨A.CORD_AUTH, 1, 1⟩
def F.CORD_AUTH_HOLDER : Fld := ⟨A.CORD_AUTH, 0, 0⟩
/-- HK_CTRL: the register's address. -/
def A.HK_CTRL : Nat := 0x0F0000
def F.HK_CTRL_POLL_EN : Fld := ⟨A.HK_CTRL, 31, 31⟩
def F.HK_CTRL_ROUND_US : Fld := ⟨A.HK_CTRL, 19, 0⟩
/-- HK_STATUS: the register's address. -/
def A.HK_STATUS : Nat := 0x0F0004
def F.HK_STATUS_OVERRUN : Fld := ⟨A.HK_STATUS, 31, 31⟩
def F.HK_STATUS_INJ_PEND : Fld := ⟨A.HK_STATUS, 30, 30⟩
def F.HK_STATUS_RUNNING : Fld := ⟨A.HK_STATUS, 29, 29⟩
def F.HK_STATUS_ENTRY : Fld := ⟨A.HK_STATUS, 21, 16⟩
/-- HK_DATA: the register's address. -/
def A.HK_DATA : Nat := 0x0F0008
def F.HK_DATA_UNREAD : Fld := ⟨A.HK_DATA, 31, 31⟩
def F.HK_DATA_TAG : Fld := ⟨A.HK_DATA, 23, 16⟩
def F.HK_DATA_CODE : Fld := ⟨A.HK_DATA, 13, 0⟩
/-- HK_INJECT: the register's address. -/
def A.HK_INJECT : Nat := 0x0F000C
def F.HK_INJECT_GO : Fld := ⟨A.HK_INJECT, 31, 31⟩
def F.HK_INJECT_INPUT : Fld := ⟨A.HK_INJECT, 29, 24⟩
def F.HK_INJECT_TAG : Fld := ⟨A.HK_INJECT, 23, 16⟩
def F.HK_INJECT_SETTLE : Fld := ⟨A.HK_INJECT, 10, 0⟩
/-- HK_INJECT_RESULT: the register's address. -/
def A.HK_INJECT_RESULT : Nat := 0x0F0010
def F.HK_INJECT_RESULT_DONE : Fld := ⟨A.HK_INJECT_RESULT, 31, 31⟩
def F.HK_INJECT_RESULT_CODE : Fld := ⟨A.HK_INJECT_RESULT, 13, 0⟩
/-- THERM_LIMITS: the register's address. -/
def A.THERM_LIMITS : Nat := 0x100000
def F.THERM_LIMITS_WARN_RATE : Fld := ⟨A.THERM_LIMITS, 31, 24⟩
def F.THERM_LIMITS_THR_RATE : Fld := ⟨A.THERM_LIMITS, 23, 16⟩
def F.THERM_LIMITS_THROT_C : Fld := ⟨A.THERM_LIMITS, 15, 8⟩
def F.THERM_LIMITS_SHUT_C : Fld := ⟨A.THERM_LIMITS, 7, 0⟩
/-- THERM_STEP: the register's address. -/
def A.THERM_STEP : Nat := 0x100004
def F.THERM_STEP_RELEASE_MS : Fld := ⟨A.THERM_STEP, 31, 16⟩
def F.THERM_STEP_HYST_C : Fld := ⟨A.THERM_STEP, 15, 8⟩
def F.THERM_STEP_STEP_MS : Fld := ⟨A.THERM_STEP, 7, 0⟩
/-- THERM_STATUS: the register's address. -/
def A.THERM_STATUS : Nat := 0x100008
def F.THERM_STATUS_SHUT : Fld := ⟨A.THERM_STATUS, 31, 31⟩
def F.THERM_STATUS_MINDUTY_OCT : Fld := ⟨A.THERM_STATUS, 23, 16⟩
def F.THERM_STATUS_SUBST_OCT : Fld := ⟨A.THERM_STATUS, 15, 8⟩
def F.THERM_STATUS_WARN_OCT : Fld := ⟨A.THERM_STATUS, 7, 0⟩
/-- THERM_SENS_FAIL: the register's address. -/
def A.THERM_SENS_FAIL : Nat := 0x10000C
def F.THERM_SENS_FAIL_FAIL : Fld := ⟨A.THERM_SENS_FAIL, 28, 0⟩
/-- THERM_OCT_g: the register's address. -/
def A.THERM_OCT (n : Nat) : Nat := 0x100040 + 4 * n
def F.THERM_OCT_TEMP (n : Nat) : Fld := ⟨A.THERM_OCT n, 31, 16⟩
def F.THERM_OCT_RATE (n : Nat) : Fld := ⟨A.THERM_OCT n, 15, 4⟩
def F.THERM_OCT_LEVEL (n : Nat) : Fld := ⟨A.THERM_OCT n, 3, 0⟩
/-- THERM_TEMP_s: the register's address. -/
def A.THERM_TEMP (n : Nat) : Nat := 0x100100 + 4 * n
def F.THERM_TEMP_FAILED (n : Nat) : Fld := ⟨A.THERM_TEMP n, 31, 31⟩
def F.THERM_TEMP_SUBST (n : Nat) : Fld := ⟨A.THERM_TEMP n, 30, 30⟩
def F.THERM_TEMP_TEMP (n : Nat) : Fld := ⟨A.THERM_TEMP n, 15, 0⟩
/-- THERM_NTC_A_n: the register's address. -/
def A.THERM_NTC_A (n : Nat) : Nat := 0x100200 + 8 * n
def F.THERM_NTC_A_NOM_10OHM (n : Nat) : Fld := ⟨A.THERM_NTC_A n, 31, 16⟩
def F.THERM_NTC_A_SER_10OHM (n : Nat) : Fld := ⟨A.THERM_NTC_A n, 15, 0⟩
/-- THERM_NTC_B_n: the register's address. -/
def A.THERM_NTC_B (n : Nat) : Nat := 0x100204 + 8 * n
def F.THERM_NTC_B_BETA_K (n : Nat) : Fld := ⟨A.THERM_NTC_B n, 15, 0⟩
/-- CAL_CTRL: the register's address. -/
def A.CAL_CTRL : Nat := 0x110000
def F.CAL_CTRL_AUTO_EN : Fld := ⟨A.CAL_CTRL, 31, 31⟩
def F.CAL_CTRL_AUTO_KINDS : Fld := ⟨A.CAL_CTRL, 27, 24⟩
def F.CAL_CTRL_CAL_DELTA : Fld := ⟨A.CAL_CTRL, 10, 0⟩
/-- CAL_RUNCFG: the register's address. -/
def A.CAL_RUNCFG : Nat := 0x110004
def F.CAL_RUNCFG_N : Fld := ⟨A.CAL_RUNCFG, 16, 0⟩
/-- CAL_LIMITS: the register's address. -/
def A.CAL_LIMITS : Nat := 0x110008
def F.CAL_LIMITS_WALK_STEP : Fld := ⟨A.CAL_LIMITS, 31, 16⟩
def F.CAL_LIMITS_OFS_STEP : Fld := ⟨A.CAL_LIMITS, 15, 0⟩
/-- CAL_STATUS: the register's address. -/
def A.CAL_STATUS : Nat := 0x11000C
def F.CAL_STATUS_ABANDONED_OCT : Fld := ⟨A.CAL_STATUS, 23, 16⟩
def F.CAL_STATUS_REJECT_OCT : Fld := ⟨A.CAL_STATUS, 15, 8⟩
def F.CAL_STATUS_BUSY_OCT : Fld := ⟨A.CAL_STATUS, 7, 0⟩
/-- CAL_DEV: the register's address. -/
def A.CAL_DEV : Nat := 0x110010
def F.CAL_DEV_PKO_BUSY : Fld := ⟨A.CAL_DEV, 31, 31⟩
def F.CAL_DEV_PKO_PEND : Fld := ⟨A.CAL_DEV, 30, 30⟩
def F.CAL_DEV_PKO_REJ : Fld := ⟨A.CAL_DEV, 29, 29⟩
def F.CAL_DEV_PKO_T_LAST : Fld := ⟨A.CAL_DEV, 15, 0⟩
/-- CAL_OCT_STATUS_g: the register's address. -/
def A.CAL_OCT_STATUS (n : Nat) : Nat := 0x110100 + 4 * n
def F.CAL_OCT_STATUS_BUSY (n : Nat) : Fld := ⟨A.CAL_OCT_STATUS n, 31, 31⟩
def F.CAL_OCT_STATUS_PENDING (n : Nat) : Fld := ⟨A.CAL_OCT_STATUS n, 30, 30⟩
def F.CAL_OCT_STATUS_WAIT (n : Nat) : Fld := ⟨A.CAL_OCT_STATUS n, 29, 27⟩
def F.CAL_OCT_STATUS_FE (n : Nat) : Fld := ⟨A.CAL_OCT_STATUS n, 26, 21⟩
def F.CAL_OCT_STATUS_KINDS (n : Nat) : Fld := ⟨A.CAL_OCT_STATUS n, 20, 17⟩
def F.CAL_OCT_STATUS_T_LAST (n : Nat) : Fld := ⟨A.CAL_OCT_STATUS n, 15, 0⟩
/-- NVS_STATUS: the register's address. -/
def A.NVS_STATUS : Nat := 0x120000
def F.NVS_STATUS_WRITE_FAIL : Fld := ⟨A.NVS_STATUS, 31, 31⟩
def F.NVS_STATUS_FULL : Fld := ⟨A.NVS_STATUS, 30, 30⟩
def F.NVS_STATUS_COMPACTING : Fld := ⟨A.NVS_STATUS, 29, 29⟩
def F.NVS_STATUS_HALF : Fld := ⟨A.NVS_STATUS, 28, 28⟩
def F.NVS_STATUS_JOURNAL_EMPTY : Fld := ⟨A.NVS_STATUS, 27, 27⟩
def F.NVS_STATUS_QUEUE : Fld := ⟨A.NVS_STATUS, 26, 21⟩
def F.NVS_STATUS_FILL_KIB : Fld := ⟨A.NVS_STATUS, 10, 0⟩
/-- NVS_GEN: the register's address. -/
def A.NVS_GEN : Nat := 0x120004
def F.NVS_GEN_GENERATION : Fld := ⟨A.NVS_GEN, 31, 0⟩
/-- NVS_BOOT: the register's address. -/
def A.NVS_BOOT : Nat := 0x120008
def F.NVS_BOOT_FALLBACK : Fld := ⟨A.NVS_BOOT, 31, 31⟩
def F.NVS_BOOT_TRIAL : Fld := ⟨A.NVS_BOOT, 30, 30⟩
def F.NVS_BOOT_NEXT_SLOT : Fld := ⟨A.NVS_BOOT, 1, 1⟩
def F.NVS_BOOT_SLOT : Fld := ⟨A.NVS_BOOT, 0, 0⟩
/-- LIFE_CTRL: the register's address. -/
def A.LIFE_CTRL : Nat := 0x120010
def F.LIFE_CTRL_CYCLE_C : Fld := ⟨A.LIFE_CTRL, 23, 16⟩
def F.LIFE_CTRL_FLUSH_S : Fld := ⟨A.LIFE_CTRL, 11, 0⟩
/-- LIFE_EM_RATED: the register's address. -/
def A.LIFE_EM_RATED : Nat := 0x120014
def F.LIFE_EM_RATED_RATED_E9 : Fld := ⟨A.LIFE_EM_RATED, 31, 0⟩
/-- LIFE_FORECAST: the register's address. -/
def A.LIFE_FORECAST : Nat := 0x120018
def F.LIFE_FORECAST_DIE_USED : Fld := ⟨A.LIFE_FORECAST, 31, 16⟩
def F.LIFE_FORECAST_DIE_YEARS : Fld := ⟨A.LIFE_FORECAST, 15, 0⟩
/-- LIFE_EM_WORST: the register's address. -/
def A.LIFE_EM_WORST : Nat := 0x12001C
def F.LIFE_EM_WORST_EM_USED : Fld := ⟨A.LIFE_EM_WORST, 31, 16⟩
def F.LIFE_EM_WORST_EM : Fld := ⟨A.LIFE_EM_WORST, 5, 0⟩
/-- LIFE_EVENT: the register's address. -/
def A.LIFE_EVENT : Nat := 0x120020
def F.LIFE_EVENT_GO : Fld := ⟨A.LIFE_EVENT, 31, 31⟩
def F.LIFE_EVENT_DATA : Fld := ⟨A.LIFE_EVENT, 15, 0⟩
/-- TALLY_DUMP_CFG: the register's address. -/
def A.TALLY_DUMP_CFG : Nat := 0x130000
def F.TALLY_DUMP_CFG_DUMP_NOW : Fld := ⟨A.TALLY_DUMP_CFG, 31, 31⟩
def F.TALLY_DUMP_CFG_PERIOD_MS : Fld := ⟨A.TALLY_DUMP_CFG, 13, 0⟩
/-- TALLY_DUMP_MASK: the register's address. -/
def A.TALLY_DUMP_MASK : Nat := 0x130004
def F.TALLY_DUMP_MASK_MASK : Fld := ⟨A.TALLY_DUMP_MASK, 20, 0⟩
/-- TALLY_DUMP_STATUS: the register's address. -/
def A.TALLY_DUMP_STATUS : Nat := 0x130008
def F.TALLY_DUMP_STATUS_BUSY : Fld := ⟨A.TALLY_DUMP_STATUS, 31, 31⟩
def F.TALLY_DUMP_STATUS_NUMBER : Fld := ⟨A.TALLY_DUMP_STATUS, 30, 0⟩
/-- TALLY_SNAP: the register's address. -/
def A.TALLY_SNAP : Nat := 0x130010
def F.TALLY_SNAP_SNAP : Fld := ⟨A.TALLY_SNAP, 31, 31⟩
def F.TALLY_SNAP_SEQ : Fld := ⟨A.TALLY_SNAP, 15, 0⟩
/-- TALLY_SNAP_SEC: the register's address. -/
def A.TALLY_SNAP_SEC : Nat := 0x130014
def F.TALLY_SNAP_SEC_SEC : Fld := ⟨A.TALLY_SNAP_SEC, 31, 0⟩
/-- TALLY_SNAP_NS: the register's address. -/
def A.TALLY_SNAP_NS : Nat := 0x130018
def F.TALLY_SNAP_NS_NS : Fld := ⟨A.TALLY_SNAP_NS, 31, 0⟩
/-- TALLY_STATUS: the register's address. -/
def A.TALLY_STATUS : Nat := 0x13001C
def F.TALLY_STATUS_SAT_ANY : Fld := ⟨A.TALLY_STATUS, 31, 31⟩
/-- TALLY_BW_CFG: the register's address. -/
def A.TALLY_BW_CFG : Nat := 0x130020
def F.TALLY_BW_CFG_WINDOW_US : Fld := ⟨A.TALLY_BW_CFG, 19, 0⟩
/-- TALLY_BW_p: the register's address. -/
def A.TALLY_BW (n : Nat) : Nat := 0x130040 + 4 * n
def F.TALLY_BW_BYTES (n : Nat) : Fld := ⟨A.TALLY_BW n, 31, 0⟩
/-- TALLY_BW_PEAK_p: the register's address. -/
def A.TALLY_BW_PEAK (n : Nat) : Nat := 0x130060 + 4 * n
def F.TALLY_BW_PEAK_PEAK (n : Nat) : Fld := ⟨A.TALLY_BW_PEAK n, 31, 0⟩
/-- TALLY_SAMPLE_CFG: the register's address. -/
def A.TALLY_SAMPLE_CFG : Nat := 0x130080
def F.TALLY_SAMPLE_CFG_EN : Fld := ⟨A.TALLY_SAMPLE_CFG, 31, 31⟩
def F.TALLY_SAMPLE_CFG_PERIOD_US : Fld := ⟨A.TALLY_SAMPLE_CFG, 15, 0⟩
/-- TALLY_SAMPLE_STATUS: the register's address. -/
def A.TALLY_SAMPLE_STATUS : Nat := 0x130084
def F.TALLY_SAMPLE_STATUS_NEXT : Fld := ⟨A.TALLY_SAMPLE_STATUS, 3, 0⟩
/-- TALLY_SAMPLE_n: the register's address. -/
def A.TALLY_SAMPLE (n : Nat) : Nat := 0x1300C0 + 4 * n
def F.TALLY_SAMPLE_VALID (n : Nat) : Fld := ⟨A.TALLY_SAMPLE n, 31, 31⟩
def F.TALLY_SAMPLE_RUNNING (n : Nat) : Fld := ⟨A.TALLY_SAMPLE n, 30, 30⟩
def F.TALLY_SAMPLE_RECIPE (n : Nat) : Fld := ⟨A.TALLY_SAMPLE n, 29, 24⟩
def F.TALLY_SAMPLE_STEP (n : Nat) : Fld := ⟨A.TALLY_SAMPLE n, 23, 16⟩
def F.TALLY_SAMPLE_SAMPLE (n : Nat) : Fld := ⟨A.TALLY_SAMPLE n, 15, 0⟩
/-- PWR_PMBUS: the register's address. -/
def A.PWR_PMBUS : Nat := 0x140000
def F.PWR_PMBUS_ADDR : Fld := ⟨A.PWR_PMBUS, 6, 0⟩
/-- PWR_PARK: the register's address. -/
def A.PWR_PARK : Nat := 0x140004
def F.PWR_PARK_WAKE_UART : Fld := ⟨A.PWR_PARK, 17, 17⟩
def F.PWR_PARK_WAKE_SPI : Fld := ⟨A.PWR_PARK, 16, 16⟩
def F.PWR_PARK_PARK_MV : Fld := ⟨A.PWR_PARK, 9, 0⟩
/-- PWR_AVS_CTRL: the register's address. -/
def A.PWR_AVS_CTRL : Nat := 0x140100
def F.PWR_AVS_CTRL_PERIOD : Fld := ⟨A.PWR_AVS_CTRL, 27, 16⟩
def F.PWR_AVS_CTRL_STEP_MV : Fld := ⟨A.PWR_AVS_CTRL, 12, 8⟩
def F.PWR_AVS_CTRL_LOOP_EN : Fld := ⟨A.PWR_AVS_CTRL, 0, 0⟩
/-- PWR_AVS_STATUS: the register's address. -/
def A.PWR_AVS_STATUS : Nat := 0x140104
def F.PWR_AVS_STATUS_SHED_COUNT : Fld := ⟨A.PWR_AVS_STATUS, 30, 24⟩
def F.PWR_AVS_STATUS_REG_FAULT : Fld := ⟨A.PWR_AVS_STATUS, 18, 18⟩
def F.PWR_AVS_STATUS_AT_CEILING : Fld := ⟨A.PWR_AVS_STATUS, 17, 17⟩
def F.PWR_AVS_STATUS_RATE_FLOOR : Fld := ⟨A.PWR_AVS_STATUS, 16, 16⟩
def F.PWR_AVS_STATUS_VDD_MV : Fld := ⟨A.PWR_AVS_STATUS, 9, 0⟩
/-- PWR_AVS_RATE: the register's address. -/
def A.PWR_AVS_RATE : Nat := 0x140108
def F.PWR_AVS_RATE_REQUIRED : Fld := ⟨A.PWR_AVS_RATE, 31, 16⟩
def F.PWR_AVS_RATE_MEASURED : Fld := ⟨A.PWR_AVS_RATE, 15, 0⟩
/-- TDC_FE_CFG: the register's address. -/
def A.TDC_FE_CFG (u : Nat) : Nat := 0x200000 + 256 * u
def F.TDC_FE_CFG_EDGE_EN (u : Nat) : Fld := ⟨A.TDC_FE_CFG u, 7, 0⟩
/-- TDC_FE_STATUS: the register's address. -/
def A.TDC_FE_STATUS (u : Nat) : Nat := 0x200004 + 256 * u
def F.TDC_FE_STATUS_TABLE_SRC (u : Nat) : Fld := ⟨A.TDC_FE_STATUS u, 31, 30⟩
def F.TDC_FE_STATUS_DLL_LOCK (u : Nat) : Fld := ⟨A.TDC_FE_STATUS u, 24, 24⟩
def F.TDC_FE_STATUS_OCCUPIED (u : Nat) : Fld := ⟨A.TDC_FE_STATUS u, 23, 16⟩
def F.TDC_FE_STATUS_TRIM (u : Nat) : Fld := ⟨A.TDC_FE_STATUS u, 5, 0⟩
/-- TDC_FE_SKEW_A: the register's address. -/
def A.TDC_FE_SKEW_A (u : Nat) : Nat := 0x200008 + 256 * u
def F.TDC_FE_SKEW_A_SKEW3 (u : Nat) : Fld := ⟨A.TDC_FE_SKEW_A u, 31, 24⟩
def F.TDC_FE_SKEW_A_SKEW2 (u : Nat) : Fld := ⟨A.TDC_FE_SKEW_A u, 23, 16⟩
def F.TDC_FE_SKEW_A_SKEW1 (u : Nat) : Fld := ⟨A.TDC_FE_SKEW_A u, 15, 8⟩
def F.TDC_FE_SKEW_A_SKEW0 (u : Nat) : Fld := ⟨A.TDC_FE_SKEW_A u, 7, 0⟩
/-- TDC_FE_SKEW_B: the register's address. -/
def A.TDC_FE_SKEW_B (u : Nat) : Nat := 0x20000C + 256 * u
def F.TDC_FE_SKEW_B_SKEW7 (u : Nat) : Fld := ⟨A.TDC_FE_SKEW_B u, 31, 24⟩
def F.TDC_FE_SKEW_B_SKEW6 (u : Nat) : Fld := ⟨A.TDC_FE_SKEW_B u, 23, 16⟩
def F.TDC_FE_SKEW_B_SKEW5 (u : Nat) : Fld := ⟨A.TDC_FE_SKEW_B u, 15, 8⟩
def F.TDC_FE_SKEW_B_SKEW4 (u : Nat) : Fld := ⟨A.TDC_FE_SKEW_B u, 7, 0⟩
/-- TDC_FE_LAST_FLAGS: the register's address. -/
def A.TDC_FE_LAST_FLAGS (u : Nat) : Nat := 0x200010 + 256 * u
def F.TDC_FE_LAST_FLAGS_MULTI (u : Nat) : Fld := ⟨A.TDC_FE_LAST_FLAGS u, 9, 9⟩
def F.TDC_FE_LAST_FLAGS_OPEN (u : Nat) : Fld := ⟨A.TDC_FE_LAST_FLAGS u, 8, 8⟩
def F.TDC_FE_LAST_FLAGS_PRESENT (u : Nat) : Fld := ⟨A.TDC_FE_LAST_FLAGS u, 7, 0⟩
/-- TDC_FE_LAST_n: the register's address. -/
def A.TDC_FE_LAST (u : Nat) (n : Nat) : Nat := 0x200014 + 256 * u + 4 * n
def F.TDC_FE_LAST_VALID (u : Nat) (n : Nat) : Fld := ⟨A.TDC_FE_LAST u n, 31, 31⟩
def F.TDC_FE_LAST_TIME (u : Nat) (n : Nat) : Fld := ⟨A.TDC_FE_LAST u n, 22, 0⟩
/-- RX_FE_CFG: the register's address. -/
def A.RX_FE_CFG (u : Nat) : Nat := 0x220000 + 256 * u
def F.RX_FE_CFG_ADAPT_EN (u : Nat) : Fld := ⟨A.RX_FE_CFG u, 16, 16⟩
def F.RX_FE_CFG_OFF (u : Nat) : Fld := ⟨A.RX_FE_CFG u, 8, 8⟩
def F.RX_FE_CFG_RANGE (u : Nat) : Fld := ⟨A.RX_FE_CFG u, 1, 0⟩
/-- RX_FE_THR_A: the register's address. -/
def A.RX_FE_THR_A (u : Nat) : Nat := 0x220004 + 256 * u
def F.RX_FE_THR_A_T1 (u : Nat) : Fld := ⟨A.RX_FE_THR_A u, 25, 16⟩
def F.RX_FE_THR_A_T0 (u : Nat) : Fld := ⟨A.RX_FE_THR_A u, 9, 0⟩
/-- RX_FE_THR_B: the register's address. -/
def A.RX_FE_THR_B (u : Nat) : Nat := 0x220008 + 256 * u
def F.RX_FE_THR_B_T3 (u : Nat) : Fld := ⟨A.RX_FE_THR_B u, 25, 16⟩
def F.RX_FE_THR_B_T2 (u : Nat) : Fld := ⟨A.RX_FE_THR_B u, 9, 0⟩
/-- RX_FE_ADAPT: the register's address. -/
def A.RX_FE_ADAPT (u : Nat) : Nat := 0x22000C + 256 * u
def F.RX_FE_ADAPT_TARGET (u : Nat) : Fld := ⟨A.RX_FE_ADAPT u, 31, 16⟩
def F.RX_FE_ADAPT_TAU (u : Nat) : Fld := ⟨A.RX_FE_ADAPT u, 9, 0⟩
/-- RX_FE_ADAPT_LIM: the register's address. -/
def A.RX_FE_ADAPT_LIM (u : Nat) : Nat := 0x220010 + 256 * u
def F.RX_FE_ADAPT_LIM_T0_MAX (u : Nat) : Fld := ⟨A.RX_FE_ADAPT_LIM u, 25, 16⟩
def F.RX_FE_ADAPT_LIM_T0_MIN (u : Nat) : Fld := ⟨A.RX_FE_ADAPT_LIM u, 9, 0⟩
/-- RX_FE_ADAPT_STATE: the register's address. -/
def A.RX_FE_ADAPT_STATE (u : Nat) : Nat := 0x220014 + 256 * u
def F.RX_FE_ADAPT_STATE_DELTA (u : Nat) : Fld := ⟨A.RX_FE_ADAPT_STATE u, 26, 16⟩
/-- RX_FE_BG: the register's address. -/
def A.RX_FE_BG (u : Nat) : Nat := 0x220018 + 256 * u
def F.RX_FE_BG_VALID (u : Nat) : Fld := ⟨A.RX_FE_BG u, 31, 31⟩
def F.RX_FE_BG_BG_RATE (u : Nat) : Fld := ⟨A.RX_FE_BG u, 22, 0⟩
/-- RX_FE_DC: the register's address. -/
def A.RX_FE_DC (u : Nat) : Nat := 0x22001C + 256 * u
def F.RX_FE_DC_DC_10NA (u : Nat) : Fld := ⟨A.RX_FE_DC u, 15, 0⟩
/-- RX_FE_STATUS: the register's address. -/
def A.RX_FE_STATUS (u : Nat) : Nat := 0x220020 + 256 * u
def F.RX_FE_STATUS_GAIN_PEND (u : Nat) : Fld := ⟨A.RX_FE_STATUS u, 31, 31⟩
def F.RX_FE_STATUS_THR_PEND (u : Nat) : Fld := ⟨A.RX_FE_STATUS u, 30, 30⟩
def F.RX_FE_STATUS_ADAPT_STARVED (u : Nat) : Fld := ⟨A.RX_FE_STATUS u, 29, 29⟩
def F.RX_FE_STATUS_AT_MAX (u : Nat) : Fld := ⟨A.RX_FE_STATUS u, 28, 28⟩
def F.RX_FE_STATUS_AT_MIN (u : Nat) : Fld := ⟨A.RX_FE_STATUS u, 27, 27⟩
def F.RX_FE_STATUS_DC_OVER (u : Nat) : Fld := ⟨A.RX_FE_STATUS u, 26, 26⟩
def F.RX_FE_STATUS_SAT_SEEN (u : Nat) : Fld := ⟨A.RX_FE_STATUS u, 25, 25⟩
def F.RX_FE_STATUS_SUBST (u : Nat) : Fld := ⟨A.RX_FE_STATUS u, 24, 24⟩
def F.RX_FE_STATUS_RANGE_NOW (u : Nat) : Fld := ⟨A.RX_FE_STATUS u, 1, 0⟩
/-- ECHO_FE_OFFSET: the register's address. -/
def A.ECHO_FE_OFFSET (u : Nat) : Nat := 0x240000 + 256 * u
def F.ECHO_FE_OFFSET_OFFSET (u : Nat) : Fld := ⟨A.ECHO_FE_OFFSET u, 15, 0⟩
/-- ECHO_FE_TEMP: the register's address. -/
def A.ECHO_FE_TEMP (u : Nat) : Nat := 0x240004 + 256 * u
def F.ECHO_FE_TEMP_TC (u : Nat) : Fld := ⟨A.ECHO_FE_TEMP u, 31, 16⟩
def F.ECHO_FE_TEMP_CAL_TEMP (u : Nat) : Fld := ⟨A.ECHO_FE_TEMP u, 15, 0⟩
/-- ECHO_FE_AMP: the register's address. -/
def A.ECHO_FE_AMP (u : Nat) : Nat := 0x240008 + 256 * u
def F.ECHO_FE_AMP_SLOPE (u : Nat) : Fld := ⟨A.ECHO_FE_AMP u, 31, 16⟩
def F.ECHO_FE_AMP_W0 (u : Nat) : Fld := ⟨A.ECHO_FE_AMP u, 15, 0⟩
/-- ECHO_FE_WALK_n: the register's address. -/
def A.ECHO_FE_WALK (u : Nat) (n : Nat) : Nat := 0x240010 + 256 * u + 4 * n
def F.ECHO_FE_WALK_W (u : Nat) (n : Nat) : Fld := ⟨A.ECHO_FE_WALK u n, 31, 16⟩
def F.ECHO_FE_WALK_WALK (u : Nat) (n : Nat) : Fld := ⟨A.ECHO_FE_WALK u n, 15, 0⟩

end Sys2Proof.Machine
end

