-- ==== Sys2Proof/Machine/RegMap.lean ====
section
/-! DEFINITION. The register map of the QPL-2564 (R2, R459, R460, Tables 20-1 to 20-3): every register
with its address, its sets, its fields, their access codes, reset values, stated ranges and the modes in
which they may be changed. The rows are the register tables of the chapters 01 to 19, in address order. -/

namespace Sys2Proof.Machine

/-- The access codes of Table 0-1 (R2). -/
inductive Access where
  | rd | rw | w1c | wr | rdc
  deriving DecidableEq, Repr

/-- The modes in which a field may be changed (R480 judges a gate only when the value changes). -/
inductive Gate where
  | always
  | standbyConfig
  | configOnly
  | standbyConfigService
  deriving DecidableEq, Repr

/-- When R408 journals the RW fields of a register. -/
inductive JournalKind where
  | onWrite
  | atCommit
  | never
  deriving DecidableEq, Repr

/-- Resets that depend on the register's place in its set, or on the factory. -/
inductive ResetKind where
  | const | emitterCfg | walk | echoMap | burst | halfBand | matrix | macHi | macLo | devId
  deriving DecidableEq, Repr

/-- One field of a register table: bits [hi:lo], access code, reset value, stated range and gate. -/
structure FieldDef where
  name  : String
  hi    : Nat
  lo    : Nat
  acc   : Access
  reset : Nat
  min   : Nat
  max   : Nat
  gate  : Gate
  deriving DecidableEq, Repr

/-- One register, or one array of registers: unit u and index n lie at base + su * u + si * n. -/
structure RegDef where
  name   : String
  base   : Nat
  nu     : Nat
  su     : Nat
  ni     : Nat
  si     : Nat
  journal : JournalKind
  kind   : ResetKind
  fields : List FieldDef
  deriving DecidableEq, Repr

/-- Registers of the block DEV (19_startup_reset_power.md). -/
def regsDEV : List RegDef := [
  ⟨"DEV_ID", 0x000000, 1, 0, 1, 0, .atCommit, .devId,
    [⟨"PART", 31, 16, .rd, 9572, 0, 65535, .always⟩,
     ⟨"STEP", 15, 8, .rd, 0, 0, 255, .always⟩]⟩,
  ⟨"DEV_MODE", 0x000004, 1, 0, 1, 0, .atCommit, .const,
    [⟨"TRANS", 16, 16, .rd, 0, 0, 1, .always⟩,
     ⟨"TARGET", 15, 8, .rd, 0, 0, 255, .always⟩,
     ⟨"MODE", 7, 0, .rd, 0, 0, 255, .always⟩]⟩,
  ⟨"DEV_STATUS", 0x000008, 1, 0, 1, 0, .atCommit, .const,
    [⟨"COMMITTED", 31, 31, .rd, 0, 0, 1, .always⟩,
     ⟨"ST_FAIL", 30, 30, .rd, 0, 0, 1, .always⟩,
     ⟨"SAFE_CAUSE", 20, 16, .rd, 0, 0, 31, .always⟩]⟩,
  ⟨"DEV_BOOT", 0x00000C, 1, 0, 1, 0, .onWrite, .const,
    [⟨"AUTO_MODE", 1, 0, .rw, 0, 0, 2, .always⟩]⟩,
  ⟨"DEV_RESET_CAUSE", 0x000010, 1, 0, 1, 0, .atCommit, .const,
    [⟨"TRIP", 4, 4, .rd, 0, 0, 1, .always⟩,
     ⟨"KIND", 2, 0, .rd, 0, 0, 7, .always⟩]⟩,
  ⟨"DEV_WDT", 0x000014, 1, 0, 1, 0, .onWrite, .const,
    [⟨"TIMEOUT_MS", 31, 16, .rw, 500, 10, 10000, .always⟩,
     ⟨"KICK", 7, 0, .wr, 0, 0, 255, .always⟩]⟩,
  ⟨"DEV_ST_RESULT", 0x000018, 1, 0, 1, 0, .atCommit, .const,
    [⟨"FAIL", 31, 16, .rd, 0, 0, 65535, .always⟩,
     ⟨"RUN", 15, 0, .rd, 0, 0, 65535, .always⟩]⟩,
  ⟨"DEV_ST_DETAIL", 0x00001C, 1, 0, 1, 0, .atCommit, .const,
    [⟨"FIRST_TEST", 31, 24, .rd, 255, 0, 255, .always⟩,
     ⟨"UNIT", 8, 0, .rd, 0, 0, 511, .always⟩]⟩,
  ⟨"DEV_INT_STATUS", 0x000020, 1, 0, 1, 0, .atCommit, .const,
    [⟨"INT", 20, 0, .w1c, 0, 0, 2097151, .always⟩]⟩,
  ⟨"DEV_INT_EN", 0x000024, 1, 0, 1, 0, .atCommit, .const,
    [⟨"EN", 20, 0, .rw, 0, 0, 2097151, .always⟩]⟩]

/-- Registers of the block TIME (02_timebase.md). -/
def regsTIME : List RegDef := [
  ⟨"TIME_REF_CTRL", 0x010000, 1, 0, 1, 0, .atCommit, .const,
    [⟨"RETURN_HOLD", 23, 16, .rw, 100, 1, 255, .always⟩,
     ⟨"REF_SEL", 1, 0, .rw, 0, 0, 2, .always⟩]⟩,
  ⟨"TIME_STATUS", 0x010004, 1, 0, 1, 0, .atCommit, .const,
    [⟨"REF_FREQ_DET", 21, 20, .rd, 0, 0, 3, .always⟩,
     ⟨"STEPPED", 19, 19, .w1c, 0, 0, 1, .always⟩,
     ⟨"XTAL_FAULT", 18, 18, .w1c, 0, 0, 1, .always⟩,
     ⟨"REF_FREQ_FAULT", 17, 17, .w1c, 0, 0, 1, .always⟩,
     ⟨"REF_LOST", 16, 16, .w1c, 0, 0, 1, .always⟩,
     ⟨"REF_PRESENT", 13, 13, .rd, 0, 0, 1, .always⟩,
     ⟨"REF_WARM", 12, 12, .rd, 0, 0, 1, .always⟩,
     ⟨"SYNC_STATE", 9, 8, .rd, 3, 0, 3, .always⟩,
     ⟨"FREQ_STATE", 6, 4, .rd, 5, 0, 7, .always⟩,
     ⟨"QUALITY", 2, 0, .rd, 5, 0, 7, .always⟩]⟩,
  ⟨"TIME_SYNC_CTRL", 0x010010, 1, 0, 1, 0, .atCommit, .const,
    [⟨"PTP_TRANSPORT", 21, 20, .rw, 0, 0, 2, .always⟩,
     ⟨"PTP_LANE", 18, 16, .rw, 0, 0, 7, .always⟩,
     ⟨"PTP_DOMAIN", 14, 8, .rw, 0, 0, 127, .always⟩,
     ⟨"PTP_PROFILE", 2, 2, .rw, 0, 0, 1, .always⟩,
     ⟨"SYNC_SRC", 1, 0, .rw, 0, 0, 2, .always⟩]⟩,
  ⟨"TIME_LOCK", 0x010014, 1, 0, 1, 0, .atCommit, .const,
    [⟨"STEP_THRESH_US", 31, 16, .rw, 100, 1, 65535, .always⟩,
     ⟨"LOCK_NS", 15, 0, .rw, 100, 1, 65535, .always⟩]⟩,
  ⟨"TIME_HOLD", 0x010018, 1, 0, 1, 0, .atCommit, .const,
    [⟨"SYNC_HOLD_S", 15, 0, .rw, 60, 1, 65535, .always⟩]⟩,
  ⟨"TIME_NOW_SEC_HI", 0x010020, 1, 0, 1, 0, .atCommit, .const,
    [⟨"SEC_HI", 15, 0, .rd, 0, 0, 65535, .always⟩]⟩,
  ⟨"TIME_NOW_SEC_LO", 0x010024, 1, 0, 1, 0, .atCommit, .const,
    [⟨"SEC_LO", 31, 0, .rd, 0, 0, 4294967295, .always⟩]⟩,
  ⟨"TIME_NOW_NS", 0x010028, 1, 0, 1, 0, .atCommit, .const,
    [⟨"NS", 31, 0, .rd, 0, 0, 4294967295, .always⟩]⟩,
  ⟨"TIME_NOW_FRAC", 0x01002C, 1, 0, 1, 0, .atCommit, .const,
    [⟨"FRAC", 15, 0, .rd, 0, 0, 65535, .always⟩]⟩,
  ⟨"TIME_RATE_ADJ", 0x010030, 1, 0, 1, 0, .never, .const,
    [⟨"ADJ", 31, 0, .rw, 0, 0, 4294967295, .always⟩]⟩,
  ⟨"TIME_STEP_SEC", 0x010034, 1, 0, 1, 0, .never, .const,
    [⟨"STEP_SEC", 31, 0, .rw, 0, 0, 4294967295, .always⟩]⟩,
  ⟨"TIME_STEP_NS", 0x010038, 1, 0, 1, 0, .never, .const,
    [⟨"STEP_NS", 31, 0, .rw, 0, 0, 4294967295, .always⟩]⟩,
  ⟨"TIME_STEP_CTRL", 0x01003C, 1, 0, 1, 0, .atCommit, .const,
    [⟨"PENDING", 1, 1, .rd, 0, 0, 1, .always⟩,
     ⟨"GO", 0, 0, .wr, 0, 0, 1, .always⟩]⟩,
  ⟨"TIME_TUNE", 0x010040, 1, 0, 1, 0, .atCommit, .const,
    [⟨"MODE", 17, 16, .rw, 0, 0, 2, .always⟩,
     ⟨"CODE", 15, 0, .rw, 32768, 0, 65535, .always⟩]⟩,
  ⟨"TIME_TUNE_POLY", 0x010044, 1, 0, 1, 0, .atCommit, .const,
    [⟨"C2", 31, 16, .rw, 0, 0, 65535, .always⟩,
     ⟨"C1", 15, 0, .rw, 0, 0, 65535, .always⟩]⟩,
  ⟨"TIME_XTAL_COMP", 0x010048, 1, 0, 1, 0, .atCommit, .const,
    [⟨"LEARNED_NOW", 31, 31, .rd, 0, 0, 1, .always⟩,
     ⟨"LEARNED_MAP", 30, 16, .rd, 0, 0, 32767, .always⟩,
     ⟨"CORR_PPB", 15, 0, .rd, 0, 0, 65535, .always⟩]⟩,
  ⟨"TIME_XTAL_BIN15", 0x01004C, 1, 0, 1, 0, .atCommit, .const,
    [⟨"LEARNED", 15, 15, .rd, 0, 0, 1, .always⟩]⟩,
  ⟨"TIME_PPS_CTRL", 0x010050, 1, 0, 1, 0, .atCommit, .const,
    [⟨"CABLE_NS", 31, 24, .rw, 0, 0, 255, .always⟩,
     ⟨"EDGE", 16, 16, .rw, 0, 0, 1, .always⟩,
     ⟨"WIN_US", 15, 0, .rw, 1000, 1, 65535, .always⟩]⟩,
  ⟨"TIME_LANE_LAT_n", 0x010080, 1, 0, 8, 4, .atCommit, .const,
    [⟨"TX_PS", 31, 16, .rw, 0, 0, 65535, .always⟩,
     ⟨"RX_PS", 15, 0, .rw, 0, 0, 65535, .always⟩]⟩]

/-- Registers of the block TDC (03_time_to_digital.md). -/
def regsTDC : List RegDef := [
  ⟨"TDC_CTRL", 0x020000, 1, 0, 1, 0, .atCommit, .const,
    [⟨"CD_LOG2", 12, 8, .rw, 20, 20, 24, .always⟩,
     ⟨"MODE", 0, 0, .rw, 0, 0, 1, .standbyConfig⟩]⟩,
  ⟨"TDC_STATUS", 0x020004, 1, 0, 1, 0, .never, .const,
    [⟨"UNLOCKED_OCT", 15, 8, .rd, 0, 0, 255, .always⟩,
     ⟨"DLL_ALL_LOCKED", 0, 0, .rd, 0, 0, 1, .always⟩]⟩,
  ⟨"TDC_STAT_CTRL", 0x020100, 2, 128, 1, 0, .never, .const,
    [⟨"START", 31, 31, .wr, 0, 0, 1, .always⟩,
     ⟨"ABORT", 30, 30, .wr, 0, 0, 1, .always⟩,
     ⟨"QTY", 25, 25, .rw, 0, 0, 1, .always⟩,
     ⟨"SOURCE", 24, 24, .rw, 0, 0, 1, .always⟩,
     ⟨"EDGE", 23, 21, .rw, 0, 0, 7, .always⟩,
     ⟨"FE", 8, 0, .rw, 0, 0, 263, .always⟩]⟩,
  ⟨"TDC_STAT_N", 0x020104, 2, 128, 1, 0, .never, .const,
    [⟨"N", 16, 0, .rw, 1024, 16, 65536, .always⟩]⟩,
  ⟨"TDC_STAT_GATE", 0x020108, 2, 128, 1, 0, .never, .const,
    [⟨"GATE_HI", 31, 16, .rw, 16383, 0, 16383, .always⟩,
     ⟨"GATE_LO", 15, 0, .rw, 0, 0, 16383, .always⟩]⟩,
  ⟨"TDC_STAT_TIMEOUT", 0x02010C, 2, 128, 1, 0, .never, .const,
    [⟨"TIMEOUT_MS", 15, 0, .rw, 1000, 1, 65535, .always⟩]⟩,
  ⟨"TDC_STAT_STATUS", 0x020110, 2, 128, 1, 0, .never, .const,
    [⟨"BUSY", 31, 31, .rd, 0, 0, 1, .always⟩,
     ⟨"DONE", 30, 30, .rd, 0, 0, 1, .always⟩,
     ⟨"TIMEOUT", 29, 29, .rd, 0, 0, 1, .always⟩,
     ⟨"ABORTED", 28, 28, .rd, 0, 0, 1, .always⟩,
     ⟨"PREEMPTED", 27, 27, .rd, 0, 0, 1, .always⟩,
     ⟨"COUNT", 16, 0, .rd, 0, 0, 131071, .always⟩]⟩,
  ⟨"TDC_STAT_MEAN", 0x020114, 2, 128, 1, 0, .never, .const,
    [⟨"MEAN", 31, 0, .rd, 0, 0, 4294967295, .always⟩]⟩,
  ⟨"TDC_STAT_SD", 0x020118, 2, 128, 1, 0, .never, .const,
    [⟨"SD", 31, 0, .rd, 0, 0, 4294967295, .always⟩]⟩,
  ⟨"TDC_STAT_MIN", 0x02011C, 2, 128, 1, 0, .never, .const,
    [⟨"MIN", 22, 0, .rd, 0, 0, 8388607, .always⟩]⟩,
  ⟨"TDC_STAT_MAX", 0x020120, 2, 128, 1, 0, .never, .const,
    [⟨"MAX", 22, 0, .rd, 0, 0, 8388607, .always⟩]⟩]

/-- Registers of the block RX (04_receiver_front_end.md). -/
def regsRX : List RegDef := [
  ⟨"RX_CTRL", 0x030000, 1, 0, 1, 0, .atCommit, .const,
    [⟨"PEND_LIMIT_MS", 15, 0, .rw, 100, 1, 65535, .always⟩]⟩,
  ⟨"RX_STATUS", 0x030004, 1, 0, 1, 0, .atCommit, .const,
    [⟨"GAIN_STALL_OCT", 15, 8, .w1c, 0, 0, 255, .always⟩,
     ⟨"DC_OVER_OCT", 7, 0, .rd, 0, 0, 255, .always⟩]⟩,
  ⟨"RX_OCT_XBAR", 0x030100, 8, 64, 1, 0, .atCommit, .const,
    [⟨"SUBST_EN", 31, 31, .rw, 0, 0, 1, .always⟩,
     ⟨"CAL_HOLD", 30, 30, .rd, 0, 0, 1, .always⟩,
     ⟨"SWITCH_PEND", 29, 29, .rd, 0, 0, 1, .always⟩,
     ⟨"ROUTED", 28, 28, .rd, 0, 0, 1, .always⟩,
     ⟨"ROUTED_CH", 12, 8, .rd, 0, 0, 31, .always⟩,
     ⟨"SUBST_CH", 4, 0, .rw, 0, 0, 31, .always⟩]⟩,
  ⟨"RX_OCT_BIAS", 0x030104, 8, 64, 1, 0, .atCommit, .const,
    [⟨"OFF_CODE", 31, 20, .rw, 0, 0, 4095, .always⟩,
     ⟨"TEMP_SRC", 18, 16, .rw, 0, 0, 4, .always⟩,
     ⟨"BASE", 11, 0, .rw, 0, 0, 4095, .always⟩]⟩,
  ⟨"RX_OCT_BIAS_LIM", 0x030108, 8, 64, 1, 0, .atCommit, .const,
    [⟨"MAX", 27, 16, .rw, 4095, 0, 4095, .always⟩,
     ⟨"MIN", 11, 0, .rw, 0, 0, 4095, .always⟩]⟩,
  ⟨"RX_OCT_BIAS_POLY", 0x03010C, 8, 64, 1, 0, .atCommit, .const,
    [⟨"C2", 31, 16, .rw, 0, 0, 65535, .always⟩,
     ⟨"C1", 15, 0, .rw, 0, 0, 65535, .always⟩]⟩,
  ⟨"RX_OCT_BIAS_STATUS", 0x030110, 8, 64, 1, 0, .atCommit, .const,
    [⟨"RAMP", 17, 17, .rd, 0, 0, 1, .always⟩,
     ⟨"CLAMPED", 16, 16, .rd, 0, 0, 1, .always⟩,
     ⟨"CODE", 11, 0, .rd, 0, 0, 4095, .always⟩]⟩,
  ⟨"RX_OCT_INJ_CTRL", 0x030114, 8, 64, 1, 0, .atCommit, .const,
    [⟨"GO", 31, 31, .wr, 0, 0, 1, .always⟩,
     ⟨"STOP", 30, 30, .wr, 0, 0, 1, .always⟩,
     ⟨"RUN", 29, 29, .rd, 0, 0, 1, .always⟩,
     ⟨"OWNED", 28, 28, .rd, 0, 0, 1, .always⟩,
     ⟨"CONT", 22, 22, .rw, 0, 0, 1, .always⟩,
     ⟨"TARGET", 21, 16, .rw, 0, 0, 33, .always⟩,
     ⟨"AMPL", 15, 8, .rw, 50, 1, 255, .always⟩,
     ⟨"WIDTH", 3, 0, .rw, 5, 2, 10, .always⟩]⟩,
  ⟨"RX_OCT_INJ_TIME", 0x030118, 8, 64, 1, 0, .atCommit, .const,
    [⟨"DELAY_NS", 26, 16, .rw, 100, 0, 2000, .always⟩,
     ⟨"DELAY_FINE", 4, 0, .rw, 0, 0, 31, .always⟩]⟩,
  ⟨"RX_OCT_INJ_RATE", 0x03011C, 8, 64, 1, 0, .atCommit, .const,
    [⟨"COUNT", 31, 16, .rw, 1, 1, 65535, .always⟩,
     ⟨"PERIOD", 15, 0, .rw, 10, 3, 65535, .always⟩]⟩,
  ⟨"RX_OCT_INJ_STATUS", 0x030120, 8, 64, 1, 0, .atCommit, .const,
    [⟨"SKIPPED", 31, 16, .rdc, 0, 0, 65535, .always⟩,
     ⟨"REF_PS", 15, 0, .rd, 0, 0, 65535, .always⟩]⟩]

/-- Registers of the block FIRE (05_emitter_firing.md). -/
def regsFIRE : List RegDef := [
  ⟨"FIRE_CTRL", 0x040000, 1, 0, 1, 0, .atCommit, .const,
    [⟨"STAGGER_Q", 31, 16, .rw, 1000, 0, 65535, .standbyConfig⟩,
     ⟨"DITHER_MAX", 8, 0, .rw, 250, 16, 250, .standbyConfig⟩]⟩,
  ⟨"FIRE_FRAME", 0x040004, 1, 0, 1, 0, .atCommit, .const,
    [⟨"SHADOW_NS", 23, 0, .rw, 2000, 1000, 16000000, .always⟩]⟩,
  ⟨"FIRE_FRAME_ACTIVE", 0x040008, 1, 0, 1, 0, .atCommit, .const,
    [⟨"ACTIVE_NS", 23, 0, .rd, 2000, 0, 16777215, .always⟩]⟩,
  ⟨"FIRE_SCHED", 0x04000C, 1, 0, 1, 0, .atCommit, .const,
    [⟨"SWAP", 31, 31, .wr, 0, 0, 1, .always⟩,
     ⟨"PEND", 17, 17, .rd, 0, 0, 1, .always⟩,
     ⟨"ACTIVE", 16, 16, .rd, 0, 0, 1, .always⟩,
     ⟨"SLOTS", 10, 0, .rd, 0, 0, 2047, .always⟩]⟩,
  ⟨"FIRE_SCHED_REFUSED", 0x040010, 1, 0, 1, 0, .atCommit, .const,
    [⟨"REFUSED", 31, 16, .rdc, 0, 0, 65535, .always⟩,
     ⟨"LAST_ENTRY", 10, 0, .rd, 0, 0, 2047, .always⟩]⟩,
  ⟨"FIRE_EYE_CTRL", 0x040014, 1, 0, 1, 0, .atCommit, .const,
    [⟨"WINDOW_MS", 9, 0, .rw, 10, 1, 1000, .configOnly⟩]⟩,
  ⟨"FIRE_DIAG_CTRL", 0x040018, 1, 0, 1, 0, .atCommit, .const,
    [⟨"SWEEP", 31, 31, .wr, 0, 0, 1, .always⟩,
     ⟨"SWEEP_BUSY", 30, 30, .rd, 0, 0, 1, .always⟩,
     ⟨"FAULT_COUNT", 19, 16, .rw, 4, 1, 15, .always⟩,
     ⟨"INTERVAL_MS", 13, 0, .rw, 100, 10, 10000, .always⟩]⟩,
  ⟨"FIRE_SWEEP_MASK_LO", 0x04001C, 1, 0, 1, 0, .never, .const,
    [⟨"MASK", 31, 0, .rw, 0, 0, 4294967295, .always⟩]⟩,
  ⟨"FIRE_SWEEP_MASK_HI", 0x040020, 1, 0, 1, 0, .never, .const,
    [⟨"MASK", 31, 0, .rw, 0, 0, 4294967295, .always⟩]⟩,
  ⟨"FIRE_STATUS", 0x040024, 1, 0, 1, 0, .atCommit, .const,
    [⟨"LASER_PERMIT", 31, 31, .rd, 0, 0, 1, .always⟩,
     ⟨"FIRE_ALLOW", 30, 30, .rd, 0, 0, 1, .always⟩,
     ⟨"PERMIT_N", 29, 29, .rd, 0, 0, 1, .always⟩,
     ⟨"PERMIT_S", 28, 28, .rd, 0, 0, 1, .always⟩,
     ⟨"PERMIT_WAIT", 27, 27, .rd, 0, 0, 1, .always⟩,
     ⟨"ZEROED_OCT", 7, 0, .rd, 0, 0, 255, .always⟩]⟩,
  ⟨"FIRE_OCT_LEVEL", 0x040100, 8, 16, 1, 0, .atCommit, .const,
    [⟨"TEMP_SRC", 18, 16, .rw, 0, 0, 4, .always⟩,
     ⟨"BANK", 12, 12, .rw, 0, 0, 1, .always⟩,
     ⟨"BASE", 11, 0, .rw, 0, 0, 4095, .always⟩]⟩,
  ⟨"FIRE_OCT_LEVEL_LIM", 0x040104, 8, 16, 1, 0, .atCommit, .const,
    [⟨"MAX", 27, 16, .rw, 4095, 0, 4095, .always⟩,
     ⟨"MIN", 11, 0, .rw, 0, 0, 4095, .always⟩]⟩,
  ⟨"FIRE_OCT_LEVEL_STATUS", 0x040108, 8, 16, 1, 0, .atCommit, .const,
    [⟨"ZEROED", 17, 17, .rd, 0, 0, 1, .always⟩,
     ⟨"CLAMPED", 16, 16, .rd, 0, 0, 1, .always⟩,
     ⟨"CODE", 11, 0, .rd, 0, 0, 4095, .always⟩]⟩,
  ⟨"FIRE_BANK_LEVEL_POLY", 0x040200, 2, 16, 1, 0, .atCommit, .const,
    [⟨"L2", 31, 16, .rw, 0, 0, 65535, .always⟩,
     ⟨"L1", 15, 0, .rw, 0, 0, 65535, .always⟩]⟩,
  ⟨"FIRE_BANK_DELAY_POLY", 0x040204, 2, 16, 1, 0, .atCommit, .const,
    [⟨"D2", 31, 16, .rw, 0, 0, 65535, .always⟩,
     ⟨"D1", 15, 0, .rw, 0, 0, 65535, .always⟩]⟩,
  ⟨"FIRE_EM_CFG", 0x041000, 64, 32, 1, 0, .atCommit, .emitterCfg,
    [⟨"EN", 31, 31, .rw, 1, 0, 1, .always⟩,
     ⟨"BANK", 30, 30, .rw, 0, 0, 1, .always⟩,
     ⟨"DOMAIN", 29, 28, .rw, 0, 0, 3, .always⟩,
     ⟨"STAGGER_POS", 27, 22, .rw, 0, 0, 63, .always⟩,
     ⟨"TEMP_SRC", 21, 19, .rw, 0, 0, 4, .always⟩,
     ⟨"WIDTH", 6, 0, .rw, 20, 4, 80, .always⟩]⟩,
  ⟨"FIRE_EM_DELAY", 0x041004, 64, 32, 1, 0, .atCommit, .const,
    [⟨"DLY_BASE", 15, 0, .rw, 0, 0, 65535, .always⟩]⟩,
  ⟨"FIRE_EM_EYE", 0x041008, 64, 32, 1, 0, .atCommit, .const,
    [⟨"BUDGET", 31, 0, .rw, 0, 1, 4294967295, .configOnly⟩]⟩,
  ⟨"FIRE_EM_CS_CFG", 0x04100C, 64, 32, 1, 0, .atCommit, .const,
    [⟨"MIN_RISE", 31, 26, .rw, 8, 1, 63, .always⟩,
     ⟨"SHORT_THR", 25, 16, .rw, 800, 0, 1023, .always⟩,
     ⟨"OPEN_THR", 9, 0, .rw, 100, 1, 1023, .always⟩]⟩,
  ⟨"FIRE_EM_STATUS", 0x041010, 64, 32, 1, 0, .atCommit, .const,
    [⟨"CLEAR", 31, 31, .wr, 0, 0, 1, .always⟩,
     ⟨"FAULT", 30, 30, .rd, 0, 0, 1, .always⟩,
     ⟨"FAULT_KIND", 29, 28, .rd, 0, 0, 3, .always⟩,
     ⟨"EYE_HIT", 27, 27, .w1c, 0, 0, 1, .always⟩,
     ⟨"UNVERIFIED", 26, 26, .rd, 0, 0, 1, .always⟩,
     ⟨"UNVER_RUN", 25, 24, .rd, 0, 0, 3, .always⟩,
     ⟨"PROOF_NEEDED", 23, 23, .rd, 0, 0, 1, .always⟩,
     ⟨"LAST_RESULT", 22, 21, .rd, 0, 0, 3, .always⟩,
     ⟨"DELAY_PS", 15, 0, .rd, 0, 0, 65535, .always⟩]⟩,
  ⟨"FIRE_EM_CS_LAST", 0x041014, 64, 32, 1, 0, .atCommit, .const,
    [⟨"RISE", 31, 26, .rd, 63, 0, 63, .always⟩,
     ⟨"PEAK", 9, 0, .rd, 0, 0, 1023, .always⟩]⟩,
  ⟨"FIRE_EM_EYE_ACC", 0x041018, 64, 32, 1, 0, .atCommit, .const,
    [⟨"ACC", 31, 0, .rd, 0, 0, 4294967295, .always⟩]⟩]

/-- Registers of the block ACQ (06_shot_acquisition.md). -/
def regsACQ : List RegDef := [
  ⟨"ACQ_CTRL", 0x050000, 1, 0, 1, 0, .atCommit, .const,
    [⟨"K", 19, 16, .rw, 1, 1, 8, .standbyConfig⟩,
     ⟨"TRIG_SRC", 9, 8, .rw, 0, 0, 1, .standbyConfig⟩,
     ⟨"AUTO_NR", 0, 0, .rw, 1, 0, 1, .always⟩]⟩,
  ⟨"ACQ_TRIG", 0x050004, 1, 0, 1, 0, .atCommit, .const,
    [⟨"EDGE", 31, 31, .rw, 0, 0, 1, .always⟩,
     ⟨"FILTER", 30, 24, .rw, 2, 1, 127, .always⟩,
     ⟨"DELAY_NS", 23, 0, .rw, 2000, 1300, 1000000, .always⟩]⟩,
  ⟨"ACQ_TRIG_TIMEOUT", 0x050008, 1, 0, 1, 0, .atCommit, .const,
    [⟨"TIMEOUT_MS", 15, 0, .rw, 1000, 1, 65535, .always⟩]⟩,
  ⟨"ACQ_STATUS", 0x05000C, 1, 0, 1, 0, .atCommit, .const,
    [⟨"TRIG_ARMED", 31, 31, .rd, 0, 0, 1, .always⟩,
     ⟨"FORCED_LAST", 30, 30, .rd, 0, 0, 1, .always⟩,
     ⟨"EXT_TRIG_LEVEL", 29, 29, .rd, 0, 0, 1, .always⟩,
     ⟨"PEAK_LOST_OCT", 15, 8, .w1c, 0, 0, 255, .always⟩,
     ⟨"SAT_OCT", 7, 0, .w1c, 0, 0, 255, .always⟩]⟩,
  ⟨"ACQ_PEAK", 0x050010, 1, 0, 1, 0, .atCommit, .const,
    [⟨"MIN_COUNT", 15, 8, .rw, 16, 1, 255, .always⟩,
     ⟨"FACTOR", 3, 0, .rw, 4, 2, 15, .always⟩]⟩,
  ⟨"ACQ_SPY_SEL", 0x050020, 1, 0, 1, 0, .atCommit, .const,
    [⟨"FE", 8, 0, .rw, 0, 0, 263, .always⟩]⟩,
  ⟨"ACQ_SPY_INFO", 0x050024, 1, 0, 1, 0, .atCommit, .const,
    [⟨"GROUP", 31, 16, .rd, 0, 0, 65535, .always⟩,
     ⟨"VALID", 15, 15, .rd, 0, 0, 1, .always⟩,
     ⟨"PEAKS", 4, 0, .rd, 0, 0, 31, .always⟩]⟩,
  ⟨"ACQ_SPY_PEAK_n", 0x050040, 1, 0, 16, 4, .atCommit, .const,
    [⟨"COUNT3", 25, 16, .rd, 0, 0, 1023, .always⟩,
     ⟨"BIN", 12, 0, .rd, 0, 0, 8191, .always⟩]⟩]

/-- Registers of the block ECHO (07_echo_formation.md). -/
def regsECHO : List RegDef := [
  ⟨"ECHO_CTRL", 0x060000, 1, 0, 1, 0, .atCommit, .const,
    [⟨"FORM", 17, 16, .rw, 0, 0, 2, .standbyConfig⟩,
     ⟨"SELECT", 8, 8, .rw, 0, 0, 1, .always⟩,
     ⟨"TOL", 1, 0, .rw, 1, 0, 3, .always⟩]⟩,
  ⟨"ECHO_CLASS_W", 0x060004, 1, 0, 1, 0, .atCommit, .const,
    [⟨"SOFT_W", 25, 16, .rw, 96, 0, 1023, .always⟩,
     ⟨"HARD_W", 9, 0, .rw, 64, 0, 1023, .always⟩]⟩,
  ⟨"ECHO_CLASS_T", 0x060008, 1, 0, 1, 0, .atCommit, .const,
    [⟨"GAP_NS", 31, 24, .rw, 20, 1, 255, .always⟩,
     ⟨"DECAY", 19, 16, .rw, 12, 1, 15, .always⟩,
     ⟨"SOFT_AMP", 9, 0, .rw, 200, 1, 1023, .always⟩]⟩,
  ⟨"ECHO_STATUS", 0x06000C, 1, 0, 1, 0, .atCommit, .const,
    [⟨"OVF_OCT", 15, 8, .w1c, 0, 0, 255, .always⟩,
     ⟨"TRUNC_OCT", 7, 0, .w1c, 0, 0, 255, .always⟩]⟩,
  ⟨"ECHO_STAVE_CFG_n", 0x060100, 1, 0, 64, 4, .atCommit, .const,
    [⟨"UNCONF_SUPP", 1, 1, .rw, 0, 0, 1, .always⟩,
     ⟨"SOFT_SUPP", 0, 0, .rw, 0, 0, 1, .always⟩]⟩]

/-- Registers of the block ANGLE (08_angle_pickoff.md). -/
def regsANGLE : List RegDef := [
  ⟨"ANGLE_CTRL", 0x070000, 1, 0, 1, 0, .atCommit, .const,
    [⟨"RESET_NOW", 31, 31, .wr, 0, 0, 1, .always⟩,
     ⟨"EXTRAP", 8, 8, .rw, 1, 0, 1, .always⟩,
     ⟨"AUTO", 4, 4, .rw, 1, 0, 1, .always⟩,
     ⟨"RUN", 0, 0, .rw, 1, 0, 1, .always⟩]⟩,
  ⟨"ANGLE_EXC", 0x070004, 1, 0, 1, 0, .atCommit, .const,
    [⟨"DIV", 23, 16, .rw, 40, 20, 160, .always⟩,
     ⟨"PHASE", 15, 8, .rw, 0, 0, 255, .always⟩,
     ⟨"AMP", 5, 0, .rw, 19, 0, 63, .always⟩]⟩,
  ⟨"ANGLE_CA", 0x070008, 1, 0, 1, 0, .atCommit, .const,
    [⟨"RESET_MS", 31, 16, .rw, 100, 1, 65535, .always⟩,
     ⟨"RANGE", 1, 0, .rw, 1, 0, 3, .always⟩]⟩,
  ⟨"ANGLE_DEC", 0x07000C, 1, 0, 1, 0, .atCommit, .const,
    [⟨"STAGES", 19, 16, .rw, 9, 4, 9, .always⟩,
     ⟨"SET_SEL", 8, 0, .rw, 0, 0, 511, .always⟩]⟩,
  ⟨"ANGLE_HB_A_n", 0x070010, 1, 0, 3, 4, .atCommit, .halfBand,
    [⟨"H", 17, 0, .rw, 0, 0, 262143, .always⟩]⟩,
  ⟨"ANGLE_HB_B_n", 0x070020, 1, 0, 3, 4, .atCommit, .halfBand,
    [⟨"H", 17, 0, .rw, 0, 0, 262143, .always⟩]⟩,
  ⟨"ANGLE_TRIM", 0x070030, 1, 0, 1, 0, .onWrite, .const,
    [⟨"GAIN", 31, 16, .rw, 0, 0, 65535, .standbyConfigService⟩,
     ⟨"OFFSET", 9, 0, .rw, 0, 0, 1023, .standbyConfigService⟩]⟩,
  ⟨"ANGLE_LIN", 0x070034, 1, 0, 1, 0, .atCommit, .const,
    [⟨"TEMP_SRC", 2, 0, .rw, 0, 0, 4, .always⟩]⟩,
  ⟨"ANGLE_BLANK", 0x070038, 1, 0, 1, 0, .atCommit, .const,
    [⟨"FILL_PCT", 31, 24, .rw, 25, 1, 100, .always⟩,
     ⟨"POST_NS", 23, 12, .rw, 100, 0, 4095, .always⟩,
     ⟨"PRE_NS", 9, 0, .rw, 50, 0, 1000, .always⟩]⟩,
  ⟨"ANGLE_BLANK_CTRL", 0x07003C, 1, 0, 1, 0, .atCommit, .const,
    [⟨"PIN_EN", 1, 1, .rw, 0, 0, 1, .always⟩,
     ⟨"SCHED_EN", 0, 0, .rw, 0, 0, 1, .always⟩]⟩,
  ⟨"ANGLE_BLANK_EM_LO", 0x070040, 1, 0, 1, 0, .atCommit, .const,
    [⟨"MASK", 31, 0, .rw, 0, 0, 4294967295, .always⟩]⟩,
  ⟨"ANGLE_BLANK_EM_HI", 0x070044, 1, 0, 1, 0, .atCommit, .const,
    [⟨"MASK", 31, 0, .rw, 0, 0, 4294967295, .always⟩]⟩,
  ⟨"ANGLE_CM_WIN", 0x07004C, 1, 0, 1, 0, .atCommit, .const,
    [⟨"HI", 27, 16, .rw, 1200, 0, 4095, .always⟩,
     ⟨"LO", 11, 0, .rw, 600, 0, 4095, .always⟩]⟩,
  ⟨"ANGLE_STATUS", 0x070050, 1, 0, 1, 0, .atCommit, .const,
    [⟨"RUNNING", 31, 31, .rd, 0, 0, 1, .always⟩,
     ⟨"EXC_PEND", 30, 30, .rd, 0, 0, 1, .always⟩,
     ⟨"ELEC_FAULT", 29, 29, .w1c, 0, 0, 1, .always⟩,
     ⟨"ELEC_FAULT_P", 28, 28, .rd, 0, 0, 1, .always⟩,
     ⟨"ELEC_FAULT_N", 27, 27, .rd, 0, 0, 1, .always⟩,
     ⟨"INV_LEFT", 20, 16, .rd, 0, 0, 31, .always⟩,
     ⟨"RANGE_NOW", 1, 0, .rd, 1, 0, 3, .always⟩]⟩,
  ⟨"ANGLE_OUT", 0x070054, 1, 0, 1, 0, .atCommit, .const,
    [⟨"INVALID", 31, 31, .rd, 0, 0, 1, .always⟩,
     ⟨"FILLED", 30, 30, .rd, 0, 0, 1, .always⟩,
     ⟨"VALUE", 17, 0, .rd, 0, 0, 262143, .always⟩]⟩,
  ⟨"ANGLE_CHAIN", 0x070058, 1, 0, 1, 0, .atCommit, .const,
    [⟨"GROUP_DELAY_NS", 19, 0, .rd, 64025, 0, 1048575, .always⟩]⟩]

/-- Registers of the block SERVO (09_scan_servo.md). -/
def regsSERVO : List RegDef := [
  ⟨"SERVO_STAVE_MAP_n", 0x080000, 1, 0, 4, 4, .atCommit, .const,
    [⟨"MAP", 31, 0, .rw, 4294967295, 0, 4294967295, .always⟩]⟩,
  ⟨"SERVO_AXIS_CTRL", 0x080100, 2, 256, 1, 0, .atCommit, .const,
    [⟨"UNPARK", 31, 31, .wr, 0, 0, 1, .always⟩,
     ⟨"PARK", 30, 30, .wr, 0, 0, 1, .always⟩,
     ⟨"SWAP", 29, 29, .wr, 0, 0, 1, .always⟩,
     ⟨"OUT_PHASE", 15, 8, .rw, 192, 64, 240, .always⟩,
     ⟨"EN", 0, 0, .rw, 0, 0, 1, .always⟩]⟩,
  ⟨"SERVO_AXIS_STATUS", 0x080104, 2, 256, 1, 0, .atCommit, .const,
    [⟨"CLAMPED", 31, 31, .w1c, 0, 0, 1, .always⟩,
     ⟨"SAT", 30, 30, .rd, 0, 0, 1, .always⟩,
     ⟨"SWAP_PEND", 29, 29, .rd, 0, 0, 1, .always⟩,
     ⟨"BANK", 28, 28, .rd, 0, 0, 1, .always⟩,
     ⟨"COAST_RUN", 27, 22, .rd, 0, 0, 63, .always⟩,
     ⟨"OVR_RUN", 21, 20, .rd, 0, 0, 3, .always⟩,
     ⟨"CAUSE", 15, 12, .rd, 0, 0, 15, .always⟩,
     ⟨"STATE", 2, 0, .rd, 0, 0, 7, .always⟩]⟩,
  ⟨"SERVO_AXIS_OVR", 0x080108, 2, 256, 1, 0, .atCommit, .const,
    [⟨"OVERRUNS", 31, 16, .rdc, 0, 0, 65535, .always⟩,
     ⟨"CLAMPS", 15, 0, .rdc, 0, 0, 65535, .always⟩]⟩,
  ⟨"SERVO_AXIS_ERR", 0x08010C, 2, 256, 1, 0, .atCommit, .const,
    [⟨"ERR", 19, 0, .rd, 0, 0, 1048575, .always⟩]⟩,
  ⟨"SERVO_AXIS_OUT", 0x080110, 2, 256, 1, 0, .atCommit, .const,
    [⟨"OUT", 17, 0, .rd, 0, 0, 262143, .always⟩]⟩,
  ⟨"SERVO_AXIS_INTEG", 0x080114, 2, 256, 1, 0, .atCommit, .const,
    [⟨"I", 31, 0, .rd, 0, 0, 4294967295, .always⟩]⟩,
  ⟨"SERVO_AXIS_ACQ", 0x080118, 2, 256, 1, 0, .atCommit, .const,
    [⟨"ACQ_MS", 15, 0, .rw, 1000, 1, 65535, .always⟩]⟩,
  ⟨"SERVO_V_CFG", 0x080140, 1, 0, 1, 0, .atCommit, .const,
    [⟨"V_DIV", 31, 24, .rw, 1, 1, 255, .always⟩,
     ⟨"MODE", 16, 16, .rw, 0, 0, 1, .always⟩,
     ⟨"RASTER_FRAMES", 15, 0, .rw, 2, 1, 65535, .always⟩]⟩,
  ⟨"SERVO_V_LO", 0x080144, 1, 0, 1, 0, .atCommit, .const,
    [⟨"V_LO", 17, 0, .rw, 0, 0, 262143, .always⟩]⟩,
  ⟨"SERVO_V_HI", 0x080148, 1, 0, 1, 0, .atCommit, .const,
    [⟨"V_HI", 17, 0, .rw, 0, 0, 262143, .always⟩]⟩,
  ⟨"SERVO_V_TURN", 0x08014C, 1, 0, 1, 0, .atCommit, .const,
    [⟨"TURN_NS", 23, 0, .rw, 100000, 1000, 16000000, .always⟩]⟩,
  ⟨"SERVO_V_DRIVE", 0x080150, 1, 0, 1, 0, .atCommit, .const,
    [⟨"PARK_SLEW", 31, 16, .rw, 64, 1, 65535, .always⟩,
     ⟨"CENTRE_CODE", 15, 0, .rw, 32768, 0, 65535, .always⟩]⟩,
  ⟨"SERVO_V_STATUS", 0x080154, 1, 0, 1, 0, .atCommit, .const,
    [⟨"PROFILE_PEND", 31, 31, .rd, 0, 0, 1, .always⟩,
     ⟨"PROFILE_BAD", 30, 30, .rd, 0, 0, 1, .always⟩,
     ⟨"DAC_CODE", 15, 0, .rd, 32768, 0, 65535, .always⟩]⟩,
  ⟨"SERVO_H_ENC", 0x080240, 1, 0, 1, 0, .atCommit, .const,
    [⟨"DIR", 31, 31, .rw, 0, 0, 1, .always⟩,
     ⟨"ENC_TOL", 27, 24, .rw, 2, 0, 15, .always⟩,
     ⟨"CPR", 20, 0, .rw, 65536, 4, 1048576, .always⟩]⟩,
  ⟨"SERVO_H_POS", 0x080244, 1, 0, 1, 0, .atCommit, .const,
    [⟨"ENC_REF", 31, 31, .rd, 0, 0, 1, .always⟩,
     ⟨"ENC_ERR", 30, 30, .w1c, 0, 0, 1, .always⟩,
     ⟨"COUNT", 20, 0, .rd, 0, 0, 2097151, .always⟩]⟩,
  ⟨"SERVO_H_ZERO", 0x080248, 1, 0, 1, 0, .atCommit, .const,
    [⟨"H_ZERO", 19, 0, .rw, 0, 0, 1048575, .always⟩]⟩,
  ⟨"SERVO_H_REF", 0x08024C, 1, 0, 1, 0, .atCommit, .const,
    [⟨"H_PHASE", 19, 0, .rw, 0, 0, 1048575, .always⟩]⟩,
  ⟨"SERVO_H_REV", 0x080250, 1, 0, 1, 0, .atCommit, .const,
    [⟨"REV_FRAMES", 23, 0, .rw, 50000, 1, 16777215, .always⟩]⟩,
  ⟨"SERVO_H_PWM", 0x080254, 1, 0, 1, 0, .atCommit, .const,
    [⟨"DEAD_NS", 26, 16, .rw, 100, 20, 2000, .always⟩,
     ⟨"PWM_KHZ", 6, 0, .rw, 40, 16, 100, .always⟩]⟩,
  ⟨"SERVO_H_COMM", 0x080258, 1, 0, 1, 0, .atCommit, .const,
    [⟨"POLES", 20, 16, .rw, 4, 1, 16, .always⟩,
     ⟨"COMM_OFS", 15, 0, .rw, 0, 0, 65535, .always⟩]⟩,
  ⟨"SERVO_H_BRIDGE", 0x08025C, 1, 0, 1, 0, .atCommit, .const,
    [⟨"BRIDGE_TAG", 31, 24, .rw, 0, 0, 255, .always⟩,
     ⟨"VBUS_NOM", 15, 0, .rw, 24000, 1, 65535, .always⟩]⟩,
  ⟨"SERVO_H_VSCALE", 0x080260, 1, 0, 1, 0, .atCommit, .const,
    [⟨"VSCALE", 15, 0, .rw, 256, 1, 65535, .always⟩]⟩,
  ⟨"SERVO_H_BUS", 0x080264, 1, 0, 1, 0, .atCommit, .const,
    [⟨"BRIDGE_STALE", 31, 31, .rd, 0, 0, 1, .always⟩,
     ⟨"GATE_FAULT", 30, 30, .rd, 0, 0, 1, .always⟩,
     ⟨"VBUS", 15, 0, .rd, 24000, 0, 65535, .always⟩]⟩,
  ⟨"SERVO_H_ALIGN", 0x080268, 1, 0, 1, 0, .atCommit, .const,
    [⟨"ALIGN_MS", 31, 16, .rw, 100, 1, 65535, .always⟩,
     ⟨"ALIGN_MV", 15, 0, .rw, 2000, 1, 65535, .always⟩]⟩]

/-- Registers of the block GEOM (10_geometry_envelopes.md). -/
def regsGEOM : List RegDef := [
  ⟨"GEOM_CTRL", 0x090000, 1, 0, 1, 0, .atCommit, .const,
    [⟨"V_MULT", 17, 16, .rw, 1, 1, 2, .standbyConfig⟩,
     ⟨"H_USE", 8, 8, .rw, 1, 0, 1, .standbyConfig⟩,
     ⟨"INV_POINTS", 0, 0, .rw, 0, 0, 1, .always⟩]⟩,
  ⟨"GEOM_SECTOR", 0x090004, 1, 0, 1, 0, .atCommit, .const,
    [⟨"FRAMES", 15, 0, .rw, 20, 1, 65535, .standbyConfig⟩]⟩,
  ⟨"GEOM_CURV", 0x090008, 1, 0, 1, 0, .never, .const,
    [⟨"KAPPA", 31, 0, .rw, 0, 0, 4294967295, .always⟩]⟩,
  ⟨"GEOM_CURV_CFG", 0x09000C, 1, 0, 1, 0, .atCommit, .const,
    [⟨"STALE_FRAMES", 15, 0, .rw, 10, 1, 65535, .always⟩]⟩,
  ⟨"GEOM_POSE_TX", 0x090010, 1, 0, 1, 0, .atCommit, .const,
    [⟨"TX", 23, 0, .rw, 0, 0, 16777215, .standbyConfig⟩]⟩,
  ⟨"GEOM_POSE_TY", 0x090014, 1, 0, 1, 0, .atCommit, .const,
    [⟨"TY", 23, 0, .rw, 0, 0, 16777215, .standbyConfig⟩]⟩,
  ⟨"GEOM_POSE_TZ", 0x090018, 1, 0, 1, 0, .atCommit, .const,
    [⟨"TZ", 23, 0, .rw, 0, 0, 16777215, .standbyConfig⟩]⟩,
  ⟨"GEOM_POSE_ROLL", 0x09001C, 1, 0, 1, 0, .atCommit, .const,
    [⟨"ROLL", 19, 0, .rw, 0, 0, 1048575, .standbyConfig⟩]⟩,
  ⟨"GEOM_POSE_PITCH", 0x090020, 1, 0, 1, 0, .atCommit, .const,
    [⟨"PITCH", 19, 0, .rw, 0, 0, 1048575, .standbyConfig⟩]⟩,
  ⟨"GEOM_POSE_YAW", 0x090024, 1, 0, 1, 0, .atCommit, .const,
    [⟨"YAW", 19, 0, .rw, 0, 0, 1048575, .standbyConfig⟩]⟩,
  ⟨"GEOM_POSE_CTRL", 0x090028, 1, 0, 1, 0, .atCommit, .const,
    [⟨"LOAD", 31, 31, .wr, 0, 0, 1, .always⟩,
     ⟨"BUSY", 30, 30, .rd, 0, 0, 1, .always⟩]⟩,
  ⟨"GEOM_ENV_CTRL", 0x090030, 1, 0, 1, 0, .atCommit, .const,
    [⟨"APPLY", 3, 0, .wr, 0, 0, 15, .always⟩]⟩,
  ⟨"GEOM_ENV_STATUS", 0x090034, 1, 0, 1, 0, .atCommit, .const,
    [⟨"APPLY_PEND", 19, 16, .rd, 0, 0, 15, .always⟩,
     ⟨"LOST", 15, 12, .w1c, 0, 0, 15, .always⟩,
     ⟨"INTR", 11, 8, .rd, 0, 0, 15, .always⟩,
     ⟨"ACTIVE", 3, 0, .rd, 0, 0, 15, .always⟩]⟩,
  ⟨"GEOM_STATUS", 0x090038, 1, 0, 1, 0, .atCommit, .const,
    [⟨"CURV_STALE", 31, 31, .rd, 0, 0, 1, .always⟩,
     ⟨"KAPPA_PEND", 30, 30, .rd, 0, 0, 1, .always⟩,
     ⟨"CURV_AGE", 15, 0, .rd, 0, 0, 65535, .always⟩]⟩,
  ⟨"GEOM_SECTOR_NOW", 0x09003C, 1, 0, 1, 0, .atCommit, .const,
    [⟨"SECTOR", 31, 0, .rd, 0, 0, 4294967295, .always⟩]⟩,
  ⟨"GEOM_MATRIX_n", 0x090040, 1, 0, 9, 4, .atCommit, .matrix,
    [⟨"M", 31, 0, .rd, 0, 0, 4294967295, .always⟩]⟩]

/-- Registers of the block CAM (11_camera_ports.md). -/
def regsCAM : List RegDef := [
  ⟨"CAM_CTRL", 0x0A0000, 1, 0, 1, 0, .atCommit, .const,
    [⟨"MUX", 0, 0, .rw, 0, 0, 1, .standbyConfig⟩]⟩,
  ⟨"CAM_STATUS", 0x0A0004, 1, 0, 1, 0, .atCommit, .const,
    [⟨"LOAD", 9, 0, .rd, 0, 0, 1023, .always⟩]⟩,
  ⟨"CAM_PORT_CFG", 0x0A0100, 2, 256, 1, 0, .atCommit, .const,
    [⟨"EN", 31, 31, .rw, 0, 0, 1, .standbyConfig⟩,
     ⟨"GEN", 30, 30, .rw, 0, 0, 1, .standbyConfig⟩,
     ⟨"LANES", 29, 28, .rw, 2, 0, 2, .standbyConfig⟩,
     ⟨"VC", 27, 26, .rw, 0, 0, 3, .standbyConfig⟩,
     ⟨"CCI_KHZ", 25, 24, .rw, 1, 0, 2, .always⟩,
     ⟨"LATENCY", 23, 22, .rw, 1, 1, 3, .always⟩,
     ⟨"FPS_MAX", 15, 8, .rw, 30, 1, 255, .always⟩,
     ⟨"LANE_10M", 7, 0, .rw, 150, 8, 250, .standbyConfig⟩]⟩,
  ⟨"CAM_PORT_STATUS", 0x0A0104, 2, 256, 1, 0, .atCommit, .const,
    [⟨"ID_NOW", 31, 16, .rd, 0, 0, 65535, .always⟩,
     ⟨"FRAME_OPEN", 15, 15, .rd, 0, 0, 1, .always⟩,
     ⟨"OVERFLOW", 14, 14, .w1c, 0, 0, 1, .always⟩,
     ⟨"SOT_ERR", 13, 13, .w1c, 0, 0, 1, .always⟩,
     ⟨"BUF_LINES", 6, 0, .rd, 0, 0, 127, .always⟩]⟩,
  ⟨"CAM_PORT_SEQ", 0x0A0108, 2, 256, 1, 0, .atCommit, .const,
    [⟨"SEQ", 31, 0, .rd, 0, 0, 4294967295, .always⟩]⟩,
  ⟨"CAM_PORT_TIMEOUT", 0x0A010C, 2, 256, 1, 0, .atCommit, .const,
    [⟨"FE_TIMEOUT_US", 15, 0, .rw, 5000, 1, 65535, .always⟩]⟩,
  ⟨"CAM_CCI_CTRL", 0x0A0110, 2, 256, 1, 0, .never, .const,
    [⟨"GO", 31, 31, .wr, 0, 0, 1, .always⟩,
     ⟨"BUSY", 30, 30, .rd, 0, 0, 1, .always⟩,
     ⟨"KEEP_EXP", 29, 29, .rw, 0, 0, 1, .always⟩,
     ⟨"COUNT", 4, 0, .rw, 1, 1, 16, .always⟩]⟩,
  ⟨"CAM_CCI_EXP", 0x0A0114, 2, 256, 1, 0, .never, .const,
    [⟨"EXP_US", 19, 0, .rw, 10000, 1, 1048575, .always⟩]⟩,
  ⟨"CAM_CCI_STATUS", 0x0A0118, 2, 256, 1, 0, .never, .const,
    [⟨"NACK", 31, 31, .w1c, 0, 0, 1, .always⟩,
     ⟨"DONE", 20, 16, .rd, 0, 0, 31, .always⟩,
     ⟨"ID", 15, 0, .rd, 0, 0, 65535, .always⟩]⟩,
  ⟨"CAM_CCI_DATA_n", 0x0A0140, 2, 256, 16, 4, .never, .const,
    [⟨"ADDR", 30, 24, .rw, 0, 0, 127, .always⟩,
     ⟨"REG", 23, 8, .rw, 0, 0, 65535, .always⟩,
     ⟨"DATA", 7, 0, .rw, 0, 0, 255, .always⟩]⟩]

/-- Registers of the block NET (12_network_landing.md). -/
def regsNET : List RegDef := [
  ⟨"NET_MAC_HI", 0x0B0000, 1, 0, 1, 0, .atCommit, .macHi,
    [⟨"MAC_HI", 15, 0, .rd, 0, 0, 65535, .always⟩]⟩,
  ⟨"NET_MAC_LO", 0x0B0004, 1, 0, 1, 0, .atCommit, .macLo,
    [⟨"MAC_LO", 31, 0, .rd, 0, 0, 4294967295, .always⟩]⟩,
  ⟨"NET_DOLEY", 0x0B0008, 1, 0, 1, 0, .atCommit, .const,
    [⟨"SAFE_LANE", 18, 16, .rw, 0, 0, 7, .always⟩,
     ⟨"DOLEY_PORT", 15, 0, .rw, 40960, 1, 65535, .always⟩]⟩,
  ⟨"NET_LANE_CFG", 0x0B0100, 8, 64, 1, 0, .atCommit, .const,
    [⟨"EN", 31, 31, .rw, 1, 0, 1, .always⟩,
     ⟨"MODE", 30, 29, .rw, 0, 0, 2, .standbyConfig⟩,
     ⟨"AN_EN", 28, 28, .rw, 1, 0, 1, .standbyConfig⟩,
     ⟨"EQ_FREEZE", 27, 27, .rw, 0, 0, 1, .always⟩,
     ⟨"TX_POL", 26, 26, .rw, 0, 0, 1, .standbyConfig⟩,
     ⟨"RX_POL", 25, 25, .rw, 0, 0, 1, .standbyConfig⟩,
     ⟨"TX_DEEMPH", 21, 19, .rw, 2, 0, 7, .standbyConfig⟩,
     ⟨"MTU", 13, 0, .rw, 1500, 576, 9000, .standbyConfig⟩]⟩,
  ⟨"NET_LANE_IP4", 0x0B0104, 8, 64, 1, 0, .atCommit, .const,
    [⟨"IP4", 31, 0, .rw, 0, 0, 4294967295, .always⟩]⟩,
  ⟨"NET_LANE_IP6_n", 0x0B0108, 8, 64, 4, 4, .atCommit, .const,
    [⟨"IP6", 31, 0, .rw, 0, 0, 4294967295, .always⟩]⟩,
  ⟨"NET_LANE_STATUS", 0x0B0118, 8, 64, 1, 0, .atCommit, .const,
    [⟨"LINK", 31, 31, .rd, 0, 0, 1, .always⟩,
     ⟨"EQ_LOCK", 30, 30, .rd, 0, 0, 1, .always⟩,
     ⟨"AN_DONE", 29, 29, .rd, 0, 0, 1, .always⟩,
     ⟨"HALF_DUP", 28, 28, .rd, 0, 0, 1, .always⟩,
     ⟨"SPEED", 27, 26, .rd, 2, 0, 3, .always⟩,
     ⟨"BLOCK_ERR", 15, 0, .rdc, 0, 0, 65535, .always⟩]⟩,
  ⟨"NET_DEST_MAC_HI", 0x0B0400, 8, 32, 1, 0, .atCommit, .const,
    [⟨"VID", 27, 16, .rw, 0, 0, 4095, .standbyConfig⟩,
     ⟨"MAC_HI", 15, 0, .rw, 0, 0, 65535, .standbyConfig⟩]⟩,
  ⟨"NET_DEST_MAC_LO", 0x0B0404, 8, 32, 1, 0, .atCommit, .const,
    [⟨"MAC_LO", 31, 0, .rw, 0, 0, 4294967295, .standbyConfig⟩]⟩,
  ⟨"NET_DEST_IP4", 0x0B0408, 8, 32, 1, 0, .atCommit, .const,
    [⟨"IP4", 31, 0, .rw, 0, 0, 4294967295, .standbyConfig⟩]⟩,
  ⟨"NET_DEST_IP6_n", 0x0B040C, 8, 32, 4, 4, .atCommit, .const,
    [⟨"IP6", 31, 0, .rw, 0, 0, 4294967295, .standbyConfig⟩]⟩,
  ⟨"NET_DEST_CFG", 0x0B041C, 8, 32, 1, 0, .atCommit, .const,
    [⟨"IPV6", 31, 31, .rw, 0, 0, 1, .standbyConfig⟩,
     ⟨"TAG", 30, 30, .rw, 0, 0, 1, .standbyConfig⟩,
     ⟨"PCP", 29, 27, .rw, 0, 0, 7, .standbyConfig⟩,
     ⟨"DSCP", 26, 21, .rw, 0, 0, 63, .standbyConfig⟩,
     ⟨"UDP_PORT", 15, 0, .rw, 40961, 1, 65535, .standbyConfig⟩]⟩]

/-- Registers of the block LAND (12_network_landing.md). -/
def regsLAND : List RegDef := [
  ⟨"LAND_CTRL", 0x0C0000, 1, 0, 1, 0, .atCommit, .const,
    [⟨"LOSSY_EGRESS", 31, 31, .rw, 0, 0, 1, .standbyConfig⟩,
     ⟨"FLUSH_US", 9, 0, .rw, 100, 1, 1000, .always⟩]⟩,
  ⟨"LAND_BUDGET_STATUS", 0x0C0004, 1, 0, 1, 0, .atCommit, .const,
    [⟨"FAIL", 31, 31, .rd, 0, 0, 1, .always⟩,
     ⟨"KIND", 30, 30, .rd, 0, 0, 1, .always⟩,
     ⟨"LOSSY_ACTIVE", 29, 29, .rd, 0, 0, 1, .always⟩,
     ⟨"INDEX", 19, 16, .rd, 0, 0, 15, .always⟩]⟩,
  ⟨"LAND_STARVE", 0x0C0008, 1, 0, 1, 0, .atCommit, .const,
    [⟨"STARVE_LIMIT_US", 15, 0, .rw, 1000, 1, 65535, .always⟩]⟩,
  ⟨"LAND_WDT", 0x0C000C, 1, 0, 1, 0, .atCommit, .const,
    [⟨"EGRESS_WDT_MS", 15, 0, .rw, 50, 1, 65535, .always⟩]⟩,
  ⟨"LAND_ECHO_MAP_n", 0x0C0010, 1, 0, 8, 4, .atCommit, .echoMap,
    [⟨"MAP", 31, 0, .rw, 0, 0, 4294967295, .standbyConfig⟩]⟩,
  ⟨"LAND_BURST_r", 0x0C0040, 1, 0, 6, 4, .atCommit, .burst,
    [⟨"BURST", 12, 0, .rw, 0, 1, 4096, .always⟩]⟩,
  ⟨"LAND_REGION_n", 0x0C0100, 1, 0, 16, 4, .atCommit, .const,
    [⟨"EN", 31, 31, .rw, 0, 0, 1, .standbyConfig⟩,
     ⟨"STREAM", 30, 28, .rw, 0, 0, 5, .standbyConfig⟩,
     ⟨"PORT", 26, 24, .rw, 0, 0, 7, .standbyConfig⟩,
     ⟨"DEST", 22, 20, .rw, 0, 0, 7, .standbyConfig⟩,
     ⟨"BASE", 13, 7, .rw, 0, 0, 125, .standbyConfig⟩,
     ⟨"SIZE", 6, 0, .rw, 1, 1, 126, .standbyConfig⟩]⟩,
  ⟨"LAND_REGION_FILL_n", 0x0C0140, 1, 0, 16, 4, .atCommit, .const,
    [⟨"NEED_KIB", 31, 16, .rd, 0, 0, 65535, .always⟩,
     ⟨"FILL_KIB", 15, 0, .rd, 0, 0, 65535, .always⟩]⟩,
  ⟨"LAND_PORT_CTRL", 0x0C0200, 8, 16, 1, 0, .atCommit, .const,
    [⟨"FREEZE", 0, 0, .rw, 0, 0, 1, .always⟩]⟩,
  ⟨"LAND_PORT_STATUS", 0x0C0204, 8, 16, 1, 0, .atCommit, .const,
    [⟨"DRAINED", 31, 31, .rd, 0, 0, 1, .always⟩,
     ⟨"GRANTED", 30, 30, .rd, 0, 0, 1, .always⟩,
     ⟨"OWNER", 29, 27, .rd, 0, 0, 7, .always⟩,
     ⟨"WDT_BITE", 26, 26, .w1c, 0, 0, 1, .always⟩,
     ⟨"WDT_REQ", 25, 23, .rd, 0, 0, 7, .always⟩,
     ⟨"STARVE", 21, 16, .w1c, 0, 0, 63, .always⟩]⟩,
  ⟨"LAND_PORT_BW", 0x0C0208, 8, 16, 1, 0, .atCommit, .const,
    [⟨"NEED_MBPS", 31, 16, .rd, 0, 0, 65535, .always⟩,
     ⟨"CAP_MBPS", 15, 0, .rd, 0, 0, 65535, .always⟩]⟩]

/-- Registers of the block CMD (13_doley_commands.md). -/
def regsCMD : List RegDef := [
  ⟨"CMD_UART", 0x0D0000, 1, 0, 1, 0, .atCommit, .const,
    [⟨"BAUD", 21, 0, .rw, 115200, 9600, 3000000, .always⟩]⟩,
  ⟨"CMD_STATUS", 0x0D0004, 1, 0, 1, 0, .atCommit, .const,
    [⟨"QUEUE_N", 23, 20, .rd, 0, 0, 15, .always⟩,
     ⟨"QUEUE_S", 19, 16, .rd, 0, 0, 15, .always⟩,
     ⟨"FAULT_ENTRIES", 4, 0, .rd, 0, 0, 31, .always⟩]⟩,
  ⟨"CMD_FAULT", 0x0D0008, 1, 0, 1, 0, .atCommit, .const,
    [⟨"OVERWRITTEN", 15, 0, .rdc, 0, 0, 65535, .always⟩]⟩,
  ⟨"CMD_RECIPE", 0x0D000C, 1, 0, 1, 0, .atCommit, .const,
    [⟨"RUN_EN", 31, 31, .rw, 1, 0, 1, .always⟩,
     ⟨"RUNNING", 30, 30, .rd, 0, 0, 1, .always⟩,
     ⟨"NUMBER", 21, 16, .rd, 0, 0, 63, .always⟩,
     ⟨"STEP", 15, 8, .rd, 0, 0, 255, .always⟩,
     ⟨"QUEUED", 3, 0, .rd, 0, 0, 15, .always⟩]⟩,
  ⟨"CMD_RECIPE_EN_LO", 0x0D0010, 1, 0, 1, 0, .atCommit, .const,
    [⟨"EN", 31, 0, .rw, 0, 0, 4294967295, .always⟩]⟩,
  ⟨"CMD_RECIPE_EN_HI", 0x0D0014, 1, 0, 1, 0, .atCommit, .const,
    [⟨"EN", 31, 0, .rw, 0, 0, 4294967295, .always⟩]⟩]

/-- Registers of the block CORD (14_cord_cascade.md). -/
def regsCORD : List RegDef := [
  ⟨"CORD_STRAPS", 0x0E0000, 1, 0, 1, 0, .atCommit, .const,
    [⟨"MASTER", 4, 4, .rd, 0, 0, 1, .always⟩,
     ⟨"ROLE", 3, 3, .rd, 0, 0, 1, .always⟩,
     ⟨"ID", 2, 0, .rd, 0, 0, 7, .always⟩]⟩,
  ⟨"CORD_CTRL", 0x0E0004, 1, 0, 1, 0, .atCommit, .const,
    [⟨"RELAY", 20, 16, .rw, 0, 0, 31, .standbyConfig⟩,
     ⟨"LINK_TIMEOUT_US", 15, 0, .rw, 1000, 100, 65535, .always⟩]⟩,
  ⟨"CORD_SYNC_DLY", 0x0E0008, 1, 0, 1, 0, .atCommit, .const,
    [⟨"DLY_PS", 17, 0, .rw, 0, 0, 200000, .always⟩]⟩,
  ⟨"CORD_STATUS", 0x0E000C, 1, 0, 1, 0, .atCommit, .const,
    [⟨"FORMED", 31, 31, .rd, 0, 0, 1, .always⟩,
     ⟨"SPLIT", 30, 30, .w1c, 0, 0, 1, .always⟩,
     ⟨"CAUSE", 29, 26, .rd, 0, 0, 15, .always⟩,
     ⟨"SIZE", 19, 16, .rd, 1, 0, 15, .always⟩,
     ⟨"PRESENT", 7, 0, .rd, 1, 0, 255, .always⟩]⟩,
  ⟨"CORD_LINK_n", 0x0E0010, 1, 0, 2, 4, .atCommit, .const,
    [⟨"LINK", 31, 31, .rd, 0, 0, 1, .always⟩,
     ⟨"UNORDERED", 30, 30, .rd, 0, 0, 1, .always⟩,
     ⟨"TIMEOUTS", 15, 0, .rdc, 0, 0, 65535, .always⟩]⟩,
  ⟨"CORD_RELAY_MAP", 0x0E0018, 1, 0, 1, 0, .atCommit, .const,
    [⟨"PORT", 23, 0, .rw, 0, 0, 16777215, .standbyConfig⟩]⟩,
  ⟨"CORD_EPOCH", 0x0E001C, 1, 0, 1, 0, .atCommit, .const,
    [⟨"EPOCH", 31, 16, .rd, 0, 0, 65535, .always⟩,
     ⟨"SYNC_MISS", 15, 0, .rdc, 0, 0, 65535, .always⟩]⟩,
  ⟨"CORD_AUTH", 0x0E0020, 1, 0, 1, 0, .atCommit, .const,
    [⟨"HB_S_OK", 2, 2, .rd, 0, 0, 1, .always⟩,
     ⟨"HB_N_OK", 1, 1, .rd, 0, 0, 1, .always⟩,
     ⟨"HOLDER", 0, 0, .rd, 0, 0, 1, .always⟩]⟩]

/-- Registers of the block HK (15_housekeeping_thermal.md). -/
def regsHK : List RegDef := [
  ⟨"HK_CTRL", 0x0F0000, 1, 0, 1, 0, .atCommit, .const,
    [⟨"POLL_EN", 31, 31, .rw, 0, 0, 1, .always⟩,
     ⟨"ROUND_US", 19, 0, .rw, 10000, 100, 1000000, .always⟩]⟩,
  ⟨"HK_STATUS", 0x0F0004, 1, 0, 1, 0, .atCommit, .const,
    [⟨"OVERRUN", 31, 31, .w1c, 0, 0, 1, .always⟩,
     ⟨"INJ_PEND", 30, 30, .rd, 0, 0, 1, .always⟩,
     ⟨"RUNNING", 29, 29, .rd, 0, 0, 1, .always⟩,
     ⟨"ENTRY", 21, 16, .rd, 0, 0, 63, .always⟩]⟩,
  ⟨"HK_DATA", 0x0F0008, 1, 0, 1, 0, .atCommit, .const,
    [⟨"UNREAD", 31, 31, .rdc, 0, 0, 1, .always⟩,
     ⟨"TAG", 23, 16, .rd, 0, 0, 255, .always⟩,
     ⟨"CODE", 13, 0, .rd, 0, 0, 16383, .always⟩]⟩,
  ⟨"HK_INJECT", 0x0F000C, 1, 0, 1, 0, .never, .const,
    [⟨"GO", 31, 31, .wr, 0, 0, 1, .always⟩,
     ⟨"INPUT", 29, 24, .rw, 0, 0, 47, .always⟩,
     ⟨"TAG", 23, 16, .rw, 0, 0, 223, .always⟩,
     ⟨"SETTLE", 10, 0, .rw, 20, 1, 2000, .always⟩]⟩,
  ⟨"HK_INJECT_RESULT", 0x0F0010, 1, 0, 1, 0, .atCommit, .const,
    [⟨"DONE", 31, 31, .rdc, 0, 0, 1, .always⟩,
     ⟨"CODE", 13, 0, .rd, 0, 0, 16383, .always⟩]⟩]

/-- Registers of the block THERM (15_housekeeping_thermal.md). -/
def regsTHERM : List RegDef := [
  ⟨"THERM_LIMITS", 0x100000, 1, 0, 1, 0, .onWrite, .const,
    [⟨"WARN_RATE", 31, 24, .rw, 32, 1, 255, .standbyConfig⟩,
     ⟨"THR_RATE", 23, 16, .rw, 80, 1, 255, .standbyConfig⟩,
     ⟨"THROT_C", 15, 8, .rw, 115, 60, 125, .standbyConfig⟩,
     ⟨"SHUT_C", 7, 0, .rw, 130, 65, 135, .standbyConfig⟩]⟩,
  ⟨"THERM_STEP", 0x100004, 1, 0, 1, 0, .onWrite, .const,
    [⟨"RELEASE_MS", 31, 16, .rw, 1000, 100, 65535, .standbyConfig⟩,
     ⟨"HYST_C", 15, 8, .rw, 5, 1, 30, .standbyConfig⟩,
     ⟨"STEP_MS", 7, 0, .rw, 100, 10, 255, .standbyConfig⟩]⟩,
  ⟨"THERM_STATUS", 0x100008, 1, 0, 1, 0, .atCommit, .const,
    [⟨"SHUT", 31, 31, .w1c, 0, 0, 1, .always⟩,
     ⟨"MINDUTY_OCT", 23, 16, .rd, 0, 0, 255, .always⟩,
     ⟨"SUBST_OCT", 15, 8, .rd, 0, 0, 255, .always⟩,
     ⟨"WARN_OCT", 7, 0, .rd, 0, 0, 255, .always⟩]⟩,
  ⟨"THERM_SENS_FAIL", 0x10000C, 1, 0, 1, 0, .atCommit, .const,
    [⟨"FAIL", 28, 0, .w1c, 0, 0, 536870911, .always⟩]⟩,
  ⟨"THERM_OCT_g", 0x100040, 1, 0, 8, 4, .atCommit, .const,
    [⟨"TEMP", 31, 16, .rd, 400, 0, 65535, .always⟩,
     ⟨"RATE", 15, 4, .rd, 0, 0, 4095, .always⟩,
     ⟨"LEVEL", 3, 0, .rd, 0, 0, 15, .always⟩]⟩,
  ⟨"THERM_TEMP_s", 0x100100, 1, 0, 29, 4, .atCommit, .const,
    [⟨"FAILED", 31, 31, .rd, 0, 0, 1, .always⟩,
     ⟨"SUBST", 30, 30, .rd, 0, 0, 1, .always⟩,
     ⟨"TEMP", 15, 0, .rd, 400, 0, 65535, .always⟩]⟩,
  ⟨"THERM_NTC_A_n", 0x100200, 1, 0, 5, 8, .onWrite, .const,
    [⟨"NOM_10OHM", 31, 16, .rw, 1000, 1, 65535, .standbyConfig⟩,
     ⟨"SER_10OHM", 15, 0, .rw, 1000, 1, 65535, .standbyConfig⟩]⟩,
  ⟨"THERM_NTC_B_n", 0x100204, 1, 0, 5, 8, .onWrite, .const,
    [⟨"BETA_K", 15, 0, .rw, 3950, 1000, 10000, .standbyConfig⟩]⟩]

/-- Registers of the block CAL (16_calibration.md). -/
def regsCAL : List RegDef := [
  ⟨"CAL_CTRL", 0x110000, 1, 0, 1, 0, .onWrite, .const,
    [⟨"AUTO_EN", 31, 31, .rw, 1, 0, 1, .always⟩,
     ⟨"AUTO_KINDS", 27, 24, .rw, 15, 0, 15, .always⟩,
     ⟨"CAL_DELTA", 10, 0, .rw, 64, 16, 1600, .always⟩]⟩,
  ⟨"CAL_RUNCFG", 0x110004, 1, 0, 1, 0, .onWrite, .const,
    [⟨"N", 16, 0, .rw, 4096, 256, 65536, .always⟩]⟩,
  ⟨"CAL_LIMITS", 0x110008, 1, 0, 1, 0, .onWrite, .const,
    [⟨"WALK_STEP", 31, 16, .rw, 102, 1, 4096, .always⟩,
     ⟨"OFS_STEP", 15, 0, .rw, 51, 1, 4096, .always⟩]⟩,
  ⟨"CAL_STATUS", 0x11000C, 1, 0, 1, 0, .atCommit, .const,
    [⟨"ABANDONED_OCT", 23, 16, .w1c, 0, 0, 255, .always⟩,
     ⟨"REJECT_OCT", 15, 8, .w1c, 0, 0, 255, .always⟩,
     ⟨"BUSY_OCT", 7, 0, .rd, 0, 0, 255, .always⟩]⟩,
  ⟨"CAL_DEV", 0x110010, 1, 0, 1, 0, .atCommit, .const,
    [⟨"PKO_BUSY", 31, 31, .rd, 0, 0, 1, .always⟩,
     ⟨"PKO_PEND", 30, 30, .rd, 0, 0, 1, .always⟩,
     ⟨"PKO_REJ", 29, 29, .w1c, 0, 0, 1, .always⟩,
     ⟨"PKO_T_LAST", 15, 0, .rd, 400, 0, 65535, .always⟩]⟩,
  ⟨"CAL_OCT_STATUS_g", 0x110100, 1, 0, 8, 4, .atCommit, .const,
    [⟨"BUSY", 31, 31, .rd, 0, 0, 1, .always⟩,
     ⟨"PENDING", 30, 30, .rd, 0, 0, 1, .always⟩,
     ⟨"WAIT", 29, 27, .rd, 0, 0, 7, .always⟩,
     ⟨"FE", 26, 21, .rd, 63, 0, 63, .always⟩,
     ⟨"KINDS", 20, 17, .rd, 0, 0, 15, .always⟩,
     ⟨"T_LAST", 15, 0, .rd, 400, 0, 65535, .always⟩]⟩]

/-- Registers of the block NVS (17_nonvolatile_life.md). -/
def regsNVS : List RegDef := [
  ⟨"NVS_STATUS", 0x120000, 1, 0, 1, 0, .atCommit, .const,
    [⟨"WRITE_FAIL", 31, 31, .w1c, 0, 0, 1, .always⟩,
     ⟨"FULL", 30, 30, .rd, 0, 0, 1, .always⟩,
     ⟨"COMPACTING", 29, 29, .rd, 0, 0, 1, .always⟩,
     ⟨"HALF", 28, 28, .rd, 0, 0, 1, .always⟩,
     ⟨"JOURNAL_EMPTY", 27, 27, .rd, 0, 0, 1, .always⟩,
     ⟨"QUEUE", 26, 21, .rd, 0, 0, 63, .always⟩,
     ⟨"FILL_KIB", 10, 0, .rd, 0, 0, 2047, .always⟩]⟩,
  ⟨"NVS_GEN", 0x120004, 1, 0, 1, 0, .atCommit, .const,
    [⟨"GENERATION", 31, 0, .rd, 0, 0, 4294967295, .always⟩]⟩,
  ⟨"NVS_BOOT", 0x120008, 1, 0, 1, 0, .atCommit, .const,
    [⟨"FALLBACK", 31, 31, .w1c, 0, 0, 1, .always⟩,
     ⟨"TRIAL", 30, 30, .rd, 0, 0, 1, .always⟩,
     ⟨"NEXT_SLOT", 1, 1, .rd, 0, 0, 1, .always⟩,
     ⟨"SLOT", 0, 0, .rd, 0, 0, 1, .always⟩]⟩,
  ⟨"LIFE_CTRL", 0x120010, 1, 0, 1, 0, .onWrite, .const,
    [⟨"CYCLE_C", 23, 16, .rw, 40, 10, 100, .always⟩,
     ⟨"FLUSH_S", 11, 0, .rw, 60, 10, 3600, .always⟩]⟩,
  ⟨"LIFE_EM_RATED", 0x120014, 1, 0, 1, 0, .onWrite, .const,
    [⟨"RATED_E9", 31, 0, .rw, 100000, 1, 4294967295, .always⟩]⟩,
  ⟨"LIFE_FORECAST", 0x120018, 1, 0, 1, 0, .atCommit, .const,
    [⟨"DIE_USED", 31, 16, .rd, 0, 0, 65535, .always⟩,
     ⟨"DIE_YEARS", 15, 0, .rd, 65535, 0, 65535, .always⟩]⟩,
  ⟨"LIFE_EM_WORST", 0x12001C, 1, 0, 1, 0, .atCommit, .const,
    [⟨"EM_USED", 31, 16, .rd, 0, 0, 65535, .always⟩,
     ⟨"EM", 5, 0, .rd, 0, 0, 63, .always⟩]⟩,
  ⟨"LIFE_EVENT", 0x120020, 1, 0, 1, 0, .atCommit, .const,
    [⟨"GO", 31, 31, .wr, 0, 0, 1, .always⟩,
     ⟨"DATA", 15, 0, .rw, 0, 0, 65535, .always⟩]⟩]

/-- Registers of the block TALLY (18_tally_counters.md). -/
def regsTALLY : List RegDef := [
  ⟨"TALLY_DUMP_CFG", 0x130000, 1, 0, 1, 0, .atCommit, .const,
    [⟨"DUMP_NOW", 31, 31, .wr, 0, 0, 1, .always⟩,
     ⟨"PERIOD_MS", 13, 0, .rw, 0, 0, 10000, .always⟩]⟩,
  ⟨"TALLY_DUMP_MASK", 0x130004, 1, 0, 1, 0, .atCommit, .const,
    [⟨"MASK", 20, 0, .rw, 7932, 0, 2097151, .always⟩]⟩,
  ⟨"TALLY_DUMP_STATUS", 0x130008, 1, 0, 1, 0, .atCommit, .const,
    [⟨"BUSY", 31, 31, .rd, 0, 0, 1, .always⟩,
     ⟨"NUMBER", 30, 0, .rd, 0, 0, 2147483647, .always⟩]⟩,
  ⟨"TALLY_SNAP", 0x130010, 1, 0, 1, 0, .atCommit, .const,
    [⟨"SNAP", 31, 31, .wr, 0, 0, 1, .always⟩,
     ⟨"SEQ", 15, 0, .rd, 0, 0, 65535, .always⟩]⟩,
  ⟨"TALLY_SNAP_SEC", 0x130014, 1, 0, 1, 0, .atCommit, .const,
    [⟨"SEC", 31, 0, .rd, 0, 0, 4294967295, .always⟩]⟩,
  ⟨"TALLY_SNAP_NS", 0x130018, 1, 0, 1, 0, .atCommit, .const,
    [⟨"NS", 31, 0, .rd, 0, 0, 4294967295, .always⟩]⟩,
  ⟨"TALLY_STATUS", 0x13001C, 1, 0, 1, 0, .atCommit, .const,
    [⟨"SAT_ANY", 31, 31, .w1c, 0, 0, 1, .always⟩]⟩,
  ⟨"TALLY_BW_CFG", 0x130020, 1, 0, 1, 0, .atCommit, .const,
    [⟨"WINDOW_US", 19, 0, .rw, 1000, 1, 1000000, .always⟩]⟩,
  ⟨"TALLY_BW_p", 0x130040, 1, 0, 8, 4, .atCommit, .const,
    [⟨"BYTES", 31, 0, .rd, 0, 0, 4294967295, .always⟩]⟩,
  ⟨"TALLY_BW_PEAK_p", 0x130060, 1, 0, 8, 4, .atCommit, .const,
    [⟨"PEAK", 31, 0, .rdc, 0, 0, 4294967295, .always⟩]⟩,
  ⟨"TALLY_SAMPLE_CFG", 0x130080, 1, 0, 1, 0, .atCommit, .const,
    [⟨"EN", 31, 31, .rw, 0, 0, 1, .always⟩,
     ⟨"PERIOD_US", 15, 0, .rw, 1000, 10, 65535, .always⟩]⟩,
  ⟨"TALLY_SAMPLE_STATUS", 0x130084, 1, 0, 1, 0, .atCommit, .const,
    [⟨"NEXT", 3, 0, .rd, 0, 0, 15, .always⟩]⟩,
  ⟨"TALLY_SAMPLE_n", 0x1300C0, 1, 0, 16, 4, .atCommit, .const,
    [⟨"VALID", 31, 31, .rd, 0, 0, 1, .always⟩,
     ⟨"RUNNING", 30, 30, .rd, 0, 0, 1, .always⟩,
     ⟨"RECIPE", 29, 24, .rd, 0, 0, 63, .always⟩,
     ⟨"STEP", 23, 16, .rd, 0, 0, 255, .always⟩,
     ⟨"SAMPLE", 15, 0, .rd, 0, 0, 65535, .always⟩]⟩]

/-- Registers of the block PWR (01_architecture.md, 19_startup_reset_power.md). -/
def regsPWR : List RegDef := [
  ⟨"PWR_PMBUS", 0x140000, 1, 0, 1, 0, .onWrite, .const,
    [⟨"ADDR", 6, 0, .rw, 64, 0, 127, .always⟩]⟩,
  ⟨"PWR_PARK", 0x140004, 1, 0, 1, 0, .atCommit, .const,
    [⟨"WAKE_UART", 17, 17, .rw, 1, 0, 1, .always⟩,
     ⟨"WAKE_SPI", 16, 16, .rw, 1, 0, 1, .always⟩,
     ⟨"PARK_MV", 9, 0, .rw, 550, 550, 850, .always⟩]⟩,
  ⟨"PWR_AVS_CTRL", 0x140100, 1, 0, 1, 0, .atCommit, .const,
    [⟨"PERIOD", 27, 16, .rw, 10, 1, 1000, .always⟩,
     ⟨"STEP_MV", 12, 8, .rw, 5, 1, 20, .always⟩,
     ⟨"LOOP_EN", 0, 0, .rw, 1, 0, 1, .always⟩]⟩,
  ⟨"PWR_AVS_STATUS", 0x140104, 1, 0, 1, 0, .atCommit, .const,
    [⟨"SHED_COUNT", 30, 24, .rd, 0, 0, 127, .always⟩,
     ⟨"REG_FAULT", 18, 18, .w1c, 0, 0, 1, .always⟩,
     ⟨"AT_CEILING", 17, 17, .rd, 1, 0, 1, .always⟩,
     ⟨"RATE_FLOOR", 16, 16, .rd, 0, 0, 1, .always⟩,
     ⟨"VDD_MV", 9, 0, .rd, 850, 0, 1023, .always⟩]⟩,
  ⟨"PWR_AVS_RATE", 0x140108, 1, 0, 1, 0, .atCommit, .const,
    [⟨"REQUIRED", 31, 16, .rd, 64, 0, 65535, .always⟩,
     ⟨"MEASURED", 15, 0, .rd, 0, 0, 65535, .always⟩]⟩]

/-- Registers of the block TDC_FE (03_time_to_digital.md). -/
def regsTDCFE : List RegDef := [
  ⟨"TDC_FE_CFG", 0x200000, 264, 256, 1, 0, .atCommit, .const,
    [⟨"EDGE_EN", 7, 0, .rw, 255, 0, 255, .always⟩]⟩,
  ⟨"TDC_FE_STATUS", 0x200004, 264, 256, 1, 0, .atCommit, .const,
    [⟨"TABLE_SRC", 31, 30, .rd, 0, 0, 3, .always⟩,
     ⟨"DLL_LOCK", 24, 24, .rd, 0, 0, 1, .always⟩,
     ⟨"OCCUPIED", 23, 16, .rd, 128, 0, 255, .always⟩,
     ⟨"TRIM", 5, 0, .rd, 32, 0, 63, .always⟩]⟩,
  ⟨"TDC_FE_SKEW_A", 0x200008, 264, 256, 1, 0, .atCommit, .const,
    [⟨"SKEW3", 31, 24, .rd, 0, 0, 255, .always⟩,
     ⟨"SKEW2", 23, 16, .rd, 0, 0, 255, .always⟩,
     ⟨"SKEW1", 15, 8, .rd, 0, 0, 255, .always⟩,
     ⟨"SKEW0", 7, 0, .rd, 0, 0, 255, .always⟩]⟩,
  ⟨"TDC_FE_SKEW_B", 0x20000C, 264, 256, 1, 0, .atCommit, .const,
    [⟨"SKEW7", 31, 24, .rd, 0, 0, 255, .always⟩,
     ⟨"SKEW6", 23, 16, .rd, 0, 0, 255, .always⟩,
     ⟨"SKEW5", 15, 8, .rd, 0, 0, 255, .always⟩,
     ⟨"SKEW4", 7, 0, .rd, 0, 0, 255, .always⟩]⟩,
  ⟨"TDC_FE_LAST_FLAGS", 0x200010, 264, 256, 1, 0, .atCommit, .const,
    [⟨"MULTI", 9, 9, .rd, 0, 0, 1, .always⟩,
     ⟨"OPEN", 8, 8, .rd, 0, 0, 1, .always⟩,
     ⟨"PRESENT", 7, 0, .rd, 0, 0, 255, .always⟩]⟩,
  ⟨"TDC_FE_LAST_n", 0x200014, 264, 256, 8, 4, .atCommit, .const,
    [⟨"VALID", 31, 31, .rd, 0, 0, 1, .always⟩,
     ⟨"TIME", 22, 0, .rd, 0, 0, 8388607, .always⟩]⟩]

/-- Registers of the block RX_FE (04_receiver_front_end.md). -/
def regsRXFE : List RegDef := [
  ⟨"RX_FE_CFG", 0x220000, 264, 256, 1, 0, .atCommit, .const,
    [⟨"ADAPT_EN", 16, 16, .rw, 0, 0, 1, .always⟩,
     ⟨"OFF", 8, 8, .rw, 0, 0, 1, .always⟩,
     ⟨"RANGE", 1, 0, .rw, 0, 0, 3, .always⟩]⟩,
  ⟨"RX_FE_THR_A", 0x220004, 264, 256, 1, 0, .atCommit, .const,
    [⟨"T1", 25, 16, .rw, 200, 0, 1023, .always⟩,
     ⟨"T0", 9, 0, .rw, 100, 0, 1023, .always⟩]⟩,
  ⟨"RX_FE_THR_B", 0x220008, 264, 256, 1, 0, .atCommit, .const,
    [⟨"T3", 25, 16, .rw, 800, 0, 1023, .always⟩,
     ⟨"T2", 9, 0, .rw, 400, 0, 1023, .always⟩]⟩,
  ⟨"RX_FE_ADAPT", 0x22000C, 264, 256, 1, 0, .atCommit, .const,
    [⟨"TARGET", 31, 16, .rw, 100, 1, 65535, .always⟩,
     ⟨"TAU", 9, 0, .rw, 10, 1, 1000, .always⟩]⟩,
  ⟨"RX_FE_ADAPT_LIM", 0x220010, 264, 256, 1, 0, .atCommit, .const,
    [⟨"T0_MAX", 25, 16, .rw, 400, 0, 1023, .always⟩,
     ⟨"T0_MIN", 9, 0, .rw, 20, 1, 1023, .always⟩]⟩,
  ⟨"RX_FE_ADAPT_STATE", 0x220014, 264, 256, 1, 0, .atCommit, .const,
    [⟨"DELTA", 26, 16, .rd, 0, 0, 2047, .always⟩]⟩,
  ⟨"RX_FE_BG", 0x220018, 264, 256, 1, 0, .atCommit, .const,
    [⟨"VALID", 31, 31, .rd, 0, 0, 1, .always⟩,
     ⟨"BG_RATE", 22, 0, .rd, 0, 0, 8388607, .always⟩]⟩,
  ⟨"RX_FE_DC", 0x22001C, 264, 256, 1, 0, .atCommit, .const,
    [⟨"DC_10NA", 15, 0, .rd, 0, 0, 65535, .always⟩]⟩,
  ⟨"RX_FE_STATUS", 0x220020, 264, 256, 1, 0, .atCommit, .const,
    [⟨"GAIN_PEND", 31, 31, .rd, 0, 0, 1, .always⟩,
     ⟨"THR_PEND", 30, 30, .rd, 0, 0, 1, .always⟩,
     ⟨"ADAPT_STARVED", 29, 29, .rd, 0, 0, 1, .always⟩,
     ⟨"AT_MAX", 28, 28, .rd, 0, 0, 1, .always⟩,
     ⟨"AT_MIN", 27, 27, .rd, 0, 0, 1, .always⟩,
     ⟨"DC_OVER", 26, 26, .rd, 0, 0, 1, .always⟩,
     ⟨"SAT_SEEN", 25, 25, .w1c, 0, 0, 1, .always⟩,
     ⟨"SUBST", 24, 24, .rd, 0, 0, 1, .always⟩,
     ⟨"RANGE_NOW", 1, 0, .rd, 0, 0, 3, .always⟩]⟩]

/-- Registers of the block ECHO_FE (07_echo_formation.md). -/
def regsECHOFE : List RegDef := [
  ⟨"ECHO_FE_OFFSET", 0x240000, 264, 256, 1, 0, .onWrite, .const,
    [⟨"OFFSET", 15, 0, .rw, 0, 0, 65535, .standbyConfigService⟩]⟩,
  ⟨"ECHO_FE_TEMP", 0x240004, 264, 256, 1, 0, .onWrite, .const,
    [⟨"TC", 31, 16, .rw, 0, 0, 65535, .standbyConfigService⟩,
     ⟨"CAL_TEMP", 15, 0, .rw, 400, 0, 65535, .standbyConfigService⟩]⟩,
  ⟨"ECHO_FE_AMP", 0x240008, 264, 256, 1, 0, .onWrite, .const,
    [⟨"SLOPE", 31, 16, .rw, 0, 0, 65535, .standbyConfigService⟩,
     ⟨"W0", 15, 0, .rw, 0, 0, 65535, .standbyConfigService⟩]⟩,
  ⟨"ECHO_FE_WALK_n", 0x240010, 264, 256, 8, 4, .onWrite, .walk,
    [⟨"W", 31, 16, .rw, 0, 0, 65535, .standbyConfigService⟩,
     ⟨"WALK", 15, 0, .rw, 0, 0, 65535, .standbyConfigService⟩]⟩]

/-- The registers that lie in the 64 KiB window `b` (Table 20-1), or in the front-end area that begins there
(Table 20-3, R460: an area runs on into the following window). -/
def blockRegs (b : Nat) : List RegDef :=
  match b with
  | 0 => regsDEV
  | 1 => regsTIME
  | 2 => regsTDC
  | 3 => regsRX
  | 4 => regsFIRE
  | 5 => regsACQ
  | 6 => regsECHO
  | 7 => regsANGLE
  | 8 => regsSERVO
  | 9 => regsGEOM
  | 10 => regsCAM
  | 11 => regsNET
  | 12 => regsLAND
  | 13 => regsCMD
  | 14 => regsCORD
  | 15 => regsHK
  | 16 => regsTHERM
  | 17 => regsCAL
  | 18 => regsNVS
  | 19 => regsTALLY
  | 20 => regsPWR
  | 32 => regsTDCFE
  | 33 => regsTDCFE
  | 34 => regsRXFE
  | 35 => regsRXFE
  | 36 => regsECHOFE
  | 37 => regsECHOFE
  | _ => []

/-- The place of `addr` in `r`: its unit and its index, where `addr` is one of `r`'s registers. -/
def RegDef.place? (r : RegDef) (addr : Nat) : Option (Nat × Nat) :=
  if addr < r.base then none
  else
    let d := addr - r.base
    let u := if r.su = 0 then 0 else d / r.su
    let e := d - u * r.su
    let n := if r.si = 0 then 0 else e / r.si
    if u < r.nu ∧ n < r.ni ∧ e = n * r.si then some (u, n) else none

/-- A register found at an address: its definition, its unit and its index. -/
structure RegAt where
  reg  : RegDef
  unit : Nat
  idx  : Nat
  deriving DecidableEq, Repr

/-- Search of one block's list. -/
def findIn (addr : Nat) : List RegDef → Option RegAt
  | [] => none
  | r :: rs =>
    match r.place? addr with
    | some (u, n) => some ⟨r, u, n⟩
    | none => findIn addr rs

/-- R459: the register at a byte address, or none where the address is unmapped. -/
def findReg (addr : Nat) : Option RegAt :=
  if addr % 4 = 0 then findIn addr (blockRegs (addr / 0x10000)) else none

/-- The reset word that the fields of a table give. -/
def constReset (fs : List FieldDef) : Nat :=
  fs.foldl (fun a f => a + f.reset * 2 ^ f.lo) 0

/-- The reset value of a register (the Reset columns; the notes under Tables 5-6, 7-9, 8-7, 10-8, 12-10). -/
def RegAt.resetNat (r : RegAt) : Nat :=
  match r.reg.kind with
  | .const => constReset r.reg.fields
  | .emitterCfg => constReset r.reg.fields + (r.unit % 4) * 2 ^ 28 + r.unit * 2 ^ 22
  | .walk => 0x200 * (r.idx + 1) * 2 ^ 16
  | .echoMap => 0x11111111 * r.idx
  | .burst => [256, 256, 16, 64, 16, 256].getD r.idx 0
  | .halfBand => [0x09880, 0x3DF80, 0x00800].getD r.idx 0
  | .matrix => if r.idx % 4 = 0 then 0x40000000 else 0
  | .macHi => Config.baseMac / 2 ^ 32 % 2 ^ 16
  | .macLo => Config.baseMac / 8 * 8 % 2 ^ 32
  | .devId => constReset r.reg.fields + Config.siliconStep % 256 * 2 ^ 8

/-- The word that an address reads as before anything has written it; unmapped addresses read as 0 here and
are refused by R459 before they are read. -/
def resetWord (addr : Nat) : Word :=
  match findReg addr with
  | some r => BitVec.ofNat 32 r.resetNat
  | none => 0

end Sys2Proof.Machine
end

