-- ==== Sys2Proof/Machine/Sparse.lean ====
section
/-! DEFINITION. The one canonical form of every addressed store of the block: a list of (key, value) pairs with
strictly rising keys and no entry equal to what an unlisted key reads as. -/

namespace Sys2Proof.Machine

/-- A sparse store. What an unlisted key reads as is given by the function that reads it. -/
abbrev Sparse (α : Type) := List (Nat × α)

/-- The listed value of a key. -/
def Sparse.find? {α : Type} (k : Nat) : Sparse α → Option α
  | [] => none
  | (k', v) :: r => if k' = k then some v else Sparse.find? k r

/-- The value of a key; an unlisted key reads as `dflt`. -/
def Sparse.get {α : Type} (m : Sparse α) (dflt : α) (k : Nat) : α := (Sparse.find? k m).getD dflt

/-- The store without a key. -/
def Sparse.erase {α : Type} (m : Sparse α) (k : Nat) : Sparse α := m.filter (fun p => p.1 != k)

/-- The store with a key listed at its place. -/
def Sparse.insert {α : Type} (k : Nat) (v : α) : Sparse α → Sparse α
  | [] => [(k, v)]
  | (k', v') :: r =>
    if k < k' then (k, v) :: (k', v') :: r
    else if k = k' then (k, v) :: r
    else (k', v') :: Sparse.insert k v r

/-- The store after a write; writing what an unlisted key reads as removes the entry. -/
def Sparse.put {α : Type} [DecidableEq α] (m : Sparse α) (dflt : α) (k : Nat) (v : α) : Sparse α :=
  match m with
  | [] => if v = dflt then [] else [(k, v)]
  | p :: r => if v = dflt then Sparse.erase (p :: r) k else Sparse.insert k v (p :: r)

/-- The canonical form: keys strictly rise, and no entry equals what its key reads as when unlisted. -/
def Sparse.wf {α : Type} [DecidableEq α] (dflt : Nat → α) : Sparse α → Bool
  | [] => true
  | (k, v) :: r => decide (v ≠ dflt k) && r.all (fun p => decide (k < p.1)) && Sparse.wf dflt r

end Sys2Proof.Machine
end

