-- ==== Sys2Proof/Machine/TabMap.lean ====
section
/-! DEFINITION. The tables' contents before anything has written them (Table 20-4 and the tables' home rules),
by the key of Table 17-3: table ID in [31:24], unit in [23:15], word offset in [14:0]. -/

namespace Sys2Proof.Machine

/-- R366: the default sequence: entry i visits sensor i four times, averaged, SETTLE 20, TAG 0xE0 + i. -/
def hkReset (w : Nat) : Nat :=
  if w < 58 then (if w % 2 = 0 then 2 ^ 31 + w / 2 * 2 ^ 24 + 4 * 2 ^ 16 + 20 else 0xE0 + w / 2) else 0

/-- R228: every word of a bank is 0, except ALPHA and LOCK_ERR. -/
def bankReset (w : Nat) : Nat :=
  if 64 ≤ w then 0 else if w % 16 = 9 then 65536 else if w % 16 = 11 then 131071 else 0

/-- The word that a table key reads as before anything has written it (R76, R137, R211, R228, R251, R277, R366). -/
def tabReset (key : Nat) : Word :=
  let w := key % 2 ^ 15
  match key / 2 ^ 24 with
  | 0x06 => BitVec.ofNat 32 (bankReset w)
  | 0x07 => BitVec.ofNat 32 (hkReset w)
  | 0x09 => if w < 128 then 8192 else 0
  | _ => 0

end Sys2Proof.Machine
end

