-- ==== Sys2Proof/Machine/State.lean ====
section
/-! DEFINITION. The state of the block: everything the spec gives the part, as plain data, and the state after
reset. Registers stand in one sparse file of words at their byte addresses; what no register shows stands beside
it, chapter by chapter. -/

namespace Sys2Proof.Machine

/-- Why a step may stop. Every command of the block has an effect the spec describes, so no meaning raises one
of these: the two names stand for the host's interface. -/
inductive Fault where
  /-- Raised by nothing in this model (safe). -/
  | unreachable
  deriving DecidableEq, Repr

/-- Why a step may refuse to give a command a meaning. -/
inductive Refusal where
  /-- A command whose meaning is not modelled yet, by its mnemonic (safe: the model stops). -/
  | notModelled (mnemonic : String)
  deriving DecidableEq, Repr

/-- One entry of the fault log (Table 13-6). -/
structure FaultEntry where
  address : Nat
  code    : Nat
  source  : Nat
  core    : Nat
  seq     : Nat
  opcode  : Nat
  sec     : Nat
  ns      : Nat
  frac    : Nat
  deriving DecidableEq, Repr

/-- How far the start-up of Table 19-1 has come (R436, R439, R441). -/
inductive BootPhase where
  /-- The internal reset is held (R436). -/
  | held
  /-- Steps 3 to 6: packets are answered BUSY (R440). -/
  | starting
  /-- Start-up is complete. -/
  | up
  /-- The boot ROM's own SAFE, both slots having failed (R441). -/
  | romSafe
  deriving DecidableEq, Repr

/-- What an accepted reset waits for (R334, R358, Table 19-4). -/
inductive PendingReset where
  | none | command | cord
  deriving DecidableEq, Repr

/-- Start-up, modes and resets: what no register shows (chapter 19). -/
structure Boot where
  phase     : BootPhase
  /-- Kind of the reset being taken (Table 19-4). -/
  kind      : Nat
  /-- Every supply within its range (R436). -/
  supplyOk  : Bool
  /-- RESET_N is high. -/
  resetN    : Bool
  /-- The 140 °C trip holds the blocks in reset (R383). -/
  tripped   : Bool
  /-- A MODE_SET exit runs on to the end of the frame in progress (R446). -/
  exiting   : Bool
  /-- Reset accepted and not yet taken. -/
  resetDue  : PendingReset
  /-- Coarse count at which the last byte of the reply of an accepted RESET or CORD_RESET leaves, or at which it was
  accepted (R334, R358). -/
  replyEnd  : Nat
  /-- That reply waits to leave (R334, R358). -/
  resetReply : Bool
  /-- Coarse count at which SELFTEST was entered (R443). -/
  stStart   : Nat
  /-- Duration of the last SELFTEST, ms (R443). -/
  stMs      : Nat
  /-- A wake from PARK is under way (R453). -/
  waking    : Bool
  /-- AUTO_MODE 2 still owes its entry to SCAN (R448). -/
  autoScan  : Bool
  /-- Coarse counts at which the north and the south core last restarted their watchdogs (R456). -/
  wdtN      : Nat
  wdtS      : Nat
  deriving DecidableEq, Repr

/-- Permits and the fire gate (R119): what no register shows. -/
structure Permits where
  north : Bool
  south : Bool
  /-- LASER_PERMIT is high. -/
  laser : Bool
  /-- LASER_PERMIT has been high for 10 ms. -/
  held  : Bool
  /-- The line FIRE_ALLOW, which FIRE_STATUS shows (R119). -/
  allow : Bool
  deriving DecidableEq, Repr

/-- The input that the timebase PLL runs from (R33, R40). -/
inductive PllSource where
  | xtal | ref | none
  deriving DecidableEq, Repr

/-- One of the 16 learned XTAL bins: the sum of its measurements in ppb and their number (R58). -/
structure XtalBin where
  sum   : Int
  count : Nat
  deriving DecidableEq, Repr

/-- The time transmitter that the BMCA has chosen (Table 2-3). -/
structure PtpParent where
  data     : PtpData
  identity : Nat
  deriving DecidableEq, Repr

/-- Timebase and device time: what no register shows (chapter 2). -/
structure TimeSt where
  /-- Device time in units of 2⁻⁴⁰ ns, modulo 2⁴⁸ s (R45, R46). -/
  dev       : Nat
  src       : PllSource
  /-- The PLL is in lock on `src`. -/
  locked    : Bool
  /-- The PLL has run from REF_IN since the last lock to XTAL under R34, or has lost both inputs (R40). -/
  everRef   : Bool
  xtalOk    : Bool
  /-- Coarse count since when REF_IN has been present, valid and warm (R38). -/
  refOkSince : Option Nat
  /-- A sampled step that awaits its instant, 2⁻⁴⁰ ns (R48, R52). -/
  stepDue   : Option Int
  /-- Consecutive good and bad offsets, and pulses missing in a row (R53, R55, R56). -/
  goodRun   : Nat
  badRun    : Nat
  missRun   : Nat
  /-- Seconds given by TIME_OF_DAY for the next accepted pulse (R336). -/
  todSec    : Option Nat
  /-- A pulse has been accepted since the first TIME_OF_DAY (R55). -/
  ppsKnown  : Bool
  parent    : Option PtpParent
  /-- Mean path delay, 2⁻¹⁶ ns (Table 2-3). -/
  pathDelay : Int
  /-- Sequence identifier and receive time of a two-step Sync that awaits its Follow_Up, 2⁻¹⁶ ns. -/
  syncWait  : Option (Nat × Nat)
  /-- Receive time minus origin time of the last Sync, 2⁻¹⁶ ns (end-to-end delay). -/
  lastDiff  : Option Int
  /-- Sequence identifier of the next Delay_Req or Pdelay_Req; that of the last one that has left, and its transmit
  time at the ball, 2⁻¹⁶ ns (R50, R51). -/
  reqSeq    : Nat
  reqSent   : Option (Nat × Int)
  /-- The REF_TUNE DAC code and the DISCIPLINE integrator (R57). -/
  tune      : Nat
  tuneInteg : Int
  bins      : List XtalBin
  /-- Bins learned anew since they were last journalled, and when that was (R58). -/
  binsDirty : List Nat
  binsAt    : Option Nat
  deriving DecidableEq, Repr

/-- A dump latched and not yet admitted (R431, R433). -/
structure DumpLatch where
  number : Nat
  sec    : Nat
  ns     : Nat
  mask   : Nat
  counts : Sparse Nat
  deriving DecidableEq, Repr

/-- Tally counters: what no register shows (chapter 18). Counters are keyed by counter ID. -/
structure TallySt where
  live    : Sparse Nat
  snap    : Sparse Nat
  dump    : Option DumpLatch
  dumpNo  : Nat
  /-- Coarse count of the latest latch of a dump (R431). -/
  dumpAt  : Option Nat
  /-- Bytes counted in each port's present bandwidth window (R434). -/
  bwCount : List Nat
  deriving DecidableEq, Repr

/-- A stave-shot unit at the landing: shot header words and records (R167, R295). -/
structure EchoUnit where
  frame : Nat
  frameSec : Nat
  frameNs  : Nat
  header   : List Nat
  records  : List (List Nat)
  /-- It reached the landing after its frame had been released (R296). -/
  late     : Bool
  deriving DecidableEq, Repr

/-- One frame block of an open echo datagram (Table 12-4). -/
structure EchoBlock where
  frame : Nat
  frameSec : Nat
  frameNs  : Nat
  contWords : Nat
  units : Nat
  words : List Nat
  deriving DecidableEq, Repr

/-- Places of a camera datagram (Table 12-5). -/
structure CamExt where
  seq     : Nat
  line    : Nat
  nlines  : Nat
  trailer : Bool
  segOff  : Nat
  segLen  : Nat
  deriving DecidableEq, Repr

/-- What a datagram carries, by stream (R292). -/
inductive DgBody where
  | echo (blocks : List EchoBlock)
  | camera (ext : CamExt) (octets : List Nat)
  | envelope (sector : Nat) (words : List Nat)
  | telemetry (words : List Nat)
  deriving DecidableEq, Repr

/-- A datagram that is being packed. -/
structure OpenDg where
  body   : DgBody
  /-- Item bytes, shot headers, records and items it holds. -/
  bytes  : Nat
  shots  : Nat
  recs   : Nat
  items  : Nat
  deriving DecidableEq, Repr

/-- A closed datagram (Table 12-2): its words except SEQ, which transmission assigns (R293). -/
structure Datagram where
  region : Nat
  stream : Nat
  words  : List Nat
  /-- Camera lines, after the words. -/
  octets : List Nat
  /-- UDP payload bytes. -/
  payload : Nat
  bytes  : Nat
  shots  : Nat
  recs   : Nat
  items  : Nat
  relayed : Bool
  deriving DecidableEq, Repr

/-- One landing region's content (R301, R302). -/
structure RegionSt where
  held   : List EchoUnit
  /-- Frames below this number have been released on this region (R294). -/
  released : Nat
  openDg : Option OpenDg
  closed : List Datagram
  /-- Bytes of items held. -/
  fill   : Nat
  seq    : Nat
  deriving DecidableEq, Repr

/-- The Ethernet, IP and UDP headers of a datagram (R290, R291, R299, R300). -/
structure NetHeader where
  dstMac  : Nat
  srcMac  : Nat
  /-- PCP and VID of an IEEE 802.1Q tag. -/
  tag     : Option (Nat × Nat)
  ipv6    : Bool
  srcIp   : Nat
  dstIp   : Nat
  dscp    : Nat
  /-- IPv4 identification. -/
  ident   : Nat
  srcPort : Nat
  dstPort : Nat
  deriving DecidableEq, Repr

/-- A Doley reply in a lane's reply area: its headers, whose identification transmission assigns, the packet's bytes,
and whether it answers an accepted RESET (R334). -/
structure StagedReply where
  header : NetHeader
  octets : List Nat
  reset  : Bool
  deriving DecidableEq, Repr

/-- A frame whose transmission has started. -/
structure TxFrame where
  requester : Nat
  header    : NetHeader
  dg        : Datagram
  seq       : Nat
  /-- Bytes from destination MAC address to frame check sequence. -/
  frameBytes : Nat
  /-- Its region has been written since transmission began: SEQ and the counters are reset once it ends (R301). -/
  resets    : Bool
  /-- It carries the reply of an accepted RESET (R334). -/
  reset     : Bool
  deriving DecidableEq, Repr

/-- A port's arbiter beyond LAND_PORT_STATUS (R303). -/
structure PortSt where
  tx     : Option TxFrame
  /-- 64-byte words of frames sent under this grant, and its burst limit. -/
  sent   : Nat
  burst  : Nat
  /-- The camera region served last: 0 or 1. -/
  camLast : Nat
  /-- Doley replies staged in the lane's reply area (R299). -/
  replies : List StagedReply
  /-- IPv4 identification counter (R291). -/
  ident  : Nat
  deriving DecidableEq, Repr

/-- A frame that the MAC sends without a grant (R289). -/
inductive CtrlKind where
  | arp | neighbour | echoReply | ptp
  deriving DecidableEq, Repr

/-- The PTP messages that the device sends (Table 2-3). -/
inductive PtpKind where
  | delayReq | pdelayReq | pdelayResp | pdelayFollowUp
  deriving DecidableEq, Repr

/-- A PTP message that the device sends: its sequence identifier, its own port identity, the one that it answers, and
its timestamp in 2⁻¹⁶ ns: of a Pdelay_Resp the receipt time of the request, of its Follow_Up the transmit time of the
Pdelay_Resp (R50, R51). -/
structure PtpSent where
  kind   : PtpKind
  seq    : Nat
  source : Nat
  asked  : Nat
  stamp  : Int
  deriving DecidableEq, Repr

/-- A control frame: its kind, where it goes, its PTP domain and message, and its bytes. -/
structure CtrlFrame where
  kind  : CtrlKind
  mac   : Nat
  ip    : Nat
  ptp   : Option (Nat × PtpSent)
  bytes : Nat
  deriving DecidableEq, Repr

/-- A network lane beyond its registers (chapter 12). -/
structure LaneSt where
  /-- Control frames waiting for the end of the frame in progress. -/
  ctrl    : List CtrlFrame
  /-- The last control frame sent: the model's own view of the wire. -/
  lastCtrl : Option CtrlFrame
  /-- Coarse count at which the echo-reply second began, and the replies in it (R288). -/
  icmpAt  : Nat
  icmpN   : Nat
  /-- The SGMII speed last negotiated (R312). -/
  speed   : Option Nat
  /-- The PCS is in lock, and the settings of the equaliser, continuous-time first, in steps from mid-range (R286). -/
  pcs     : Bool
  taps    : List Int
  deriving DecidableEq, Repr

/-- A reply as Table 13-1 lays it out; `rest` is the header's bytes 16 to 19. -/
structure Reply where
  version : Nat
  flags   : Nat
  opcode  : Nat
  seq     : Nat
  path    : Nat
  status  : Nat
  rest    : Nat
  payload : List Nat
  deriving DecidableEq, Repr

/-- A kept reply, its source and the coarse count of its forming (R319). -/
structure KeptReply where
  src   : Source
  seq   : Nat
  formedAt : Nat
  reply : Reply
  deriving DecidableEq, Repr

/-- One step of a stored recipe (R337). -/
structure RecipeStep where
  opcode  : Nat
  path    : Nat
  payload : List Nat
  deriving DecidableEq, Repr

/-- A stored recipe: its number, trigger word, steps and the words that RECIPE_READ returns. -/
structure Recipe where
  number  : Nat
  trigger : Nat
  steps   : List RecipeStep
  words   : List Nat
  deriving DecidableEq, Repr

/-- What the running recipe is waiting for. -/
inductive RecipeWait where
  /-- Nothing: its next step may execute. -/
  | ready
  /-- A WAIT step, until the coarse count given (R337). -/
  | delay (untilT : Nat)
  /-- An ACQUIRE that waits since the coarse count given (R341). -/
  | acquire (rank index since : Nat)
  /-- The step's command is under way: its journal group, or its answer from the cord. -/
  | reply
  /-- The step's command has ended with a status. -/
  | ended (status : Nat)
  deriving DecidableEq, Repr

/-- The running recipe: the step it will execute next, and the resources it holds, as (rank, index). -/
structure RecipeRun where
  number : Nat
  step   : Nat
  steps  : List RecipeStep
  held   : List (Nat × Nat)
  wait   : RecipeWait
  deriving DecidableEq, Repr

/-- The temperature-step trigger's reference of a recipe: recipe number and octant mean, 1/16 °C (R338). -/
structure TempBase where
  recipe : Nat
  mean   : Int
  deriving DecidableEq, Repr

/-- A packet in a core's input queue (R320): a request with its opcode. -/
structure QueuedReq where
  opcode : Nat
  req    : Req
  deriving DecidableEq, Repr

/-- A frame on HUART_TX: the rate in bit/s and the bytes, framed by SLIP (R323). -/
structure UartFrame where
  baud   : Nat
  octets : List Nat
  deriving DecidableEq, Repr

/-- Command cores, fault log and recipes: what no register shows (chapter 13). -/
structure CmdSt where
  faults   : List FaultEntry
  keptN    : List KeptReply
  keptS    : List KeptReply
  spiQ     : List Reply
  /-- The input queues of the north and the south core (R320). -/
  inN      : List QueuedReq
  inS      : List QueuedReq
  /-- What the last SPI read returned on HSPI_MISO (R322), and the last frame on HUART_TX (R323). -/
  miso     : List Nat
  uartOut  : Option UartFrame
  /-- The last reply that left on a lane, the UART or the SPI queue: the model's own view of the outputs. -/
  lastReply : Option (Source × Reply)
  recipes  : List Recipe
  queue    : List Nat
  run      : Option RecipeRun
  /-- Frame boundaries since entry to SCAN, CALIBRATE or SERVICE (R338). -/
  boundaries : Nat
  tempBase : List TempBase
  deriving DecidableEq, Repr

/-- A request that a coordinator has sent into the cord and not yet answered (R348, R349). -/
inductive CordPhase where
  /-- Forwarded to the single member named. -/
  | forward (member : Nat)
  /-- The check phase. -/
  | check
  /-- The apply phase. -/
  | apply
  /-- CORD_STATUS asks every member for its word (R352). -/
  | status
  deriving DecidableEq, Repr

/-- One member's answer. -/
structure CordAnswer where
  member  : Nat
  status  : Nat
  payload : List Nat
  /-- The fault-log ADDRESS that a refusal gives. -/
  address : Nat
  deriving DecidableEq, Repr

/-- The coordinator's transaction. -/
structure CordTxn where
  req     : Req
  opcode  : Nat
  phase   : CordPhase
  members : List Nat
  answers : List CordAnswer
  deriving DecidableEq, Repr

/-- A message that this member sends on its cord lanes: the model's own view of them. -/
inductive CordMsg where
  | rollCall (members : List Nat)
  | rollReturn (members : List Nat)
  | formed (present : Nat)
  | forward (member opcode : Nat) (r : Req)
  | check (opcode : Nat) (r : Req)
  | apply (opcode : Nat) (r : Req)
  | abort
  | answer (a : CordAnswer)
  | heartbeat (mac member epoch : Nat)
  | announce (epoch event : Nat)
  | seeds (words : List Nat)
  | marker (width : Nat)
  | relay (d : Datagram)
  deriving DecidableEq, Repr

/-- A heartbeat between the halves: the holder claim, 0 north, and the sequence number (R359). -/
structure HalfBeat where
  claim : Nat
  seq   : Nat
  deriving DecidableEq, Repr

/-- Cord membership and authority: what no register shows (chapter 14). -/
structure CordSt where
  /-- A checked cord-wide request that awaits apply or abort, by opcode (R349). -/
  checked  : Option (Nat × Req)
  txn      : Option CordTxn
  /-- The last 32 messages sent on the cord lanes, latest first: the model's own view of them. -/
  sent     : List CordMsg
  /-- Sequence number each checker sends next (R359). -/
  hbSeqN   : Nat
  hbSeqS   : Nat
  /-- The last heartbeat that each checker has sent, and the coarse count before which a checker that has detected a
  fault sends none (R359). -/
  beatN    : Option HalfBeat
  beatS    : Option HalfBeat
  muteN    : Nat
  muteS    : Nat
  /-- Coarse count since when the half heartbeats, and the cord heartbeat, have been without fault (R362). -/
  halfOkSince : Option Nat
  cordOkSince : Option Nat
  /-- The last cord heartbeat's identity and coarse count (R361). -/
  lastHb   : Option (Nat × Nat)
  /-- SPLIT_AUTHORITY has occurred and SAFE has not been left since (R362). -/
  split    : Bool
  /-- Markers missed in a row (R355). -/
  missRun  : Nat
  /-- Announced epoch and its event (R354). -/
  announced : Option (Nat × Nat)
  /-- On the master: the first frame at whose boundary an announced SWAP may take effect (R354). -/
  epochFrom : Option Nat
  /-- A mode entry that the last marker lets take effect, and an epoch start that it marked (R354). -/
  entryDue : Option Nat
  epochDue : Bool
  /-- On a follower, the frame start after the next one, where its marker has come already: coarse count, epoch start and
  forced trigger (R353). -/
  later    : Option (Nat × Bool × Bool)
  /-- On the master: the frame that the next marker announces, as far as markers have been sent (R353). -/
  marked   : Nat
  /-- The master owes the cord-reset marker (R358). -/
  resetOwed : Bool
  /-- Datagrams from CORD1 that wait to pass through to CORD0, behind this member's own (R357). -/
  through  : List Datagram
  /-- Modes of the other members present, as the last roll call brought them (R350). -/
  modes    : List (Nat × Nat)
  deriving DecidableEq, Repr

/-- A journal entry (Table 17-2); `ok` says that its CRC and COMMIT match (R407). -/
structure JEntry where
  typ     : Nat
  last    : Bool
  key     : Nat
  seq     : Nat
  group   : Nat
  payload : List Nat
  ok      : Bool
  deriving DecidableEq, Repr

/-- An item of a group that awaits the journal writer: type, key and payload words. -/
structure JItem where
  typ     : Nat
  key     : Nat
  payload : List Nat
  deriving DecidableEq, Repr

/-- A group in the writer's queue, numbered in the order of acceptance. -/
structure JGroup where
  id    : Nat
  items : List JItem
  deriving DecidableEq, Repr

/-- The group being written: items still owed, first SEQUENCE, attempts at the present entry. -/
structure JWrite where
  group    : JGroup
  todo     : List JItem
  first    : Nat
  attempts : Nat
  deriving DecidableEq, Repr

/-- A superblock (R411); `none` in its place is an invalid one. -/
structure Superblock where
  generation : Nat
  half       : Nat
  imageBytes : Nat
  lastSeq    : Nat
  deriving DecidableEq, Repr

/-- A boot selection: slot, image bytes and CRC-32C (Table 17-3, TYPE 0x06). -/
structure BootSel where
  slot  : Nat
  bytes : Nat
  crc   : Nat
  deriving DecidableEq, Repr

/-- One of the two copies of the life-log counter block (R422). -/
structure LifeCopy where
  seq    : Nat
  counts : Sparse Nat
  valid  : Bool
  deriving DecidableEq, Repr

/-- The MRAM and the life log (chapter 17). -/
structure NvsSt where
  /-- Firmware slots: word w of slot k is keyed k × 2^19 + w. -/
  slots    : Sparse Nat
  super0   : Option Superblock
  super1   : Option Superblock
  half0    : List JEntry
  half1    : List JEntry
  queue    : List JGroup
  writing  : Option JWrite
  /-- Number of the next group. -/
  nextId   : Nat
  /-- Replies that wait for a command's group to be written (R324, R415): group, source and the reply. -/
  await    : List (Nat × Source × Reply)
  /-- Last journalled words of registers and of tables (R408). -/
  jregs    : Sparse Word
  jtabs    : Sparse Word
  /-- Groups abandoned: their number, for the reply of R415. -/
  failedIds : List Nat
  /-- While a command is carried out: the first group that is its own (R415). -/
  command  : Option Nat
  /-- SEQUENCE of the next entry of the half in use. -/
  nextSeq  : Nat
  /-- The entries that the half in use held when the compaction took its snapshot (R412). -/
  snapLen  : Nat
  sel      : BootSel
  prevSel  : BootSel
  /-- An activation awaits the next reset. -/
  pendingSel : Option BootSel
  trialAt  : Option Nat
  /-- A trial has not yet run: the selection is new (R419). -/
  trialNew : Bool
  /-- Live counter block, keyed by the even word offset of Table 17-5. -/
  life     : Sparse Nat
  copyA    : LifeCopy
  copyB    : LifeCopy
  /-- Calendar words, keyed by 4i + word. -/
  calendar : Sparse Nat
  /-- Largest die temperature's low and high since the previous thermal cycle, 1/16 °C (R421). -/
  cycLow   : Int
  cycHigh  : Int
  cycRose  : Bool
  /-- Entry to SAFE by shutdown waits for the journal entry in progress (R416). -/
  safeWait : Bool
  deriving DecidableEq, Repr

/-- An enabled entry of the housekeeping table (Table 15-2). -/
structure HkEntry where
  index  : Nat
  avg    : Bool
  input  : Nat
  count  : Nat
  settle : Nat
  tag    : Nat
  deriving DecidableEq, Repr

/-- Whose conversion the converter makes: the visited entry's (R368), the host's injected one (R371), or one that an
octant run asks of a die sensor (R390). -/
inductive HkJob where
  | entry
  | host
  | sensor (n : Nat)
  deriving DecidableEq, Repr

/-- What the converter is doing (R368, R371, R390). -/
inductive HkPhase where
  | idle
  | settling (j : HkJob)
  | converting (j : HkJob)
  deriving DecidableEq, Repr

/-- The housekeeping converter beyond its registers (chapter 15). -/
structure HkSt where
  on       : Bool
  todo     : List HkEntry
  phase    : HkPhase
  left     : Nat
  sum      : Nat
  /-- Codes of the present visit that equal its first code, and that code (R373). -/
  firstCode : Option Nat
  allSame  : Bool
  lateRound : Bool
  deriving DecidableEq, Repr

/-- One temperature sensor's history (R373, R375). -/
structure SensorSt where
  /-- Its own last value, 1/16 °C, and the coarse count of that result. -/
  value    : Int
  valueAt  : Option Nat
  /-- Code that every conversion of the last `run` visits returned. -/
  runCode  : Nat
  run      : Nat
  failed   : Bool
  deriving DecidableEq, Repr

/-- One octant's thermal history (R376, R378). -/
structure OctTherm where
  /-- Integral of T_oct over the present window, 1/16 °C × ns, and where it stands. -/
  integ    : Int
  integAt  : Nat
  /-- Window integrals, latest first. -/
  means    : List Int
  changeAt : Option Nat
  /-- Two or more die sensors failed and the step to level 11 not yet taken (R381). -/
  minDue   : Bool
  /-- T_oct has reached SHUT_C and not left it since (R382). -/
  shut     : Bool
  deriving DecidableEq, Repr

/-- The thermal manager beyond its registers. -/
structure ThermSt where
  sensors : List SensorSt
  octs    : List OctTherm
  /-- Windows completed since the converter started. -/
  windows : Nat
  deriving DecidableEq, Repr

/-- A captured edge: coarse count and fine code (R61). -/
structure Edge where
  c : Nat
  f : Nat
  deriving DecidableEq, Repr

/-- The calibration values that a window holds of its front end (R73, R176). -/
structure CalVals where
  widths  : List Nat
  skews   : List Int
  offset  : Int
  tc      : Int
  calTemp : Int
  slope   : Nat
  w0      : Nat
  /-- Breakpoints W_n and corrections WALK_n. -/
  walk    : List (Nat × Int)
  deriving DecidableEq, Repr

/-- An open injector window (R116): its origin and the calibration values it holds. -/
structure InjWin where
  origin : Nat
  cal    : CalVals
  deriving DecidableEq, Repr

/-- What carries an edge group: a shot's window or an injector window (R482). -/
inductive Carrier where
  | shot (id : Nat)
  | injector
  deriving DecidableEq, Repr

/-- One pairing of an event (R150, R151): a shot whose window was open at the T0 rising edge, that shot's origin and
the calibration values that its window holds, the event's time T against that origin, and what the shot latched for
its echoes (R173): its fire-to-light delay and its angles. -/
structure Pairing where
  shot  : Nat
  origin : Nat
  cal   : CalVals
  time  : Nat
  delay : Nat
  v     : Int
  h     : Nat
  inv   : Bool
  deriving DecidableEq, Repr

/-- The edge group that is open on a front end (R65): its edges by input, its flags, its carrier, and the pairings
of its T0 rising edge with every window open at it, most recent first. -/
structure OpenGroup where
  edges   : List (Option Edge)
  multi   : Bool
  sat     : Bool
  carrier : Carrier
  pairs   : List Pairing
  /-- The window origin of the carrier. -/
  origin  : Nat
  deriving DecidableEq, Repr

/-- The last completed group of a front end (R482). -/
structure LastGroup where
  times : List (Option Nat)
  multi : Bool
  openG : Bool
  deriving DecidableEq, Repr

/-- A physical front end and its TDC: what no register shows (chapters 3 and 4). -/
structure FeSt where
  /-- RANGE and OFF in force, base thresholds T0 to T3 in force and the DELTA in force (R93). -/
  range   : Nat
  off     : Bool
  thr     : List Nat
  delta   : Int
  /-- Coarse counts at which a RANGE or OFF change, and a threshold change, became pending (R94). -/
  pendCfg : Option Nat
  pendThr : Option Nat
  /-- The next window that opens carries GAIN_SETTLE (R95). -/
  settle  : Bool
  /-- The last periods' background counts and gap times, latest first, and the present period's (R99). -/
  ring    : List (Nat × Nat)
  count   : Nat
  gap     : Nat
  /-- Coarse count outside kerfs at which the present gap began (R103). -/
  gapFrom : Nat
  /-- The DC restorer's estimate, 10 nA (R91). -/
  dcEst   : Nat
  /-- Time of the last capture of each latch bank, 1/512 ns (R67). -/
  banks   : List (Option Nat)
  group   : Option OpenGroup
  /-- Shots with a window open on it, oldest first, and the origin of an open injector window. -/
  wins    : List Nat
  inj     : Option InjWin
  last    : Option LastGroup
  /-- The sequencer has disconnected it from its detector (R392). -/
  apart   : Bool
  deriving DecidableEq, Repr

/-- A front end that nothing has touched since the front ends powered up. -/
def FeSt.init : FeSt :=
  ⟨0, false, [100, 200, 400, 800], 0, none, none, true, [], 0, 0, 0, 0, List.replicate 8 none, none, [], none, none, false⟩

/-- A crossbar switch that waits (R111): to the spare for a channel, back, or back and then to the spare for another
channel. -/
inductive SwitchReq where
  | toSpare (ch : Nat)
  | back
  | move (ch : Nat)
  deriving DecidableEq, Repr

/-- A pulse that an injector has driven (R115): AMPL, WIDTH in ns, and its start as a coarse count and 1/32 ns. -/
structure InjPulse where
  ampl  : Nat
  width : Nat
  at0   : Nat
  fine  : Nat
  deriving DecidableEq, Repr

/-- An octant's receiver: crossbar, bias control and injector beyond their registers. -/
structure RxOct where
  switch  : Option SwitchReq
  /-- A window has opened on the front end that the switch waits for (R111). -/
  opened  : Bool
  /-- Target code of the bias output (R106). -/
  target  : Nat
  /-- Pulses left of the injector run. -/
  injLeft : Nat
  /-- The pulse driven last: the model's own view of the injector's output. -/
  pulse   : Option InjPulse
  deriving DecidableEq, Repr

/-- The receiver beyond its registers (chapter 4). -/
structure RxSt where
  fes     : Sparse FeSt
  octs    : List RxOct
  /-- The front ends are powered. -/
  powered : Bool
  /-- Coarse count outside kerfs at power-up, and the total of past kerfs. -/
  powerAt : Nat
  kerfSum : Nat
  /-- Coarse count at which the present kerf began. -/
  kerfAt  : Option Nat
  deriving DecidableEq, Repr

/-- A statistics unit beyond its registers (R83): sums over the samples, and which windows have given one. -/
structure StatUnit where
  sum    : Nat
  sumSq  : Nat
  low    : Nat
  high   : Nat
  /-- Shots whose window has given its sample; the injector pulse has given its sample. -/
  done   : List Nat
  injDone : Bool
  /-- Calibration holds the unit (R86). -/
  owned  : Bool
  deriving DecidableEq, Repr

/-- A completed edge group as echo formation takes it (R170): edge times T against the carrier's origin, flags, the
pairings of R151 in order, the threshold levels in force and the calibration values of the carrier's window. -/
structure Group where
  times  : List (Option Nat)
  multi  : Bool
  sat    : Bool
  openG  : Bool
  pairs  : List Pairing
  levels : List Int
  deriving DecidableEq, Repr

/-- An entry of a peak list (Table 6-1). -/
structure Peak where
  bin  : Nat
  sum3 : Nat
  deriving DecidableEq, Repr

/-- A peak list in force, with its group number (R158, R169). -/
structure PeakList where
  group : Nat
  peaks : List Peak
  deriving DecidableEq, Repr

/-- A shot's window on one channel (R149). -/
structure ChanWin where
  ch     : Nat
  /-- Physical front end on which it opened, with the calibration values then in force (R73, R176). -/
  fe     : Nat
  cal    : CalVals
  range  : Nat
  settle : Bool
  subst  : Bool
  /-- The front end is held out of the window (R392): no window opened. -/
  held   : Bool
  isOpen : Bool
  /-- An event fell in the window. -/
  event  : Bool
  /-- Candidate groups, and whether further ones were discarded (R171). -/
  groups : List Group
  excess : Bool
  /-- The peak list in force at the close (R159). -/
  peaks  : Option PeakList
  deriving DecidableEq, Repr

/-- What a unit is formed from beyond its windows, as in force at the close of its shot's window (R17, R160, R172 to
R186): the ECHO registers, AUTO_NR, INV_POINTS, the octant's temperature, the pose and the envelopes, and the channels of
the stave on which a peak list was in force, a bit each. -/
structure EchoVals where
  form       : Nat
  tol        : Nat
  hardW      : Nat
  softW      : Nat
  gap        : Nat
  decay      : Nat
  softAmp    : Nat
  strongest  : Bool
  softSupp   : Bool
  unconfSupp : Bool
  autoNr     : Bool
  invPoints  : Bool
  temp       : Int
  pose       : List Int
  envs       : List (List Nat)
  lists      : Nat
  deriving DecidableEq, Repr

/-- An executed shot whose unit is not yet formed. -/
structure Shot where
  id        : Nat
  em        : Nat
  slot      : Nat
  frame     : Nat
  frameSec  : Nat
  frameNs   : Nat
  /-- Actual fire edge, as a coarse count and as an offset from the frame start (R133). -/
  fireC     : Nat
  offset    : Int
  outcome   : Nat
  code      : Nat
  position  : Nat
  group     : Nat
  rxMask    : Nat
  limit     : Nat
  window    : Nat
  width     : Nat
  delay     : Nat
  quality   : Nat
  forced    : Bool
  v         : Int
  h         : Nat
  vInv      : Bool
  hInv      : Bool
  /-- The curvature in force for its frame (R257). -/
  kappa     : Int
  /-- Its window has closed, or it opened none: its unit may be formed. -/
  closed    : Bool
  /-- Coarse count of the window close, or the nominal fire time of a shot that opens none (R192). -/
  closeC    : Nat
  /-- The windows were closed by a cut (R120): no record is formed. -/
  cut       : Bool
  chans     : List ChanWin
  /-- What its unit is formed from, once its window has closed. -/
  vals      : Option EchoVals
  /-- Its unit, formed at the window close and not yet presented to the landing (R17, R167). -/
  unit      : Option EchoUnit
  deriving DecidableEq, Repr

/-- A code group of an emitter that still has a bank (R155). -/
structure CodeGroup where
  number : Nat
  bank   : Nat
  /-- Executed shots, windows still open, and the largest WINDOW of the emitter's slots (R157). -/
  shots  : Nat
  opened : Nat
  wMax   : Nat
  /-- A group-starting event has ended it early. -/
  ended  : Bool
  /-- Channels whose bank was not free at position 0 (R156). -/
  lost   : List Nat
  /-- The frame of the shot that began it. -/
  since  : Nat
  deriving DecidableEq, Repr

/-- A bank handed to the octant's peak finder (R155). -/
structure PeakJob where
  ch    : Nat
  bank  : Nat
  em    : Nat
  group : Nat
  /-- The group was complete: a list is built. -/
  build : Bool
  wMax  : Nat
  deriving DecidableEq, Repr

/-- An emitter beyond its registers (chapters 5 and 6). -/
structure EmSt where
  /-- Next group number, next code position, and the frame from which the next executed slot starts a group. -/
  nextGroup : Nat
  position  : Nat
  startFrom : Option Nat
  groups    : List CodeGroup
  /-- Lists of groups below this number no longer come into force (R158). -/
  minGroup  : Nat
  /-- The same for each channel of the stave, and the latest group whose position 0 has come with the channels that it
  has lost (R156, R159). -/
  listFrom  : List Nat
  lastLost  : Nat × List Nat
  /-- The number of the first group since entry to the mode, from which ACQ_SPY_INFO counts (Table 6-5). -/
  baseGroup : Nat
  /-- Energy charged in the present window (R140). -/
  acc       : Nat
  /-- A suppression has set EYE_HIT in the present budget window (R141). -/
  eyeHit    : Bool
  /-- Consecutive bad results (R145). -/
  badRun    : Nat
  /-- FAULT has been cleared, and the emitter waits for the frame boundary (R145). -/
  waitFrame : Bool
  /-- A proof shot has been fired, and one has been evaluated, in the present interval (R146, R147). -/
  proofFired : Bool
  proofDone  : Bool
  /-- Pulses that await evaluation, oldest first: the flag marks a sweep's. -/
  evals     : List Bool
  /-- Latest fire edge, as a coarse count. -/
  lastFire  : Option Nat
  /-- Rate-floor shedding has removed it (R23); throttling has removed it (R26). -/
  shed      : Bool
  throttled : Bool
  /-- EN has been 0, or it has been in fault, since the last frame boundary (R139). -/
  wasOff    : Bool
  /-- STAGGER_POS or DOMAIN has been changed since the last frame boundary (R139). -/
  moved     : Bool
  deriving DecidableEq, Repr

/-- A slot of a frame that awaits its decision (R138, R481). -/
structure SlotJob where
  frame    : Nat
  frameC   : Nat
  frameSec : Nat
  frameNs  : Nat
  slot     : Nat
  em       : Nat
  nominal  : Nat
  word1    : Nat
  /-- Width in force for the frame (R379). -/
  width    : Nat
  forced   : Bool
  kappa    : Int
  /-- It belongs to the first frame after entry to the mode. -/
  first    : Bool
  deriving DecidableEq, Repr

/-- An executed slot that waits for its instant (R19, R186). -/
structure QueuedShot where
  job      : SlotJob
  /-- The outcome of a slot that does not fire, which waits for its nominal time. -/
  turned   : Option Nat
  /-- The outcome that LATE, CROWDED or the start of the mode gives it, unless a condition before it holds. -/
  barred   : Option Nat
  /-- The domain of its emitter, and its time before deferral, from the frame start (R133, R135). -/
  dom      : Nat
  raw      : Int
  /-- Its instant as a coarse count, and the fire edge from the frame start, deferred under R135 or not. -/
  edge     : Nat
  offset   : Int
  deferred : Bool
  /-- Current stands before its edge (R144). -/
  pre      : Bool
  position : Nat
  group    : Nat
  /-- V_ANGLE and H_ANGLE with their marks at its nominal time, once that has come (R186, R218). -/
  angles   : Option ((Int × Bool) × (Nat × Bool))
  deriving DecidableEq, Repr

/-- The next frame while its first slots are executed ahead of its boundary (R133, R481): its number, the slots already
executed, and whether its boundary exchanges the copies. -/
structure EarlyFrame where
  frame : Nat
  done  : List Nat
  swap  : Bool
  deriving DecidableEq, Repr

/-- The schedule engine beyond its registers (chapter 5). -/
structure FireSt where
  ems       : List EmSt
  /-- Slots awaiting decision, in order of nominal time, and the present frame's kerf slots: start and length. -/
  slots     : List SlotJob
  kerfs     : List (Nat × Nat)
  /-- Executed slots whose instant is still to come, and the next frame's early slots. -/
  queue     : List QueuedShot
  early     : Option EarlyFrame
  /-- Frame number of the next frame, the present frame's start, and whether frames run. -/
  nextFrame : Nat
  frameC    : Nat
  running   : Bool
  /-- FIRE_ALLOW has fallen: firing resumes at a frame boundary (R120). -/
  hold      : Bool
  /-- Latest actual fire edge of each domain (R135). -/
  domains   : List (Option Nat)
  shots     : List Shot
  nextShot  : Nat
  /-- Emitters still to be swept (R148), and proof shots placed in the present kerf. -/
  sweep     : List Nat
  proofs    : List (Nat × Nat)
  kerfEnd   : Nat
  /-- The copy brought in by the last SWAP differs per emitter: those that start a group (R139). -/
  swapGroups : List Nat
  /-- The restoration conditions of R24 have held for 1 s and hold on. -/
  restoreOk : Bool
  /-- COMMIT has computed REQUIRED since the last reset (R20, R21). -/
  committed : Bool
  /-- Engine steps per second of the committed axis rates (R224). -/
  axisSteps : Nat
  /-- Recent fire edges, latest first: coarse count and emitter (R214). -/
  edges     : List (Nat × Nat)
  deriving DecidableEq, Repr

/-- Acquisition beyond its registers (chapter 6). -/
structure AcqSt where
  /-- Bin counts, keyed (ch × 2 + bank) × 8,192 + bin. -/
  bins  : Sparse Nat
  jobs  : List PeakJob
  lists : Sparse (Option PeakList)
  /-- Coarse count of the next triggered frame start, and whether it is forced (R163, R164). -/
  due    : Option Nat
  forced : Bool
  deriving DecidableEq, Repr

/-- One completed pickoff output (R212, R218). -/
structure PkoOut where
  doneAt  : Nat
  value   : Int
  invalid : Bool
  deriving DecidableEq, Repr

/-- Excitation and trim in force from a demodulator period boundary on (R198, R204). -/
structure ExcSeg where
  start  : Nat
  div    : Nat
  phase  : Nat
  gain   : Int
  offset : Int
  deriving DecidableEq, Repr

/-- The blanking registers as they stood until a coarse count (R214). -/
structure BlankCfg where
  until0  : Nat
  pinEn   : Bool
  schedEn : Bool
  mask    : Nat
  pre     : Nat
  post    : Nat
  deriving DecidableEq, Repr

/-- The pickoff chain beyond its registers (chapter 8). -/
structure AngleSt where
  /-- Excitation segments, latest first, and the amplitude in force. -/
  segs     : List ExcSeg
  amp      : Nat
  /-- Resets taken, latest first, and whether one is due. -/
  resets   : List Nat
  resetDue : Bool
  /-- The reset that is due belongs to a start of the chain, which Table 8-3 has already counted. -/
  startDue : Bool
  /-- The last ten inputs of each stage, newest first (R206). -/
  stages   : List (List Int)
  /-- The latest unblanked sample at each position of the demodulator period: its time and value (R214). -/
  lastAt   : Sparse (Option (Nat × Int))
  /-- Completed outputs, latest first. -/
  outs     : List PkoOut
  /-- Blanking registers that have been written over since the samples of the next output began, latest first. -/
  blanks   : List BlankCfg
  deriving DecidableEq, Repr

/-- The raster profile in force (R236, R238). -/
structure Profile where
  mode   : Bool
  lo     : Int
  hi     : Int
  turn   : Nat
  frames : Nat
  deriving DecidableEq, Repr

/-- A raster that has ended: its profile, its start, its period, and the coarse count at which it ended. -/
structure Former where
  profile : Profile
  start   : Nat
  period  : Nat
  stop    : Nat
  deriving DecidableEq, Repr

/-- One servo axis beyond its registers (chapter 9). -/
structure AxisSt where
  /-- The committed estimate: angle, velocity per period, and the reference time (R225). -/
  theta   : Rat
  omega   : Rat
  te      : Nat
  /-- A first valid measurement has set the angle since entry to ACQUIRE (R231). -/
  seeded  : Bool
  /-- The program in progress: its period's start, its measurement and effective time, and OUT_PHASE. -/
  prog    : Option Nat
  meas    : Option (Int × Nat)
  phase   : Nat
  /-- Consecutive committed periods within and beyond LOCK_ERR. -/
  goodRun : Nat
  badRun  : Nat
  /-- UNPARK awaits the next period start (R234). -/
  unpark  : Bool
  /-- Pickoff outputs since the last period start (axis V). -/
  outs    : Nat
  deriving DecidableEq, Repr

/-- The outputs of one phase in a PWM period, ns: when the high output turns on and for how long it stays on, and the
same of the low output, which stays on into the next period (R242). -/
structure PhaseOut where
  highAt : Nat
  highNs : Nat
  lowAt  : Nat
  lowNs  : Nat
  deriving DecidableEq, Repr

/-- The servo engine beyond its registers (chapter 9). -/
structure ServoSt where
  v : AxisSt
  h : AxisSt
  /-- The raster: profile in force, start of φ = 0, its period, and whether it is running. -/
  profile : Profile
  rasterAt : Nat
  rasterP  : Nat
  raster   : Bool
  /-- The rasters before the present one, newest first, for instants before its start (R225, R226). -/
  before   : List Former
  /-- Encoder levels last accepted, whether an index has been seen, and faults in the present and previous period. -/
  encA   : Bool
  encB   : Bool
  errNow : Bool
  errPrev : Bool
  /-- The rotor is being aligned (R244). -/
  aligning : Bool
  /-- The rotor reference (R241): t_ref, the angle there, and frames left to the next t_ref. -/
  refAt  : Nat
  refAngle : Rat
  refLeft : Nat
  /-- REV_FRAMES × ACTIVE_NS in force. -/
  rev    : Nat
  /-- Phase duties in ns, the six outputs by phase, and the GATE_EN output (R242). -/
  duties : List Nat
  phases : List PhaseOut
  gateEn : Bool
  deriving DecidableEq, Repr

/-- A cell of one envelope in a sector bank (R259). -/
structure Cell where
  count : Nat
  xMin  : Int
  yMin  : Int
  yMax  : Int
  zMin  : Int
  deriving DecidableEq, Repr

/-- A sector that is open, or whose reports are owed (R258 to R262). -/
structure Sector where
  number  : Nat
  bank    : Nat
  lost    : Bool
  /-- The four envelope copies in force at its start (Table 10-2), and those that an APPLY changed there. -/
  envs    : List (List Nat)
  changed : Nat
  first   : Nat
  frames  : Nat
  stale   : Bool
  invalid : Nat
  kappa   : Int
  /-- Its last frame has ended; it has closed, at a device time. -/
  ended   : Bool
  closed  : Bool
  sec     : Nat
  ns      : Nat
  /-- Occupied cells, keyed e × 4,096 + c. -/
  cells   : Sparse (Option Cell)
  deriving DecidableEq, Repr

/-- Point geometry beyond its registers (chapter 10). -/
structure GeomSt where
  /-- The pose in force: TX, TY, TZ, roll, pitch, yaw. -/
  pose    : List Int
  /-- The curvature in force. -/
  kappa   : Int
  sectors : List Sector
  /-- Banks in use. -/
  busy    : List Bool
  /-- Number of the next sector. -/
  next    : Nat
  deriving DecidableEq, Repr

/-- A settings ID that a camera relay has brought: its exposure, its mark of R281, and the frame from which it is in
force (R280). -/
structure CamSettings where
  id      : Nat
  exp     : Nat
  nacked  : Bool
  from0   : Nat
  deriving DecidableEq, Repr

/-- A camera frame that is open, or whose output is owed (R270 to R283). -/
structure CamFrame where
  seq      : Nat
  settings : Nat
  exp      : Nat
  /-- FLAGS of Table 11-6. -/
  flags    : Nat
  fn       : Nat
  /-- t_FS in ns of device time. -/
  tFs      : Nat
  /-- The context in force: 32 words. -/
  ctx      : List Nat
  /-- Lines received, those kept, and those that the pipeline has consumed. -/
  got      : Nat
  lines    : List (List Nat)
  used     : Nat
  /-- It is closed to further lines; it was cut. -/
  closed   : Bool
  cut      : Bool
  /-- Y of the output lines delivered. -/
  luma     : List (List Nat)
  deriving DecidableEq, Repr

/-- An I²C write of a camera relay: device address, register address, data, and the bus rate in kHz (R279). -/
structure CciWrite where
  device : Nat
  reg    : Nat
  data   : Nat
  khz    : Nat
  deriving DecidableEq, Repr

/-- A camera port beyond its registers (chapter 11). -/
structure CamPort where
  /-- Frames opened since EN was written to 1, counted without wrapping, and whether there has been one. -/
  nextSeq  : Nat
  opened   : Bool
  /-- Frames whose output is owed, oldest first; the last may be open. -/
  frames   : List CamFrame
  /-- The context in force, and whether the next frame is the first under it (R277). -/
  ctx      : List Nat
  ctxNew   : Bool
  /-- Coarse count of the previous frame start. -/
  lastFs   : Option Nat
  /-- Settings IDs that may yet be in force, oldest first. -/
  settings : List CamSettings
  /-- Writes that the relay in progress still owes, its exposure and its ID, and the writes that it has issued, in
  order. -/
  cciLeft  : Nat
  cciExp   : Nat
  cciId    : Nat
  cciOut   : List CciWrite
  deriving DecidableEq, Repr

/-- The camera block beyond its registers. -/
structure CamSt where
  ports : List CamPort
  /-- The port whose turn it is, and the lines processed in this turn (R272). -/
  turn  : Option Nat
  taken : Nat
  /-- Input pixels of the last second, latest first: coarse count and pixels. -/
  load  : List (Nat × Nat)
  deriving DecidableEq, Repr

/-- The first of two measurements that R397 compares. -/
inductive CalFirst where
  | tdc (trim : Nat) (widths : List Nat) (skews : List Int)
  | timing (offset : Int) (w : List Int) (walk : List Int)
  | inj (refPs : Int)
  deriving DecidableEq, Repr

/-- What the statistics unit has taken for an INJ or TIMING step (R394, R395): N and the amplitudes in force when the
step began; sum and sum of squares of each run that has reached N samples; count, sum and sum of squares
of the run in progress, its start, and whether a run has missed its time limit. -/
structure CalMeas where
  n      : Nat
  ampls  : List Nat
  parts  : List (Nat × Nat)
  count  : Nat
  sum    : Nat
  sumSq  : Nat
  since  : Nat
  late   : Bool
  deriving DecidableEq, Repr

/-- An octant run in progress (R390 to R392). -/
structure CalRun where
  oct     : Nat
  kinds   : Nat
  mode    : Nat
  /-- It waits for the host's injected conversion; conversions of the die sensors still owed. -/
  waits   : Bool
  owed    : Nat
  /-- The start temperature, 1/16 °C. -/
  start   : Int
  /-- Steps still to be made, the one in progress first: front end and kind bit. -/
  todo    : List (Nat × Nat)
  /-- What the step in progress took when it started: die mean, the pulse delay in ns and 1/32 ns, the delay reference
  in 1/512 ns, limits, and for a TDC step the mode and CD_LOG2. -/
  began   : Bool
  temp    : Int
  delayNs : Nat
  delayFine : Nat
  ref     : Int
  ofsStep : Nat
  walkStep : Nat
  nativeTdc : Bool
  cdLog2  : Nat
  meas    : Option CalMeas
  first   : Option CalFirst
  deriving DecidableEq, Repr

/-- What a pickoff run has gathered (R401): sample pairs taken, sums of the squares of both converters' codes over them,
their sums over whole demodulator periods with the pairs in those, and the same of the period in progress, unless a pair
of it is missing. -/
structure PkoSums where
  pairs : Nat
  sqA   : Nat
  sqB   : Nat
  sumA  : Int
  sumB  : Int
  whole : Nat
  part  : Option (Int × Int)
  deriving DecidableEq, Repr

/-- A pickoff run that has taken nothing yet. -/
def PkoSums.init : PkoSums := ⟨0, 0, 0, 0, 0, 0, none⟩

/-- Calibration beyond its registers (chapter 16). -/
structure CalSt where
  /-- Pending runs in the order in which they became pending: octant and kinds. -/
  pend    : List (Nat × Nat)
  runN    : Option CalRun
  runS    : Option CalRun
  /-- What the pickoff run gathers, and its first result, where results are repeated (R397). -/
  pko     : PkoSums
  pkoFirst : Option (Int × Int)
  deriving DecidableEq, Repr

/-- The supply loop beyond its registers (R20 to R24, R466). -/
structure PwrSt where
  /-- Consecutive loop periods at whose end the regulator could not follow. -/
  floorRun : Nat
  /-- The last acknowledged command, the one on the bus, and those that await the bus, oldest first. -/
  acked    : Nat
  owed     : Option Nat
  later    : List Nat
  /-- PMB_ALERT_N is low. -/
  alert    : Bool
  /-- Self-test bit 7 has failed: the loop does not start (R466). -/
  noLoop   : Bool
  /-- The STEP_MV of the present loop period. -/
  step     : Nat
  deriving DecidableEq, Repr


/-- The state of the block. -/
structure State where
  pending : List Instr
  now     : Nat
  free    : Nat
  regs    : Sparse Word
  tabs    : Sparse Word
  boot    : Boot
  permits : Permits
  time    : TimeSt
  tally   : TallySt
  regions : List RegionSt
  ports   : List PortSt
  lanes   : List LaneSt
  cmd     : CmdSt
  cord    : CordSt
  nvs     : NvsSt
  hk      : HkSt
  therm   : ThermSt
  rx      : RxSt
  /-- The two statistics units, north first. -/
  stats   : List StatUnit
  fire    : FireSt
  acq     : AcqSt
  angle   : AngleSt
  servo   : ServoSt
  geom    : GeomSt
  cam     : CamSt
  cal     : CalSt
  pwr     : PwrSt
  deriving DecidableEq, Repr

/-! ### Reset

Every register reads its reset value of the register tables: an unlisted address is at `resetWord`, an unlisted table
word at `tabReset`. Outside the registers, a value that the spec does not state is 0, empty or absent (log entry 2). -/

/-- An emitter beyond its registers, as it is before its first group. -/
def EmSt.init : EmSt :=
  ⟨0, 0, some 0, [], 0, [0, 0, 0, 0], (0, []), 0, 0, false, 0, false, false, false, [], none, false, false, false, false⟩

/-- The timebase as power-up leaves it: device time zero, the PLL not yet in lock on XTAL (R34, R45). DEDUCED: log
entry 23. -/
def TimeSt.init : TimeSt :=
  { dev := 0
    src := .xtal
    locked := false
    everRef := false
    xtalOk := true
    refOkSince := none
    stepDue := none
    goodRun := 0
    badRun := 0
    missRun := 0
    todSec := none
    ppsKnown := false
    parent := none
    pathDelay := 0
    syncWait := none
    lastDiff := none
    reqSeq := 0
    reqSent := none
    tune := 0x8000
    tuneInteg := 0
    bins := List.replicate 16 ⟨0, 0⟩
    binsDirty := []
    binsAt := none }

/-- An empty store: no slot written, no valid superblock, no valid copy of the counter block. -/
def NvsSt.init : NvsSt :=
  { slots := []
    super0 := none
    super1 := none
    half0 := []
    half1 := []
    queue := []
    writing := none
    nextId := 1
    await := []
    jregs := []
    jtabs := []
    failedIds := []
    command := none
    nextSeq := 1
    snapLen := 0
    sel := ⟨0, 0, 0⟩
    prevSel := ⟨0, 0, 0⟩
    pendingSel := none
    trialAt := none
    trialNew := false
    life := []
    copyA := ⟨0, [], false⟩
    copyB := ⟨0, [], false⟩
    calendar := []
    cycLow := 32767
    cycHigh := -32768
    cycRose := false
    safeWait := false }

/-- A network lane that has had no link: its equaliser stands at mid-range (R286). -/
def LaneSt.init : LaneSt := ⟨[], none, 0, 0, none, false, [0, 0, 0, 0, 0, 0]⟩

/-- A servo axis in OFF. -/
def AxisSt.init : AxisSt := ⟨0, 0, 0, false, none, none, 0, 0, 0, false, 0⟩

/-- The state after a power-on reset, with every supply in range, RESET_N high and the internal reset still held
(R436): SELFTEST is the mode that every register table shows, and LASER_PERMIT is low. DESIGN CHOICE: log entries 2
and 3. -/
def State.reset : State :=
  { pending := []
    now := 0
    free := 0
    regs := []
    tabs := []
    boot :=
      { phase := .held, kind := 0, supplyOk := true, resetN := true, tripped := false, exiting := false,
        resetDue := .none, replyEnd := 0, resetReply := false, stStart := 0, stMs := 0, waking := false, autoScan := false, wdtN := 0,
        wdtS := 0 }
    permits := { north := false, south := false, laser := false, held := false, allow := false }
    time := TimeSt.init
    tally := { live := [], snap := [], dump := none, dumpNo := 0, dumpAt := none, bwCount := List.replicate 8 0 }
    regions := List.replicate 16 { held := [], released := 0, openDg := none, closed := [], fill := 0, seq := 0 }
    ports := List.replicate 8 { tx := none, sent := 0, burst := 0, camLast := 0, replies := [], ident := 0 }
    lanes := List.replicate 8 LaneSt.init
    cmd :=
      { faults := [], keptN := [], keptS := [], spiQ := [], inN := [], inS := [], miso := [], uartOut := none, lastReply := none, recipes := [], queue := [],
        run := none, boundaries := 0, tempBase := [] }
    cord :=
      { checked := none, txn := none, sent := [], hbSeqN := 0, hbSeqS := 0, beatN := none, beatS := none, muteN := 0,
        muteS := 0, halfOkSince := none,
        cordOkSince := none, lastHb := none, split := false, missRun := 0, announced := none, epochFrom := none, entryDue := none,
        epochDue := false, later := none, marked := 0, resetOwed := false, through := [], modes := [] }
    nvs := NvsSt.init
    hk :=
      { on := false, todo := [], phase := .idle, left := 0, sum := 0, firstCode := none, allSame := true,
        lateRound := false }
    therm :=
      { sensors := List.replicate 29 { value := 0, valueAt := none, runCode := 0, run := 0, failed := false },
        octs := List.replicate 8 { integ := 0, integAt := 0, means := [], changeAt := none, minDue := false, shut := false },
        windows := 0 }
    rx :=
      { fes := [], octs := List.replicate 8 
          { switch := none, opened := false, target := 0, injLeft := 0, pulse := none }, powered := false,
        powerAt := 0, kerfSum := 0, kerfAt := none }
    stats := List.replicate 2
      { sum := 0, sumSq := 0, low := 0, high := 0, done := [], injDone := false, owned := false }
    fire :=
      { ems := List.replicate 64 EmSt.init, slots := [], kerfs := [], queue := [], early := none, nextFrame := 0, frameC := 0,
        running := false, hold := false, domains := List.replicate 4 none, shots := [], nextShot := 0, sweep := [],
        proofs := [], kerfEnd := 0, swapGroups := [], restoreOk := false, committed := false, axisSteps := 0,
        edges := [] }
    acq := { bins := [], jobs := [], lists := [], due := none, forced := false }
    angle :=
      { segs := [], amp := 0, resets := [], resetDue := false, startDue := false, stages := [], lastAt := [],
        outs := [], blanks := [] }
    servo :=
      { v := AxisSt.init, h := AxisSt.init, profile := { mode := false, lo := 0, hi := 0, turn := 0, frames := 0 },
        rasterAt := 0, rasterP := 0, raster := false, before := [], encA := false, encB := false, errNow := false,
        errPrev := false, aligning := false, refAt := 0, refAngle := 0, refLeft := 0, rev := 0,
        duties := [0, 0, 0], phases := List.replicate 3 ⟨0, 0, 0, 0⟩, gateEn := false }
    geom := { pose := [0, 0, 0, 0, 0, 0], kappa := 0, sectors := [], busy := [false, false], next := 0 }
    cam :=
      { ports := List.replicate 2
          { nextSeq := 0, opened := false, frames := [], ctx := [], ctxNew := false, lastFs := none,
            settings := [], cciLeft := 0, cciExp := 0, cciId := 0, cciOut := [] },
        turn := none, taken := 0, load := [] }
    cal := { pend := [], runN := none, runS := none, pko := PkoSums.init, pkoFirst := none }
    pwr := { floorRun := 0, acked := 850, owed := none, later := [], alert := false, noLoop := false, step := 5 } }

end Sys2Proof.Machine
end

