-- ==== Sys2Proof/Machine/Ops.lean ====
section
/-! DEFINITION. The named operations that every family uses: register fields, table words, the passing of time,
tally counters, interrupts, the fault log and the recipe queue. -/

namespace Sys2Proof

/-- The number of a half in unit paths and cores. -/
def Half.num (h : Half) : Nat := match h with | .north => 0 | .south => 1

/-- The number of an axis (Table 18-1). -/
def Axis.num (a : Axis) : Nat := match a with | .v => 0 | .h => 1

/-- The fault log's SOURCE code (Table 13-6). -/
def Source.code (src : Source) : Nat :=
  match src with
  | .lane l _ => l.val
  | .spi => 8
  | .uart => 9
  | .recipe => 10
  | .device => 11
  | .cordLink => 12

/-- The core that takes a transport's packets (R320): 0 north, 1 south. Recipes run on the north core (R340). DEDUCED:
log entry 81. -/
def Source.core (src : Source) : Nat :=
  match src with
  | .lane l _ => if l.val < 4 then 0 else 1
  | .uart => 1
  | _ => 0

end Sys2Proof

namespace Sys2Proof.Machine

/-- Status codes (Table 13-4). -/
def St.ok : Nat := 0x0000
def St.busy : Nat := 0x0001
def St.badOpcode : Nat := 0x0010
def St.badLength : Nat := 0x0011
def St.badParam : Nat := 0x0012
def St.badPath : Nat := 0x0013
def St.access : Nat := 0x0020
def St.activeTable : Nat := 0x0021
def St.budget : Nat := 0x0030
def St.mode : Nat := 0x0040
def St.crc : Nat := 0x0050
def St.nvsFail : Nat := 0x0060
def St.cordTimeout : Nat := 0x0070
def St.safe : Nat := 0x0080

/-- Event codes (Table 13-7). -/
def Ev.rateFloor : Nat := 0x1001
def Ev.timebaseLost : Nat := 0x1002
def Ev.emitterFault : Nat := 0x1003
def Ev.emitterUnverified : Nat := 0x1004
def Ev.angleElecFault : Nat := 0x1005
def Ev.servoPark : Nat := 0x1006
def Ev.servoFault : Nat := 0x1007
def Ev.camCciFail : Nat := 0x1008
def Ev.landWdt : Nat := 0x1009
def Ev.splitAuthority : Nat := 0x100A
def Ev.calRejected : Nat := 0x100B
def Ev.calAbandoned : Nat := 0x100C
def Ev.recipeLost : Nat := 0x100D
def Ev.thermalLimit : Nat := 0x100E
def Ev.watchdogReset : Nat := 0x100F
def Ev.selftestFail : Nat := 0x1010

/-- Interrupt bits (Table 19-6). -/
def Irq.rateFloor : Nat := 0
def Irq.refLost : Nat := 1
def Irq.statDone (h : Half) : Nat := match h with | .north => 2 | .south => 3
def Irq.rxGainStall : Nat := 4
def Irq.eyeLimit : Nat := 5
def Irq.emitterFault : Nat := 6
def Irq.emitterUnverified : Nat := 7
def Irq.angleElecFault : Nat := 8
def Irq.servoPark : Nat := 9
def Irq.servoFault : Nat := 10
def Irq.camCciFail : Nat := 11
def Irq.netLink : Nat := 12
def Irq.landStarve : Nat := 13
def Irq.landWdt : Nat := 14
def Irq.cordMembers : Nat := 15
def Irq.safeEntry : Nat := 16
def Irq.thermWarn : Nat := 17
def Irq.thermThrottle : Nat := 18
def Irq.thermSensor : Nat := 19
def Irq.modeDone : Nat := 20

/-- Mode codes (Table 13-8). -/
def Mode.selftest : Nat := 0
def Mode.safe : Nat := 1
def Mode.standby : Nat := 2
def Mode.config : Nat := 3
def Mode.scan : Nat := 4
def Mode.calibrate : Nat := 5
def Mode.park : Nat := 6
def Mode.service : Nat := 7

namespace State

/-! ### Register fields -/

/-- The word at a register address. -/
def word (s : State) (a : Nat) : Nat := (Sparse.get s.regs (resetWord a) a).toNat

/-- The state with the word at a register address replaced. -/
def putWord (a v : Nat) (s : State) : State :=
  { s with regs := Sparse.put s.regs (resetWord a) a (BitVec.ofNat 32 v) }

/-- A register field. -/
def rd (s : State) (f : Fld) : Nat := bitsOf (s.word f.addr) f.hi f.lo

/-- A register field read as two's complement. -/
def rdS (s : State) (f : Fld) : Int := toS (f.hi + 1 - f.lo) (s.rd f)

/-- A one-bit field. -/
def flag (s : State) (f : Fld) : Bool := s.rd f == 1

/-- The state with a register field replaced. -/
def wr (f : Fld) (v : Nat) (s : State) : State := s.putWord f.addr (setBits (s.word f.addr) f.hi f.lo v)

/-- The state with a signed field replaced. -/
def wrS (f : Fld) (v : Int) (s : State) : State := s.wr f (ofS (f.hi + 1 - f.lo) v)

/-- The state with a one-bit field replaced. -/
def wrB (f : Fld) (b : Bool) (s : State) : State := s.wr f (b2n b)

/-- The state with bit `i` of a field set. -/
def setIn (f : Fld) (i : Nat) (s : State) : State := s.wr f (setBit (s.rd f) i)

/-- The state with bit `i` of a field clear. -/
def clearIn (f : Fld) (i : Nat) (s : State) : State := s.wr f (clearBit (s.rd f) i)

/-- A field counted up by one, saturating at its width. DEDUCED: log entry 12. -/
def bump (f : Fld) (s : State) : State :=
  if s.rd f + 1 < 2 ^ (f.hi + 1 - f.lo) then s.wr f (s.rd f + 1) else s

/-! ### Table words -/

/-- The key of a table word: table ID in [31:24], unit in [23:15], offset in [14:0] (Table 17-3). -/
def tabKey (table unit offset : Nat) : Nat := table * 2 ^ 24 + unit * 2 ^ 15 + offset

/-- A table word. -/
def tab (s : State) (table unit offset : Nat) : Nat :=
  (Sparse.get s.tabs (tabReset (tabKey table unit offset)) (tabKey table unit offset)).toNat

/-- The state with a table word replaced. -/
def putTab (table unit offset v : Nat) (s : State) : State :=
  { s with tabs := Sparse.put s.tabs (tabReset (tabKey table unit offset)) (tabKey table unit offset) (BitVec.ofNat 32 v) }

/-- Consecutive table words replaced. -/
def putTabs (table unit : Nat) (offset : Nat) : List Nat → State → State
  | [], s => s
  | v :: vs, s => putTabs table unit (offset + 1) vs (s.putTab table unit offset v)

/-- `n` consecutive table words. -/
def tabWords (s : State) (table unit offset n : Nat) : List Nat :=
  (List.range n).map (fun i => s.tab table unit (offset + i))

/-! ### Mode -/

/-- The present mode's code. -/
def mode (s : State) : Nat := s.rd F.DEV_MODE_MODE

/-- SCAN, CALIBRATE or SERVICE. -/
def firing (s : State) : Bool := s.mode == Mode.scan || s.mode == Mode.calibrate || s.mode == Mode.service

/-- STANDBY or CONFIG. DEDUCED: log entry 78. -/
def quiet (s : State) : Bool := s.mode == Mode.standby || s.mode == Mode.config

/-- COMMITTED is cleared by a change made in STANDBY or CONFIG to an item that COMMIT journals (R447). DEDUCED: log
entry 123. -/
def uncommit (s : State) : State := if s.quiet then s.wr F.DEV_STATUS_COMMITTED 0 else s

/-! ### Time -/

/-- Units of device time in a nanosecond (R46) and in a second. -/
def nsUnits : Nat := 2 ^ 40
def secUnits : Nat := 1000000000 * 2 ^ 40

/-- Device time after `n` coarse periods (R46); in PARK it counts on XTAL without correction (R457). -/
def devAfter (s : State) (n : Nat) : Nat :=
  let adj : Int := if s.mode = Mode.park then 0 else s.rdS F.TIME_RATE_ADJ_ADJ
  ((s.time.dev + (n : Int) * (nsUnits + adj)) % ((2 ^ 48 * secUnits : Nat) : Int)).toNat

/-- Time passes to coarse count `t`, unless it stands there already. DESIGN CHOICE: log entry 5; DEDUCED: log entry
78. -/
def pass (t : Nat) (s : State) : State :=
  if s.now < t then { s with now := t, time := { s.time with dev := s.devAfter (t - s.now) } } else s

/-- Device time as seconds, nanoseconds and 2⁻¹⁶ ns (R45). -/
def sec (s : State) : Nat := s.time.dev / secUnits
def nsec (s : State) : Nat := s.time.dev % secUnits / nsUnits
def frac (s : State) : Nat := s.time.dev % nsUnits / 2 ^ 24

/-- A value that the manual leaves open, fresh at each use. DESIGN CHOICE: log entry 4. -/
def fresh (s : State) : Nat := Config.freeNat s.free

/-- The counter that `fresh` applies, moved on. -/
def tick (s : State) : State := { s with free := s.free + 1 }

end State

/-! ### Tally counters -/

/-- A counter's block and index in its set (Table 18-1). -/
structure Ctr where
  block : Nat
  index : Nat
  deriving DecidableEq, Repr

/-- Counters in one set of a block's instance (Table 18-1). DEDUCED: log entry 116. -/
def tallyCount (block inst : Nat) : Nat :=
  match block with
  | 0x02 => 5 | 0x04 => 6 | 0x05 => 5 | 0x06 => 7 | 0x09 => 6 | 0x0A => 7 | 0x0B => 9
  | 0x0C => if inst < 16 then 8 else 4
  | 0x0D => 10 | 0x0F => 5 | 0x13 => 5
  | _ => 4

/-- The low indices of the chained pairs of a set (Table 18-1). DEDUCED: log entry 116. -/
def tallyChained (block inst : Nat) : List Nat :=
  match block with
  | 0x02 => [3] | 0x03 => [0] | 0x04 => [0] | 0x06 => [0] | 0x08 => [1] | 0x09 => [0] | 0x0B => [0, 2]
  | 0x0C => if inst < 16 then [2, 6] else [2]
  | 0x0E => [2] | 0x0F => [0]
  | _ => []

/-- Instances of a block (Table 18-1). -/
def tallyInst (block : Nat) : Nat :=
  match block with
  | 0x02 => 264 | 0x03 => 264 | 0x06 => 264 | 0x08 => 2 | 0x0A => 2 | 0x0B => 8 | 0x0C => 24 | 0x0D => 2
  | _ => if block ≤ 0x14 then 1 else 0

/-- A block whose set is of class C (Table 18-1). -/
def tallyClassC (block : Nat) : Bool :=
  [0x00, 0x01, 0x08, 0x0D, 0x0E, 0x0F, 0x10, 0x11, 0x12, 0x13, 0x14].contains block

/-- A counter ID (R425). -/
def ctrId (c : Ctr) (inst : Nat) : Nat := c.block * 2 ^ 24 + inst * 2 ^ 8 + c.index

namespace State

/-- R425, R426: a counter counts up; a chained pair is one 96-bit count held at its low index, any other counter
stops at 2^48 − 1. -/
def countN (c : Ctr) (inst n : Nat) (s : State) : State :=
  let k := ctrId c inst
  let v := Sparse.get s.tally.live 0 k
  if (tallyChained c.block inst).contains c.index then
    { s with tally := { s.tally with live := Sparse.put s.tally.live 0 k ((v + n) % 2 ^ 96) } }
  else
    let s' := { s with tally := { s.tally with live := Sparse.put s.tally.live 0 k (min (v + n) (2 ^ 48 - 1)) } }
    if v + n < 2 ^ 48 - 1 then s' else s'.wr F.TALLY_STATUS_SAT_ANY 1

/-- One event counted in the counter of the unit in which it occurs (R427). -/
def count (c : Ctr) (inst : Nat) (s : State) : State := s.countN c inst 1

/-- A counter's live value. -/
def counter (s : State) (c : Ctr) (inst : Nat) : Nat := Sparse.get s.tally.live 0 (ctrId c inst)

/-! ### Fault log -/

/-- R326, R328: one entry written, stamped with device time; a full ring loses its oldest and counts it. -/
def logEntry (address code source core seq opcode : Nat) (s : State) : State :=
  let e : FaultEntry := ⟨address % 2 ^ 32, code, source, core, seq, opcode, s.sec, s.nsec, s.frac⟩
  if s.cmd.faults.length < 16 then
    let l := s.cmd.faults ++ [e]
    ({ s with cmd := { s.cmd with faults := l } }).wr F.CMD_STATUS_FAULT_ENTRIES l.length
  else
    ({ s with cmd := { s.cmd with faults := s.cmd.faults.drop 1 ++ [e] } }).bump F.CMD_FAULT_OVERWRITTEN

/-- A device event's entry (Table 13-7). -/
def logEvent (code address : Nat) (s : State) : State := s.logEntry address code 0x0B 0 0 0

/-! ### The recipe queue -/

/-- The recipe's enable bit. -/
def recipeEnabled (s : State) (n : Nat) : Bool :=
  if n < 32 then bitOf (s.rd F.CMD_RECIPE_EN_LO_EN) n else bitOf (s.rd F.CMD_RECIPE_EN_HI_EN) (n - 32)

/-- R340: a recipe enters the queue of 8, merges with its queued copy, or is lost. -/
def queueRecipe (n : Nat) (s : State) : State :=
  if s.cmd.queue.contains n then s.count ⟨0x0D, 7⟩ 0
  else if s.cmd.queue.length ≥ 8 then (s.count ⟨0x0D, 8⟩ 0).logEvent Ev.recipeLost n
  else
    let q := s.cmd.queue ++ [n]
    ({ s with cmd := { s.cmd with queue := q } }).wr F.CMD_RECIPE_QUEUED q.length

/-- The recipe whose trigger a condition meets is queued, unless it is disabled (R338) or RUN_EN is 0 (R342). -/
def triggerOne (p : Recipe → Bool) (s : State) (r : Recipe) : State :=
  if s.flag F.CMD_RECIPE_RUN_EN && s.recipeEnabled r.number && p r then s.queueRecipe r.number else s

/-- Every stored recipe is offered a trigger, in ascending number. -/
def triggerRecipes (p : Recipe → Bool) (s : State) : State := s.cmd.recipes.foldl (triggerOne p) s

/-! ### Interrupts -/

/-- R458: an interrupt's bit is set, and the recipes that it triggers are queued (R338). -/
def raise (bit : Nat) (s : State) : State :=
  ((s.setIn F.DEV_INT_STATUS_INT bit).count ⟨0x00, 1⟩ 0).triggerRecipes
    (fun r => r.trigger / 2 ^ 24 == 3 && r.trigger % 2 ^ 8 == bit)

/-- INT_N is low while an enabled bit is set (R458). -/
def intN (s : State) : Bool := (s.rd F.DEV_INT_STATUS_INT &&& s.rd F.DEV_INT_EN_EN) == 0

end State

end Sys2Proof.Machine
end

