-- ==== Sys2Proof/Machine/Rx.lean ====
section
/-! DEFINITION. The receiver front end (chapter 4): settings in force and pending, the adaptive threshold loop, the
detector bias, the crossbar with the octant spare, and the reference-pulse injector. -/

namespace Sys2Proof.Machine

/-- The octant of a front end (Table 0-4). -/
def octOfFe (f : Nat) : Nat := if f < 256 then f / 32 else f - 256

/-- The clamped value of BASE + round(C1 × ΔT ÷ 256 + C2 × ΔT² ÷ 4,096) before clamping, ΔT in 1/16 °C (R106, R123,
R124). -/
def tempPoly (base c1 c2 d : Int) : Int := base + roundEven (c1 * d * 256 + c2 * d * d) (2 ^ 20)

namespace State

/-! ### Front ends and registers -/

/-- The calibration values in force on a physical front end: its bin-width table, skews, offset, temperature
coefficient, amplitude model and walk (R73, R114, R176). -/
def calNow (s : State) (f : Nat) : CalVals :=
  { widths := s.tabWords 0x09 f 0 128
    skews := [s.rdS (F.TDC_FE_SKEW_A_SKEW0 f), s.rdS (F.TDC_FE_SKEW_A_SKEW1 f), s.rdS (F.TDC_FE_SKEW_A_SKEW2 f),
      s.rdS (F.TDC_FE_SKEW_A_SKEW3 f), s.rdS (F.TDC_FE_SKEW_B_SKEW4 f), s.rdS (F.TDC_FE_SKEW_B_SKEW5 f),
      s.rdS (F.TDC_FE_SKEW_B_SKEW6 f), s.rdS (F.TDC_FE_SKEW_B_SKEW7 f)]
    offset := s.rdS (F.ECHO_FE_OFFSET_OFFSET f)
    tc := s.rdS (F.ECHO_FE_TEMP_TC f)
    calTemp := s.rdS (F.ECHO_FE_TEMP_CAL_TEMP f)
    slope := s.rd (F.ECHO_FE_AMP_SLOPE f)
    w0 := s.rd (F.ECHO_FE_AMP_W0 f)
    walk := (List.range 8).map (fun n => (s.rd (F.ECHO_FE_WALK_W f n), s.rdS (F.ECHO_FE_WALK_WALK f n))) }

/-- A physical front end. -/
def fe (s : State) (f : Nat) : FeSt := Sparse.get s.rx.fes FeSt.init f

/-- The state with a physical front end replaced. -/
def putFe (f : Nat) (x : FeSt) (s : State) : State :=
  { s with rx := { s.rx with fes := Sparse.put s.rx.fes FeSt.init f x } }

/-- The state with a physical front end changed. -/
def updFe (f : Nat) (g : FeSt → FeSt) (s : State) : State := s.putFe f (g (s.fe f))

/-- An octant's receiver beyond its registers. -/
def rxOct (s : State) (g : Nat) : RxOct := s.rx.octs.getD g ⟨none, false, 0, 0, none⟩

/-- The state with an octant's receiver replaced. -/
def putRxOct (g : Nat) (x : RxOct) (s : State) : State := { s with rx := { s.rx with octs := s.rx.octs.set g x } }

/-- The channel that octant `g`'s spare carries (R108). -/
def routedCh (s : State) (g : Nat) : Option Nat :=
  if s.flag (F.RX_OCT_XBAR_ROUTED g) then some (32 * g + s.rd (F.RX_OCT_XBAR_ROUTED_CH g)) else none

/-- The register set that a physical front end works from: while the spare is routed, the channel's (R112). -/
def logical (s : State) (f : Nat) : Nat := if 256 ≤ f then (s.routedCh (f - 256)).getD f else f

/-- The physical front end that carries a channel's input (R108). -/
def physical (s : State) (ch : Nat) : Nat :=
  if ch < 256 ∧ s.routedCh (ch / 32) = some ch then 256 + ch / 32 else ch

/-- A routed channel's own front end: it is disconnected from its input, and the spare works from its registers (R108,
R112). -/
def standsBy (s : State) (f : Nat) : Bool := decide (f < 256) && s.routedCh (f / 32) == some f

/-- A front end is in a gap whenever no shot window and no injector window is open on it. -/
def inGap (s : State) (f : Nat) : Bool := (s.fe f).wins.isEmpty && (s.fe f).inj.isNone

/-- Coarse periods outside kerfs since the beginning (R103: the loop is frozen inside kerfs). DESIGN CHOICE: log entry
34. -/
def offKerf (s : State) : Nat :=
  s.now - s.rx.kerfSum - (match s.rx.kerfAt with | some k => s.now - k | none => 0)

/-- AT_MAX and AT_MIN of a register set (R102): the loop wants to step up, or down, and cannot. -/
def showHeld (l : Nat) (atMax atMin : Bool) (s : State) : State :=
  (s.wrB (F.RX_FE_STATUS_AT_MAX l) atMax).wrB (F.RX_FE_STATUS_AT_MIN l) atMin

/-- The loop restarts: its count is cleared and VALID is 0, and it wants no step (R101, R102). DESIGN CHOICE: log
entry 34. -/
def loopRestart (f : Nat) (s : State) : State :=
  let at0 := s.offKerf
  let l := s.logical f
  let s := s.updFe f (fun x => { x with ring := [], count := 0, gap := 0, gapFrom := at0 })
  (s.wr (F.RX_FE_BG_VALID l) 0).showHeld l false false

/-- R93: a RANGE or OFF change falls due. DEDUCED: log entry 32. -/
def applyCfg (f : Nat) (s : State) : State :=
  let l := s.logical f
  let r := s.rd (F.RX_FE_CFG_RANGE l)
  let off := s.flag (F.RX_FE_CFG_OFF l)
  let x := s.fe f
  let rOld := x.range
  let s := (s.putFe f { x with pendCfg := none }).wr (F.RX_FE_STATUS_GAIN_PEND l) 0
  if r = rOld ∧ off = x.off then s
  else
    let settle := x.settle || r != rOld || (x.off && !off)
    let s := s.updFe f (fun x => { x with range := r, off := off, settle := settle })
    let s := (s.wr (F.RX_FE_STATUS_RANGE_NOW l) r).count ⟨0x03, 2⟩ f
    s.loopRestart f

/-- The base thresholds that the registers of a set hold. -/
def baseThr (s : State) (l : Nat) : List Nat :=
  [s.rd (F.RX_FE_THR_A_T0 l), s.rd (F.RX_FE_THR_A_T1 l), s.rd (F.RX_FE_THR_B_T2 l), s.rd (F.RX_FE_THR_B_T3 l)]

/-- R93: a threshold change falls due. -/
def applyThr (f : Nat) (s : State) : State :=
  let l := s.logical f
  let thr := s.baseThr l
  let delta := s.rdS (F.RX_FE_ADAPT_STATE_DELTA l)
  (s.updFe f (fun x => { x with pendThr := none, thr := thr, delta := delta })).wr (F.RX_FE_STATUS_THR_PEND l) 0

/-- R93: a RANGE or OFF change takes effect at once in a gap, and otherwise waits; a later write replaces the pending
value without restarting its count (R94). DEDUCED: log entry 32. -/
def changeCfg (f : Nat) (s : State) : State :=
  if s.inGap f then s.applyCfg f
  else
    let n := s.now
    (s.updFe f (fun x => { x with pendCfg := some (x.pendCfg.getD n) })).wr (F.RX_FE_STATUS_GAIN_PEND (s.logical f)) 1

/-- R93: the same for thresholds. -/
def changeThr (f : Nat) (s : State) : State :=
  if s.inGap f then s.applyThr f
  else
    let n := s.now
    (s.updFe f (fun x => { x with pendThr := some (x.pendThr.getD n) })).wr (F.RX_FE_STATUS_THR_PEND (s.logical f)) 1

/-- R94: a change pending since a coarse count has waited longer than PEND_LIMIT_MS. -/
def waitedLong (s : State) (since : Nat) : Bool := decide (since + s.rd F.RX_CTRL_PEND_LIMIT_MS * 1000000 < s.now)

/-- R94: a pending change of either kind has waited longer than PEND_LIMIT_MS since it became pending. DEDUCED: log
entry 32. -/
def gainStall (f : Nat) (s : State) : State :=
  let x := s.fe f
  if x.pendCfg.any s.waitedLong || x.pendThr.any s.waitedLong then
    (s.setIn F.RX_STATUS_GAIN_STALL_OCT (octOfFe f)).raise Irq.rxGainStall
  else s

/-! ### Gaps -/

/-- Whether a gap start on front end `f` is the one that the octant's waiting switch waits for: a gap start of the
front end that carries the channel's windows. DEDUCED: log entry 33. -/
def switchDueAt (s : State) (f : Nat) : Bool :=
  let g := octOfFe f
  match (s.rxOct g).switch with
  | some (.toSpare ch) => s.physical ch == f
  | some _ => f == 256 + g
  | none => false

/-- The gap time of the present period, the gap in progress included. -/
def gapSoFar (s : State) (f : Nat) : Nat :=
  (s.fe f).gap + (if s.inGap f then s.offKerf - max (s.fe f).gapFrom s.rx.powerAt else 0)

/-- The gap in progress is added to the loop's period (R99). -/
def takeGap (f : Nat) (s : State) : State :=
  let n := s.offKerf
  let gap := s.gapSoFar f
  s.updFe f (fun x => { x with gap := gap, gapFrom := n })

/-- A window opens on a front end: the gap before it is added to the loop's period (R99), and a switch that waits will
take place at the gap start that follows (R111). -/
def leaveGap (f : Nat) (s : State) : State :=
  let g := octOfFe f
  let s := if s.switchDueAt f then s.putRxOct g { s.rxOct g with opened := true } else s
  if s.inGap f then s.takeGap f else s

/-! ### The crossbar (R108 to R113) -/

/-- The state that a front end takes over at a switch (R112): settings and loop, not windows. DEDUCED: log entry
33. -/
def takeOver (src dst : FeSt) : FeSt :=
  { dst with
    range := src.range
    off := src.off
    thr := src.thr
    delta := src.delta
    pendCfg := src.pendCfg
    pendThr := src.pendThr
    ring := src.ring
    count := src.count
    gap := src.gap
    gapFrom := src.gapFrom
    dcEst := src.dcEst
    settle := true }

/-- The switch back to the routed channel's own front end. DEDUCED: log entry 33. -/
def switchBack (g : Nat) (s : State) : State :=
  match s.routedCh g with
  | none => s
  | some ch =>
    let sp := 256 + g
    let x := takeOver (s.fe sp) (s.fe ch)
    let s := s.putFe ch x
    let s := (s.wr (F.RX_OCT_XBAR_ROUTED g) 0).wr (F.RX_FE_STATUS_SUBST ch) 0
    let range := s.rd (F.RX_FE_CFG_RANGE sp)
    let own : FeSt := { s.fe sp with
      range := range
      off := s.flag (F.RX_FE_CFG_OFF sp)
      thr := s.baseThr sp
      delta := s.rdS (F.RX_FE_ADAPT_STATE_DELTA sp)
      pendCfg := none
      pendThr := none
      ring := []
      count := 0
      gap := 0
      gapFrom := s.offKerf
      settle := true }
    (s.putFe sp own).wr (F.RX_FE_STATUS_RANGE_NOW sp) range

/-- The switch to the spare for a channel; what the spare's own registers show as pending or counted ends, since it
works from the channel's. DEDUCED: log entry 33. -/
def switchTo (g ch : Nat) (s : State) : State :=
  let s := s.switchBack g
  let sp := 256 + g
  let x := takeOver (s.fe ch) (s.fe sp)
  let s := (s.putFe sp x).updFe ch (fun y => { y with pendCfg := none, pendThr := none })
  let s := (s.wr (F.RX_FE_STATUS_GAIN_PEND sp) 0).wr (F.RX_FE_STATUS_THR_PEND sp) 0
  let s := (s.wr (F.RX_FE_BG_VALID sp) 0).showHeld sp false false
  ((s.wr (F.RX_OCT_XBAR_ROUTED g) 1).wr (F.RX_OCT_XBAR_ROUTED_CH g) (ch % 32)).wr (F.RX_FE_STATUS_SUBST ch) 1

/-- A switch is requested (R111): it waits for the next gap start, or for 1 ms. DEDUCED: log entry 33. -/
def requestSwitch (g : Nat) (r : SwitchReq) (s : State) : State :=
  (s.putRxOct g { s.rxOct g with
    switch := some r
    opened := false }).wr (F.RX_OCT_XBAR_SWITCH_PEND g) 1

/-- No switch waits. -/
def dropSwitch (g : Nat) (s : State) : State :=
  (s.putRxOct g { s.rxOct g with switch := none }).wr (F.RX_OCT_XBAR_SWITCH_PEND g) 0

/-- R111: the switch that waits takes place. DEDUCED: log entry 33. -/
def xbarSwitch (g : Nat) (s : State) : State :=
  match (s.rxOct g).switch with
  | none => s
  | some (.toSpare ch) => (s.dropSwitch g).switchTo g ch
  | some .back => (s.dropSwitch g).switchBack g
  | some (.move ch) => ((s.dropSwitch g).switchBack g).requestSwitch g (.toSpare ch)

/-- R111: 1 ms after its request a switch takes place, unless a window has opened on the front end that it waits for.
DEDUCED: log entry 33. -/
def xbarTimeout (g : Nat) (s : State) : State :=
  let f := match (s.rxOct g).switch with
    | some (.toSpare ch) => s.physical ch
    | _ => 256 + g
  if s.inGap f && !(s.rxOct g).opened then s.xbarSwitch g else s

/-- R93: a gap start: pending RANGE, OFF and threshold changes take effect, then a waiting switch (R111). DEDUCED: log
entry 32. -/
def gapStart (f : Nat) (s : State) : State :=
  let at0 := s.offKerf
  let s := s.updFe f (fun x => { x with gapFrom := at0 })
  let s := if (s.fe f).pendCfg.isSome then s.applyCfg f else s
  let s := if (s.fe f).pendThr.isSome then s.applyThr f else s
  if s.switchDueAt f then s.xbarSwitch (octOfFe f) else s

/-- R109: the effect of an accepted host write of SUBST_EN and SUBST_CH, from their values before it. DEDUCED: log
entry 33. -/
def xbarSubst (g : Nat) (enOld : Bool) (chOld : Nat) (s : State) : State :=
  let en := s.flag (F.RX_OCT_XBAR_SUBST_EN g)
  let ch := s.rd (F.RX_OCT_XBAR_SUBST_CH g)
  if en then
    if !enOld || ch != chOld then
      s.requestSwitch g (if (s.routedCh g).isSome then .move (32 * g + ch) else .toSpare (32 * g + ch))
    else s
  else if enOld then
    match (s.rxOct g).switch with
    | some (.toSpare _) => s.dropSwitch g
    | _ => if s.flag (F.RX_OCT_XBAR_ROUTED g) then s.requestSwitch g .back else s
  else s

/-! ### The adaptive loop (R98 to R103) -/

/-- R98: a T0 rising crossing in a gap outside a kerf, on a front end that is on, is counted. DESIGN CHOICE: log entry
34. -/
def background (f : Nat) (s : State) : State :=
  if s.rx.powered && !(s.fe f).off && s.inGap f && s.rx.kerfAt.isNone && !s.standsBy f then
    (s.updFe f (fun x => { x with count := x.count + 1 })).count ⟨0x03, 0⟩ f
  else s

/-- Table 4-2: the step for `n` events in `gap` ns against TARGET. DESIGN CHOICE: log entry 34. -/
def loopStep (n gap target : Nat) : Int :=
  let r := n * 1000000000
  let t := target * 100 * gap
  if r ≥ 4 * t then 4 else if 4 * r ≥ 5 * t then 1 else if 2 * r ≥ t then 0 else -1

/-- R99 to R103: a loop period ends. The loop of a routed channel runs on the spare (R112). DESIGN CHOICE: log entry
34. -/
def adaptPeriod (f : Nat) (s : State) : State :=
  if s.rx.kerfAt.isSome || s.standsBy f then s
  else
    let l := s.logical f
    let x := s.fe f
    let ring := ((x.count, s.gapSoFar f) :: x.ring).take 16
    let at0 := s.offKerf
    let s := s.putFe f { x with ring := ring, count := 0, gap := 0, gapFrom := at0 }
    let n := (ring.map Prod.fst).sum
    let gap := (ring.map Prod.snd).sum
    let valid := ring.length == 16
    let rate := if gap = 0 then (Config.gaplessRate f s.now).toNat else min (n * 1000000000 / (gap * 100)) (2 ^ 23 - 1)
    let s := s.wr (F.RX_FE_BG_BG_RATE l) rate
    let s := s.wrB (F.RX_FE_BG_VALID l) valid
    let starved := decide (gap < s.rd (F.RX_FE_ADAPT_TAU l) * 1000)
    let s := s.wrB (F.RX_FE_STATUS_ADAPT_STARVED l) (valid && starved)
    if valid && !starved && s.flag (F.RX_FE_CFG_ADAPT_EN l) then
      let step := loopStep n gap (s.rd (F.RX_FE_ADAPT_TARGET l))
      let d := s.rdS (F.RX_FE_ADAPT_STATE_DELTA l)
      let t0 : Int := s.rd (F.RX_FE_THR_A_T0 l)
      let t3 : Int := s.rd (F.RX_FE_THR_B_T3 l)
      let hi := min ((s.rd (F.RX_FE_ADAPT_LIM_T0_MAX l) : Int) - t0) (1023 - t3)
      let lo := (s.rd (F.RX_FE_ADAPT_LIM_T0_MIN l) : Int) - t0
      let d' := clampI lo hi (d + step)
      let s := s.showHeld l (decide (0 < step ∧ d' ≤ d)) (decide (step < 0 ∧ d ≤ d'))
      if d' = d then s else (s.wrS (F.RX_FE_ADAPT_STATE_DELTA l) d').changeThr f
    else s.showHeld l false false

/-- R91: RX_FE_DC and DC_OVER follow the restorer's estimate, in 10 nA. A routed channel's registers show the spare's
(R112). -/
def dcUpdate (f est : Nat) (s : State) : State :=
  if s.standsBy f then s.updFe f (fun x => { x with dcEst := est })
  else
  let l := s.logical f
  let s := (s.updFe f (fun x => { x with dcEst := est })).wr (F.RX_FE_DC_DC_10NA l) (min est 40000)
  let excess := if est > 40000 then true else if est < 38000 then false else s.flag (F.RX_FE_STATUS_DC_OVER l)
  let s := s.wrB (F.RX_FE_STATUS_DC_OVER l) excess
  let g := octOfFe f
  let any := (List.range 32).any (fun k => s.flag (F.RX_FE_STATUS_DC_OVER (32 * g + k))) ||
    s.flag (F.RX_FE_STATUS_DC_OVER (256 + g))
  if any then s.setIn F.RX_STATUS_DC_OVER_OCT g else s.clearIn F.RX_STATUS_DC_OVER_OCT g

/-! ### Detector bias (R105 to R107) -/

/-- The octant die mean in 1/16 °C, from values in force (R125, R376, Table 15-4). DEDUCED: log entry 35. -/
def octMean (s : State) (g : Nat) : Int :=
  roundEven (s.rdS (F.THERM_TEMP_TEMP (3 * g)) + s.rdS (F.THERM_TEMP_TEMP (3 * g + 1)) + s.rdS (F.THERM_TEMP_TEMP (3 * g + 2))) 3

/-- The temperature that a TEMP_SRC code selects for an octant (R106, R125). DEDUCED: log entry 35. -/
def srcTemp (s : State) (g src : Nat) : Int := if src = 0 then s.octMean g else s.rdS (F.THERM_TEMP_TEMP (23 + src))

/-- R106: the target code of an octant's bias output, recomputed. DEDUCED: log entry 35. -/
def refreshBias (g : Nat) (s : State) : State :=
  let d := s.srcTemp g (s.rd (F.RX_OCT_BIAS_TEMP_SRC g)) - 400
  let v := tempPoly (s.rd (F.RX_OCT_BIAS_BASE g)) (s.rdS (F.RX_OCT_BIAS_POLY_C1 g)) (s.rdS (F.RX_OCT_BIAS_POLY_C2 g)) d
  let lo : Int := s.rd (F.RX_OCT_BIAS_LIM_MIN g)
  let hi : Int := s.rd (F.RX_OCT_BIAS_LIM_MAX g)
  let t := (clampI lo hi v).toNat
  let s := (s.putRxOct g { s.rxOct g with target := t }).wrB (F.RX_OCT_BIAS_STATUS_CLAMPED g) (decide (v < lo ∨ hi < v))
  let c := s.rd (F.RX_OCT_BIAS_STATUS_CODE g)
  s.wrB (F.RX_OCT_BIAS_STATUS_RAMP g) (s.rx.powered && decide (1 < max c t - min c t))

/-- R105: the output moves by at most 1 LSB towards its target. DEDUCED: log entry 35. -/
def biasStep (g : Nat) (s : State) : State :=
  if s.rx.powered then
    let c := s.rd (F.RX_OCT_BIAS_STATUS_CODE g)
    let t := (s.rxOct g).target
    let c' := if c < t then c + 1 else if t < c then c - 1 else c
    (s.wr (F.RX_OCT_BIAS_STATUS_CODE g) c').wrB (F.RX_OCT_BIAS_STATUS_RAMP g) (decide (1 < max c' t - min c' t))
  else s

/-- R105: an output goes at once to OFF_CODE. -/
def biasOffOne (s : State) (g : Nat) : State :=
  (s.wr (F.RX_OCT_BIAS_STATUS_CODE g) (s.rd (F.RX_OCT_BIAS_OFF_CODE g))).wr (F.RX_OCT_BIAS_STATUS_RAMP g) 0

/-- Every bias output at OFF_CODE. -/
def biasOff (s : State) : State := (List.range 8).foldl biasOffOne s

/-- The front ends power up (R95): the next window of each carries GAIN_SETTLE, and the outputs begin to ramp. -/
def rxPowerUp (s : State) : State :=
  if s.rx.powered then s
  else
    let fes := (s.rx.fes.map (fun p => (p.1, { p.2 with settle := true }))).filter (fun p => decide (p.2 ≠ FeSt.init))
    let s := { s with rx := { s.rx with powered := true, powerAt := s.offKerf, fes := fes } }
    (List.range 8).foldl (fun s g => s.refreshBias g) s

/-- The front ends power down, and the bias outputs go to OFF_CODE (R105, R449). -/
def rxPowerDown (s : State) : State :=
  ({ s with rx := { s.rx with powered := false } }).biasOff

/-! ### The injector (R115 to R117) -/

/-- The front ends that a TARGET code names in octant `g`. -/
def injTargets (g target : Nat) : List Nat :=
  if target < 32 then [32 * g + target] else if target = 32 then [256 + g]
  else (List.range 32).map (fun k => 32 * g + k) ++ [256 + g]

/-- A front end is disconnected from its detector: a routed channel, or the spare while it is not routed (R117). -/
def disconnected (s : State) (g f : Nat) : Bool :=
  if f < 256 then s.routedCh g == some f else (s.routedCh g).isNone

/-- R117: whether GO is accepted, as a status. -/
def injGoStatus (s : State) (g target : Nat) : Nat :=
  if s.flag (F.RX_OCT_INJ_CTRL_OWNED g) then St.busy
  else if s.mode = Mode.scan then
    if (injTargets g target).all (s.disconnected g) then St.ok else St.mode
  else if s.mode = Mode.config ∨ s.mode = Mode.calibrate ∨ s.mode = Mode.service ∨ s.mode = Mode.selftest then St.ok
  else St.mode

/-- R117: a run starts. DEDUCED: log entry 36. -/
def injStart (g : Nat) (s : State) : State :=
  (s.putRxOct g { s.rxOct g with injLeft := s.rd (F.RX_OCT_INJ_RATE_COUNT g) }).wr (F.RX_OCT_INJ_CTRL_RUN g) 1

/-- R117: the run ends after the current pulse. -/
def injEnd (g : Nat) (s : State) : State :=
  (s.putRxOct g { s.rxOct g with injLeft := 0 }).wr (F.RX_OCT_INJ_CTRL_RUN g) 0

/-- The run of a half (R390). -/
def calRun (s : State) (u : Nat) : Option CalRun := if u = 0 then s.cal.runN else s.cal.runS

/-- The state with a half's run replaced. -/
def putRun (u : Nat) (r : Option CalRun) (s : State) : State :=
  if u = 0 then { s with cal := { s.cal with runN := r } } else { s with cal := { s.cal with runS := r } }

/-- The front end, and the kind bit, that a half's calibration measures through its statistics unit (R394, R395). -/
def calMeasures (s : State) (u : Nat) : Option (Nat × Nat) :=
  match s.calRun u with
  | some r => if r.began && r.meas.isSome then r.todo.head? else none
  | none => none

/-- The front end whose injector windows a statistics unit takes samples from. -/
def statFe (s : State) (u : Nat) : Nat := ((s.calMeasures u).map Prod.fst).getD (s.rd (F.TDC_STAT_CTRL_FE u))

/-- R115, R83: a pulse opens an injector window on one target: a new qualifying window for a unit that watches it.
DEDUCED: log entry 36. -/
def injOpen (s : State) (f : Nat) : State :=
  let s := s.leaveGap f
  let w : InjWin := ⟨s.now, s.calNow f⟩
  let s := s.updFe f (fun x => { x with inj := some w })
  { s with stats := s.stats.mapIdx (fun u (x : StatUnit) => if s.statFe u = f then { x with injDone := false } else x) }

/-- R115, R116: a pulse on some front ends: it is driven, or skipped where a shot window is open on any of them.
DEDUCED: log entry 36. -/
def injFire (g : Nat) (fs : List Nat) (p : InjPulse) (s : State) : State :=
  if fs.all (fun f => (s.fe f).wins.isEmpty) then
    let s := fs.foldl injOpen s
    s.putRxOct g { s.rxOct g with pulse := some p }
  else s.bump (F.RX_OCT_INJ_STATUS_SKIPPED g)

/-- Statistics runs that a kind's step makes (R394, R395). -/
def calParts (kind : Nat) : Nat := if kind = 2 then 1 else 16

/-- R394, R395: the next pulse of a calibration step on front end `f`. DEDUCED: log entry 106. -/
def calPulse (g f kind : Nat) (r : CalRun) (m : CalMeas) (s : State) : State :=
  if m.parts.length = calParts kind then s
  else s.injFire g [f] ⟨m.ampls.getD (m.parts.length / 2) 255, 5, s.now + r.delayNs, r.delayFine⟩

/-- A pulse of the host's run (R115, R117). -/
def hostPulse (g : Nat) (s : State) : State :=
  if s.flag (F.RX_OCT_INJ_CTRL_RUN g) then
    let p : InjPulse :=
      { ampl := s.rd (F.RX_OCT_INJ_CTRL_AMPL g)
        width := s.rd (F.RX_OCT_INJ_CTRL_WIDTH g)
        at0 := s.now + s.rd (F.RX_OCT_INJ_TIME_DELAY_NS g)
        fine := s.rd (F.RX_OCT_INJ_TIME_DELAY_FINE g) }
    let s := s.injFire g (injTargets g (s.rd (F.RX_OCT_INJ_CTRL_TARGET g))) p
    if s.flag (F.RX_OCT_INJ_CTRL_CONT g) then s
    else
      let k := (s.rxOct g).injLeft - 1
      if k = 0 then s.injEnd g else s.putRxOct g { s.rxOct g with injLeft := k }
  else s

/-- R115: the injector period elapses. DEDUCED: log entry 36. -/
def injPulse (g : Nat) (s : State) : State :=
  match s.calRun (g / 4), s.calMeasures (g / 4) with
  | some r, some (f, kind) =>
    if r.oct = g then (match r.meas with | some m => s.calPulse g f kind r m | none => s) else s.hostPulse g
  | _, _ => s.hostPulse g

end State
end Sys2Proof.Machine
end

