-- ==== Sys2Proof/Machine/Acq.lean ====
section
/-! DEFINITION. Coarse histograms, code-group banks and peak lists, and the external trigger (chapter 6). -/

namespace Sys2Proof.Machine

namespace State

/-! ### Emitters and shots -/

/-- An emitter beyond its registers. -/
def em (s : State) (e : Nat) : EmSt := s.fire.ems.getD e EmSt.init

/-- The state with an emitter replaced. -/
def putEm (e : Nat) (x : EmSt) (s : State) : State := { s with fire := { s.fire with ems := s.fire.ems.set e x } }

/-- The state with an emitter changed. -/
def updEm (e : Nat) (f : EmSt → EmSt) (s : State) : State := s.putEm e (f (s.em e))

/-- A shot whose unit is not yet formed. -/
def shot? (s : State) (id : Nat) : Option Shot := s.fire.shots.find? (fun x => x.id == id)

/-- The state with a shot changed. -/
def updShot (id : Nat) (f : Shot → Shot) (s : State) : State :=
  { s with fire := { s.fire with shots := s.fire.shots.map (fun x => if x.id = id then f x else x) } }

/-- A shot's window on a channel changed. -/
def updWin (id ch : Nat) (f : ChanWin → ChanWin) (s : State) : State :=
  s.updShot id (fun x => { x with chans := x.chans.map (fun w => if w.ch = ch then f w else w) })

/-! ### Histogram banks (R153) -/

/-- The key of a bank, and of a bin. -/
def bankKey (ch bank : Nat) : Nat := ch * 2 + bank
def binKey (ch bank b : Nat) : Nat := (ch * 2 + bank) * 8192 + b

/-- One event counted in a bin; a count at 255 stays (R153). -/
def addBin (ch bank b : Nat) (s : State) : State :=
  let k := binKey ch bank b
  let v := Sparse.get s.acq.bins 0 k
  { s with acq := { s.acq with bins := Sparse.put s.acq.bins 0 k (min (v + 1) 255) } }

/-- The listed bins of a bank: bin and count, ascending. -/
def bankBins (s : State) (ch bank : Nat) : List (Nat × Nat) :=
  (s.acq.bins.filter (fun p => p.1 / 8192 == bankKey ch bank)).map (fun p => (p.1 % 8192, p.2))

/-- A bank cleared. -/
def clearBank (ch bank : Nat) (s : State) : State :=
  { s with acq := { s.acq with bins := s.acq.bins.filter (fun p => p.1 / 8192 != bankKey ch bank) } }

end State

/-! ### The peak finder (R157) -/

/-- The count of a bin in a bank's listed bins; bins outside 0 to B − 1 count as 0. -/
def binAt (l : List (Nat × Nat)) (b i : Nat) : Nat :=
  if i < b then (l.find? (fun p => p.1 == i)).elim 0 (fun p => p.2) else 0

/-- Peaks in order of falling COUNT3, ties to the lower bin: `p` goes before `q`. -/
def peakBefore (p q : Peak) : Bool := q.sum3 < p.sum3 || (p.sum3 == q.sum3 && p.bin < q.bin)

/-- A peak put into a list in that order. -/
def insertPeak (p : Peak) : List Peak → List Peak
  | [] => [p]
  | q :: r => if peakBefore p q then p :: q :: r else q :: insertPeak p r

/-- R157: the peak list of a bank. -/
def findPeaks (l : List (Nat × Nat)) (wMax minCount factor : Nat) : List Peak :=
  let b := ceilDiv wMax 2
  let total := ((l.filter (fun p => p.1 < b)).map Prod.snd).sum
  let isPeak := fun (p : Nat × Nat) =>
    decide (p.1 < b) && decide (minCount ≤ p.2) && decide (factor * total ≤ p.2 * b) &&
    (p.1 == 0 || decide (binAt l b (p.1 - 1) ≤ p.2)) && decide (binAt l b (p.1 + 1) < p.2)
  let peaks := (l.filter isPeak).map (fun p =>
    (⟨p.1, (if p.1 = 0 then 0 else binAt l b (p.1 - 1)) + p.2 + binAt l b (p.1 + 1)⟩ : Peak))
  sortBy Peak.bin ((peaks.foldl (fun a p => insertPeak p a) []).take 16)

namespace State

/-! ### Code groups and their banks (R139, R155, R156, R158) -/

/-- A code group handed over for one channel: its saturated bins are counted, and the peak finder gets the bank.
DEDUCED: log entry 43. -/
def handBank (e : Nat) (g : CodeGroup) (s : State) (ch : Nat) : State :=
  if g.lost.contains ch then s
  else
    let sat := ((s.bankBins ch g.bank).filter (fun p => p.2 == 255)).length
    let s := if sat = 0 then s else (s.countN ⟨0x05, 0⟩ 0 sat).setIn F.ACQ_STATUS_SAT_OCT (e / 8)
    let j : PeakJob := ⟨ch, g.bank, e, g.number, !g.ended, g.wMax⟩
    { s with acq := { s.acq with jobs := s.acq.jobs ++ [j] } }

/-- The channels of a stave (R7). -/
def staveCh (e : Nat) : List Nat := [4 * e, 4 * e + 1, 4 * e + 2, 4 * e + 3]

/-- R155: a code group closes when its last window has closed, after its 64th executed shot or after its early end.
DEDUCED: log entry 43. -/
def closeGroup (e num : Nat) (s : State) : State :=
  match (s.em e).groups.find? (fun g => g.number == num) with
  | none => s
  | some g =>
    if g.opened = 0 ∧ (g.shots = 64 ∨ g.ended) then
      let s := s.updEm e (fun x => { x with groups := x.groups.filter (fun y => y.number != num) })
      (staveCh e).foldl (handBank e g) s
    else s

/-- A code group of an emitter changed. -/
def updGroup (e num : Nat) (f : CodeGroup → CodeGroup) (s : State) : State :=
  s.updEm e (fun x => { x with groups := x.groups.map (fun g => if g.number = num then f g else g) })

/-- Whether a bank is neither with the peak finder nor with a group other than `num`. DEDUCED: log entry 43. -/
def bankFree (s : State) (e num bank ch : Nat) : Bool :=
  !s.acq.jobs.any (fun j => j.ch == ch && j.bank == bank) &&
  !(s.em e).groups.any (fun g => g.number != num && g.bank == bank && !g.lost.contains ch)

/-- The lists in force of some channels are discarded (R158). DEDUCED: log entry 43. -/
def dropListsOf (chs : List Nat) (s : State) : State :=
  { s with acq := { s.acq with lists := s.acq.lists.filter (fun p => !chs.contains p.1) } }

/-- R159: at position 0 of a group that follows a group lost on some channels, their lists go out of force, and none
of a group before it comes into force. DEDUCED: log entry 43. -/
def followLost (e num : Nat) (s : State) : State :=
  let prev := (s.em e).lastLost
  let chs := if prev.1 + 1 = num then prev.2 else []
  (s.dropListsOf chs).updEm e (fun x => { x with
    listFrom := (x.listFrom.zip (staveCh e)).map (fun p => if chs.contains p.2 then num else p.1) })

/-- R156: at the fire edge of a group's position 0, the channels whose bank is not free lose it. DEDUCED: log entry
43. -/
def claimBanks (e num : Nat) (s : State) : State :=
  let lost := (staveCh e).filter (fun ch => !s.bankFree e num (num % 2) ch)
  let s := (s.followLost e num).updEm e (fun x => { x with lastLost := (num, lost) })
  if lost.isEmpty then s
  else
    let s := s.updGroup e num (fun g => { g with lost := lost })
    (s.countN ⟨0x05, 1⟩ 0 lost.length).setIn F.ACQ_STATUS_PEAK_LOST_OCT (e / 8)

/-- R139: a code group begins with a shot of frame `k`, at position 0. DEDUCED: log entry 43. -/
def startGroup (e k wMax : Nat) (s : State) : State :=
  s.updEm e (fun x => { x with
    nextGroup := x.nextGroup + 1
    position := 0
    groups := x.groups ++ [⟨x.nextGroup, x.nextGroup % 2, 0, 0, wMax, false, [], k⟩] })

/-- R155, R158: the groups of an emitter that `p` names end early, and the lists of those before number `n` no longer
come into force. DEDUCED: log entry 43. -/
def endGroups (e n : Nat) (p : CodeGroup → Bool) (s : State) : State :=
  let x := s.em e
  let s := s.putEm e { x with
    minGroup := n
    groups := x.groups.map (fun g => if p g && decide (g.shots < 64) then { g with ended := true } else g) }
  x.groups.foldl (fun s g => s.closeGroup e g.number) s

/-- The lists in force of a stave's channels are discarded (R158). DEDUCED: log entry 43. -/
def dropLists (e : Nat) (s : State) : State := s.dropListsOf (staveCh e)

/-- A group that a shot of frame `k` began ahead of that frame's boundary (R481). DEDUCED: log entry 43. -/
def earlyGroup (s : State) (k : Nat) (g : CodeGroup) : Bool :=
  s.fire.early.any (fun x => x.frame == k) && decide (k ≤ g.since)

/-- R139, R155, R158: a group-starting event for an emitter at the boundary before frame `k`. A group that frame `k`
has already begun is the group that the event starts (R481). DEDUCED: log entry 43. -/
def groupEvent (e k : Nat) (s : State) : State :=
  let x := s.em e
  let s := s.dropLists e
  match x.groups.find? (s.earlyGroup k) with
  | some g => s.endGroups e g.number (fun g => !s.earlyGroup k g)
  | none =>
    (s.updEm e (fun x => { x with startFrom := some (x.startFrom.elim k (min k)) })).endGroups e x.nextGroup (fun _ => true)

/-- R139: the code group of the shot of frame `k` about to execute: a new one at a group start, which ends those
before it, or after 64 shots. Ahead of the boundary a list of those before may still come into force (R158). DEDUCED:
log entry 43. -/
def enterGroup (e k wMax : Nat) (s : State) : State :=
  let x := s.em e
  if x.startFrom.any (fun f => decide (f ≤ k)) then
    let n := if s.fire.early.any (fun p => p.frame == k) then x.minGroup else x.nextGroup
    ((s.endGroups e n (fun _ => true)).updEm e (fun x => { x with startFrom := none })).startGroup e k wMax
  else if 64 ≤ x.position then s.startGroup e k wMax
  else s

/-- R157, R158: the peak finder completes the oldest bank handed over for a channel. DEDUCED: log entry 43. -/
def peakListDone (ch : Nat) (s : State) : State :=
  match s.acq.jobs.find? (fun j => j.ch == ch) with
  | none => s
  | some j =>
    let peaks := findPeaks (s.bankBins ch j.bank) j.wMax (s.rd F.ACQ_PEAK_MIN_COUNT) (s.rd F.ACQ_PEAK_FACTOR)
    let s := { s with acq := { s.acq with jobs := s.acq.jobs.erase j } }
    let s := s.clearBank ch j.bank
    if j.build && decide ((s.em j.em).minGroup ≤ j.group) && decide ((s.em j.em).listFrom.getD (ch % 4) 0 ≤ j.group) then
      { s with acq := { s.acq with lists := Sparse.put s.acq.lists none ch (some ⟨j.group, peaks⟩) } }
    else s

/-- The peak list in force on a channel (R158). -/
def listOf (s : State) (ch : Nat) : Option PeakList := Sparse.get s.acq.lists none ch

/-- A word of a peak list (Table 6-1). -/
def peakWord (p : Peak) : Nat := p.sum3 * 2 ^ 16 + p.bin

/-- R169: the list in force on the selected front end is latched. While its spare is routed, a channel's list is the
channel's (R154); a spare has none of its own. DEDUCED: log entry 44. -/
def spyLatch (s : State) : State :=
  let fe := s.rd F.ACQ_SPY_SEL_FE
  match s.listOf fe with
  | none =>
    let s := ((s.wr F.ACQ_SPY_INFO_GROUP 0).wr F.ACQ_SPY_INFO_VALID 0).wr F.ACQ_SPY_INFO_PEAKS 0
    (List.range 16).foldl (fun s n => s.putWord (A.ACQ_SPY_PEAK n) 0) s
  | some l =>
    let s := ((s.wr F.ACQ_SPY_INFO_GROUP ((l.group - (s.em (fe / 4)).baseGroup) % 65536)).wr F.ACQ_SPY_INFO_VALID 1).wr F.ACQ_SPY_INFO_PEAKS l.peaks.length
    (List.range 16).foldl (fun s n => s.putWord (A.ACQ_SPY_PEAK n) ((l.peaks[n]?).elim 0 peakWord)) s

/-! ### Triggering (R162 to R165) -/

/-- External starting is in force: TRIG_SRC external, in SCAN or SERVICE (R162). -/
def extTrig (s : State) : Bool :=
  s.rd F.ACQ_CTRL_TRIG_SRC == 1 && (s.mode == Mode.scan || s.mode == Mode.service)

/-- A follower (R345). -/
def isFollower (s : State) : Bool := s.flag F.CORD_STRAPS_ROLE && !s.flag F.CORD_STRAPS_MASTER

/-- R163: an edge of the filtered EXT_TRIG input; `level` is the new level. DEDUCED: log entry 46. -/
def extTrigEdge (level : Bool) (s : State) : State :=
  let s := s.wrB F.ACQ_STATUS_EXT_TRIG_LEVEL level
  if s.isFollower || !s.extTrig || level == s.flag F.ACQ_TRIG_EDGE then s
  else if s.flag F.ACQ_STATUS_TRIG_ARMED then
    let d := s.now - s.rd F.ACQ_TRIG_FILTER * 10 + s.rd F.ACQ_TRIG_DELAY_NS
    let s := s.wr F.ACQ_STATUS_TRIG_ARMED 0
    { s with acq := { s.acq with due := some d, forced := false } }
  else s.count ⟨0x05, 2⟩ 0

/-- R164: TIMEOUT_MS has elapsed since arming. DEDUCED: log entry 46. -/
def trigTimeout (s : State) : State :=
  if s.extTrig && s.flag F.ACQ_STATUS_TRIG_ARMED && !s.isFollower then
    let d := s.now + s.rd F.ACQ_TRIG_DELAY_NS
    let s := s.wr F.ACQ_STATUS_TRIG_ARMED 0
    { s with acq := { s.acq with due := some d, forced := true } }
  else s

/-- R164: a triggered or forced frame starts: it is counted, and FORCED_LAST follows. -/
def trigStart (s : State) : State :=
  if !s.extTrig || s.isFollower || s.acq.due.isNone then s
  else if s.acq.forced then (s.wr F.ACQ_STATUS_FORCED_LAST 1).count ⟨0x05, 3⟩ 0
  else (s.wr F.ACQ_STATUS_FORCED_LAST 0).count ⟨0x05, 4⟩ 0

/-- The trigger is armed, at entry to the mode and at the end of every frame (R163). DEDUCED: log entry 46. -/
def armTrigger (s : State) : State :=
  if s.extTrig && !s.isFollower then s.wr F.ACQ_STATUS_TRIG_ARMED 1 else s

end State
end Sys2Proof.Machine
end

