-- ==== Sys2Proof/Machine/Trig.lean ====
section
/-! DEFINITION. Sine and cosine of a fraction of a turn in fixed point, for the demodulator's reference (R205), the
phase duties (R242) and point geometry (R247, R248). -/

namespace Sys2Proof.Machine

/-- The fixed point: values are units of 2⁻⁹⁰. -/
def fixOne : Int := 2 ^ 90

/-- 2π in units of 2⁻⁹⁰, to the nearest unit. -/
def twoPiFix : Int := 7778206666007221413453810769

/-- The Taylor series of sine or cosine: terms from `term`, whose next one divides by (n + 1)(n + 2). -/
def taylor (x2 : Int) : Nat → Nat → Int → Int → Int
  | 0, _, _, acc => acc
  | k + 1, n, term, acc =>
    let t := -(term * x2 / fixOne) / ((n + 1) * (n + 2) : Nat)
    taylor x2 k (n + 2) t (acc + t)

/-- Sine and cosine of 0 ≤ x ≤ π/2, in the fixed point. DEDUCED: log entry 50. -/
def sinFix (x : Int) : Int := taylor (x * x / fixOne) 20 1 x x
/-- Cosine likewise. DEDUCED: log entry 50. -/
def cosFix (x : Int) : Int := taylor (x * x / fixOne) 20 0 fixOne fixOne

/-- Cosine and sine of num ÷ den of a turn, in the fixed point. DEDUCED: log entry 50. -/
def cosSin (num : Int) (den : Nat) : Int × Int :=
  let r := (num % den).toNat
  let q := 4 * r / den
  let rest := 4 * r - q * den
  let x := twoPiFix * rest / (4 * den : Nat)
  let c := cosFix x
  let n := sinFix x
  if q = 0 then (c, n) else if q = 1 then (-n, c) else if q = 2 then (-c, -n) else (n, -c)

/-- R205: 32,767 × cos(2π × num ÷ den), rounded to nearest with ties to even. A tie arises only where the cosine is
±1/2; there the rounded value is ±16,384. DEDUCED: log entry 50. -/
def refCos (num den : Nat) : Int :=
  let r := num % den
  if 6 * r = den ∨ 6 * r = 5 * den then 16384
  else if 6 * r = 2 * den ∨ 6 * r = 4 * den then -16384
  else roundEven (32767 * (cosSin r den).1) (2 ^ 90)

end Sys2Proof.Machine
end

