-- ==== Sys2Proof/Machine/Servo.lean ====
section
/-! DEFINITION. The scan servo engine (chapter 9): estimators, control law, axis states, the raster profile, the
encoder, the rotor reference and the phase outputs. -/

namespace Sys2Proof.Machine

/-- The integer nearest to a rational, ties to even. -/
def ratRound (q : Rat) : Int := roundEven q.num q.den

/-- An integer, or a quotient of integers, as a rational. -/
def ratOf (i : Int) : Rat := Rat.ofInt i
def ratDiv (a : Int) (b : Nat) : Rat := mkRat a b

/-- A rational held between two integers. -/
def ratClamp (lo hi : Int) (q : Rat) : Rat := if q < ratOf lo then ratOf lo else if ratOf hi < q then ratOf hi else q

/-- A rational wrapped into −2¹⁹ to 2¹⁹ (R225). -/
def wrapH (q : Rat) : Rat := q - ratOf (2 ^ 20 * (mkRat (q.num + 2 ^ 19 * q.den) (q.den * 2 ^ 20)).floor)

/-- R207: the group delay of S stages, ns. -/
def groupDelay (stages : Nat) : Nat := 125 * (2 ^ stages - 1) + 150

/-- Axis states (Table 9-2) and causes. -/
def AxOff : Nat := 0
def AxAcquire : Nat := 1
def AxLocked : Nat := 2
def AxCoast : Nat := 3
def AxParked : Nat := 4
def AxFault : Nat := 5

/-- Reference angle and its first two derivatives per ns (Table 9-3). -/
structure Reference where
  r  : Rat
  r1 : Rat
  r2 : Rat
  deriving DecidableEq, Repr

/-- Table 9-3: the raster reference at phase φ. -/
def rasterRef (p : Profile) (period : Nat) (phi : Rat) : Reference :=
  let tt := ratOf p.turn
  let per := ratOf period
  let h := per / 2
  let v := 2 * ratOf (p.hi - p.lo) / (per - tt)
  let a := 2 * v / tt
  let lo := ratOf p.lo
  let hi := ratOf p.hi
  if phi < tt / 2 then ⟨lo + a * phi * phi / 2, a * phi, a⟩
  else if phi < h - tt / 2 then ⟨lo + v * tt / 4 + v * (phi - tt / 2), v, 0⟩
  else if phi < h + tt / 2 then ⟨hi - a * (phi - h) * (phi - h) / 2, -(a * (phi - h)), -a⟩
  else if phi < per - tt / 2 then ⟨hi - v * tt / 4 - v * (phi - h - tt / 2), -v, 0⟩
  else ⟨lo + a * (per - phi) * (per - phi) / 2, -(a * (per - phi)), a⟩

namespace State

/-! ### Periods, banks and the estimate -/

/-- An axis beyond its registers, and the state with it replaced or changed. -/
def axis (s : State) (ax : Axis) : AxisSt := match ax with | .v => s.servo.v | .h => s.servo.h
def putAxis (ax : Axis) (x : AxisSt) (s : State) : State :=
  match ax with
  | .v => { s with servo := { s.servo with v := x } }
  | .h => { s with servo := { s.servo with h := x } }
def updAxis (ax : Axis) (f : AxisSt → AxisSt) (s : State) : State := s.putAxis ax (f (s.axis ax))

/-- The axis's state of Table 9-2. -/
def axState (s : State) (ax : Axis) : Nat := s.rd (F.SERVO_AXIS_STATUS_STATE ax.num)

/-- ACQUIRE, LOCKED or COAST: the loop is closed (R231). -/
def axClosed (s : State) (ax : Axis) : Bool :=
  s.axState ax == AxAcquire || s.axState ax == AxLocked || s.axState ax == AxCoast

/-- R220: the period length of an axis, ns. -/
def axPeriod (s : State) (ax : Axis) : Nat :=
  match ax with
  | .v => s.rd F.SERVO_V_CFG_V_DIV * 2 ^ s.rd F.ANGLE_DEC_STAGES * 25
  | .h => 100000

/-- A signed word of a coefficient bank (Table 9-1). -/
def bankWord (s : State) (ax : Axis) (bank w : Nat) : Int :=
  toS 32 (s.tab 0x06 0 ((ax.num * 2 + bank) * 16 + w))

/-- The bank in force on an axis. -/
def bankNow (s : State) (ax : Axis) : Nat := s.rd (F.SERVO_AXIS_STATUS_BANK ax.num)

/-- A coefficient of the bank in force. -/
def coef (s : State) (ax : Axis) (w : Nat) : Int := s.bankWord ax (s.bankNow ax) w

end State

/-- Table 9-1: whether sixteen words are a valid bank of an axis. -/
def bankOk (ax : Axis) (ws : List Nat) : Bool :=
  let g := fun i => toS 32 (ws.getD i 0)
  (ax == .v || g 4 == 0) && decide (g 5 ≤ g 6) && decide (-65535 ≤ g 5) && decide (g 6 ≤ 65535) &&
  decide (g 7 < g 8) && decide (-65535 ≤ g 7) && decide (g 8 ≤ 65535) &&
  decide (1 ≤ g 9) && decide (g 9 ≤ 65536) && decide (0 ≤ g 10) && decide (g 10 ≤ 65536) &&
  decide (1 ≤ g 11) && decide (g 11 ≤ 131071) && g 12 == 0 && g 13 == 0 && g 14 == 0 && g 15 == 0

namespace State

/-- The bank in force on an axis is valid (R229). -/
def bankValid (s : State) (ax : Axis) : Bool :=
  bankOk ax (s.tabWords 0x06 0 ((ax.num * 2 + s.bankNow ax) * 16) 16)

/-- A raster runs on the profile in force. -/
def rasterRuns (s : State) : Bool := s.servo.profile.mode && s.servo.raster && !s.flag F.SERVO_V_STATUS_PROFILE_BAD

/-- R236: the reference at a coarse count that no present raster covers: that of a raster before it, where one ran
then, else V_LO. DEDUCED: log entry 52. -/
def refBefore (s : State) (t : Nat) : Reference :=
  match s.servo.before.find? (fun f => decide (f.start ≤ t ∧ t < f.stop ∧ t < f.start + f.period)) with
  | some f => rasterRef f.profile f.period (ratOf (t - f.start : Nat))
  | none => ⟨ratOf s.servo.profile.lo, 0, 0⟩

/-- R236, R237: the reference of axis V at a coarse count, per ns. -/
def refV (s : State) (t : Nat) : Reference :=
  if s.rasterRuns && decide (s.servo.rasterAt ≤ t) && decide (t < s.servo.rasterAt + s.servo.rasterP) then
    rasterRef s.servo.profile s.servo.rasterP (ratOf (t - s.servo.rasterAt : Nat))
  else s.refBefore t

/-- The raster that runs ends at a coarse count. Rasters that ended longer ago than the longest group delay and a
period of axis V serve no instant any more (R225). -/
def rasterEnds (at0 : Nat) (s : State) : State :=
  if s.rasterRuns then
    let r := s.servo
    let span := 2 * groupDelay 9 + s.axPeriod .v
    { s with servo := { r with
      raster := false
      before := ⟨r.profile, r.rasterAt, r.rasterP, at0⟩ :: r.before.filter (fun f => decide (at0 ≤ f.stop + span)) } }
  else { s with servo := { s.servo with raster := false } }

/-- R241: the rotor's reference angle at a coarse count. -/
def refH (s : State) (t : Nat) : Rat :=
  let x := s.servo.refAngle + mkRat (2 ^ 20 * ((t : Int) - s.servo.refAt)) s.servo.rev
  x - ratOf (2 ^ 20 * (mkRat x.num (x.den * 2 ^ 20)).floor)

/-- R225: the committed estimate propagated to a coarse count, exactly. For axis V the acceleration is the reference's
at that instant. DEDUCED: log entry 52. -/
def estimate (s : State) (ax : Axis) (t : Int) : Rat :=
  let x := s.axis ax
  let per := s.axPeriod ax
  let tau := mkRat (t - x.te) per
  let a : Rat := match ax with
    | .v => (s.refV t.toNat).r2 * ratOf (per * per : Nat)
    | .h => 0
  x.theta + x.omega * tau + a * tau * tau / 2

/-- R226: the predicted angle of an axis, 2⁻²⁰ turn. DEDUCED: log entry 52. -/
def predicted (s : State) (ax : Axis) (t : Int) : Int :=
  let r := ratRound (s.estimate ax t)
  match ax with
  | .v => clampI (-131071) 131071 r
  | .h => r % 2 ^ 20

/-- R240: the encoder angle of a count. -/
def encAngle (s : State) (count : Nat) : Nat :=
  (count * 2 ^ 20 / s.rd F.SERVO_H_ENC_CPR + s.rd F.SERVO_H_ZERO_H_ZERO) % 2 ^ 20

/-- R240: H_ANGLE and H_INV at a coarse count. DEDUCED: log entry 51. -/
def hAngleAt (s : State) (t : Int) : Nat × Bool :=
  let st := s.axState .h
  let here := s.encAngle (s.rd F.SERVO_H_POS_COUNT)
  if (st = AxAcquire ∨ st = AxLocked) ∧ s.flag F.SERVO_H_POS_ENC_REF ∧ !s.servo.errNow ∧ !s.servo.errPrev then (here, false)
  else if st = AxCoast then ((s.predicted .h t).toNat, true)
  else (if s.flag F.SERVO_H_POS_ENC_REF then here else 0, true)

/-! ### Axis states (R231 to R235) -/

/-- R235: an axis that counts as parked for the fire decision. -/
def axInhibits (s : State) (ax : Axis) : Bool := !(s.axState ax == AxLocked || s.axState ax == AxCoast)

/-- R235: the axes that serve a stave are not all in LOCKED or COAST. -/
def staveInhibited (s : State) (e : Nat) : Bool :=
  let m := s.rd (F.SERVO_STAVE_MAP_MAP (e / 16))
  (bitOf m (2 * (e % 16)) && s.axInhibits .v) || (bitOf m (2 * (e % 16) + 1) && s.axInhibits .h)

/-- R230: the banks of an axis exchange roles; an integrator outside the new limits is clamped. -/
def bankSwap (ax : Axis) (s : State) : State :=
  let n := ax.num
  let s := (s.wr (F.SERVO_AXIS_STATUS_SWAP_PEND n) 0).wr (F.SERVO_AXIS_STATUS_BANK n) (1 - s.bankNow ax)
  let i := s.rdS (F.SERVO_AXIS_INTEG_I n)
  let c := clampI (s.coef ax 5 * 2 ^ 14) (s.coef ax 6 * 2 ^ 14) i
  if c = i then s
  else ((s.wrS (F.SERVO_AXIS_INTEG_I n) c).wr (F.SERVO_AXIS_STATUS_CLAMPED n) 1).bump (F.SERVO_AXIS_OVR_CLAMPS n)

/-- Axis H's outputs while its loop is not closed (R233, R242). -/
def hOff (s : State) : State := { s with servo := { s.servo with
  duties := [0, 0, 0]
  phases := List.replicate 3 ⟨0, 0, 0, 0⟩
  gateEn := false
  aligning := false } }

/-- An axis enters OFF, PARKED or FAULT, in which its program does not run and a pending exchange of banks takes place
at once (R230). -/
def axStop (ax : Axis) (st cause : Nat) (s : State) : State :=
  let n := ax.num
  let s := (s.wr (F.SERVO_AXIS_STATUS_STATE n) st).wr (F.SERVO_AXIS_STATUS_CAUSE n) cause
  let s := s.updAxis ax (fun x => { x with prog := none, meas := none, unpark := false })
  let s := if ax = .h then s.hOff else s
  if s.flag (F.SERVO_AXIS_STATUS_SWAP_PEND n) then s.bankSwap ax else s

/-- R231: PARKED, with the interrupt and the fault-log entry. -/
def axPark (ax : Axis) (cause : Nat) (s : State) : State :=
  ((s.axStop ax AxParked cause).raise Irq.servoPark).logEvent Ev.servoPark (16 * ax.num + cause)

/-- R231: FAULT, with the interrupt and the fault-log entry. -/
def axFault (ax : Axis) (cause : Nat) (s : State) : State :=
  ((s.axStop ax AxFault cause).raise Irq.servoFault).logEvent Ev.servoFault (16 * ax.num + cause)

/-- R231, R244: entry to ACQUIRE. -/
def axAcquire (ax : Axis) (s : State) : State :=
  let n := ax.num
  let s := ((s.wr (F.SERVO_AXIS_STATUS_STATE n) AxAcquire).wr (F.SERVO_AXIS_STATUS_CAUSE n) 0).wr (F.SERVO_AXIS_INTEG_I n) 0
  let s := s.updAxis ax (fun x => { x with omega := 0, seeded := false, goodRun := 0, badRun := 0, unpark := false })
  match ax with
  | .v => s
  | .h => { s.wr F.SERVO_H_POS_ENC_REF 0 with servo := { s.servo with aligning := true, gateEn := true } }

/-- R221: the rate limit of axis V. -/
def vRateOk (s : State) : Bool := decide (512 ≤ s.rd F.SERVO_V_CFG_V_DIV * 2 ^ s.rd F.ANGLE_DEC_STAGES)

/-- The conditions of Table 9-2, and of R221 for axis V, under which an axis may leave OFF. -/
def axMayRun (s : State) (ax : Axis) : Bool :=
  s.flag (F.SERVO_AXIS_CTRL_EN ax.num) && (s.mode == Mode.config || s.firing) &&
  (ax == .h || (s.flag F.ANGLE_STATUS_RUNNING && s.vRateOk))

/-- R231: an axis whose conditions no longer hold enters OFF. -/
def axRefresh (ax : Axis) (s : State) : State :=
  if s.axMayRun ax || s.axState ax == AxOff then s else s.axStop ax AxOff 0

/-- Both axes looked at after a change of mode, of EN or of the chain. -/
def servoRefresh (s : State) : State := (s.axRefresh .v).axRefresh .h

/-- R230: a swap is requested; in OFF, PARKED and FAULT it takes place at once. -/
def servoSwap (ax : Axis) (s : State) : State :=
  let s := s.wr (F.SERVO_AXIS_STATUS_SWAP_PEND ax.num) 1
  if s.axClosed ax then s else s.bankSwap ax

/-- R234: whether UNPARK is accepted, as a status. -/
def unparkStatus (s : State) (ax : Axis) : Nat :=
  if !(s.axState ax == AxParked || s.axState ax == AxFault) || !s.axMayRun ax then St.mode
  else if ax = .h ∧ s.rd (F.SERVO_AXIS_STATUS_CAUSE 1) = 5 ∧ s.flag F.SERVO_H_BUS_GATE_FAULT then St.busy
  else St.ok

/-! ### The program (R222 to R227) -/

/-- R237: the raster follows the schedule's frames. -/
def rasterBySchedule (s : State) : Bool := s.firing && s.rd F.ACQ_CTRL_TRIG_SRC == 0

/-- T_rev of the frame length in force. -/
def revNow (s : State) : Nat := s.rd F.SERVO_H_REV_REV_FRAMES * s.rd F.FIRE_FRAME_ACTIVE_ACTIVE_NS

/-- R241: a new t_ref, from which H_PHASE and REV_FRAMES as written hold. DEDUCED: log entry 55. -/
def refStart (b : Nat) (s : State) : State :=
  { s with servo := { s.servo with
      refAt := b
      refAngle := ratOf (s.rd F.SERVO_H_REF_H_PHASE)
      refLeft := s.rd F.SERVO_H_REV_REV_FRAMES
      rev := s.revNow } }

/-- R241: the device's own timer reaches the next t_ref, outside the schedule's frames. DEDUCED: log entry 55. -/
def refTimer (s : State) : State :=
  if !s.rasterBySchedule && decide (s.servo.refAt + s.servo.rev ≤ s.now) && decide (0 < s.servo.rev) then
    s.refStart (s.now - (s.now - s.servo.refAt) % s.servo.rev)
  else s

/-- R239, R241: at a period start of axis H the fault record moves on, and a t_ref that the device's own timer has
reached holds. DEDUCED: log entry 55. -/
def hPeriodStart (s : State) : State :=
  State.refTimer { s with servo := { s.servo with errPrev := s.servo.errNow, errNow := false } }

/-- R225: the measurement of an axis at a period start, with its effective time. DEDUCED: log entry 52. -/
def measure (s : State) (ax : Axis) : Option (Int × Nat) :=
  match ax with
  | .v =>
    match s.angle.outs with
    | o :: _ => if o.invalid then none else some (o.value, o.doneAt - s.rd F.ANGLE_CHAIN_GROUP_DELAY_NS)
    | [] => none
  | .h =>
    if s.flag F.SERVO_H_POS_ENC_REF && !s.servo.errPrev then some (s.encAngle (s.rd F.SERVO_H_POS_COUNT), s.now) else none

/-- R231, R232: COAST_RUN and the states that follow the measurement. DEDUCED: log entry 53. -/
def coast (ax : Axis) (valid : Bool) (s : State) : State :=
  let n := ax.num
  if valid then
    let s := s.wr (F.SERVO_AXIS_STATUS_COAST_RUN n) 0
    if s.axState ax = AxCoast then s.wr (F.SERVO_AXIS_STATUS_STATE n) AxLocked else s
  else
    let k := min (s.rd (F.SERVO_AXIS_STATUS_COAST_RUN n) + 1) 33
    let s := s.wr (F.SERVO_AXIS_STATUS_COAST_RUN n) k
    if s.axState ax = AxAcquire then s
    else if k = 33 then s.axFault ax 3
    else (s.wr (F.SERVO_AXIS_STATUS_STATE n) AxCoast).count ⟨0x08, 3⟩ n

/-- R220: a period of axis V starts at the completion of every V_DIV-th pickoff output. -/
def periodDue (s : State) (ax : Axis) : Bool := ax == .h || decide (s.rd F.SERVO_V_CFG_V_DIV ≤ s.servo.v.outs)

/-- R220, R222, R230 to R232, R241: a servo period of an axis starts. -/
def servoPeriodStart (ax : Axis) (s : State) : State :=
  if !s.periodDue ax then s
  else
  let s := s.countN ⟨0x08, 1⟩ ax.num 1
  let s := match ax with | .v => s.updAxis .v (fun x => { x with outs := 0 }) | .h => s.hPeriodStart
  let s := if s.flag (F.SERVO_AXIS_STATUS_SWAP_PEND ax.num) then s.bankSwap ax else s
  let fresh0 := s.axMayRun ax && (s.axState ax == AxOff || (s.axis ax).unpark)
  let s := if fresh0 then
      let s := ((s.axAcquire ax).wr (F.SERVO_AXIS_STATUS_COAST_RUN ax.num) 0).wr (F.SERVO_AXIS_STATUS_OVR_RUN ax.num) 0
      if ax = .h ∧ s.flag F.SERVO_H_BUS_GATE_FAULT then s.axFault .h 5 else s
    else s
  if s.axClosed ax then
    let m := s.measure ax
    let s := s.coast ax m.isSome
    if s.axClosed ax then
      let t := s.now
      let ph := s.rd (F.SERVO_AXIS_CTRL_OUT_PHASE ax.num)
      s.updAxis ax (fun x => { x with prog := some t, meas := m, phase := ph })
    else s
  else s

/-- R225: the estimate corrected by the period's measurement. DEDUCED: log entry 52. -/
def corrected (s : State) (ax : Axis) : AxisSt :=
  let x := s.axis ax
  match x.meas with
  | none => x
  | some (y, tm) =>
    if !x.seeded then { x with theta := ratOf y, omega := 0, te := tm, seeded := true }
    else
      let th := s.estimate ax tm
      let d := ratOf y - th
      let rho := if ax = .h then wrapH d else d
      { x with
        theta := th + mkRat (s.coef ax 9) 65536 * rho
        omega := x.omega + mkRat (s.coef ax 10) 65536 * rho
        te := tm }

/-- The output of an axis takes effect: for axis V the drive DAC (R227). -/
def putOutput (ax : Axis) (u : Int) (s : State) : State :=
  let s := s.wrS (F.SERVO_AXIS_OUT_OUT ax.num) u
  match ax with
  | .v => s.wr F.SERVO_V_STATUS_DAC_CODE (clampI 0 65535 (s.rd F.SERVO_V_DRIVE_CENTRE_CODE + u)).toNat
  | .h => s

/-- R231: LOCKED and ACQUIRE follow the runs of committed periods. -/
def lockRuns (ax : Axis) (valid : Bool) (within : Bool) (s : State) : State :=
  let n := ax.num
  let x := s.axis ax
  let g := if valid && within then x.goodRun + 1 else 0
  let b := if within then 0 else x.badRun + 1
  let s := s.updAxis ax (fun x => { x with goodRun := g, badRun := b })
  if s.axState ax = AxAcquire ∧ 16 ≤ g then
    (s.wr (F.SERVO_AXIS_STATUS_STATE n) AxLocked).updAxis ax (fun x => { x with badRun := 0 })
  else if s.axState ax = AxLocked ∧ 16 ≤ b then s.axAcquire ax
  else s

/-- R227: a finished program's results are committed at the output instant `t`. While the rotor is aligned the loop is
open: nothing is integrated, driven or counted towards LOCKED (R244). -/
def commitProgram (ax : Axis) (t : Nat) (s : State) : State :=
  let n := ax.num
  let valid := (s.axis ax).meas.isSome
  let s := s.putAxis ax (s.corrected ax)
  let per := ratOf (s.axPeriod ax)
  let ref : Reference := match ax with
    | .v => let q := s.refV t; ⟨q.r, q.r1 * per, q.r2 * per * per⟩
    | .h => ⟨s.refH t, mkRat (2 ^ 20 * 100000) s.servo.rev, 0⟩
  let e0 := ref.r - s.estimate ax t
  let ep := if ax = .h then wrapH e0 else e0
  let ev := ref.r1 - (s.axis ax).omega
  let f0 := if ax = .v then ref.r else ref.r1
  let c := fun w => ratOf (s.coef ax w)
  let i := mkRat (s.rdS (F.SERVO_AXIS_INTEG_I n)) (2 ^ 14)
  let hold := s.axState ax == AxCoast
  let i' := if hold then i else ratClamp (s.coef ax 5) (s.coef ax 6) (i + c 1 * ep / 2 ^ 20)
  let u := (c 0 * ep + c 3 * f0) / 2 ^ 16 + c 2 * ev / 2 ^ 12 + c 4 * ref.r2 / 2 ^ 8 + i'
  let r := ratRound u
  let out := clampI (s.coef ax 7) (s.coef ax 8) r
  let drive := if s.coef ax 1 = 0 then c 0 * ep else c 1 * ep
  let sat := decide (out < r ∧ 0 < drive) || decide (r < out ∧ drive < 0)
  let s := s.wrS (F.SERVO_AXIS_ERR_ERR n) (clampI (-524288) 524287 (ratRound ep))
  let s := s.wr (F.SERVO_AXIS_STATUS_OVR_RUN n) 0
  if ax = .h ∧ s.servo.aligning then s
  else
    let s := s.wrB (F.SERVO_AXIS_STATUS_SAT n) sat
    let s := if sat || hold then s else s.wrS (F.SERVO_AXIS_INTEG_I n) (ratRound (i' * 2 ^ 14))
    let s := s.putOutput ax out
    let lim := ratOf (s.coef ax 11)
    s.lockRuns ax valid (decide (-lim ≤ ep ∧ ep ≤ lim))

/-- R223: the output instant of a period; `finished` says whether the self-timed program has finished. -/
def outputInstant (ax : Axis) (finished : Bool) (s : State) : State :=
  match (s.axis ax).prog with
  | none => s
  | some t0 =>
    let n := ax.num
    let t := t0 + (s.axis ax).phase * s.axPeriod ax / 256
    let s := match ax with | .v => s | .h => s.refTimer
    let s :=
      if finished then s.commitProgram ax t
      else
        let k := min (s.rd (F.SERVO_AXIS_STATUS_OVR_RUN n) + 1) 3
        let s := ((s.wr (F.SERVO_AXIS_STATUS_OVR_RUN n) k).bump (F.SERVO_AXIS_OVR_OVERRUNS n)).count ⟨0x08, 0⟩ n
        if k = 3 then s.axPark ax 1 else s
    s.updAxis ax (fun x => { x with prog := none, meas := none })

/-- R231, R244: ACQ_MS has elapsed in ACQUIRE, counted for axis H from the end of alignment. DEDUCED: log entry 53. -/
def acqTimeout (ax : Axis) (s : State) : State :=
  if s.axState ax = AxAcquire ∧ !(ax == .h && s.servo.aligning) then s.axFault ax 4 else s

/-- R233: every 10 µs the drive DAC of a stopped axis V moves towards CENTRE_CODE. -/
def parkSlew (s : State) : State :=
  if s.axClosed .v then s
  else
    let c := s.rd F.SERVO_V_STATUS_DAC_CODE
    let t := s.rd F.SERVO_V_DRIVE_CENTRE_CODE
    let k := s.rd F.SERVO_V_DRIVE_PARK_SLEW
    s.wr F.SERVO_V_STATUS_DAC_CODE (if c < t then min t (c + k) else max t (c - k))

/-! ### The raster (R236 to R238) -/

/-- The profile that the registers hold. -/
def profileRegs (s : State) : Profile :=
  ⟨s.flag F.SERVO_V_CFG_MODE, s.rdS F.SERVO_V_LO_V_LO, s.rdS F.SERVO_V_HI_V_HI, s.rd F.SERVO_V_TURN_TURN_NS,
    s.rd F.SERVO_V_CFG_RASTER_FRAMES⟩

/-- R237, R238: a raster starts at φ = 0, pending profile writes apply, and a profile that does not fit is refused. -/
def rasterStart (at0 : Nat) (s : State) : State :=
  let p := s.profileRegs
  let per := p.frames * s.rd F.FIRE_FRAME_ACTIVE_ACTIVE_NS
  let s := s.rasterEnds at0
  let s := { s with servo := { s.servo with
    profile := p
    rasterAt := at0
    rasterP := per
    raster := p.mode } }
  (s.wr F.SERVO_V_STATUS_PROFILE_PEND 0).wrB F.SERVO_V_STATUS_PROFILE_BAD (p.mode && decide (per ≤ 2 * p.turn))

/-- R238: an accepted profile write waits for the next raster start, or takes effect at once while MODE is 0. -/
def profileWrite (s : State) : State :=
  if s.servo.profile.mode then s.wr F.SERVO_V_STATUS_PROFILE_PEND 1
  else
    let p := s.profileRegs
    if p.mode && s.rasterBySchedule then
      { s with servo := { s.servo with profile := p, raster := false } }
    else if p.mode && (s.mode == Mode.config || s.firing) then s.rasterStart s.now
    else { s with servo := { s.servo with profile := p, raster := false } }

/-- R237: the raster's own timer reaches φ = P, outside the schedule's frames. -/
def rasterTimer (s : State) : State :=
  if s.servo.profile.mode && !s.rasterBySchedule && (s.mode == Mode.config || s.firing) then
    s.rasterStart (if s.servo.raster then s.servo.rasterAt + s.servo.rasterP else s.now)
  else s

/-- R237: the raster at a frame boundary. -/
def rasterAtBoundary (b : Nat) (s : State) : State :=
  if s.rasterBySchedule && (s.servo.profile.mode || s.flag F.SERVO_V_STATUS_PROFILE_PEND) then
    if !s.servo.raster || decide (s.servo.rasterAt + s.servo.rasterP ≤ b) then s.rasterStart b else s
  else s

/-! ### Axis H: encoder, reference and bridge (R239 to R244) -/

/-- R239: an encoder fault is recorded. -/
def encFault (s : State) : State := { s.wr F.SERVO_H_POS_ENC_ERR 1 with servo := { s.servo with errNow := true } }

/-- The place of a pair of levels in the sequence in which ENC_A leads. -/
def quadPhase (a b : Bool) : Nat := if a then (if b then 2 else 1) else (if b then 3 else 0)

/-- R239: newly accepted levels of ENC_A and ENC_B. -/
def encEdge (a b : Bool) (s : State) : State :=
  let d := (quadPhase a b + 4 - quadPhase s.servo.encA s.servo.encB) % 4
  let s := { s with servo := { s.servo with encA := a, encB := b } }
  if d = 0 then s
  else if d = 2 then s.encFault
  else
    let up := (d == 1) != s.flag F.SERVO_H_ENC_DIR
    let c := s.rd F.SERVO_H_POS_COUNT
    let n := s.rd F.SERVO_H_ENC_CPR
    s.wr F.SERVO_H_POS_COUNT (if up then (c + 1) % n else (c + n - 1) % n)

/-- R239: a rising edge of ENC_I. -/
def encIndex (s : State) : State :=
  if !s.flag F.SERVO_H_POS_ENC_REF then (s.wr F.SERVO_H_POS_COUNT 0).wr F.SERVO_H_POS_ENC_REF 1
  else
    let c := s.rd F.SERVO_H_POS_COUNT
    let n := s.rd F.SERVO_H_ENC_CPR
    if s.rd F.SERVO_H_ENC_ENC_TOL < min c (n - c) then s.encFault.wr F.SERVO_H_POS_COUNT 0 else s

/-- R241: θ* carries on through a change of T_rev, from a boundary on. DEDUCED: log entry 55. -/
def refCarry (b : Nat) (rev : Nat) (s : State) : State :=
  let a := s.refH b
  { s with servo := { s.servo with refAt := b, refAngle := a, rev := rev } }

/-- R241: the rotor reference at a frame boundary; `entry` marks the first one of the mode. DEDUCED: log entry 55. -/
def refAtBoundary (b : Nat) (entry lengthChanged : Bool) (s : State) : State :=
  if s.rasterBySchedule then
    if entry then s.refStart b
    else if s.servo.refLeft ≤ 1 then s.refStart b
    else
      let s := { s with servo := { s.servo with refLeft := s.servo.refLeft - 1 } }
      if lengthChanged then s.refCarry b s.revNow else s
  else if lengthChanged then s.refCarry b s.revNow
  else s

/-- R243: the bridge voltage in use, from a conversion code, or the fallback. -/
def setBus (mv : Option Nat) (s : State) : State :=
  match mv with
  | some v =>
    if v < 1000 then (s.wr F.SERVO_H_BUS_VBUS (s.rd F.SERVO_H_BRIDGE_VBUS_NOM)).wr F.SERVO_H_BUS_BRIDGE_STALE 1
    else (s.wr F.SERVO_H_BUS_VBUS (min v 65535)).wr F.SERVO_H_BUS_BRIDGE_STALE 0
  | none => (s.wr F.SERVO_H_BUS_VBUS (s.rd F.SERVO_H_BRIDGE_VBUS_NOM)).wr F.SERVO_H_BUS_BRIDGE_STALE 1

/-- R243: a write of VBUS_NOM while it is the voltage in use. -/
def busWrite (s : State) : State := if s.flag F.SERVO_H_BUS_BRIDGE_STALE then s.setBus none else s

/-- R243: the engine snoops a housekeeping result. -/
def snoopBus (tag code : Nat) (s : State) : State :=
  if tag = s.rd F.SERVO_H_BRIDGE_BRIDGE_TAG then s.setBus (some (code * s.rd F.SERVO_H_VSCALE_VSCALE / 256)) else s

/-- R242: the on-time of a phase in ns, from the electrical angle in turns and the modulation. DEDUCED: log entry
56. -/
def dutyNs (period : Nat) (m : Rat) (phiNum : Int) (phiDen x : Nat) : Nat :=
  let q := cosSin (3 * phiNum - x * phiDen) (3 * phiDen)
  let duty := mkRat 1 2 + m * mkRat q.2 (2 ^ 91)
  (clampI 0 period (ratRound (duty * ratOf period))).toNat

/-- R242: a phase's two outputs over a PWM period, for an on-time `d` about its centre: the high one and the low one
each come on DEAD_NS after the other has gone off. DEDUCED: log entry 56. -/
def phaseOut (period dead d : Nat) : PhaseOut :=
  let rise := (period - d) / 2
  if d = 0 then ⟨0, 0, 0, period⟩
  else if d = period then ⟨0, period, 0, 0⟩
  else ⟨rise + dead, d - dead, rise + d + dead, period - d - dead⟩

/-- R242, R244: at a PWM period's centre the three phase duties are recomputed. DEDUCED: log entry 56. -/
def pwmUpdate (s : State) : State :=
  if !s.axClosed .h then s
  else
    let bus := s.rd F.SERVO_H_BUS_VBUS
    let al := s.servo.aligning
    let u : Int := if al then s.rd F.SERVO_H_ALIGN_ALIGN_MV else s.rdS (F.SERVO_AXIS_OUT_OUT 1)
    let m := ratClamp (-1) 1 (mkRat u bus)
    let th : Int := if s.axState .h = AxCoast then s.predicted .h s.now else s.encAngle (s.rd F.SERVO_H_POS_COUNT)
    let num : Int := if al then 0 else s.rd F.SERVO_H_COMM_POLES * th + s.rd F.SERVO_H_COMM_COMM_OFS * 16
    let per := 1000000 / s.rd F.SERVO_H_PWM_PWM_KHZ
    let ds := [0, 1, 2].map (dutyNs per m num (2 ^ 20))
    let dead := s.rd F.SERVO_H_PWM_DEAD_NS
    { s with servo := { s.servo with
      duties := ds
      phases := ds.map (phaseOut per dead) } }

/-- The electrical angle's distance from a whole turn at a count, in units of 2⁻²⁰ turn (R242). DEDUCED: log entry
54. -/
def elecDistance (s : State) (count : Nat) : Nat :=
  let x := (s.rd F.SERVO_H_COMM_POLES * s.encAngle count + s.rd F.SERVO_H_COMM_COMM_OFS * 16) % 2 ^ 20
  min x (2 ^ 20 - x)

/-- R244: alignment ends; the count is set to the smallest value at which φ_e is 0, as nearly as the counts allow.
DEDUCED: log entry 54. -/
def alignDone (s : State) : State :=
  if s.axState .h = AxAcquire ∧ s.servo.aligning then
    let best := (List.range (s.rd F.SERVO_H_ENC_CPR)).foldl
      (fun b c => if s.elecDistance c < s.elecDistance b then c else b) 0
    { s.wr F.SERVO_H_POS_COUNT best with servo := { s.servo with aligning := false } }
  else s

/-- R244: GATE_FAULT_N changes; at a low level every state but OFF goes to FAULT, and stays there. DEDUCED: log entry
56. -/
def gateFault (level : Bool) (s : State) : State :=
  let s := s.wrB F.SERVO_H_BUS_GATE_FAULT (!level)
  if level || s.axState .h == AxOff then s else s.axFault .h 5

/-- R237, R241: entry to a mode: the raster and the rotor reference start with the first frame, or at once on the
device's own timer. -/
def servoModeEntry (s : State) : State :=
  let s := s.rasterEnds s.now
  if s.rasterBySchedule then s
  else if s.mode == Mode.config || s.firing then
    let s := if s.servo.profile.mode || s.flag F.SERVO_V_STATUS_PROFILE_PEND then s.rasterStart s.now else s
    s.refStart s.now
  else s

end State
end Sys2Proof.Machine
end

