-- ==== Sys2Proof/Machine/Angle.lean ====
section
/-! DEFINITION. The mirror angle pickoff (chapter 8): excitation, charge-amplifier resets, demodulation, decimation,
linearisation, the invalid mark, blanking, electrode faults and the angle at the fire edge. -/

namespace Sys2Proof.Machine

/-- R203: a converter B code corrected by the trim. -/
def trimCode (gain offset x : Int) : Int := clampI (-8192) 8191 (roundEven (x * (65536 + gain)) 65536 + offset)

/-- R205: the demodulator's product. DEDUCED: log entry 50. -/
def demod (div phase m : Nat) (x : Int) : Int := roundEven (x * refCos (256 * m + div * phase) (256 * div)) 64

/-- R206: one half-band output from the eleven newest inputs, newest first. -/
def halfBand (h1 h3 h5 : Int) (w : List Int) : Int :=
  let g := fun i => w.getD i 0
  clampI (-8388608) 8388607 (roundEven
    (h5 * (g 0 + g 10) + h3 * (g 2 + g 8) + h1 * (g 4 + g 6) + 65536 * g 5) (2 ^ 17))

/-- R206: one stage over its inputs: its outputs, one for every two inputs, and its ten newest inputs. -/
def stageRun (h1 h3 h5 : Int) : List Int → List Int → List Int × List Int
  | hist, a :: b :: r =>
    let w := (b :: a :: hist).take 11
    let q := stageRun h1 h3 h5 (w.take 10) r
    (halfBand h1 h3 h5 w :: q.1, q.2)
  | hist, _ => ([], hist)

/-- The stages of the chain, each with its taps and its history. -/
def chainRun : List (Int × Int × Int) → List (List Int) → List Int → List Int × List (List Int)
  | c :: cs, h :: hs, xs =>
    let q := stageRun c.1 c.2.1 c.2.2 h xs
    let z := chainRun cs hs q.1
    (z.1, q.2 :: z.2)
  | _, hs, xs => (xs, hs)

namespace State

/-! ### Start and stop (R195, R199, R209) -/

/-- The taps of a coefficient set. -/
def taps (s : State) (setB : Bool) : Int × Int × Int :=
  if setB then (s.rdS (F.ANGLE_HB_B_H 0), s.rdS (F.ANGLE_HB_B_H 1), s.rdS (F.ANGLE_HB_B_H 2))
  else (s.rdS (F.ANGLE_HB_A_H 0), s.rdS (F.ANGLE_HB_A_H 1), s.rdS (F.ANGLE_HB_A_H 2))

/-- The taps of the running stages, in order. -/
def chainTaps (s : State) : List (Int × Int × Int) :=
  (List.range (s.rd F.ANGLE_DEC_STAGES)).map (fun j => s.taps (bitOf (s.rd F.ANGLE_DEC_SET_SEL) j))

/-- R199, R209: the conditions under which a start of the chain is accepted. DEDUCED: log entry 49. -/
def chainStartOk (s : State) : Bool :=
  decide (5 * s.rd F.ANGLE_EXC_DIV ≤ 2 ^ (s.rd F.ANGLE_DEC_STAGES + 3)) &&
  s.chainTaps.all (fun c => c.1 + c.2.1 + c.2.2 == 32768)

/-- The modes in which the chain runs (R195). DEDUCED: log entry 49. -/
def chainMode (s : State) : Bool := s.mode == Mode.config || s.firing

/-- The excitation that the registers hold, from a period boundary on. -/
def excRegs (s : State) (at0 : Nat) : ExcSeg :=
  ⟨at0, s.rd F.ANGLE_EXC_DIV, s.rd F.ANGLE_EXC_PHASE, s.rdS F.ANGLE_TRIM_GAIN, s.rdS F.ANGLE_TRIM_OFFSET⟩

/-- R195, R201, R212: a start of the chain. DEDUCED: log entry 49. -/
def chainStart (s : State) : State :=
  let a := s.rd F.ANGLE_EXC_AMP
  let seg := s.excRegs s.now
  let s := { s with angle :=
    { segs := [seg]
      amp := a
      resets := []
      resetDue := true
      startDue := true
      stages := List.replicate 9 (List.replicate 10 0)
      lastAt := []
      outs := []
      blanks := [] } }
  let s := s.updAxis .v (fun x => { x with outs := 0 })
  let s := (s.wr F.ANGLE_STATUS_RUNNING 1).wr F.ANGLE_STATUS_EXC_PEND 0
  (s.wr F.ANGLE_STATUS_INV_LEFT 10).wr F.ANGLE_CHAIN_GROUP_DELAY_NS (groupDelay (s.rd F.ANGLE_DEC_STAGES))

/-- R195: the chain stops and keeps no filter state. -/
def chainStop (s : State) : State :=
  let s := (s.wr F.ANGLE_STATUS_RUNNING 0).wr F.ANGLE_STATUS_EXC_PEND 0
  let s := { s with angle := { s.angle with segs := [], resetDue := false, startDue := false, outs := [], lastAt := [] } }
  s.servoRefresh

/-- R195: the chain follows RUN and the mode. A start that R199 or R209 refuses leaves it stopped. -/
def angleRefresh (s : State) : State :=
  let want := s.flag F.ANGLE_CTRL_RUN && s.chainMode && s.chainStartOk
  if want && !s.flag F.ANGLE_STATUS_RUNNING then s.chainStart
  else if !(s.flag F.ANGLE_CTRL_RUN && s.chainMode) && s.flag F.ANGLE_STATUS_RUNNING then s.chainStop
  else s

/-! ### Demodulator period boundaries (R198, R201, R202, R204, R212) -/

/-- R198: the excitation that the registers hold differs from the one in force. -/
def excChanged (s : State) : Bool :=
  match s.angle.segs with
  | g :: _ => g.div != s.rd F.ANGLE_EXC_DIV || g.phase != s.rd F.ANGLE_EXC_PHASE || s.angle.amp != s.rd F.ANGLE_EXC_AMP
  | [] => false

/-- R198: an accepted write of the excitation becomes pending. -/
def excWrite (s : State) : State := if s.flag F.ANGLE_STATUS_RUNNING then s.wr F.ANGLE_STATUS_EXC_PEND 1 else s

/-- R202: the range after a reset, from the largest code magnitude since the previous one. -/
def nextRange (s : State) (peak : Nat) : Nat :=
  let r := s.rd F.ANGLE_STATUS_RANGE_NOW
  if !s.flag F.ANGLE_CTRL_AUTO then s.rd F.ANGLE_CA_RANGE
  else if 7372 < peak then min (r + 1) 3
  else if peak < 2048 then r - 1
  else r

/-- Table 8-3: INV_LEFT after the events of one boundary. DEDUCED: log entry 49. -/
def invAfter (inv : Nat) (exc reset range start : Bool) : Nat :=
  if start then (if range || exc then max inv 10 else inv)
  else if reset && (range || exc) then min (max (inv + 4) 10) 31
  else if reset then min (inv + 4) 31
  else if exc then max inv 6
  else inv

/-- A demodulator period ends; `peak` is the largest converter code magnitude since the previous reset. -/
def demodBoundary (peak : Nat) (s : State) : State :=
  if !s.flag F.ANGLE_STATUS_RUNNING then s
  else
    let exc := s.flag F.ANGLE_STATUS_EXC_PEND && s.excChanged
    let seg := s.excRegs s.now
    let trim := match s.angle.segs with
      | g :: _ => g.gain != seg.gain || g.offset != seg.offset
      | [] => false
    let amp := s.rd F.ANGLE_EXC_AMP
    let s := s.wr F.ANGLE_STATUS_EXC_PEND 0
    let s := if exc || trim then { s with angle := { s.angle with segs := seg :: s.angle.segs, amp := amp } } else s
    let reset := s.angle.resetDue
    let start := s.angle.startDue
    let r := if reset then s.nextRange peak else s.rd F.ANGLE_STATUS_RANGE_NOW
    let range := r != s.rd F.ANGLE_STATUS_RANGE_NOW
    let inv := invAfter (s.rd F.ANGLE_STATUS_INV_LEFT) exc reset range start
    let s := (s.wr F.ANGLE_STATUS_RANGE_NOW r).wr F.ANGLE_STATUS_INV_LEFT inv
    if reset then
      let n := s.now
      ({ s with angle := { s.angle with resets := n :: s.angle.resets, resetDue := false, startDue := false } }).count ⟨0x07, 0⟩ 0
    else s

/-- R201: a reset is requested for the next period boundary. -/
def requestReset (s : State) : State :=
  if s.flag F.ANGLE_STATUS_RUNNING then { s with angle := { s.angle with resetDue := true } } else s

/-- R201: eight consecutive clipping codes. -/
def clipReset (s : State) : State :=
  if s.flag F.ANGLE_STATUS_RUNNING then s.requestReset.count ⟨0x07, 1⟩ 0 else s

/-- R201: a written RANGE that differs from RANGE_NOW requests a reset. -/
def rangeWrite (s : State) : State :=
  if s.rd F.ANGLE_CA_RANGE != s.rd F.ANGLE_STATUS_RANGE_NOW then s.requestReset else s

/-! ### Samples and outputs (R203 to R215) -/

/-- The blanking registers as they stand. -/
def blankRegs (s : State) : BlankCfg :=
  { until0 := s.now
    pinEn := s.flag F.ANGLE_BLANK_CTRL_PIN_EN
    schedEn := s.flag F.ANGLE_BLANK_CTRL_SCHED_EN
    mask := s.rd F.ANGLE_BLANK_EM_LO_MASK + s.rd F.ANGLE_BLANK_EM_HI_MASK * 2 ^ 32
    pre := s.rd F.ANGLE_BLANK_PRE_NS
    post := s.rd F.ANGLE_BLANK_POST_NS }

/-- Coarse counts for which a fire edge, and blanking registers since written over, are kept (R214): the samples of an
output reach no further back, with the largest POST_NS. -/
def edgeSpan : Nat := 40000

/-- The blanking registers are about to change: samples taken before now are judged by what they held (R214). -/
def blankWrite (s : State) : State :=
  let b := s.blankRegs
  { s with angle := { s.angle with
      blanks := b :: s.angle.blanks.filter (fun x => decide (s.now ≤ x.until0 + edgeSpan)) } }

/-- The blanking registers at the instant of a sample (R214). -/
def blankAt (s : State) (t : Nat) : BlankCfg :=
  ((s.angle.blanks.filter (fun b => decide (t < b.until0))).getLast?).getD s.blankRegs

/-- Fire edges that have been, those that the fire queue and the kerf hold (R19), and the proof shots of the next kerf:
coarse count and emitter. -/
def edgesKnown (ahead : List (Nat × Nat)) (s : State) : List (Nat × Nat) :=
  ahead ++ s.fire.edges ++ (s.fire.queue.filter (fun q => q.turned.isNone && q.barred.isNone)).map (fun q => (q.edge, q.job.em)) ++ s.fire.proofs

/-- R214: a sample at time `t` is blanked by the pin or by a selected emitter's fire edge. DEDUCED: log entry 50. -/
def blanked (ahead : List (Nat × Nat)) (s : State) (t : Nat) (pin : Bool) : Bool :=
  let b := s.blankAt t
  (pin && b.pinEn) ||
  (b.schedEn && (s.edgesKnown ahead).any (fun p => bitOf b.mask p.2 && decide (p.1 ≤ t + b.pre) && decide (t ≤ p.1 + b.post)))

/-- The excitation in force at a sample instant. -/
def segAt (s : State) (t : Nat) : ExcSeg :=
  (s.angle.segs.find? (fun g => decide (g.start ≤ t))).getD (s.excRegs 0)

/-- The replacement of a blanked sample at position `m`: none since the last reset, or start, reads as 0 (R214).
DEDUCED: log entry 50. -/
def standIn (s : State) (m t : Nat) : Int :=
  match Sparse.get s.angle.lastAt none m with
  | none => 0
  | some (t0, x) => if s.angle.resets.any (fun r => decide (t0 < r) && decide (r ≤ t)) then 0 else x

/-- One converter sample: its demodulated product is put before those taken so far, and blanking is counted. DEDUCED:
log entry 50. -/
def takeSample (ahead : List (Nat × Nat)) (acc : State × List Int × Nat) (p : Nat × Nat × Int × Bool) : State × List Int × Nat :=
  let s := acc.1
  let (i, t, raw, pin) := p
  let g := s.segAt t
  let m := (t - g.start) / 25 % g.div
  if s.blanked ahead t pin then (s, demod g.div g.phase m (s.standIn m t) :: acc.2.1, acc.2.2 + 1)
  else
    let x := if i % 2 = 1 then trimCode g.gain g.offset raw else raw
    let s := { s with angle := { s.angle with lastAt := Sparse.put s.angle.lastAt none m (some (t, x)) } }
    (s, demod g.div g.phase m x :: acc.2.1, acc.2.2)

/-- The sum of the 24 die sensors, 1/16 °C. -/
def dieSum (s : State) : Int := ((List.range 24).map (fun i => s.rdS (F.THERM_TEMP_TEMP i))).sum

/-- R210: the linearised angle of a signal, evaluated exactly and rounded once. The temperature step is taken in units
of 1/384 °C, in which the mean of 24 sensors is whole. -/
def linearise (s : State) (sig : Int) : Int :=
  let src := s.rd F.ANGLE_LIN_TEMP_SRC
  let d := (if src = 0 then s.dieSum else 24 * s.rdS (F.THERM_TEMP_TEMP (23 + src))) - 9600
  let base := s.rd F.ANGLE_STATUS_RANGE_NOW * 12
  let term := fun (i j : Nat) =>
    toS 32 (s.tab 0x05 0 (base + 3 * i + j)) * sig ^ i * 2 ^ (23 * (3 - i)) * d ^ j * (24 * 2 ^ 10) ^ (2 - j)
  let sum := ((List.range 4).flatMap (fun i => (List.range 3).map (term i))).sum
  clampI (-131071) 131071 (roundEven sum (2 ^ 97 * 576))

/-- The mean of the 24 die sensors, 1/16 °C, ties to even (R401). -/
def dieMean (s : State) : Int := roundEven s.dieSum 24

/-! ### The pickoff trim's sample pairs (R401) -/

/-- Samples of a span of whole demodulator periods that holds whole pairs. -/
def pairSpan (div : Nat) : Nat := if div % 2 = 0 then div else 2 * div

/-- R401: a pair, or `none` for one with a blanked sample, at place `q` of `n` in its span. DEDUCED: log entry 108. -/
def addPair (q n : Nat) (p : Option (Int × Int)) (x : PkoSums) : PkoSums :=
  match p with
  | none => { x with part := none }
  | some (a, b) =>
    let part := (if q = 0 then some (0, 0) else x.part).map (fun (y : Int × Int) => (y.1 + a, y.2 + b))
    let x := { x with
      pairs := x.pairs + 1
      sqA := x.sqA + (a * a).toNat
      sqB := x.sqB + (b * b).toNat
      part := part }
    match part with
    | some y => if q + 1 = n then { x with
        sumA := x.sumA + y.1
        sumB := x.sumB + y.2
        whole := x.whole + n
        part := none } else x
    | none => x

/-- R401: the pairs of an output's samples, each with its instant, code and level of BLANK, up to 2²⁰ in all. -/
def gatherPairs (ahead : List (Nat × Nat)) (s : State) : List (Nat × Nat × Int × Bool) → PkoSums → PkoSums
  | (_, ta, a, pa) :: (_, tb, b, pb) :: r, x =>
    if 2 ^ 20 ≤ x.pairs then x
    else
      let g := s.segAt ta
      let n := pairSpan g.div / 2
      let pair := if s.blanked ahead ta pa || s.blanked ahead tb pb then none else some (a, b)
      gatherPairs ahead s r (addPair ((ta - g.start) / 25 / 2 % n) n pair x)
  | _, x => x

/-- R401: a pickoff run takes the pairs of an output's samples. -/
def pkoGather (ahead : List (Nat × Nat)) (l : List (Nat × Nat × Int × Bool)) (s : State) : State :=
  if s.flag F.CAL_DEV_PKO_BUSY then { s with cal := { s.cal with pko := s.gatherPairs ahead l s.cal.pko } } else s

/-- The decimation chain completes an output from its 2^S converter samples: code and level of BLANK of each, oldest
first (R203 to R215). `ahead` are the proof shots of the next kerf (R214). -/
def pickoffOutput (ahead : List (Nat × Nat)) (samples : List (Int × Bool)) (s : State) : State :=
  let n := 2 ^ s.rd F.ANGLE_DEC_STAGES
  if !s.flag F.ANGLE_STATUS_RUNNING || samples.length != n then s
  else
    let done := s.now
    let timed := (List.range n).zip samples |>.map (fun p => (p.1, done - 150 - 25 * (n - 1 - p.1), p.2.1, p.2.2))
    let s := s.pkoGather ahead timed
    let (s, ds, blank) := timed.foldl (takeSample ahead) (s, [], 0)
    let (out, hist) := chainRun s.chainTaps s.angle.stages ds.reverse
    let s := { s with angle := { s.angle with
      stages := hist
      segs := s.angle.segs.take 8
      resets := s.angle.resets.take 8 } }
    let inv := s.rd F.ANGLE_STATUS_INV_LEFT
    let s := s.wr F.ANGLE_STATUS_INV_LEFT (inv - 1)
    let elec := s.flag F.ANGLE_STATUS_ELEC_FAULT_P || s.flag F.ANGLE_STATUS_ELEC_FAULT_N
    let bad := decide (0 < inv) || elec || decide (s.rd F.ANGLE_BLANK_FILL_PCT * n < 100 * blank)
    let v := if bad then s.predicted .v (done - groupDelay (s.rd F.ANGLE_DEC_STAGES) : Int) else s.linearise (out.getLastD 0)
    let s := { s with angle := { s.angle with outs := (⟨done, v, bad⟩ : PkoOut) :: s.angle.outs.take 15 } }
    let s := ((s.wrB F.ANGLE_OUT_INVALID bad).wrB F.ANGLE_OUT_FILLED (decide (0 < blank))).wrS F.ANGLE_OUT_VALUE v
    let s := if bad then s.count ⟨0x07, 2⟩ 0 else s
    let s := if 0 < blank then s.count ⟨0x07, 3⟩ 0 else s
    s.updAxis .v (fun x => { x with outs := x.outs + 1 })

/-! ### Electrode faults (R216, R217) -/

/-- An electrode is in fault: 0 PKO_INP, 1 PKO_INN. -/
def elecFault (pin : Nat) (s : State) : State :=
  let s := if pin = 0 then s.wr F.ANGLE_STATUS_ELEC_FAULT_P 1 else s.wr F.ANGLE_STATUS_ELEC_FAULT_N 1
  let a := s.rd F.ANGLE_STATUS_ELEC_FAULT_P + 2 * s.rd F.ANGLE_STATUS_ELEC_FAULT_N
  ((s.wr F.ANGLE_STATUS_ELEC_FAULT 1).raise Irq.angleElecFault).logEvent Ev.angleElecFault a

/-- An electrode leaves fault: a change of excitation under Table 8-3. -/
def elecRecover (pin : Nat) (s : State) : State :=
  let f := if pin = 0 then F.ANGLE_STATUS_ELEC_FAULT_P else F.ANGLE_STATUS_ELEC_FAULT_N
  if s.flag f then (s.wr f 0).wr F.ANGLE_STATUS_INV_LEFT (max (s.rd F.ANGLE_STATUS_INV_LEFT) 6) else s

/-! ### The angle at the fire edge (R218) -/

/-- V_ANGLE and V_INV at a coarse count. DEDUCED: log entry 51. -/
def vAngleAt (s : State) (t : Int) : Int × Bool :=
  if !s.flag F.ANGLE_STATUS_RUNNING then (0, true)
  else
    match s.angle.outs.filter (fun o => decide ((o.doneAt : Int) ≤ t)) with
    | [] => (s.predicted .v t, true)
    | b :: r =>
      if b.invalid then (s.predicted .v t, true)
      else
        match r with
        | a :: _ =>
          if a.invalid || !s.flag F.ANGLE_CTRL_EXTRAP then (b.value, false)
          else
            let gd : Int := s.rd F.ANGLE_CHAIN_GROUP_DELAY_NS
            let k := (b.value - a.value) * (t - ((b.doneAt : Int) - gd))
            (clampI (-131071) 131071 (b.value + roundEven k (b.doneAt - a.doneAt)), false)
        | [] => (b.value, false)

end State
end Sys2Proof.Machine
end

