-- ==== Sys2Proof/Machine/Packet.lean ====
section
/-! DEFINITION. The frames that leave on a network lane (chapter 12, R288, R290, R291): a lane's own addresses, the
Ethernet, IP and UDP headers, and the octets of a frame; and the timestamps of a lane (R51). -/

namespace Sys2Proof.Machine

/-- The `k` octets of a number, big-endian. -/
def octets (k n : Nat) : List Nat := (List.range k).map (fun i => n / 2 ^ (8 * (k - 1 - i)) % 256)

/-- The eight bytes of a 64-bit word, big-endian. -/
def word64Bytes (w : Nat) : List Nat := wordBytes (w / 2 ^ 32 % 2 ^ 32) ++ wordBytes (w % 2 ^ 32)

/-- The sum of the 16-bit words of octets; a last odd octet counts with a zero after it. -/
def sum16 : List Nat → Nat
  | a :: b :: r => a * 256 + b + sum16 r
  | [a] => a * 256
  | [] => 0

/-- The Internet checksum: the ones' complement of the ones' complement sum. PRESUMED: log entry 129. -/
def inetSum (bs : List Nat) : Nat :=
  let t := sum16 bs
  if t = 0 then 65535 else 65535 - ((t - 1) % 65535 + 1)

/-- R288: the link-local address of a MAC address, by modified EUI-64. PRESUMED: log entry 129. -/
def linkLocal (mac : Nat) : Nat :=
  0xFE80 * 2 ^ 112 + ((mac / 2 ^ 24 ^^^ 0x020000) * 2 ^ 40 + 0xFFFE * 2 ^ 24 + mac % 2 ^ 24)

/-! ### Headers -/

/-- Bytes before the UDP payload: MAC addresses, tag, EtherType, IP and UDP headers (R290, R291). -/
def NetHeader.length (h : NetHeader) : Nat :=
  14 + (if h.tag.isSome then 4 else 0) + (if h.ipv6 then 40 else 20) + 8

/-- Bytes of a frame from destination MAC address to frame check sequence (R303). -/
def NetHeader.frameBytes (h : NetHeader) (payload : Nat) : Nat := max 64 (h.length + payload + 4)

/-- The MAC addresses, the tag and the EtherType. -/
def NetHeader.ethernet (h : NetHeader) : List Nat :=
  octets 6 h.dstMac ++ octets 6 h.srcMac ++
  (match h.tag with
   | some (pcp, vid) => octets 2 0x8100 ++ octets 2 (pcp * 2 ^ 13 + vid)
   | none => []) ++
  octets 2 (if h.ipv6 then 0x86DD else 0x0800)

/-- The IP header over `udp` bytes: ECN 0, and of IPv4 DF set, TTL 64 and the header checksum, of IPv6 flow label 0
and hop limit 64 (R291). PRESUMED: log entry 129. -/
def NetHeader.ip (h : NetHeader) (udp : Nat) : List Nat :=
  if h.ipv6 then
    octets 4 (6 * 2 ^ 28 + h.dscp * 2 ^ 22) ++ octets 2 udp ++ [17, 64] ++ octets 16 h.srcIp ++ octets 16 h.dstIp
  else
    let front := [0x45, h.dscp * 4] ++ octets 2 (20 + udp) ++ octets 2 h.ident ++ [0x40, 0, 64, 17]
    let back := octets 4 h.srcIp ++ octets 4 h.dstIp
    front ++ octets 2 (inetSum (front ++ back)) ++ back

/-- The pseudo-header of the UDP checksum. -/
def NetHeader.pseudo (h : NetHeader) (udp : Nat) : List Nat :=
  if h.ipv6 then octets 16 h.srcIp ++ octets 16 h.dstIp ++ octets 4 udp ++ [0, 0, 0, 17]
  else octets 4 h.srcIp ++ octets 4 h.dstIp ++ [0, 17] ++ octets 2 udp

/-- The UDP header of a payload, with its checksum, which is always computed (R291). PRESUMED: log entry 129. -/
def NetHeader.udp (h : NetHeader) (payload : List Nat) : List Nat :=
  let n := 8 + payload.length
  let ports := octets 2 h.srcPort ++ octets 2 h.dstPort ++ octets 2 n
  let c := inetSum (h.pseudo n ++ ports ++ payload)
  ports ++ octets 2 (if c = 0 then 65535 else c)

/-- The octets of a frame before its frame check sequence, padded to 60. PRESUMED: log entry 129. -/
def NetHeader.frame (h : NetHeader) (payload : List Nat) : List Nat :=
  let bs := h.ethernet ++ h.ip (8 + payload.length) ++ h.udp payload ++ payload
  bs ++ List.replicate (60 - bs.length) 0

/-- The UDP payload of a datagram: its words, big-endian, then its octets (R292). -/
def Datagram.payloadOctets (d : Datagram) : List Nat := d.words.flatMap word64Bytes ++ d.octets

/-- The octets of a frame in transmission. -/
def TxFrame.octets (t : TxFrame) : List Nat := t.header.frame t.dg.payloadOctets

namespace State

/-! ### A lane's own addresses and delays -/

/-- The base MAC address: a multiple of 8 (R288). -/
def baseMac : Nat := Config.baseMac % 2 ^ 48 / 8 * 8

/-- A lane's addresses (R288). -/
def laneMac (_ : State) (l : Nat) : Nat := baseMac + l
def laneIp4 (s : State) (l : Nat) : Nat := s.rd (F.NET_LANE_IP4_IP4 l)
def laneIp6 (s : State) (l : Nat) : Nat :=
  let a := (List.range 4).foldl (fun a n => a * 2 ^ 32 + s.rd (F.NET_LANE_IP6_IP6 l n)) 0
  if a = 0 then linkLocal (s.laneMac l) else a

/-- A lane's own address in a family. -/
def laneIp (s : State) (l : Nat) (ipv6 : Bool) : Nat := if ipv6 then s.laneIp6 l else s.laneIp4 l

/-- Device time in units of 2⁻¹⁶ ns. -/
def dev16 (s : State) : Nat := s.time.dev / 2 ^ 24

/-- A transmit or receive delay of a lane in units of 2⁻¹⁶ ns. DEDUCED: log entry 131. -/
def delay16 (ps : Nat) : Int := ps * 65536 / 1000

/-- R51: the timestamps of a lane, on receive and on transmit: the delays that the integrator enters are added. -/
def rxTime (s : State) (l : Nat) : Int := s.dev16 + delay16 (s.rd (F.TIME_LANE_LAT_RX_PS l))
def txTime (s : State) (l : Nat) : Int := s.dev16 + delay16 (s.rd (F.TIME_LANE_LAT_TX_PS l))

end State
end Sys2Proof.Machine
end

