-- ==== Sys2Proof/Machine/Land.lean ====
section
/-! DEFINITION. The landing and the port arbiters (chapter 12, R290 to R308): admission of items, packing and
closing of datagrams, grants, transmission, discards and the arbiter events. -/

namespace Sys2Proof.Machine
namespace State

/-! ### Regions -/

/-- A region's content. -/
def region (s : State) (n : Nat) : RegionSt := s.regions.getD n ⟨[], 0, none, [], 0, 0⟩

/-- The state with a region's content replaced, and LAND_REGION_FILL.FILL_KIB with it. -/
def putRegion (n : Nat) (r : RegionSt) (s : State) : State :=
  ({ s with regions := s.regions.set n r }).wr (F.LAND_REGION_FILL_FILL_KIB n) (ceilDiv r.fill 1024)

/-- The state with a region's content changed. -/
def updRegion (n : Nat) (f : RegionSt → RegionSt) (s : State) : State := s.putRegion n (f (s.region n))

/-- A port's arbiter. -/
def port (s : State) (p : Nat) : PortSt := s.ports.getD p ⟨none, 0, 0, 0, [], 0⟩

/-- The state with a port's arbiter replaced. -/
def putPort (p : Nat) (x : PortSt) (s : State) : State := { s with ports := s.ports.set p x }

/-- The enabled regions, ascending. -/
def enabledRegions (s : State) : List Nat := (List.range 16).filter (fun n => s.flag (F.LAND_REGION_EN n))

/-- The enabled region of a stream on a port (at most one exists, R301). Streams are numbered as in
LAND_REGION.STREAM. -/
def regionFor (s : State) (stream p : Nat) : Option Nat :=
  s.enabledRegions.find? (fun n => s.rd (F.LAND_REGION_STREAM n) == stream && s.rd (F.LAND_REGION_PORT n) == p)

/-- The region of a stream on the lowest port that has one. -/
def regionOfStream (s : State) (stream : Nat) : Option Nat :=
  s.enabledRegions.find? (fun n => s.rd (F.LAND_REGION_STREAM n) == stream)

/-- LAND_ECHO_MAP: the port of a stave (Table 12-10). -/
def echoPort (s : State) (em : Nat) : Nat := s.rd (F.LAND_ECHO_MAP_MAP (em / 8)) / 2 ^ (4 * (em % 8)) % 8

/-- UDP payload bytes U of a region's lane and destination (R291, R312). -/
def udpRoom (s : State) (n : Nat) : Nat :=
  s.rd (F.NET_LANE_CFG_MTU (s.rd (F.LAND_REGION_PORT n))) -
    (if s.flag (F.NET_DEST_CFG_IPV6 (s.rd (F.LAND_REGION_DEST n))) then 48 else 28)

/-- The destination addresses of a set (R290). -/
def destMac (s : State) (d : Nat) : Nat := s.rd (F.NET_DEST_MAC_HI_MAC_HI d) * 2 ^ 32 + s.rd (F.NET_DEST_MAC_LO_MAC_LO d)
def destIp (s : State) (d : Nat) : Nat :=
  if s.flag (F.NET_DEST_CFG_IPV6 d) then
    (List.range 4).foldl (fun a n => a * 2 ^ 32 + s.rd (F.NET_DEST_IP6_IP6 d n)) 0
  else s.rd (F.NET_DEST_IP4_IP4 d)

/-- R290, R291: the headers of a stream's datagram that leaves on port `p` for a region's destination set. A relayed
datagram takes them from the relay region, with the source port of its own stream (R300). -/
def destHeader (s : State) (p n stream : Nat) : NetHeader :=
  let d := s.rd (F.LAND_REGION_DEST n)
  let v6 := s.flag (F.NET_DEST_CFG_IPV6 d)
  { dstMac := s.destMac d
    srcMac := s.laneMac p
    tag := if s.flag (F.NET_DEST_CFG_TAG d) then some (s.rd (F.NET_DEST_CFG_PCP d), s.rd (F.NET_DEST_MAC_HI_VID d)) else none
    ipv6 := v6
    srcIp := s.laneIp p v6
    dstIp := s.destIp d
    dscp := s.rd (F.NET_DEST_CFG_DSCP d)
    ident := (s.port p).ident
    srcPort := 40961 + stream
    dstPort := s.rd (F.NET_DEST_CFG_UDP_PORT d) }

/-- The part's member number in stream headers: 0 outside a cord (Table 12-2). -/
def memberNo (s : State) : Nat := if s.flag F.CORD_STRAPS_ROLE then s.rd F.CORD_STRAPS_ID else 0

/-- R302: items lost to a region are counted in it; echo regions count shot headers and records (R167). -/
def countDrop (n shots recs items bytes : Nat) (s : State) : State :=
  if s.rd (F.LAND_REGION_STREAM n) = 0 then
    ((s.countN ⟨0x0C, 0⟩ n shots).countN ⟨0x0C, 1⟩ n recs).countN ⟨0x0C, 2⟩ n bytes
  else
    (s.countN ⟨0x0C, 4⟩ n items).countN ⟨0x0C, 2⟩ n bytes

/-- R302: whether an item finds room in its region. DEDUCED: log entry 67. -/
def hasRoom (s : State) (n bytes : Nat) : Bool :=
  (s.region n).fill + bytes ≤ s.rd (F.LAND_REGION_SIZE n) * 65536

/-! ### Closing datagrams -/

/-- The words of one echo frame block (Table 12-4). -/
def blockWords (b : EchoBlock) : List Nat :=
  [b.frame % 2 ^ 32 * 2 ^ 32 + b.contWords * 2 ^ 16 + b.units,
   b.frameSec % 2 ^ 32 * 2 ^ 32 + b.frameNs] ++ b.words

/-- Extension words and item words of a datagram (Tables 12-3, 12-5; R298). -/
def bodyWords (s : State) (n : Nat) (b : DgBody) : List Nat :=
  match b with
  | .echo blocks =>
    [s.counter ⟨0x0C, 0⟩ n % 2 ^ 32 * 2 ^ 32 + s.counter ⟨0x0C, 1⟩ n % 2 ^ 32,
     s.counter ⟨0x0C, 2⟩ n % 2 ^ 64,
     s.counter ⟨0x0C, 5⟩ n % 2 ^ 32 * 2 ^ 32] ++ blocks.flatMap blockWords
  | .camera e _ =>
    [e.seq % 2 ^ 32 * 2 ^ 32 + e.line * 2 ^ 19 + e.nlines * 2 ^ 6 + b2n e.trailer * 2 ^ 5 +
        (if s.rd (F.LAND_REGION_STREAM n) = 2 then 2 ^ 4 else 0),
     e.segOff * 2 ^ 48 + e.segLen * 2 ^ 32]
  | .envelope sector ws => (sector % 2 ^ 32 * 2 ^ 32) :: ws
  | .telemetry ws => ws

/-- The STREAM code and EXT_WORDS of a body (Table 12-2). -/
def bodyStream (b : DgBody) : Nat × Nat :=
  match b with
  | .echo _ => (0, 3)
  | .camera _ _ => (1, 2)
  | .envelope _ _ => (2, 1)
  | .telemetry _ => (3, 0)

/-- Camera octets of a body. -/
def bodyOctets (b : DgBody) : List Nat :=
  match b with
  | .camera _ o => o
  | _ => []

/-- A datagram as it closes (Table 12-2); its SEQ stays 0 until transmission starts (R293). -/
def closedDg (s : State) (n : Nat) (d : OpenDg) (flushed : Bool) : Datagram :=
  let (stream, ext) := bodyStream d.body
  let w0 := 2 ^ 60 + stream * 2 ^ 56 + s.memberNo * 2 ^ 53 + s.rd (F.LAND_REGION_PORT n) * 2 ^ 50 +
    b2n flushed * 2 ^ 43 + b2n (s.flag F.LAND_CTRL_LOSSY_EGRESS) * 2 ^ 42 + ext * 2 ^ 32
  let ws := [w0, s.sec * 2 ^ 16 + n * 2 ^ 12, s.nsec * 2 ^ 32 + d.items % 2 ^ 16 * 2 ^ 16] ++ s.bodyWords n d.body
  let o := bodyOctets d.body
  ⟨n, stream, ws, o, 8 * ws.length + o.length, d.bytes, d.shots, d.recs, d.items, false⟩

/-- R295, R297, R298: the open datagram of a region closes and waits for its port. -/
def closeDg (n : Nat) (flushed : Bool) (s : State) : State :=
  match (s.region n).openDg with
  | none => s
  | some d =>
    let dg := s.closedDg n d flushed
    s.updRegion n (fun r => { r with openDg := none, closed := r.closed ++ [dg] })

/-- The present open datagram of a region. -/
def openOf (s : State) (n : Nat) : Option OpenDg := (s.region n).openDg

/-- The state with the open datagram of a region replaced. -/
def putOpen (n : Nat) (d : OpenDg) (s : State) : State :=
  s.updRegion n (fun r => { r with openDg := some d })

/-! ### Echo packing (R294 to R296) -/

/-- UDP payload bytes that the blocks of an echo datagram take, with its header. -/
def echoSize (bs : List EchoBlock) : Nat := 48 + 8 * (bs.flatMap blockWords).length

/-- A piece of a unit, as words, is put into the last block of its frame, or into a new block. A late unit begins a
block of its own (R296). DEDUCED: log entry 48. -/
def addPiece (u : EchoUnit) (cont shot : Bool) (ws : List Nat) (bs : List EchoBlock) : List EchoBlock :=
  match bs.getLast? with
  | some b =>
    if b.frame = u.frame ∧ !(shot && u.late) then
      bs.dropLast ++ [{ b with words := b.words ++ ws, units := b.units + b2n shot,
                               contWords := b.contWords + (if cont then ws.length else 0) }]
    else bs ++ [⟨u.frame, u.frameSec, u.frameNs, 0, b2n shot, ws⟩]
  | none => [⟨u.frame, u.frameSec, u.frameNs, if cont then ws.length else 0, b2n shot, ws⟩]

/-- R295: one shot header or one record enters the region's open datagram; where it would exceed the lane's UDP
payload, the datagram closes first. `cont` says that the present datagram does not hold the unit's shot header.
The result says whether the datagram changed. -/
def packPiece (n : Nat) (u : EchoUnit) (cont shot : Bool) (ws : List Nat) (s : State) : State × Bool :=
  let fresh : OpenDg := ⟨.echo (addPiece u (!shot) shot ws []), 8 * ws.length, b2n shot, b2n (!shot), b2n shot⟩
  match s.openOf n with
  | some d =>
    match d.body with
    | .echo bs =>
      let bs' := addPiece u cont shot ws bs
      if echoSize bs' ≤ s.udpRoom n then
        (s.putOpen n { d with body := .echo bs', bytes := d.bytes + 8 * ws.length, shots := d.shots + b2n shot,
                              recs := d.recs + b2n (!shot), items := d.items + b2n shot }, false)
      else ((s.closeDg n false).putOpen n fresh, true)
    | _ => ((s.closeDg n false).putOpen n fresh, true)
  | none => (s.putOpen n fresh, true)

/-- The records of a unit, one after the other. -/
def packRecs (n : Nat) (u : EchoUnit) (cont : Bool) : List (List Nat) → State → State
  | [], s => s
  | r :: rs, s =>
    let (s', moved) := s.packPiece n u cont false r
    packRecs n u (cont || moved) rs s'

/-- R295: a unit is packed, split only at a record boundary. DEDUCED: log entry 48. -/
def packUnit (n : Nat) (s : State) (u : EchoUnit) : State :=
  packRecs n u false u.records (s.packPiece n u false true u.header).1

/-- R294, R296: the units of frame `k`, and late units of earlier frames before them, are packed. DEDUCED: log entry
48. -/
def releaseFrame (n k : Nat) (s : State) : State :=
  let r := s.region n
  let go := sortBy (fun u => u.frame) (r.held.filter (fun u => u.frame ≤ k))
  let s := s.putRegion n { r with held := r.held.filter (fun u => k < u.frame), released := max r.released (k + 1) }
  go.foldl (packUnit n) s

/-- R295: at mode exit every held frame is released and every open datagram closes with FLUSHED. -/
def flushRegion (s : State) (n : Nat) : State :=
  let r := s.region n
  let go := sortBy (fun u => u.frame) r.held
  let s := s.putRegion n { r with held := [], released := go.foldl (fun a u => max a (u.frame + 1)) r.released }
  (go.foldl (packUnit n) s).closeDg n true

/-- Every enabled region flushed (R295, R446). DEDUCED: log entry 73. -/
def flushAll (s : State) : State := s.enabledRegions.foldl flushRegion s

/-- Bytes of a stave-shot unit. -/
def unitBytes (u : EchoUnit) : Nat := 8 * (u.header.length + (u.records.map List.length).sum)

/-- R167, R302: a stave-shot unit is admitted whole to its echo region, or discarded whole and counted. DEDUCED: log
entries 45 and 67. -/
def admitUnit (n : Nat) (u : EchoUnit) (s : State) : State :=
  let b := unitBytes u
  if s.hasRoom n b then
    let late := decide (u.frame < (s.region n).released)
    let s := s.updRegion n (fun r => { r with
      held := r.held ++ [{ u with late := late }]
      fill := r.fill + b })
    let s := s.countN ⟨0x0C, 6⟩ n b
    if late then s.count ⟨0x0C, 5⟩ n else s
  else s.countDrop n 1 u.records.length 1 b

/-! ### Telemetry (R298, R301, R433) -/

/-- A telemetry record enters one region as an item, or is discarded and counted there. DEDUCED: log entry 67. -/
def admitRecord (ws : List Nat) (s : State) (n : Nat) : State :=
  let b := 8 * ws.length
  if s.hasRoom n b then
    let s := (s.updRegion n (fun r => { r with fill := r.fill + b })).countN ⟨0x0C, 6⟩ n b
    match s.openOf n with
    | some d =>
      match d.body with
      | .telemetry old =>
        if 24 + 8 * (old.length + ws.length) ≤ s.udpRoom n then
          s.putOpen n { d with body := .telemetry (old ++ ws), bytes := d.bytes + b, items := d.items + 1 }
        else (s.closeDg n false).putOpen n ⟨.telemetry ws, b, 0, 0, 1⟩
      | _ => (s.closeDg n false).putOpen n ⟨.telemetry ws, b, 0, 0, 1⟩
    | none => s.putOpen n ⟨.telemetry ws, b, 0, 0, 1⟩
  else s.countDrop n 0 0 1 b

/-- The enabled telemetry regions. -/
def telemRegions (s : State) : List Nat := s.enabledRegions.filter (fun n => s.rd (F.LAND_REGION_STREAM n) == 4)

/-- R301: a telemetry record goes to every enabled telemetry region, or to none and is counted. -/
def telemetry (ws : List Nat) (s : State) : State :=
  if s.telemRegions.isEmpty then s.count ⟨0x13, 4⟩ 0 else s.telemRegions.foldl (admitRecord ws) s

/-- The header word of a telemetry record (R298). -/
def recHeader (typ words : Nat) : Nat := typ * 2 ^ 56 + words * 2 ^ 32

/-- Arbiter-event record (Table 12-6, TYPE 0x03). -/
def arbiterEvent (kind p req items : Nat) (s : State) : State :=
  s.telemetry [recHeader 3 4, kind * 2 ^ 56 + p % 8 * 2 ^ 53 + req * 2 ^ 50 + items % 2 ^ 32,
    s.sec * 2 ^ 16, s.nsec * 2 ^ 32]

/-! ### Envelope reports and camera lines -/

/-- A report enters the open datagram of its sector, or, where the lane's UDP payload has no room for it (R291), a
datagram of its own after it. DEDUCED: log entry 130. -/
def packReport (n sector : Nat) (s : State) (r : List Nat) : State :=
  let b := 8 * r.length
  let fresh : OpenDg := ⟨.envelope sector r, b, 0, 0, 1⟩
  match s.openOf n with
  | some d =>
    match d.body with
    | .envelope _ ws =>
      if 32 + 8 * ws.length + b ≤ s.udpRoom n then
        s.putOpen n { d with
          body := .envelope sector (ws ++ r)
          bytes := d.bytes + b
          items := d.items + 1 }
      else (s.closeDg n false).putOpen n fresh
    | _ => (s.closeDg n false).putOpen n fresh
  | none => s.putOpen n fresh

/-- R298: the reports of one sector travel in one datagram; each is admitted or discarded as an item. DEDUCED: log
entries 67 and 130. -/
def admitReports (n sector : Nat) (reports : List (List Nat)) (s : State) : State :=
  let step := fun (acc : State × List (List Nat)) (r : List Nat) =>
    let b := 8 * r.length
    if acc.1.hasRoom n b then
      ((acc.1.updRegion n (fun x => { x with fill := x.fill + b })).countN ⟨0x0C, 6⟩ n b, acc.2 ++ [r])
    else (acc.1.countDrop n 0 0 1 b, acc.2)
  let (s, kept) := reports.foldl step (s, [])
  (kept.foldl (packReport n sector) s).closeDg n false

/-- Segments of a line that is longer than a datagram's room (R297): offset and octets of each. -/
def segments (room : Nat) (off : Nat) : Nat → List Nat → List (Nat × List Nat)
  | 0, _ => []
  | k + 1, os => if os.isEmpty then [] else (off, os.take room) :: segments room (off + room) k (os.drop room)

/-- One segment in a datagram of its own. -/
def segmentDg (n seq line : Nat) (first : Bool) (s : State) (g : Nat × List Nat) : State :=
  (s.putOpen n ⟨.camera ⟨seq, line, 0, false, g.1, g.2.length⟩ g.2, g.2.length, 0, 0, b2n (first && g.1 == 0)⟩).closeDg n false

/-- R297, R302: an output line enters its camera region; `final` marks the last line of the frame. DEDUCED: log entry
67. -/
def admitLine (n seq line : Nat) (final : Bool) (os : List Nat) (s : State) : State :=
  let b := os.length
  if s.hasRoom n b then
    let s := (s.updRegion n (fun r => { r with fill := r.fill + b })).countN ⟨0x0C, 6⟩ n b
    let room := s.udpRoom n - 40
    if room < b then
      let s := s.closeDg n false
      (segments room 0 b os).foldl (segmentDg n seq line true) s
    else
      let fresh : OpenDg := ⟨.camera ⟨seq, line, 1, false, 0, 0⟩ os, b, 0, 0, 1⟩
      let s := match s.openOf n with
        | some d =>
          match d.body with
          | .camera e old =>
            if e.seq = seq ∧ e.line + e.nlines = line ∧ old.length + b ≤ room then
              s.putOpen n { d with body := .camera { e with nlines := e.nlines + 1 } (old ++ os),
                                   bytes := d.bytes + b, items := d.items + 1 }
            else (s.closeDg n false).putOpen n fresh
          | _ => (s.closeDg n false).putOpen n fresh
        | none => s.putOpen n fresh
      if final then s.closeDg n false else s
  else s.countDrop n 0 0 1 b

/-- R282, R297: a frame trailer travels alone. -/
def admitTrailer (n seq : Nat) (os : List Nat) (s : State) : State :=
  let b := os.length
  if s.hasRoom n b then
    let s := (s.updRegion n (fun r => { r with fill := r.fill + b })).countN ⟨0x0C, 6⟩ n b
    ((s.closeDg n false).putOpen n ⟨.camera ⟨seq, 0, 0, true, 0, 0⟩ os, b, 0, 0, 1⟩).closeDg n false
  else s.countDrop n 0 0 1 b

/-! ### Discards -/

/-- A datagram's items are counted as discards of its region (R302) and its space is freed. -/
def dropDg (s : State) (d : Datagram) : State :=
  if d.region < 16 then
    (s.updRegion d.region (fun r => { r with fill := r.fill - d.bytes })).countDrop d.region d.shots d.recs d.items d.bytes
  else s.count ⟨0x0B, 8⟩ (d.region - 16)

/-- R301: a region's whole content is discarded and counted; the datagram in transmission is not part of it. -/
def discardRegion (n : Nat) (s : State) : State :=
  let r := s.region n
  let s := r.held.foldl (fun s u => s.countDrop n 1 u.records.length 1 (unitBytes u)) s
  let s := match r.openDg with
    | some d => s.countDrop n d.shots d.recs d.items d.bytes
    | none => s
  let s := r.closed.foldl (fun s d => s.countDrop n d.shots d.recs d.items d.bytes) s
  s.putRegion n { r with held := [], openDg := none, closed := [], fill := 0 }

/-- R301: the counters of a region return to zero. -/
def clearRegionCounters (n : Nat) (s : State) : State :=
  let live := (List.range 8).foldl (fun m i => Sparse.erase m (ctrId ⟨0x0C, i⟩ n)) s.tally.live
  { s with tally := { s.tally with live := live } }

/-- R301: SEQ and the counters of a region return to zero. DEDUCED: log entry 9. -/
def regionZero (n : Nat) (s : State) : State := (s.clearRegionCounters n).updRegion n (fun r => { r with seq := 0 })

/-- The frame of a region that is in transmission. DEDUCED: log entry 9. -/
def sendingOf (s : State) (n : Nat) : Option TxFrame := (s.ports.filterMap PortSt.tx).find? (fun x => x.dg.region == n)

/-- R301: what an accepted write of LAND_REGION_n does to the region beside the register: its content is discarded,
and SEQ and the counters are reset, once a datagram in transmission has ended, which keeps its space until then.
DEDUCED: log entry 9. -/
def resetRegion (n : Nat) (s : State) : State :=
  let s := s.discardRegion n
  let s := s.updRegion n (fun r => { r with released := 0 })
  match s.sendingOf n with
  | none => s.regionZero n
  | some x =>
    let s := s.updRegion n (fun r => { r with fill := x.dg.bytes })
    { s with ports := s.ports.map (fun p => { p with tx := p.tx.map (fun t =>
        if t.dg.region = n then { t with resets := true } else t) }) }

/-- R301: the transmission of a frame ends; where its region has been written meanwhile, the reset follows. DEDUCED:
log entry 9. -/
def regionFollows (t : TxFrame) (s : State) : State := if t.resets then s.regionZero t.dg.region else s

/-! ### Arbitration (R303 to R307) -/

/-- Whether a stream's datagrams leave on CORD0 instead of the region's port (R357). -/
def relayedStream (s : State) (stream : Nat) : Bool :=
  stream < 5 && s.flag F.CORD_STRAPS_ROLE && !s.flag F.CORD_STRAPS_MASTER && bitOf (s.rd F.CORD_CTRL_RELAY) stream

/-- The region of a stream on a port, where it has a closed datagram waiting for that port. -/
def waitingRegion (s : State) (stream p : Nat) : Option Nat :=
  match s.regionFor stream p with
  | some n => if s.relayedStream stream || (s.region n).closed.isEmpty then none else some n
  | none => none

/-- The region whose datagram a requester sends next (Table 12-7); requester 4 has no region. -/
def sourceOf (s : State) (p req : Nat) : Option Nat :=
  match req with
  | 0 => s.waitingRegion 0 p
  | 1 =>
    if (s.port p).camLast = 0 then (s.waitingRegion 2 p).or (s.waitingRegion 1 p)
    else (s.waitingRegion 1 p).or (s.waitingRegion 2 p)
  | 2 => s.waitingRegion 3 p
  | 3 => s.waitingRegion 4 p
  | 5 => s.waitingRegion 5 p
  | _ => none

/-- R303: a requester requests while it has a closed datagram waiting for the port. -/
def requests (s : State) (p req : Nat) : Bool :=
  if req = 4 then !(s.port p).replies.isEmpty else (s.sourceOf p req).isSome

/-- The requesters in the order in which a grant looks at them: ascending after the last owner, wrapping. -/
def grantOrder (last : Nat) : List Nat := (List.range 6).map (fun i => (last + 1 + i) % 6)

/-- SEQ put into a datagram whose transmission starts (R293); a relayed datagram keeps the follower's (R300). DEDUCED:
log entry 98. -/
def withSeq (d : Datagram) (seq : Nat) : List Nat :=
  match d.words with
  | w :: ws => (w / 2 ^ 32 * 2 ^ 32 + seq % 2 ^ 32) :: ws
  | [] => []

/-- The words of a datagram whose transmission starts: SEQ (R293), or, of a relayed one, UNORDERED while forwarding
goes on after a cord link timeout (R310, Table 12-2). -/
def sentWords (s : State) (d : Datagram) (seq : Nat) : List Nat :=
  if d.relayed then
    match d.words with
    | w :: ws => (if s.flag (F.CORD_LINK_UNORDERED 1) then setBit w 40 else w) :: ws
    | [] => []
  else withSeq d seq

/-- The identification after a datagram: it counts IPv4 datagrams per lane (R291). -/
def nextIdent (h : NetHeader) : Nat := if h.ipv6 then h.ident else (h.ident + 1) % 2 ^ 16

/-- Transmission of the granted requester's next datagram starts. PRESUMED: log entry 129. -/
def startTx (p req : Nat) (s : State) : State :=
  let x := s.port p
  if req = 4 then
    match x.replies with
    | [] => s
    | r :: rest =>
      let b := r.octets.length
      let h := { r.header with ident := x.ident }
      s.putPort p { x with
        replies := rest
        tx := some ⟨4, h, ⟨16 + p, 0, [], r.octets, b, b, 0, 0, 1, false⟩, 0, h.frameBytes b, false, r.reset⟩
        ident := nextIdent h }
  else
    match s.sourceOf p req with
    | none => s
    | some n =>
      let r := s.region n
      match r.closed with
      | [] => s
      | d :: rest =>
        let seq := r.seq
        let d' := { d with words := s.sentWords d seq }
        let h := s.destHeader p n d.stream
        let s := s.putRegion n { r with closed := rest, seq := if d.relayed then seq else (seq + 1) % 2 ^ 32 }
        s.putPort p { x with
          tx := some ⟨req, h, d', seq, h.frameBytes d.payload, false, false⟩
          ident := nextIdent h
          camLast := if req = 1 then (if s.rd (F.LAND_REGION_STREAM n) = 2 then 1 else 0) else x.camLast }

/-- R304: DRAINED follows FREEZE and the grant. -/
def setDrained (p : Nat) (s : State) : State :=
  s.wrB (F.LAND_PORT_STATUS_DRAINED p) (s.flag (F.LAND_PORT_CTRL_FREEZE p) && !s.flag (F.LAND_PORT_STATUS_GRANTED p))

/-- R303: the port is granted to the next requesting requester, and its first datagram starts. DEDUCED: log entry
72. -/
def grant (p : Nat) (s : State) : State :=
  if s.flag (F.LAND_PORT_STATUS_GRANTED p) || s.flag (F.LAND_PORT_CTRL_FREEZE p) || !s.flag (F.NET_LANE_STATUS_LINK p)
  then s
  else
    match (grantOrder (s.rd (F.LAND_PORT_STATUS_OWNER p))).find? (s.requests p) with
    | none => s
    | some req =>
      let s := (s.wr (F.LAND_PORT_STATUS_GRANTED p) 1).wr (F.LAND_PORT_STATUS_OWNER p) req
      let s := s.putPort p { s.port p with sent := 0, burst := s.rd (F.LAND_BURST_BURST req) }
      s.startTx p req

/-- Bytes that a lane has sent are counted (Table 18-1, R434). -/
def countTx (p bytes : Nat) (s : State) : State :=
  let s := s.countN ⟨0x0B, 0⟩ p bytes
  { s with tally := { s.tally with bwCount := s.tally.bwCount.set p (s.tally.bwCount.getD p 0 + bytes) } }

/-- A lane beyond its registers. -/
def laneSt (s : State) (l : Nat) : LaneSt := s.lanes.getD l LaneSt.init
def putLane (l : Nat) (x : LaneSt) (s : State) : State := { s with lanes := s.lanes.set l x }

/-- A control frame leaves a lane. -/
def frameOut (l : Nat) (c : CtrlFrame) (s : State) : State :=
  (s.putLane l { s.laneSt l with lastCtrl := some c }).countTx l c.bytes

/-- A control frame leaves a lane; a PTP event frame takes its timestamp then (R51, R289): that of a delay request is
kept, and that of a Pdelay_Resp leaves in its Follow_Up. DEDUCED: log entry 20. -/
def emitCtrl (l : Nat) (s : State) (c : CtrlFrame) : State :=
  let s := s.frameOut l c
  match c.ptp with
  | none => s
  | some (d, m) =>
    let t := s.txTime l
    match m.kind with
    | .pdelayResp => s.frameOut l { c with ptp := some (d, { m with kind := .pdelayFollowUp, stamp := t }) }
    | .pdelayFollowUp => s
    | _ => { s with time := { s.time with reqSent := some (m.seq, t) } }

/-- R289: control frames that wait for the end of the frame in progress are sent. DEDUCED: log entry 71. -/
def sendCtrl (p : Nat) (s : State) : State :=
  let l := s.laneSt p
  l.ctrl.foldl (emitCtrl p) (s.putLane p { l with ctrl := [] })

/-- The grant is withdrawn or ends, and control frames that waited are sent; the last owner stays shown. DEDUCED: log
entry 72. -/
def endGrant (p : Nat) (s : State) : State :=
  let s := (s.wr (F.LAND_PORT_STATUS_GRANTED p) 0).putPort p { s.port p with tx := none, sent := 0 }
  (s.sendCtrl p).setDrained p

/-- R334, R358: the reply of an accepted RESET or CORD_RESET has left, or never will. -/
def replyGone (s : State) : State :=
  let n := s.now
  { s with boot := { s.boot with
    resetReply := false
    replyEnd := n } }

/-- R334, R358: the reply of an accepted RESET or CORD_RESET has still to be formed, or to leave. -/
def replyOwed (s : State) : Bool :=
  s.boot.resetReply || decide (s.now < s.boot.replyEnd) ||
  s.cord.txn.any (fun x => x.opcode == 0x0302 || x.opcode == 0x0801)

/-- Staged replies are gone. -/
def repliesGone (l : List StagedReply) (s : State) : State := if l.any (fun r => r.reset) then s.replyGone else s

/-- R303: a frame finishes; its space is freed, and the grant ends when the owner has nothing more for the port or its
frames have reached the burst limit. DEDUCED: log entry 72. -/
def frameEnd (p : Nat) (s : State) : State :=
  let x := s.port p
  match x.tx with
  | none => s
  | some t =>
    let s := (s.countTx p t.frameBytes).countN ⟨0x0C, 2⟩ (16 + p) 1
    let s := if t.reset then s.replyGone else s
    let s := if t.dg.region < 16 then s.updRegion t.dg.region (fun r => { r with fill := r.fill - t.dg.bytes }) else s
    let s := s.regionFollows t
    let sent := x.sent + ceilDiv t.frameBytes 64
    let s := s.putPort p { s.port p with tx := none, sent := sent }
    let s := s.sendCtrl p
    if s.requests p t.requester ∧ sent < x.burst then s.startTx p t.requester else s.endGrant p

/-- R307: link lost on a lane: a frame in progress is cut, counted, and its items are discards; control frames that
waited for its end are lost with it. DEDUCED: log entry 71. -/
def abortTx (p : Nat) (s : State) : State :=
  let s := s.putLane p { s.laneSt p with ctrl := [] }
  match (s.port p).tx with
  | none => s.endGrant p
  | some t =>
    let s := s.count ⟨0x0B, 7⟩ p
    let s := if t.reset then s.replyGone else s
    ((s.dropDg t.dg).regionFollows t).endGrant p

/-- The regions that a requester serves on a port. -/
def regionsOf (s : State) (p req : Nat) : List Nat :=
  let streams := match req with | 0 => [0] | 1 => [1, 2] | 2 => [3] | 3 => [4] | 5 => [5] | _ => []
  streams.filterMap (fun st => s.regionFor st p)

/-- Every closed and open datagram of a region is discarded and counted; the count of items comes with it. -/
def dropDatagrams (acc : State × Nat) (n : Nat) : State × Nat :=
  let r := acc.1.region n
  let s := r.closed.foldl dropDg acc.1
  let (s, k) := match r.openDg with
    | some d => ((s.updRegion n (fun r => { r with fill := r.fill - d.bytes })).countDrop n d.shots d.recs d.items d.bytes, d.items)
    | none => (s, 0)
  (s.updRegion n (fun r => { r with closed := [], openDg := none }),
    acc.2 + k + (r.closed.map (fun d => d.items)).sum)

/-- R306: the port watchdog bites. DEDUCED: log entries 72 and 81. -/
def wdtBite (p : Nat) (s : State) : State :=
  if s.flag (F.LAND_PORT_STATUS_GRANTED p) && s.flag (F.NET_LANE_STATUS_LINK p) then
    let req := s.rd (F.LAND_PORT_STATUS_OWNER p)
    let x := s.port p
    let (s, k0) := match x.tx with
      | some t =>
        let s := if t.reset then s.replyGone else s
        ((s.dropDg t.dg).regionFollows t, t.dg.items)
      | none => (s, 0)
    let (s, k1) := if req = 4 then
        (((s.countN ⟨0x0B, 8⟩ p x.replies.length).repliesGone x.replies), x.replies.length)
      else (s.regionsOf p req).foldl dropDatagrams (s, 0)
    let s := if req = 4 then s.putPort p { s.port p with replies := [] } else s
    let s := s.endGrant p
    let s := (s.wr (F.LAND_PORT_STATUS_WDT_BITE p) 1).wr (F.LAND_PORT_STATUS_WDT_REQ p) req
    let s := s.raise Irq.landWdt
    let s := s.logEvent Ev.landWdt (p * 2 ^ 8 + req)
    let s := s.arbiterEvent 1 p req (k0 + k1)
    s.count ⟨0x0C, 0⟩ (16 + p)
  else s

/-- R305: a requester that has requested for too long is reported. -/
def starve (p req : Nat) (s : State) : State :=
  if s.requests p req && !s.flag (F.LAND_PORT_CTRL_FREEZE p) && s.flag (F.NET_LANE_STATUS_LINK p) &&
      !(s.flag (F.LAND_PORT_STATUS_GRANTED p) && s.rd (F.LAND_PORT_STATUS_OWNER p) == req) then
    let s := s.setIn (F.LAND_PORT_STATUS_STARVE p) req
    let s := s.raise Irq.landStarve
    let s := s.arbiterEvent 2 p req 0
    s.count ⟨0x0C, 1⟩ (16 + p)
  else s

/-- R299: a Doley reply is staged in the lane's reply area of 16 KiB, or dropped and counted. -/
def stageReply (l : Nat) (r : StagedReply) (s : State) : State :=
  let x := s.port l
  let inTx := match x.tx with
    | some t => if t.requester = 4 then t.dg.bytes else 0
    | none => 0
  if (x.replies.map (fun r => r.octets.length)).sum + inTx + r.octets.length ≤ 16384 then
    s.putPort l { x with replies := x.replies ++ [r] }
  else (s.count ⟨0x0B, 8⟩ l).repliesGone [r]

end State
end Sys2Proof.Machine
end

