-- ==== Sys2Proof/Machine/Nvs.lean ====
section
/-! DEFINITION. The non-volatile store (chapter 17): the journal and its writer, compaction, replay, the life log
and its calendar, and the wear forecasts. -/

namespace Sys2Proof.Machine

/-- What a journal replays to (R407, R410): words by address or table key, recipes, calibration items and the boot
selection. -/
structure JMap where
  regs    : Sparse Word
  tabs    : Sparse Word
  recipes : List (Nat × List (Nat × List Nat))
  items   : List (Nat × List Nat)
  boot    : Option (List Nat)
  deriving DecidableEq, Repr

/-- An empty journal. -/
def JMap.empty : JMap := ⟨[], [], [], [], none⟩

/-- Words put into a sparse store of words, each listed whatever its value. -/
def listWords (base step : Nat) : List Nat → Sparse Word → Sparse Word
  | [], m => m
  | v :: vs, m => listWords (base + step) step vs (Sparse.insert base (BitVec.ofNat 32 v) m)

/-- One entry's effect on the replay (Table 17-3); an unknown TYPE is skipped. DEDUCED: log entry 86. -/
def JMap.add (m : JMap) (typ key : Nat) (ws : List Nat) : JMap :=
  match typ with
  | 1 => { m with regs := listWords key 4 ws m.regs }
  | 2 => { m with tabs := listWords key 1 ws m.tabs }
  | 3 =>
    let n := key % 64
    let old := if key / 2 ^ 16 = 0 then [] else ((m.recipes.find? (fun r => r.1 == n)).map (·.2)).getD []
    { m with recipes := m.recipes.filter (fun r => r.1 != n) ++ [(n, old ++ [(key / 2 ^ 16, ws)])] }
  | 4 => { m with recipes := m.recipes.filter (fun r => r.1 != key % 64) }
  | 5 => { m with items := m.items.filter (fun r => r.1 != key) ++ [(key, ws)] }
  | 6 => { m with boot := some ws }
  | _ => m

/-- The valid entries up to the first location that does not hold one (R410). DEDUCED: log entry 110. -/
def validPrefix (l : List JEntry) : List JEntry := l.takeWhile (fun e => e.ok)

/-- R407: a group takes effect only when every entry of it is valid and its last entry has END = 1. DEDUCED: log entry
110. -/
def admittedGroups (l : List JEntry) : List JEntry :=
  l.filter (fun e => l.any (fun z => z.group == e.group && z.last))

/-- What entries that are all valid leave of every item (R407). DEDUCED: log entry 110. -/
def journalled (l : List JEntry) : JMap :=
  (admittedGroups l).foldl (fun m e => m.add e.typ e.key e.payload) JMap.empty

/-- R410: the replay of one half. DEDUCED: log entry 110. -/
def replay (l : List JEntry) : JMap := journalled (validPrefix l)

/-- The latest valid value of every item of one half (R412). DEDUCED: log entry 110. -/
def latest (l : List JEntry) : JMap := journalled (l.filter (fun e => e.ok))

/-- Bytes of an entry (R406). -/
def entryBytes (words : Nat) : Nat := 24 + 4 * words

/-- Bytes of a half's content. -/
def halfBytes (l : List JEntry) : Nat := (l.map (fun e => entryBytes e.payload.length)).sum

/-- Bytes of a group's entries. -/
def groupBytes (g : List JItem) : Nat := (g.map (fun e => entryBytes e.payload.length)).sum

/-- Consecutive words of a store gathered into items of at most 1,024 words. -/
def runsOf (typ step : Nat) : List (Nat × Word) → List JItem → List JItem
  | [], acc => acc
  | (k, v) :: r, acc =>
    match acc.getLast? with
    | some j =>
      if j.key + step * j.payload.length = k ∧ j.payload.length < 1024 then
        runsOf typ step r (acc.dropLast ++ [{ j with payload := j.payload ++ [v.toNat] }])
      else runsOf typ step r (acc ++ [⟨typ, k, [v.toNat]⟩])
    | none => runsOf typ step r [⟨typ, k, [v.toNat]⟩]

/-- R412: the compacted image, the latest valid value of every item. -/
def JMap.image (m : JMap) : List JItem :=
  runsOf 1 4 m.regs [] ++ runsOf 2 1 m.tabs [] ++
  m.recipes.flatMap (fun r => r.2.map (fun c => ⟨3, c.1 * 2 ^ 16 + r.1, c.2⟩)) ++
  m.items.map (fun r => ⟨5, r.1, r.2⟩) ++
  (match m.boot with | some ws => [⟨6, 0, ws⟩] | none => [])

/-- Items as the entries of one group. -/
def asEntries (first : Nat) : Nat → List JItem → List JEntry
  | _, [] => []
  | seq, j :: js => ⟨j.typ, js.isEmpty, j.key, seq, first, j.payload, true⟩ :: asEntries first (seq + 1) js

/-- The byte size of a journal half (Table 17-1), and the fill at which compaction starts (R412). -/
def halfSize : Nat := 1472 * 1024
def compactAt : Nat := 1104 * 1024

namespace State

/-- The journal half in use. -/
def half (s : State) : List JEntry := if s.flag F.NVS_STATUS_HALF then s.nvs.half1 else s.nvs.half0

/-- The state with the half in use replaced, and its fill shown. -/
def putHalf (l : List JEntry) (s : State) : State :=
  let n := s.nvs
  let n := if s.flag F.NVS_STATUS_HALF then { n with half1 := l } else { n with half0 := l }
  ({ s with nvs := n }).wr F.NVS_STATUS_FILL_KIB (ceilDiv (halfBytes l) 1024)

/-! ### The life log -/

/-- A count of the counter block, keyed by its even word offset (Table 17-5). -/
def lifeCount (s : State) (k : Nat) : Nat := Sparse.get s.nvs.life 0 k

/-- A 64-bit count of the counter block counted up. -/
def lifeAdd (k n : Nat) (s : State) : State :=
  { s with nvs := { s.nvs with life := Sparse.put s.nvs.life 0 k ((s.lifeCount k + n) % 2 ^ 64) } }

/-- R423: a calendar entry is written; the calendar wraps. DEDUCED: log entry 114. -/
def calendarAdd (event data : Nat) (s : State) : State :=
  let i := s.lifeCount 182
  let w0 := data % 2 ^ 16 * 2 ^ 16 + s.sec / 2 ^ 32 % 2 ^ 16
  let w1 := s.sec % 2 ^ 32
  let w2 := s.nsec
  let w3 := event * 2 ^ 24 + i / 61440 % 2 * 2 ^ 23 + crc32c (wordsBytes [w0, w1, w2]) % 2 ^ 16
  let k := 4 * (i % 61440)
  let c := Sparse.put (Sparse.put (Sparse.put (Sparse.put s.nvs.calendar 0 k w0) 0 (k + 1) w1) 0 (k + 2) w2) 0 (k + 3) w3
  ({ s with nvs := { s.nvs with calendar := c } }).lifeAdd 182 1

/-- R420: a word of the life log. -/
def lifeWord (s : State) (o : Nat) : Nat :=
  if o < 184 then
    let v := s.lifeCount (o - o % 2)
    if o % 2 = 0 then v / 2 ^ 32 else v % 2 ^ 32
  else if o < 16384 then 0
  else Sparse.get s.nvs.calendar 0 (o - 16384)

/-- R422: the older copy of the counter block is written. DEDUCED: log entry 115. -/
def lifeFlush (s : State) : State :=
  let a := s.nvs.copyA
  let b := s.nvs.copyB
  let c : LifeCopy := ⟨max a.seq b.seq + 1, s.nvs.life, true⟩
  if a.seq ≤ b.seq then { s with nvs := { s.nvs with copyA := c } }
  else { s with nvs := { s.nvs with copyB := c } }

/-- The largest value in force among the 24 die sensors, 1/16 °C (R421). -/
def maxDie (s : State) : Int :=
  (List.range 24).foldl (fun m i => max m (s.rdS (F.THERM_TEMP_TEMP i))) (s.rdS (F.THERM_TEMP_TEMP 0))

/-- R421: the temperature band of a value in 1/16 °C. -/
def bandOf (v : Int) : Nat := (clampI 0 15 ((v + 640) / 160)).toNat

/-- R421: one powered second, its band and the thermal cycles. DEDUCED: log entry 115. -/
def lifeSecond (s : State) : State :=
  let v := s.maxDie
  let s := (s.lifeAdd 0 1).lifeAdd (130 + 2 * bandOf v) 1
  let c : Int := s.rd F.LIFE_CTRL_CYCLE_C * 16
  let low := min s.nvs.cycLow v
  let rose := s.nvs.cycRose || decide (v ≥ low + c)
  let high := if s.nvs.cycRose then max s.nvs.cycHigh v else v
  if rose && decide (v ≤ high - c) then
    ({ s with nvs := { s.nvs with cycLow := v, cycHigh := v, cycRose := false } }).lifeAdd 162 1
  else { s with nvs := { s.nvs with cycLow := low, cycHigh := high, cycRose := rose } }

/-- Σ_b S_b × 2^b over the 16 bands: H_eq in units of 1 ÷ (4,096 × 3,600) h (R424). -/
def bandSum (s : State) : Nat := ((List.range 16).map (fun b => s.lifeCount (130 + 2 * b) * 2 ^ b)).sum

/-- R424: the die forecast. -/
def dieForecast (s : State) : Nat × Nat :=
  let n := s.bandSum
  let d := 4096 * 3600
  let used := min 65535 (roundEven (65536 * n) (d * 350640)).toNat
  let years :=
    if n = 0 then 65535
    else if n ≥ 350640 * d then 0
    else min 65535 (roundEven (10 * ((350640 * d - n) * s.lifeCount 0)) (n * 3600 * 8766)).toNat
  (used, years)

/-- R424: an emitter's forecast. -/
def emForecast (s : State) (em : Nat) : Nat :=
  min 65535 (roundEven (65536 * s.lifeCount (2 + 2 * em)) (s.rd F.LIFE_EM_RATED_RATED_E9 * 1000000000)).toNat

/-- The emitter with the largest forecast, the lowest em on a tie. -/
def worstEm (s : State) : Nat :=
  (List.range 64).foldl (fun b e => if s.emForecast b < s.emForecast e then e else b) 0

/-- R424: the two forecasts recomputed. DEDUCED: log entry 115. -/
def forecast (s : State) : State :=
  let (u, y) := s.dieForecast
  let e := s.worstEm
  (((s.wr F.LIFE_FORECAST_DIE_USED u).wr F.LIFE_FORECAST_DIE_YEARS y).wr F.LIFE_EM_WORST_EM_USED (s.emForecast e)).wr
    F.LIFE_EM_WORST_EM e

/-! ### The journal writer (R409, R412 to R415) -/

/-- QUEUE follows the writer's queue of 32 groups; a group of the device's own that finds it full waits behind it.
DEDUCED: log entry 109. -/
def showQueue (s : State) : State := s.wr F.NVS_STATUS_QUEUE (min 32 s.nvs.queue.length)

/-- R409: a command whose group finds the queue full is refused before it takes any effect. DEDUCED: log entry 109. -/
def journalFull (s : State) : Bool := s.nvs.queue.length ≥ 32

/-- A command is refused because its group finds the queue full: NVS_QUEUE_FULL counts (Table 18-1). -/
def queueRefused (s : State) : State := s.count ⟨0x12, 3⟩ 0

/-- Compaction starts (R412): it takes its snapshot of the whole groups in the half in use. -/
def startCompaction (s : State) : State :=
  ({ s with nvs := { s.nvs with snapLen := (s.half.reverse.dropWhile (fun (e : JEntry) => !(e.last && e.ok))).length } }).wr
    F.NVS_STATUS_COMPACTING 1

/-- R414: neither a compaction nor FULL stands. -/
def mayCompact (s : State) : Bool := !s.flag F.NVS_STATUS_COMPACTING && !s.flag F.NVS_STATUS_FULL

/-- R412, R414: the automatic case, at a fill of 75 % while neither compaction nor FULL stands. -/
def autoCompact (s : State) : State :=
  if compactAt ≤ halfBytes s.half ∧ s.mayCompact = true then s.startCompaction else s

/-- A command caused a group: its reply waits for the group, or it is being carried out. -/
def groupAsked (s : State) (id : Nat) : Bool :=
  s.nvs.await.any (fun a => a.1 == id) || (match s.nvs.command with | some n => decide (n ≤ id) | none => false)

/-- Words of an item noted as its last journalled value (R408). -/
def noteItem (s : State) (j : JItem) : State :=
  match j.typ with
  | 1 => { s with nvs := { s.nvs with jregs := listWords j.key 4 j.payload s.nvs.jregs } }
  | 2 => { s with nvs := { s.nvs with jtabs := listWords j.key 1 j.payload s.nvs.jtabs } }
  | _ => s

/-- The last journalled values are those of the journal and of the groups that wait for it (R408, R415). -/
def renote (s : State) : State :=
  let m := latest s.half
  (s.nvs.queue.flatMap (fun (g : JGroup) => g.items)).foldl noteItem
    { s with nvs := { s.nvs with
      jregs := m.regs
      jtabs := m.tabs } }

/-- A group is abandoned (R415): WRITE_FAIL, the counter, the calendar entry, and the fault-log entry where no
command caused it. The number of a command's group is noted for its reply. Its values are no longer the last
journalled ones. -/
def abandonGroup (g : JGroup) (s : State) : State :=
  let s := (s.renote.wr F.NVS_STATUS_WRITE_FAIL 1).count ⟨0x12, 1⟩ 0
  let s := s.calendarAdd 9 0
  if s.groupAsked g.id then
    { s with nvs := { s.nvs with failedIds := s.nvs.failedIds ++ [g.id] } }
  else s.logEntry ((g.items.map (fun j => j.key)).headD 0) St.nvsFail 0x0B 0 0 0

/-- Whether a group fits into the half in use. DEDUCED: log entry 109. -/
def groupFits (s : State) (g : JGroup) : Bool := halfBytes s.half + groupBytes g.items ≤ halfSize

/-- The idle writer takes the first group of the queue that fits. A group that does not fit waits for the flip of a
compaction, or is abandoned while FULL is set (R412, R414). DEDUCED: log entry 109. -/
def takeFrom : List JGroup → State → State
  | [], s => s
  | g :: rest, s =>
    if s.groupFits g then
      ({ s with nvs := { s.nvs with
        queue := rest
        writing := some ⟨g, g.items, s.nvs.nextSeq, 0⟩ } }).showQueue
    else if s.flag F.NVS_STATUS_FULL && !s.flag F.NVS_STATUS_COMPACTING then
      takeFrom rest ((({ s with nvs := { s.nvs with queue := rest } }).showQueue).abandonGroup g)
    else s

/-- The writer goes on with its queue where it is idle. DEDUCED: log entry 109. -/
def takeGroup (s : State) : State := if s.nvs.writing.isNone then takeFrom s.nvs.queue s else s

/-- R408, R409: a group is queued for the writer. An empty group is none. -/
def journal (items : List JItem) (s : State) : State :=
  if items.isEmpty then s
  else
    let g : JGroup := ⟨s.nvs.nextId, items⟩
    let s := items.foldl noteItem s
    (({ s with nvs := { s.nvs with queue := s.nvs.queue ++ [g], nextId := s.nvs.nextId + 1 } }).showQueue).takeGroup

/-- The first superblock is made by the first write to an empty journal (R411). DEDUCED: log entries 110 and 111. -/
def firstSuper (s : State) : State :=
  if s.nvs.super0.isNone && s.nvs.super1.isNone then
    ({ s with nvs := { s.nvs with super0 := some ⟨1, 0, 0, 0⟩ } }).wr F.NVS_GEN_GENERATION 1
  else s

/-- R409, R415: the entry in progress has been written and verify-read. A failed entry occupies its place and is
written again at the next; three failures abandon the group. DEDUCED: log entries 79 and 110. -/
def entryDone (ok : Bool) (s : State) : State :=
  match s.nvs.writing with
  | none => s
  | some w =>
    match w.todo with
    | [] => { s with nvs := { s.nvs with writing := none } }
    | j :: rest =>
      let s := s.firstSuper
      let e : JEntry := ⟨j.typ, rest.isEmpty, j.key, s.nvs.nextSeq, w.first, j.payload, ok⟩
      let s := s.putHalf (s.half ++ [e])
      if ok then
        let s := (s.count ⟨0x12, 2⟩ 0).lifeAdd 164 1
        let s := { s with nvs := { s.nvs with nextSeq := s.nvs.nextSeq + 1,
                                              writing := if rest.isEmpty then none else some { w with todo := rest, attempts := 0 } } }
        s.autoCompact.takeGroup
      else if w.attempts + 1 < 3 then
        { s with nvs := { s.nvs with writing := some { w with attempts := w.attempts + 1 } } }
      else
        (({ s with nvs := { s.nvs with writing := none } }).abandonGroup w.group).takeGroup

/-- R411, R412: the superblock of the lower generation is written; it names the alternate half. -/
def writeSuper (sb : Superblock) (s : State) : State :=
  let g0 : Nat := (s.nvs.super0.map (fun (b : Superblock) => b.generation)).getD 0
  let g1 : Nat := (s.nvs.super1.map (fun (b : Superblock) => b.generation)).getD 0
  if g0 ≤ g1 then { s with nvs := { s.nvs with super0 := some sb } }
  else { s with nvs := { s.nvs with super1 := some sb } }

/-- The number that a group takes in the other half: of its first entry there, or of the next one to be written. `n`
entries stand before `kept`. DEDUCED: log entry 110. -/
def regroup (n : Nat) (kept : List JEntry) (g : Nat) : Nat := n + 1 + kept.findIdx (fun z => z.group == g)

/-- Entries copied behind `n` others, numbered anew (R412, Table 17-2). DEDUCED: log entry 110. -/
def copied (n : Nat) (kept : List JEntry) : List JEntry :=
  kept.mapIdx (fun i e => { e with
    seq := n + 1 + i
    group := regroup n kept e.group })

/-- R412: the flip at the end of a compaction. The group that is being written goes on in the other half. -/
def compactFlip (s : State) : State :=
  if s.flag F.NVS_STATUS_COMPACTING then
    let s := s.firstSuper
    let old := s.half
    let image := asEntries 1 1 (latest (old.take s.nvs.snapLen)).image
    let kept := (old.drop s.nvs.snapLen).filter (fun e => e.ok)
    let l := image ++ copied image.length kept
    let gen := s.rd F.NVS_GEN_GENERATION + 1
    let other := 1 - s.rd F.NVS_STATUS_HALF
    let s := s.writeSuper ⟨gen, other, halfBytes image, image.length⟩
    let s := (s.wr F.NVS_GEN_GENERATION gen).wr F.NVS_STATUS_HALF other
    let s := (s.putHalf l).wr F.NVS_STATUS_COMPACTING 0
    let s := { s with nvs := { s.nvs with
      nextSeq := l.length + 1
      snapLen := 0
      writing := s.nvs.writing.map (fun (w : JWrite) => { w with first := regroup image.length kept w.first }) } }
    let s := (s.count ⟨0x12, 0⟩ 0).lifeAdd 166 1
    let s := s.calendarAdd 7 (gen % 2 ^ 16)
    let s := s.wrB F.NVS_STATUS_FULL (halfBytes l ≥ compactAt)
    s.takeGroup
  else s

/-- R414: the writer and its queue are idle. -/
def nvsIdle (s : State) : Bool := s.nvs.queue.isEmpty && s.nvs.writing.isNone

end State
end Sys2Proof.Machine
end

