-- ==== Sys2Proof/Machine/Tdc.lean ====
section
/-! DEFINITION. Time-to-digital conversion, edge groups and the statistics units (chapter 3), and the close of shot
and injector windows (R149, R116). -/

namespace Sys2Proof.Machine

/-- R69, R78: the fine time of a code, in 1/512 ns. -/
def fineTime (dll : Bool) (widths : List Nat) (f : Nat) : Nat :=
  if dll then 4 * f + 2 else (roundEven (2 * (widths.take f).sum + widths.getD f 0 : Nat) 4096).toNat

/-- R62: the time of an edge on latch bank `n` against a window origin, in 1/512 ns. DESIGN CHOICE: log entry 26. -/
def edgeTime (dll : Bool) (cal : CalVals) (origin n : Nat) (e : Edge) : Nat :=
  (clampI 0 8388607 (512 * ((e.c : Int) - origin) + fineTime dll cal.widths e.f - cal.skews.getD n 0)).toNat

/-- The integer nearest to √(num ÷ den), ties to even (R84). -/
def roundSqrt (num den : Nat) : Nat :=
  let m := isqrt (num / den)
  if (2 * m + 1) * (2 * m + 1) * den < 4 * num then m + 1
  else if (2 * m + 1) * (2 * m + 1) * den = 4 * num ∧ m % 2 = 1 then m + 1
  else m

/-- The width of a threshold: its falling time minus its rising time, 1/512 ns. Where the falling time lies first, the
spec states no width: a free value. DESIGN CHOICE: log entry 29. -/
def widthOf (r f : Nat) : Nat := if r ≤ f then f - r else Config.crossedWidth r f

namespace State

/-- The compatibility mode is in force, not the native mode (R68, R77). -/
def dll (s : State) : Bool := s.rd F.TDC_CTRL_MODE == 1

/-! ### Statistics units (R82 to R86) -/

/-- A statistics unit. -/
def stat (s : State) (u : Nat) : StatUnit := s.stats.getD u ⟨0, 0, 0, 0, [], false, false⟩

/-- The state with a statistics unit replaced. -/
def putStat (u : Nat) (x : StatUnit) (s : State) : State := { s with stats := s.stats.set u x }

/-- The half of a unit. -/
def halfOf (u : Nat) : Half := if u = 0 then .north else .south

/-- R84: the results of a run are written. -/
def statResults (u : Nat) (s : State) : State :=
  let x := s.stat u
  let n := s.rd (F.TDC_STAT_STATUS_COUNT u)
  let mean := if n = 0 then 0 else (roundEven (256 * x.sum : Nat) n).toNat
  let sd := if n < 2 then 0 else roundSqrt (65536 * (n * x.sumSq - x.sum * x.sum)) (n * (n - 1))
  let s := (s.putWord (A.TDC_STAT_MEAN u) mean).putWord (A.TDC_STAT_SD u) sd
  let s := s.putWord (A.TDC_STAT_MIN u) (if n = 0 then 0 else x.low)
  let s := s.putWord (A.TDC_STAT_MAX u) (if n = 0 then 0 else x.high)
  (s.wr (F.TDC_STAT_STATUS_BUSY u) 0).wr (F.TDC_STAT_STATUS_DONE u) 1

/-- R84: the end of a host run, which raises STAT_DONE. DESIGN CHOICE: log entry 29. -/
def statEnd (u : Nat) (s : State) : State := (s.statResults u).raise (Irq.statDone (halfOf u))

/-- A host run is in progress. -/
def statRunning (s : State) (u : Nat) : Bool := s.flag (F.TDC_STAT_STATUS_BUSY u) && !(s.stat u).owned

/-- R85: START clears the flags and begins a run. DESIGN CHOICE: log entry 29. -/
def statStart (u : Nat) (s : State) : State :=
  let s := (s.wr (F.TDC_STAT_STATUS_DONE u) 0).wr (F.TDC_STAT_STATUS_TIMEOUT u) 0
  let s := (s.wr (F.TDC_STAT_STATUS_ABORTED u) 0).wr (F.TDC_STAT_STATUS_PREEMPTED u) 0
  let s := (s.wr (F.TDC_STAT_STATUS_COUNT u) 0).wr (F.TDC_STAT_STATUS_BUSY u) 1
  s.putStat u ⟨0, 0, 0, 0, [], false, false⟩

/-- R84: ABORT ends the host run in progress. DESIGN CHOICE: log entry 29. -/
def statAbort (u : Nat) (s : State) : State :=
  if s.statRunning u then (s.wr (F.TDC_STAT_STATUS_ABORTED u) 1).statEnd u else s

/-- R84: TIMEOUT_MS has elapsed since START. -/
def statTimeout (u : Nat) (s : State) : State :=
  if s.statRunning u then (s.wr (F.TDC_STAT_STATUS_TIMEOUT u) 1).statEnd u else s

/-- R86: a calibration takes the unit; a host run ends with PREEMPTED, without interrupt. -/
def statTake (u : Nat) (s : State) : State :=
  let s := if s.statRunning u then (s.statResults u).wr (F.TDC_STAT_STATUS_PREEMPTED u) 1 else s
  (s.putStat u { s.stat u with owned := true }).wr (F.TDC_STAT_STATUS_BUSY u) 1

/-- A calibration gives the unit back. -/
def statGive (u : Nat) (s : State) : State :=
  (s.putStat u { s.stat u with owned := false }).wr (F.TDC_STAT_STATUS_BUSY u) 0

/-- One sample taken; the run ends when COUNT reaches N (R84). -/
def statSample (u v : Nat) (s : State) : State :=
  let x := s.stat u
  let n := s.rd (F.TDC_STAT_STATUS_COUNT u)
  let s := s.putStat u { x with
    sum := x.sum + v
    sumSq := x.sumSq + v * v
    low := if n = 0 then v else min x.low v
    high := if n = 0 then v else max x.high v }
  let s := s.wr (F.TDC_STAT_STATUS_COUNT u) (n + 1)
  if n + 1 = s.rd (F.TDC_STAT_N_N u) then s.statEnd u else s

/-- The gate of R83 for a time in 1/512 ns. -/
def inGate (s : State) (u t : Nat) : Bool :=
  decide (s.rd (F.TDC_STAT_GATE_GATE_LO u) * 512 ≤ t) && decide (t < (s.rd (F.TDC_STAT_GATE_GATE_HI u) + 1) * 512)

/-- R83: the sample of a group with the times given, if it has the edges. DESIGN CHOICE: log entry 29. -/
def sampleOf (s : State) (u : Nat) (times : List (Option Nat)) : Option Nat :=
  let e := s.rd (F.TDC_STAT_CTRL_EDGE u)
  if s.flag (F.TDC_STAT_CTRL_QTY u) then
    match times.getD (e / 2 * 2) none, times.getD (e / 2 * 2 + 1) none with
    | some r, some f => some (widthOf r f)
    | _, _ => none
  else times.getD e none

/-- A qualifying window's group is offered to a unit. -/
def offer (u : Nat) (times : List (Option Nat)) (s : State) : State :=
  match s.sampleOf u times with
  | some v => s.statSample u v
  | none => s

/-! ### Edge groups (R64 to R67) -/

/-- The times of a group's edges against an origin. -/
def timesOf (s : State) (cal : CalVals) (origin : Nat) (es : List (Option Edge)) : List (Option Nat) :=
  (List.range 8).map (fun n => (es.getD n none).map (edgeTime s.dll cal origin n))

/-- R83, SOURCE 0: a group is offered to a unit once for each shot window in which it is the first in the gate. -/
def statShots (f : Nat) (g : OpenGroup) (u : Nat) (s : State) (p : Pairing) : State :=
  if s.statRunning u && s.rd (F.TDC_STAT_CTRL_FE u) == f && !s.flag (F.TDC_STAT_CTRL_SOURCE u) &&
      !(s.stat u).done.contains p.shot && s.inGate u p.time then
    (s.putStat u { s.stat u with done := p.shot :: (s.stat u).done }).offer u (s.timesOf p.cal p.origin g.edges)
  else s

/-- R394, R395: the sample that a calibration's part takes from a group: the T0 rising time, or the T0 width. -/
def calSampleOf (m : CalMeas) (times : List (Option Nat)) : Option Nat :=
  match times.getD 0 none, times.getD 1 none with
  | some r, some f => some (if m.parts.length % 2 = 0 then r else widthOf r f)
  | some r, none => if m.parts.length % 2 = 0 then some r else none
  | none, _ => none

/-- Coarse counts within which a statistics run must reach N samples (Table 16-2). -/
def calLimit (n : Nat) : Nat := n * 6000 + 10000000

/-- A calibration's measurement with one sample more, at coarse count `t`; the run ends at N samples. -/
def calAdd (t v : Nat) (m : CalMeas) : CalMeas :=
  let m := { m with
    count := m.count + 1
    sum := m.sum + v
    sumSq := m.sumSq + v * v
    late := m.late || decide (m.since + calLimit m.n < t) }
  if m.count < m.n then m
  else { m with
    parts := m.parts ++ [(m.sum, m.sumSq)]
    count := 0
    sum := 0
    sumSq := 0
    since := t }

/-- R394, R395: a calibration in progress takes its sample from a window's first group. DEDUCED: log entry 106. -/
def calSample (f u : Nat) (times : List (Option Nat)) (s : State) : State :=
  match s.calRun u, s.calMeasures u with
  | some r, some (f', kind) =>
    match r.meas with
    | some m =>
      if f' = f ∧ (s.stat u).injDone = false ∧ m.parts.length < calParts kind then
        let s := s.putStat u { s.stat u with injDone := true }
        match calSampleOf m times with
        | some v => s.putRun u (some { r with meas := some (calAdd s.now v m) })
        | none => s
      else s
    | none => s
  | _, _ => s

/-- R83, SOURCE 1: the same for an injector window. -/
def statInj (f : Nat) (times : List (Option Nat)) (s : State) (u : Nat) : State :=
  let s := s.calSample f u times
  if s.statRunning u && s.rd (F.TDC_STAT_CTRL_FE u) == f && s.flag (F.TDC_STAT_CTRL_SOURCE u) &&
      !(s.stat u).injDone && (times.getD 0 none).any (s.inGate u) then
    (s.putStat u { s.stat u with injDone := true }).offer u times
  else s

/-- R65, R66: the open group of a front end completes; a shot's group goes to its carrier's candidates (R170, R171),
an injector's only to the units and to the last group (R116). -/
def completeGroup (f : Nat) (openG : Bool) (s : State) : State :=
  match (s.fe f).group with
  | none => s
  | some g =>
    let levels := (s.fe f).thr.map (fun (t : Nat) => (t : Int) + (s.fe f).delta)
    let s := s.updFe f (fun x => { x with group := none })
    match g.carrier with
    | .injector =>
      let cal := ((s.fe f).inj).elim (s.calNow f) InjWin.cal
      let times := s.timesOf cal g.origin g.edges
      let s := s.updFe f (fun x => { x with last := some ⟨times, g.multi, openG⟩ })
      [0, 1].foldl (statInj f times) s
    | .shot id =>
      match s.shot? id with
      | none => s
      | some x =>
        match x.chans.find? (fun w => w.fe == f) with
        | none => s
        | some w =>
          let times := s.timesOf w.cal x.fireC g.edges
          let s := s.updFe f (fun y => { y with last := some ⟨times, g.multi, openG⟩ })
          let gr : Group := ⟨times, g.multi, g.sat, openG, g.pairs.take (s.rd F.ACQ_CTRL_K), levels⟩
          let s := s.updWin id w.ch (fun w =>
            if w.groups.length < 16 then { w with groups := w.groups ++ [gr] } else { w with excess := true })
          let s := if w.groups.length < 16 then s else s.count ⟨0x06, 2⟩ w.ch
          [0, 1].foldl (fun s u => g.pairs.foldl (statShots f g u) s) s

/-- The shots whose window on front end `f` contains a coarse count, most recent first (R149: half-open). -/
def windowsAt (s : State) (f c : Nat) : List Shot :=
  let l := (s.fe f).wins.filterMap s.shot?
  (sortBy Shot.fireC (l.filter (fun x => decide (x.fireC ≤ c) && decide (c < x.fireC + x.window)))).reverse

/-- The pairing of an event with one shot, from its window on the front end. -/
def pairing (s : State) (f : Nat) (e : Edge) (x : Shot) : Pairing :=
  let cal := ((x.chans.find? (fun w => w.fe == f)).map ChanWin.cal).getD (s.calNow f)
  { shot := x.id
    origin := x.fireC
    cal := cal
    time := edgeTime s.dll cal x.fireC 0 e
    delay := x.delay
    v := x.v
    h := x.h
    inv := x.vInv || x.hInv }

/-- R151, R154: an event is binned against a shot, in the bank of the shot's code group under its channel. -/
def binPairing (f : Nat) (s : State) (p : Pairing) : State :=
  match s.shot? p.shot with
  | none => s
  | some x =>
    match x.chans.find? (fun w => w.fe == f), (s.em x.em).groups.find? (fun g => g.number == x.group) with
    | some w, some g => if g.lost.contains w.ch then s else s.addBin w.ch g.bank (p.time / 1024)
    | _, _ => s

/-- R150: the windows that hold an event are marked. -/
def markEvent (f : Nat) (s : State) (p : Pairing) : State :=
  s.updShot p.shot (fun x => { x with chans := x.chans.map (fun w => if w.fe = f then { w with event := true } else w) })

/-- A T0 rising edge opens a group (R65): it is an event (R150), binned under R151. DEDUCED: log entry 27. -/
def openGroup (f : Nat) (e : Edge) (ws : List Shot) (s : State) : State :=
  let pairs := ws.map (s.pairing f e)
  let edges := some e :: List.replicate 7 none
  match ws with
  | [] =>
    let o := ((s.fe f).inj).elim 0 InjWin.origin
    s.updFe f (fun x => { x with group := some ⟨edges, false, false, .injector, [], o⟩ })
  | w :: _ =>
    let s := s.updFe f (fun x => { x with group := some ⟨edges, false, false, .shot w.id, pairs, w.fireC⟩ })
    let s := pairs.foldl (markEvent f) s
    (pairs.take (s.rd F.ACQ_CTRL_K)).foldl (binPairing f) s

/-- The open group of a front end changed. -/
def updOpen (f : Nat) (k : OpenGroup → OpenGroup) (s : State) : State :=
  s.updFe f (fun x => { x with group := x.group.map k })

/-- R90: the open group is marked saturated, and SAT_SEEN is set. -/
def markSat (f : Nat) (s : State) : State :=
  match (s.fe f).group with
  | none => s
  | some g =>
    let s := if g.sat then s else s.count ⟨0x03, 3⟩ f
    (s.updOpen f (fun g => { g with sat := true })).wr (F.RX_FE_STATUS_SAT_SEEN (s.logical f)) 1

/-- R65: a captured edge is placed. -/
def placeEdge (f n : Nat) (e : Edge) (ws : List Shot) (s : State) : State :=
  if n = 0 then (s.completeGroup f true).openGroup f e ws
  else if (s.fe f).group.isNone then s.count ⟨0x02, 0⟩ f
  else if n = 1 then (s.updOpen f (fun g => { g with edges := g.edges.set 1 (some e) })).completeGroup f false
  else if n % 2 = 1 then s.updOpen f (fun g => { g with edges := g.edges.set n (some e) })
  else s.updOpen f (fun g =>
    if (g.edges.getD n none).isNone then { g with edges := g.edges.set n (some e) } else { g with multi := true })

/-- An edge on input `n` of front end `f` at coarse count `c` with fine code `fine`; `sat` says that the
transimpedance output has reached 1.1 V since the edge before it, which marks the group that is open at the edge (R61
to R67, R79, R90). DESIGN CHOICE: log entry 26. -/
def tdcEdge (f n c fine : Nat) (sat : Bool) (s : State) : State :=
  let x := s.fe f
  let ws := s.windowsAt f c
  let injOpen := x.inj.any (fun w => decide (w.origin ≤ c) && decide (c < w.origin + 2048))
  if !s.rx.powered || x.off || !bitOf (s.rd (F.TDC_FE_CFG_EDGE_EN f)) n then s
  else if ws.isEmpty && !injOpen then s
  else
    let s := if sat then s.markSat f else s
    let time := 512 * c + fineTime s.dll (s.calNow f).widths fine
    if (x.banks.getD n none).any (fun b => decide (time < b + 1024)) then s.count ⟨0x02, 1⟩ f
    else
      let s := (s.updFe f (fun x => { x with banks := x.banks.set n (some time) })).count ⟨0x02, 3⟩ f
      if s.dll && !s.flag (F.TDC_FE_STATUS_DLL_LOCK f) then s.count ⟨0x02, 2⟩ f
      else s.placeEdge f n ⟨c, fine⟩ ws

/-! ### Windows close -/

/-- A gap starts on front end `f` when its last window has closed (R93); the shot given is the one whose window's
close gave it, and carries GAIN_SETTLE when the crossbar switches at it (R113). DEDUCED: log entry 27. -/
def windowGap (f : Nat) (closing : Option (Nat × Nat)) (s : State) : State :=
  if s.inGap f then
    let sw := s.switchDueAt f
    let s := s.gapStart f
    match closing with
    | some (id, ch) => if sw then s.updWin id ch (fun w => { w with settle := true }) else s
    | none => s
  else s

/-- The window of shot `id` closes on one channel: its open group is passed on (R66), its peak list is fixed (R159)
and a gap may start (R93). A cut window's open group is dropped (R120). Bit k of `sat` says that the transimpedance
output of channel k of the stave has reached 1.1 V since its last edge (R90). DEDUCED: log entries 27 and 45. -/
def closeWin (id : Nat) (cut : Bool) (sat : Nat) (s : State) (w : ChanWin) : State :=
  if w.isOpen then
    let f := w.fe
    let mine := (s.fe f).group.any (fun (g : OpenGroup) => g.carrier == Carrier.shot id)
    let s := if bitOf sat (w.ch % 4) then s.markSat f else s
    let s := if mine then (if cut then s.updFe f (fun x => { x with group := none }) else s.completeGroup f true) else s
    let l := s.listOf w.ch
    let s := s.updWin id w.ch (fun w => { w with isOpen := false, peaks := l })
    let s := s.updFe f (fun x => { x with wins := x.wins.filter (fun k => k != id) })
    s.windowGap f (some (id, w.ch))
  else
    let l := s.listOf w.ch
    s.updWin id w.ch (fun w => { w with peaks := l })

/-- R116: the injector window of a front end closes; `sat` is as for `closeWin` (R90). DEDUCED: log entry 36. -/
def injWindowClose (f : Nat) (sat : Bool) (s : State) : State :=
  if (s.fe f).inj.isSome then
    let s := match (s.fe f).group with
      | some (g : OpenGroup) =>
        if g.carrier = Carrier.injector then (if sat then s.markSat f else s).completeGroup f true else s
      | none => s
    (s.updFe f (fun x => { x with inj := none })).windowGap f none
  else s

/-! ### Delay-locked loops and the last group -/

/-- TDC_STATUS follows the loops' locks (Table 3-5). DEDUCED: log entry 28. -/
def showDll (s : State) : State :=
  if s.dll then
    let un := fun f => !s.flag (F.TDC_FE_STATUS_DLL_LOCK f)
    let bits := (List.range 8).foldl (fun w g =>
      if (List.range 32).any (fun k => un (32 * g + k)) || un (256 + g) then setBit w g else w) 0
    (s.wr F.TDC_STATUS_UNLOCKED_OCT bits).wrB F.TDC_STATUS_DLL_ALL_LOCKED (bits == 0)
  else (s.wr F.TDC_STATUS_UNLOCKED_OCT 0).wr F.TDC_STATUS_DLL_ALL_LOCKED 0

/-- Every loop is out of lock: on mode entry, at reset into the mode, at a timebase switchover (R79). In native mode
no loop is in lock. DEDUCED: log entry 28. -/
def unlockAll (s : State) : State :=
  ((List.range 264).foldl (fun s f => s.wr (F.TDC_FE_STATUS_DLL_LOCK f) 0) s).showDll

/-- R79: a loop locks. DEDUCED: log entry 28. -/
def dllLock (f : Nat) (s : State) : State :=
  if s.dll then (s.wr (F.TDC_FE_STATUS_DLL_LOCK f) 1).showDll else s

/-- R482: the last completed group's flags, as TDC_FE_LAST_FLAGS shows them. DEDUCED: log entry 30. -/
def showLast (f : Nat) (s : State) : State :=
  match (s.fe f).last with
  | none => s
  | some g =>
    let mask := (List.range 8).foldl (fun w n => if (g.times.getD n none).isSome then setBit w n else w) 0
    ((s.wrB (F.TDC_FE_LAST_FLAGS_MULTI f) g.multi).wrB (F.TDC_FE_LAST_FLAGS_OPEN f) g.openG).wr
      (F.TDC_FE_LAST_FLAGS_PRESENT f) mask

/-- R482: a read of TDC_FE_LAST_FLAGS latches the last completed group. -/
def lastLatch (f : Nat) (s : State) : State :=
  let s := s.showLast f
  match (s.fe f).last with
  | none => s
  | some g => (List.range 8).foldl (fun s n =>
      (s.wrB (F.TDC_FE_LAST_VALID f n) (g.times.getD n none).isSome).wr (F.TDC_FE_LAST_TIME f n)
        ((g.times.getD n none).getD 0)) s

end State
end Sys2Proof.Machine
end

