-- ==== Sys2Proof/Machine/Geom.lean ====
section
/-! DEFINITION. Point geometry and clearance envelopes (chapter 10). -/

namespace Sys2Proof.Machine

/-! ### Points (R246 to R250) -/

/-- Three components in the fixed point of Trig. -/
abbrev Vec := Int × Int × Int

/-- A right-handed rotation about x, y or z by an angle in 2⁻²⁰ turn (R248). -/
def rotX (a : Int) (p : Vec) : Vec :=
  let q := cosSin a (2 ^ 20)
  (p.1, (p.2.1 * q.1 - p.2.2 * q.2) / fixOne, (p.2.1 * q.2 + p.2.2 * q.1) / fixOne)
def rotY (a : Int) (p : Vec) : Vec :=
  let q := cosSin a (2 ^ 20)
  ((p.1 * q.1 + p.2.2 * q.2) / fixOne, p.2.1, (p.2.2 * q.1 - p.1 * q.2) / fixOne)
def rotZ (a : Int) (p : Vec) : Vec :=
  let q := cosSin a (2 ^ 20)
  ((p.1 * q.1 - p.2.1 * q.2) / fixOne, (p.1 * q.2 + p.2.1 * q.1) / fixOne, p.2.2)

/-- R248: roll first, yaw last. -/
def rotPose (pose : List Int) (p : Vec) : Vec :=
  rotZ (pose.getD 5 0) (rotY (pose.getD 4 0) (rotX (pose.getD 3 0) p))

/-- R247, R248: the point in the vehicle frame before rounding, in 0.25 mm and the fixed point of Trig. -/
def vehiclePoint (pose : List Int) (range : Nat) (el az : Int) : Vec :=
  let ce := cosSin el (2 ^ 20)
  let ca := cosSin az (2 ^ 20)
  let ps : Vec := (ce.1 * ca.1 / fixOne * range, ce.1 * ca.2 / fixOne * range, ce.2 * range)
  let pv := rotPose pose ps
  (pv.1 + pose.getD 0 0 * fixOne, pv.2.1 + pose.getD 1 0 * fixOne, pv.2.2 + pose.getD 2 0 * fixOne)

/-- R250: a component lies within ±1,048.574 m. -/
def inSpan (x : Int) : Bool :=
  decide (-(4 * 1048574 * fixOne) ≤ x) && decide (x ≤ 4 * 1048574 * fixOne)

/-- R249: the point in the vehicle frame, in 2 mm. Each component lies within 1 LSB of the exactly rounded value, by
an amount that the manual leaves open and that is a function of the inputs alone. DESIGN CHOICE: log entry 57. -/
def pointOf (pose : List Int) (range : Nat) (el az : Int) : Vec :=
  let pv := vehiclePoint pose range el az
  let comp := fun (n : Nat) (x : Int) =>
    clampI (-524287) 524287 (roundEven x (8 * 2 ^ 90) + clampI (-1) 1 (Config.pointDelta n range el az pose))
  (comp 0 pv.1, comp 1 pv.2.1, comp 2 pv.2.2)

/-! ### Envelope copies (R254) -/

/-- The fields of an envelope copy (Table 10-2). -/
def envEn (ws : List Nat) : Bool := bitOf (ws.getD 0 0) 31
def envReqConf (ws : List Nat) : Bool := bitOf (ws.getD 0 0) 30
def envBend (ws : List Nat) : Bool := bitOf (ws.getD 0 0) 29
def envMerge (ws : List Nat) : Nat := bitsOf (ws.getD 0 0) 28 25
def envVerts (ws : List Nat) : Nat := bitsOf (ws.getD 0 0) 21 16
def envMinHits (ws : List Nat) : Nat := bitsOf (ws.getD 0 0) 15 0
def envXStart (ws : List Nat) : Int := toS 20 (ws.getD 1 0)
def envXEnd (ws : List Nat) : Int := toS 20 (ws.getD 2 0)

/-- Vertex i: y and z. -/
def envVertex (ws : List Nat) (i : Nat) : Int × Int :=
  (toS 16 (ws.getD (8 + i) 0 / 2 ^ 16), toS 16 (ws.getD (8 + i) 0))

/-- The vertices in order. -/
def envPoly (ws : List Nat) : List (Int × Int) := (List.range (envVerts ws)).map (envVertex ws)

/-- The edges of a closed polygon, in order. -/
def polyEdges (ps : List (Int × Int)) : List ((Int × Int) × (Int × Int)) := ps.zip (ps.drop 1 ++ ps.take 1)

/-- The cross product of b − a and c − a. -/
def cross (a b c : Int × Int) : Int := (b.1 - a.1) * (c.2 - a.2) - (b.2 - a.2) * (c.1 - a.1)

/-- A point collinear with a segment lies on it. -/
def onBox (a b p : Int × Int) : Bool :=
  decide (min a.1 b.1 ≤ p.1) && decide (p.1 ≤ max a.1 b.1) && decide (min a.2 b.2 ≤ p.2) && decide (p.2 ≤ max a.2 b.2)

/-- A point lies on a segment. -/
def onSegment (a b p : Int × Int) : Bool := cross a b p == 0 && onBox a b p

/-- Two segments intersect or touch. -/
def segsMeet (a b c d : Int × Int) : Bool :=
  let d1 := cross c d a
  let d2 := cross c d b
  let d3 := cross a b c
  let d4 := cross a b d
  (decide (d1 * d2 < 0) && decide (d3 * d4 < 0)) || onSegment c d a || onSegment c d b || onSegment a b c || onSegment a b d

/-- Twice the signed area of a polygon. -/
def area2 (ps : List (Int × Int)) : Int :=
  ((polyEdges ps).map (fun (e : (Int × Int) × (Int × Int)) => e.1.1 * e.2.2 - e.2.1 * e.1.2)).sum

/-- R254: no two consecutive vertices are equal, edges without a common vertex do not meet, and the area is not zero. -/
def polyOk (ps : List (Int × Int)) : Bool :=
  let es := polyEdges ps
  let n := es.length
  es.all (fun e => e.1 != e.2) &&
  (List.range n).all (fun i => (List.range n).all (fun j =>
    decide (j ≤ i + 1) || (i == 0 && j == n - 1) ||
    (match es[i]?, es[j]? with
     | some a, some b => !segsMeet a.1 a.2 b.1 b.2
     | _, _ => true))) &&
  area2 ps != 0

/-- R254, R4: whether forty words are an acceptable envelope copy: the two counts are never zero, and the rest is
checked with EN. DEDUCED: log entry 58. -/
def envOk (ws : List Nat) : Bool :=
  decide (1 ≤ envMerge ws) && decide (1 ≤ envMinHits ws) && (!envEn ws ||
  (decide (envMerge ws ≤ 8) && bitsOf (ws.getD 0 0) 24 22 == 0 &&
   decide (3 ≤ envVerts ws ∧ envVerts ws ≤ 32) &&
   decide (ws.getD 1 0 < 2 ^ 20) && decide (ws.getD 2 0 < 2 ^ 20) &&
   ((ws.drop 3).take 5).all (fun w => w == 0) && (ws.drop (8 + envVerts ws)).all (fun w => w == 0) &&
   decide (envXStart ws < envXEnd ws) && decide (envXEnd ws - envXStart ws ≤ 4096 * 125) && polyOk (envPoly ws)))

/-- A point lies inside a polygon or on its boundary (R256). -/
def inPoly (ps : List (Int × Int)) (p : Int × Int) : Bool :=
  let es := polyEdges ps
  es.any (fun e => onSegment e.1 e.2 p) ||
  (es.filter (fun e =>
    let a := e.1
    let b := e.2
    (decide (a.2 ≤ p.2) && decide (p.2 < b.2) && decide (0 < cross a b p)) ||
    (decide (b.2 ≤ p.2) && decide (p.2 < a.2) && decide (cross a b p < 0)))).length % 2 == 1

/-- R256: Y', the point's y against the curvature. -/
def bentY (ws : List Nat) (kappa x y : Int) : Int := if envBend ws then y - roundEven (kappa * x * x) (2 ^ 40) else y

/-- R256: a point lies inside an envelope copy. -/
def inEnv (ws : List Nat) (kappa : Int) (p : Vec) : Bool :=
  envEn ws && decide (envXStart ws ≤ p.1) && decide (p.1 < envXEnd ws) &&
  inPoly (envPoly ws) (bentY ws kappa p.1 p.2.1, p.2.2)

/-! ### Clusters and reports (R260, R261) -/

/-- A cluster as its entry reports it. -/
structure Cluster where
  first : Nat
  last  : Nat
  count : Nat
  xMin  : Int
  yMin  : Int
  yMax  : Int
  zMin  : Int
  deriving DecidableEq, Repr

/-- R260: occupied cells in ascending order joined into clusters, the present one first in the list. -/
def addCell (merge : Nat) (acc : List Cluster) (p : Nat × Cell) : List Cluster :=
  let c := p.2
  match acc with
  | k :: r =>
    if p.1 ≤ k.last + merge then
      { k with
        last := p.1
        count := min 65535 (k.count + c.count)
        xMin := min k.xMin c.xMin
        yMin := min k.yMin c.yMin
        yMax := max k.yMax c.yMax
        zMin := min k.zMin c.zMin } :: r
    else ⟨p.1, p.1, c.count, c.xMin, c.yMin, c.yMax, c.zMin⟩ :: k :: r
  | [] => [⟨p.1, p.1, c.count, c.xMin, c.yMin, c.yMax, c.zMin⟩]

/-- The occupied cells of an envelope, ascending. -/
def cellsOf (x : Sector) (e : Nat) : List (Nat × Cell) :=
  x.cells.filterMap (fun p => if p.1 / 4096 = e then p.2.map (fun c => (p.1 % 4096, c)) else none)

/-- R260: the intrusions of an envelope, in ascending order of their first cell. -/
def intrusions (x : Sector) (e : Nat) : List Cluster :=
  let ws := x.envs.getD e []
  (((cellsOf x e).foldl (addCell (envMerge ws)) []).reverse).filter (fun c => decide (envMinHits ws ≤ c.count))

/-- Table 10-4: an intrusion entry. -/
def intrusionWords (c : Cluster) : List Nat :=
  [ofS 20 c.xMin * 2 ^ 44 + ofS 20 c.yMin * 2 ^ 24 + ofS 20 c.yMax * 2 ^ 4,
   c.count * 2 ^ 48 + c.first * 2 ^ 36 + c.last * 2 ^ 24 + ofS 20 c.zMin * 2 ^ 4]

/-- Table 10-3: the report of an envelope. -/
def reportWords (member : Nat) (x : Sector) (e : Nat) : List Nat :=
  let cells := cellsOf x e
  let ks := if x.lost then [] else intrusions x e
  let kept := ks.take 8
  let points := min 65535 ((cells.map (fun p => p.2.count)).sum)
  [x.number % 2 ^ 32 * 2 ^ 32 + member * 2 ^ 29 + e * 2 ^ 27 + kept.length * 2 ^ 23 +
     b2n (decide (8 < ks.length)) * 2 ^ 22 + b2n x.lost * 2 ^ 21 + b2n x.stale * 2 ^ 20 +
     b2n (bitOf x.changed e) * 2 ^ 19,
   x.sec % 2 ^ 32 * 2 ^ 32 + x.ns,
   ofS 32 x.kappa * 2 ^ 32 + cells.length * 2 ^ 16 + points,
   min 65535 x.invalid * 2 ^ 48 + x.frames * 2 ^ 32 + x.first % 2 ^ 32] ++ kept.flatMap intrusionWords

namespace State

/-! ### Pose and curvature (R252, R257) -/

/-- R252: LOAD copies the staged pose and starts the matrix computation. DEDUCED: log entry 58. -/
def poseLoad (s : State) : State :=
  let p := [s.rdS F.GEOM_POSE_TX_TX, s.rdS F.GEOM_POSE_TY_TY, s.rdS F.GEOM_POSE_TZ_TZ,
    s.rdS F.GEOM_POSE_ROLL_ROLL, s.rdS F.GEOM_POSE_PITCH_PITCH, s.rdS F.GEOM_POSE_YAW_YAW]
  ({ s with geom := { s.geom with pose := p } }).wr F.GEOM_POSE_CTRL_BUSY 1

/-- R248: the matrix element of a row and a column, 2⁻³⁰: the rotation of a unit vector, rounded once. -/
def matrixElem (pose : List Int) (row col : Nat) : Int :=
  let unit := fun (n : Nat) => if col = n then fixOne else 0
  let p := rotPose pose (unit 0, unit 1, unit 2)
  let x := if row = 0 then p.1 else if row = 1 then p.2.1 else p.2.2
  roundEven x (2 ^ 60)

/-- R252: the matrix is computed, and BUSY clears. -/
def poseMatrixDone (s : State) : State :=
  if s.flag F.GEOM_POSE_CTRL_BUSY then
    let pose := s.geom.pose
    let s := (List.range 9).foldl (fun s n => s.wrS (F.GEOM_MATRIX_M n) (matrixElem pose (n / 3) (n % 3))) s
    s.wr F.GEOM_POSE_CTRL_BUSY 0
  else s

/-- R257: an accepted write of KAPPA waits for the frame boundary. -/
def kappaWrite (s : State) : State := s.wr F.GEOM_STATUS_KAPPA_PEND 1

/-- R257: curvature and its age at a frame boundary. -/
def kappaAtBoundary (s : State) : State :=
  let s :=
    if s.flag F.GEOM_STATUS_KAPPA_PEND then
      let k := s.rdS F.GEOM_CURV_KAPPA
      (({ s with geom := { s.geom with kappa := k } }).wr F.GEOM_STATUS_KAPPA_PEND 0).wr F.GEOM_STATUS_CURV_AGE 0
    else s.bump F.GEOM_STATUS_CURV_AGE
  s.wrB F.GEOM_STATUS_CURV_STALE (decide (s.rd F.GEOM_CURV_CFG_STALE_FRAMES < s.rd F.GEOM_STATUS_CURV_AGE))

/-! ### Envelope copies and sectors (R253, R255, R258) -/

/-- The words of an envelope copy. -/
def envCopy (s : State) (e c : Nat) : List Nat := s.tabWords 0x03 0 ((c * 4 + e) * 40) 40

/-- The copy in force of an envelope. -/
def envActive (s : State) (e : Nat) : List Nat := s.envCopy e (b2n (bitOf (s.rd F.GEOM_ENV_STATUS_ACTIVE) e))

/-- R255: an exchange of copy and shadow, which is journalled: the words then in force of each, under the place of
copy A (Table 19-5). -/
def envExchange (mask : Nat) (s : State) : State :=
  let s := s.wr F.GEOM_ENV_STATUS_ACTIVE (s.rd F.GEOM_ENV_STATUS_ACTIVE ^^^ mask)
  let s := s.wr F.GEOM_ENV_STATUS_APPLY_PEND (s.rd F.GEOM_ENV_STATUS_APPLY_PEND &&& (15 - mask))
  s.journal ((bitList mask 4).map (fun e => ⟨2, tabKey 0x03 0 (40 * e), s.envActive e⟩))

/-- Sectors run in SCAN and SERVICE (R263). -/
def sectorsRun (s : State) : Bool := s.mode == Mode.scan || s.mode == Mode.service

/-- R258: the sector of a frame. -/
def sectorOf (s : State) (frame : Nat) : Nat := frame / s.rd F.GEOM_SECTOR_FRAMES

/-- A sector changed by number. -/
def updSector (n : Nat) (f : Sector → Sector) (s : State) : State :=
  { s with geom := { s.geom with sectors := s.geom.sectors.map (fun x => if x.number = n then f x else x) } }

/-- R258, R255, R262: a sector starts in the other bank, with pending APPLYs taking effect. -/
def sectorStart (frame : Nat) (s : State) : State :=
  let n := s.sectorOf frame
  let bank := n % 2
  let mask := s.rd F.GEOM_ENV_STATUS_APPLY_PEND
  let s := s.envExchange mask
  let lost := s.geom.busy.getD bank false
  let x : Sector :=
    { number := n
      bank := bank
      lost := lost
      envs := (List.range 4).map s.envActive
      changed := mask
      first := frame
      frames := s.rd F.GEOM_SECTOR_FRAMES
      stale := false
      invalid := 0
      kappa := s.geom.kappa
      ended := false
      closed := false
      sec := 0
      ns := 0
      cells := [] }
  let s := if lost then s.count ⟨0x09, 4⟩ 0 else s
  ({ s with geom := { s.geom with
      sectors := s.geom.sectors ++ [x]
      busy := s.geom.busy.set bank true
      next := n + 1 } }).wr F.GEOM_SECTOR_NOW_SECTOR n

/-- R257, R258: the sectors at the boundary before a frame. -/
def sectorAtBoundary (frame : Nat) (s : State) : State :=
  if s.sectorsRun then
    let s :=
      if frame % s.rd F.GEOM_SECTOR_FRAMES = 0 then
        let s := { s with geom := { s.geom with sectors := s.geom.sectors.map (fun (x : Sector) => { x with ended := true }) } }
        s.sectorStart frame
      else s
    let stale := s.flag F.GEOM_STATUS_CURV_STALE
    let k := s.geom.kappa
    s.updSector (s.sectorOf frame) (fun x => { x with stale := x.stale || stale, kappa := k })
  else s

/-- Shots of a sector, of those whose unit is not yet formed. -/
def sectorShots (s : State) (x : Sector) : List Shot :=
  s.fire.shots.filter (fun z => decide (x.first ≤ z.frame) && decide (z.frame < x.first + x.frames))

/-- R258: the last frame of a sector has ended: the next sector has started, or the frame length has passed since the
start of the last frame. -/
def sectorOver (s : State) (x : Sector) : Bool :=
  x.ended || (decide (x.first + x.frames ≤ s.fire.nextFrame) &&
    decide (s.fire.frameC + s.rd F.FIRE_FRAME_ACTIVE_ACTIVE_NS ≤ s.now))

/-- Slots of a sector that are still to be executed, or whose instant is still to come. -/
def sectorOwes (s : State) (x : Sector) : Bool :=
  let mine := fun (j : SlotJob) => decide (x.first ≤ j.frame) && decide (j.frame < x.first + x.frames)
  s.fire.slots.any mine || s.fire.queue.any (fun q => mine q.job)

/-- R258: the oldest sector whose last frame has ended and whose last carrier window has closed closes. DEDUCED: log
entry 60. -/
def sectorClose (s : State) : State :=
  match s.geom.sectors.find? (fun x => s.sectorOver x && !x.closed) with
  | none => s
  | some x =>
    if (s.sectorShots x).all (fun z => z.closed) && !s.sectorOwes x then
      let sec := s.sec
      let ns := s.nsec
      s.updSector x.number (fun x => { x with closed := true, sec := sec, ns := ns })
    else s

/-- One report formed: its bits of GEOM_ENV_STATUS and its count. DEDUCED: log entry 60. -/
def noteReport (x : Sector) (s : State) (e : Nat) : State :=
  let s := s.count ⟨0x09, 5⟩ 0
  let s := if x.lost then s.setIn F.GEOM_ENV_STATUS_LOST e else s
  if x.lost || (intrusions x e).isEmpty then s.clearIn F.GEOM_ENV_STATUS_INTR e else s.setIn F.GEOM_ENV_STATUS_INTR e

/-- R260 to R263: the reports of the oldest closed sector are formed once its units are, enter the landing, and its
bank is cleared. DEDUCED: log entry 60. -/
def envelopeReport (s : State) : State :=
  match s.geom.sectors.find? (fun x => x.closed) with
  | none => s
  | some x =>
    if (s.sectorShots x).isEmpty then
      let es := (List.range 4).filter (fun e => envEn (x.envs.getD e []))
      let rs := es.map (reportWords s.memberNo x)
      let s := es.foldl (noteReport x) s
      let others := s.geom.sectors.filter (fun y => y.number != x.number)
      let still := others.any (fun y => y.bank == x.bank && !y.lost)
      let busy := if x.lost || still then s.geom.busy else s.geom.busy.set x.bank false
      let s := { s with geom := { s.geom with sectors := others, busy := busy } }
      match s.regionOfStream 3 with
      | some n => s.admitReports n x.number rs
      | none => s
    else s

/-- R263: on leaving SCAN or SERVICE both banks are cleared, and open sectors give no report. -/
def sectorsDrop (s : State) : State :=
  { s with geom := { s.geom with sectors := [], busy := [false, false], next := 0 } }

/-! ### Points of records (R246, R250, R256, R259) -/

/-- The direction entry of a channel (R251). -/
def dirOf (s : State) (ch : Nat) : Int × Int := (toS 20 (s.tab 0x02 0 (2 * ch)), toS 20 (s.tab 0x02 0 (2 * ch + 1)))

/-- R246: elevation and azimuth of the beam. -/
def beam (s : State) (ch : Nat) (v : Int) (h : Nat) : Int × Int :=
  let d := s.dirOf ch
  (s.rd F.GEOM_CTRL_V_MULT * v + d.1, if s.flag F.GEOM_CTRL_H_USE then ((h : Int) + d.2) % 2 ^ 20 else d.2)

/-- R259: a counted point enters its cell. -/
def addPoint (n e : Nat) (ws : List Nat) (kappa : Int) (p : Vec) (s : State) : State :=
  let c := ((p.1 - envXStart ws) / 125).toNat
  let y := bentY ws kappa p.1 p.2.1
  let k := e * 4096 + c
  s.updSector n (fun x =>
    let cell : Cell := match Sparse.get x.cells none k with
      | some o => ⟨min 255 (o.count + 1), min o.xMin p.1, min o.yMin y, max o.yMax y, min o.zMin p.2.2⟩
      | none => ⟨1, p.1, y, y, p.2.2⟩
    { x with cells := Sparse.put x.cells none k (some cell) })

/-- The result of point formation for one record: X, Y and Z, and ENV; none where it forms no point. -/
def formPoint (vals : EchoVals) (ch range : Nat) (v : Int) (h : Nat) (invalid hard confirmed : Bool) (shot : Shot) (s : State) :
    State × Option (Vec × Nat) :=
  let n := s.sectorOf shot.frame
  let sector := s.geom.sectors.find? (fun x => s.sectorsRun && x.number == n)
  if invalid && !vals.invPoints then
    ((s.count ⟨0x09, 2⟩ 0).updSector n (fun x => { x with invalid := x.invalid + 1 }), none)
  else
    let b := s.beam ch v h
    let q := vehiclePoint vals.pose range b.1 b.2
    if inSpan q.1 && inSpan q.2.1 && inSpan q.2.2 then
      let p := pointOf vals.pose range b.1 b.2
      let envs := match sector with
        | some x => x.envs
        | none => vals.envs
      let inside := (List.range 4).filter (fun e => inEnv (envs.getD e []) shot.kappa p)
      let s := s.countN ⟨0x09, 0⟩ 0 1
      let s := match sector with
        | some x =>
          if hard && !x.lost then
            (inside.filter (fun e => confirmed || !envReqConf (envs.getD e []))).foldl
              (fun s e => s.addPoint n e (envs.getD e []) shot.kappa p) s
          else s
        | none => s
      (s, some (p, inside.foldl setBit 0))
    else (s.count ⟨0x09, 3⟩ 0, none)

end State
end Sys2Proof.Machine
end

