-- ==== Sys2Proof/Machine/Echo.lean ====
section
/-! DEFINITION. Echo formation and records (chapter 7): resolution, corrections, classification, selection, records
and stave-shot units. -/

namespace Sys2Proof.Machine

/-- A candidate with its results (R172 to R180). -/
structure Cand where
  pair   : Pairing
  order  : Nat
  conf   : Bool
  /-- T0 rising time against the carrier. -/
  rise   : Nat
  range  : Nat
  neg    : Bool
  width  : Nat
  amp    : Nat
  openG  : Bool
  sat    : Bool
  cls    : Nat
  deriving DecidableEq, Repr

/-- R172: the largest COUNT3 of the peaks that a pairing matches. -/
def matchSum (peaks : List Peak) (tol bin : Nat) : Option Nat :=
  peaks.foldl (fun b p =>
    if decide (p.bin ≤ bin + tol) && decide (bin ≤ p.bin + tol) then
      (match b with | some c => some (max c p.sum3) | none => some p.sum3)
    else b) none

/-- R172: resolution over the pairings, as the order, the pairing and its COUNT3; ties go to the lower order. -/
def resolveOver (peaks : List Peak) (tol : Nat) : Nat → List Pairing → Option (Nat × Pairing × Nat) → Option (Nat × Pairing × Nat)
  | _, [], best => best
  | a, p :: r, best =>
    let m := matchSum peaks tol (p.time / 1024)
    let best' := match m, best with
      | some c, some b => if b.2.2 < c then some (a, p, c) else best
      | some c, none => some (a, p, c)
      | none, _ => best
    resolveOver peaks tol (a + 1) r best'

/-- R175: the walk of a T0 width. -/
def walkAt (w0 : Nat) : List (Nat × Int) → Int
  | [] => 0
  | [b] => b.2
  | b :: c :: r =>
    if w0 < b.1 then b.2
    else if w0 < c.1 then b.2 + roundEven ((c.2 - b.2) * (w0 - b.1 : Nat)) (c.1 - b.1)
    else walkAt w0 (c :: r)

/-- R177: the range code of a refined arrival time. -/
def rangeCode (t : Int) : Nat := if t < 0 then 0 else (roundEven (t * 599584916) 512000000).toNat

/-- The highest threshold with a rising edge in a group (R179). -/
def highest (times : List (Option Nat)) : Nat :=
  (List.range 4).foldl (fun h k => if (times.getD (2 * k) none).isSome then k else h) 0

/-- R179: the amplitude estimate. -/
def amplitude (cal : CalVals) (g : Group) : Nat :=
  if g.sat then 1023
  else
    let h := highest g.times
    let v := g.levels.getD h 0
    let w : Nat := match g.times.getD (2 * h) none, g.times.getD (2 * h + 1) none with
      | some r, some f => widthOf r f
      | _, _ => 0
    (clampI v 1023 (v + roundEven (cal.slope * (w - cal.w0 : Nat) : Nat) 131072)).toNat

/-- R172 to R179: a candidate's results, its class left open; its walk is the resolved shot's (R173). DEDUCED: log
entry 47. -/
def candidate (win : ChanWin) (tol : Nat) (dT : Int) (g : Group) : Cand :=
  let peaks := (win.peaks.map PeakList.peaks).getD []
  let first := g.pairs.headD ⟨0, 0, win.cal, 0, 0, 0, 0, false⟩
  let best := if win.peaks.isSome then resolveOver peaks tol 0 g.pairs none else none
  let order := best.elim 0 (fun b => b.1)
  let pair := best.elim first (fun b => b.2.1)
  let rise := (g.times.getD 0 none).getD 0
  let w0 := (g.times.getD 1 none).elim 0 (widthOf rise)
  let cal := win.cal
  let walk := if g.openG then (pair.cal.walk.getD 7 (0, 0)).2 else walkAt w0 pair.cal.walk
  let t : Int := pair.time - walk - roundEven (pair.delay * 512 : Nat) 1000 - cal.offset - roundEven (cal.tc * dT) 4096
  { pair := pair
    order := order
    conf := best.isSome
    rise := rise
    range := rangeCode t
    neg := decide (t < 0)
    width := if g.openG then 1023 else min 1023 (roundEven w0 32).toNat
    amp := amplitude cal g
    openG := g.openG
    sat := g.sat
    cls := 2 }

/-- Table 7-1: the class of a candidate from the next one. DEDUCED: log entry 47. -/
def classOf (hardW softW gap decay softAmp : Nat) (c : Cand) (next : Option Cand) : Nat :=
  let train := next.any (fun n => decide (n.rise ≤ c.rise + gap * 512) && decide (n.amp * 16 ≤ c.amp * decay))
  if c.openG then 2
  else if c.sat then 0
  else if c.width ≤ hardW ∧ !train then 0
  else if softW ≤ c.width ∧ train then 1
  else if softW ≤ c.width ∧ c.amp < softAmp then 1
  else 2

/-- Every candidate classified, in order of T0 rising time (R180). -/
def classify (hardW softW gap decay softAmp : Nat) : List Cand → List Cand
  | [] => []
  | c :: r => { c with cls := classOf hardW softW gap decay softAmp c r.head? } :: classify hardW softW gap decay softAmp r

/-- The order in which echoes are numbered: range code, ORDER, T0 rising time (R182). -/
def nearKey (c : Cand) : Nat := (c.range * 8 + c.order) * 2 ^ 23 + c.rise

/-- The order in which the strongest are kept (R182). -/
def strongKey (c : Cand) : Nat := (1023 - c.amp) * 2 ^ 50 + nearKey c

/-- R190: one bit of CRC3, over record bits [63:3], most significant first. -/
def crc3Aux (w : Nat) : Nat → Nat → Nat
  | 0, crc => crc
  | n + 1, crc =>
    let fb := (crc / 4 % 2 == 1) != w.testBit (n + 3)
    let c := crc * 2 % 8
    crc3Aux w n (if fb then c ^^^ 3 else c)

/-- R190: CRC3 of a record whose bits [2:0] are still 0. -/
def crc3 (w : Nat) : Nat := crc3Aux w 61 0

/-- A record with its check. -/
def withCrc3 (w : Nat) : Nat := w + crc3 w

/-- The flags GAIN_SETTLE, SPARE_SUBST and ANGLE_INVALID of a window's records (R191, Table 7-5). -/
def winFlags (win : ChanWin) (inv : Bool) : Nat := b2n (win.settle || win.held) * 2 ^ 5 + b2n win.subst * 2 ^ 4 + b2n inv * 2 ^ 3

/-- R187, Table 7-3: an echo record. -/
def echoWord (win : ChanWin) (index : Nat) (c : Cand) : Nat :=
  withCrc3 (c.range % 2 ^ 24 * 2 ^ 40 + win.range * 2 ^ 38 + c.amp * 2 ^ 28 + c.width * 2 ^ 18 + win.ch % 4 * 2 ^ 16 +
    index * 2 ^ 13 + c.order * 2 ^ 10 + c.cls * 2 ^ 8 + b2n c.conf * 2 ^ 7 + b2n c.sat * 2 ^ 6 + winFlags win c.pair.inv)

/-- R188: a no-return record. -/
def noReturnWord (win : ChanWin) (reason : Nat) (inv : Bool) : Nat :=
  withCrc3 (0xFFFFFF * 2 ^ 40 + win.ch % 4 * 2 ^ 16 + reason * 2 ^ 13 + 3 * 2 ^ 8 + winFlags win inv)

/-- R189, Table 7-4: the second word of an extended record. -/
def extWord (p : Option (Vec × Nat)) : Nat :=
  match p with
  | some (v, env) => ofS 20 v.1 * 2 ^ 44 + ofS 20 v.2.1 * 2 ^ 24 + ofS 20 v.2.2 * 2 ^ 4 + env
  | none => 0x80000 * 2 ^ 44 + 0x80000 * 2 ^ 24 + 0x80000 * 2 ^ 4

/-- What one channel of a carrier gives to its unit: records with their extended words, and the header's bits. -/
structure ChanRecs where
  words : List (Nat × Nat)
  ovf   : Bool
  trunc : Bool
  deriving DecidableEq, Repr

namespace State

/-- What the unit of an emitter's shot is formed from, as in force now (R17). DEDUCED: log entry 45. -/
def echoVals (s : State) (e : Nat) : EchoVals :=
  { form := s.rd F.ECHO_CTRL_FORM
    tol := s.rd F.ECHO_CTRL_TOL
    hardW := s.rd F.ECHO_CLASS_W_HARD_W
    softW := s.rd F.ECHO_CLASS_W_SOFT_W
    gap := s.rd F.ECHO_CLASS_T_GAP_NS
    decay := s.rd F.ECHO_CLASS_T_DECAY
    softAmp := s.rd F.ECHO_CLASS_T_SOFT_AMP
    strongest := s.flag F.ECHO_CTRL_SELECT
    softSupp := s.flag (F.ECHO_STAVE_CFG_SOFT_SUPP e)
    unconfSupp := s.flag (F.ECHO_STAVE_CFG_UNCONF_SUPP e)
    autoNr := s.flag F.ACQ_CTRL_AUTO_NR
    invPoints := s.flag F.GEOM_CTRL_INV_POINTS
    temp := s.octMean (e / 8)
    pose := s.geom.pose
    envs := (List.range 4).map s.envActive
    lists := (List.range 4).foldl (fun w k => if (s.listOf (4 * e + k)).isSome then setBit w k else w) 0 }

/-- A point formed for each kept echo, in order (R250). DEDUCED: log entry 47. -/
def formRecords (v : EchoVals) (x : Shot) (win : ChanWin) (s : State) (cs : List Cand) : State × List (Nat × Nat) :=
  cs.foldl (fun acc c =>
    let r := acc.1.formPoint v win.ch c.range c.pair.v c.pair.h c.pair.inv (c.cls == 0) c.conf x
    (r.1, acc.2 ++ [(echoWord win acc.2.length c, extWord r.2)])) (s, [])

/-- R181: suppression of one candidate, counted. -/
def suppress (v : EchoVals) (ch : Nat) (hasList : Bool) (acc : State × List Cand) (c : Cand) : State × List Cand :=
  if v.softSupp && c.cls == 1 then (acc.1.count ⟨0x06, 4⟩ ch, acc.2)
  else if v.unconfSupp && hasList && !c.conf then (acc.1.count ⟨0x06, 5⟩ ch, acc.2)
  else (acc.1, acc.2 ++ [c])

/-- R160, R161, R170 to R184: one channel of a carrier that opened windows. DEDUCED: log entry 47. -/
def formChannel (v : EchoVals) (x : Shot) (win : ChanWin) (s : State) : State × ChanRecs :=
  let g := x.em / 8
  let s := if win.excess then s.setIn F.ECHO_STATUS_OVF_OCT g else s
  if x.limit = 0 then (s, ⟨[], win.excess, false⟩)
  else
    let dT := v.temp - win.cal.calTemp
    let cands := classify v.hardW v.softW v.gap v.decay v.softAmp (win.groups.map (candidate win v.tol dT))
    let s := s.countN ⟨0x06, 3⟩ win.ch (cands.filter Cand.neg).length
    let (s, left) := cands.foldl (suppress v win.ch win.peaks.isSome) (s, [])
    let excess := left.length - x.limit
    let kept := if excess = 0 then left
      else (sortBy (if v.strongest then strongKey else nearKey) left).take x.limit
    let s := if excess = 0 then s else (s.countN ⟨0x06, 6⟩ win.ch excess).setIn F.ECHO_STATUS_TRUNC_OCT g
    let (s, ws) := s.formRecords v x win (sortBy nearKey kept)
    let reason := if !win.groups.isEmpty then 2 else if win.event then 1 else 0
    let ws := if ws.isEmpty && v.autoNr then
        [(noReturnWord win reason (x.vInv || x.hInv), extWord none)] else ws
    let s := s.countN ⟨0x06, 0⟩ win.ch ws.length
    (s, ⟨ws, win.excess, decide (0 < excess)⟩)

/-- R186, Table 7-2: the shot header. LIST is 0 where the shot opened no window. -/
def headerWords (v : EchoVals) (x : Shot) (rs : List ChanRecs) (wins : List ChanWin) : List Nat :=
  let chs := wins.map (fun w => w.ch % 4)
  let list := if x.outcome ≤ 1 ∨ x.cut then v.lists else 0
  let n := fun (k : Nat) => (((chs.zip rs).filter (fun p => p.1 == k)).map (fun p => p.2.words.length)).sum
  [ofS 26 x.offset * 2 ^ 38 + x.slot * 2 ^ 28 + x.em * 2 ^ 22 + x.code * 2 ^ 16 + x.position * 2 ^ 10 +
     v.form * 2 ^ 8 + list * 2 ^ 4 + b2n (rs.any ChanRecs.ovf) * 2 ^ 3 +
     b2n (rs.any ChanRecs.trunc) * 2 ^ 2 + b2n x.forced * 2,
   ofS 18 x.v * 2 ^ 46 + x.h * 2 ^ 26 + x.outcome * 2 ^ 23 + x.quality * 2 ^ 20 + b2n x.vInv * 2 ^ 19 +
     b2n x.hInv * 2 ^ 18 + n 3 * 2 ^ 12 + n 2 * 2 ^ 8 + n 1 * 2 ^ 4 + n 0]

/-- R185: the records of a unit in the form in force. DEDUCED: log entry 47. -/
def unitRecords (form : Nat) (ws : List (Nat × Nat)) : List (List Nat) :=
  if form = 0 then ws.map (fun p => [p.1])
  else if form = 1 then ws.map (fun p => [p.1, p.2])
  else ws.map (fun p => [p.1]) ++ ws.map (fun p => [p.1, p.2])

/-- R17, R167, R185: the unit of a shot is formed from the values in force as its window closed; a cut shot gives its
header alone (R120). DEDUCED: log entry 45. -/
def formUnit (id : Nat) (s : State) : State :=
  match s.shot? id with
  | none => s
  | some x =>
    let v := x.vals.getD (s.echoVals x.em)
    let wins := if x.cut then [] else x.chans
    let (s, rs) := wins.foldl (fun acc w => let r := acc.1.formChannel v x w; (r.1, acc.2 ++ [r.2])) (s, [])
    let u : EchoUnit :=
      { frame := x.frame
        frameSec := x.frameSec
        frameNs := x.frameNs
        header := headerWords v x rs wins
        records := unitRecords v.form (rs.flatMap ChanRecs.words)
        late := false }
    s.updShot id (fun y => { y with unit := some u })

/-- A shot of a frame that has not started yet: its unit waits for what the frame's start gives it (R481). -/
def ahead (s : State) (x : Shot) : Bool := s.fire.early.any (fun p => p.frame == x.frame)

/-- The unit of a shot that has no more to give is formed, once its frame has started. DEDUCED: log entry 45. -/
def formClosed (x : Shot) (s : State) : State := if s.ahead x then s else s.formUnit x.id

/-! ### Shot windows close -/

/-- R83: a shot's window may still give a statistics unit its sample: it is open, or a group paired with it is. -/
def mayGive (s : State) (id : Nat) : Bool :=
  s.fire.shots.any (fun x => x.id == id && !x.closed) ||
  s.rx.fes.any (fun p => p.2.group.any (fun (g : OpenGroup) => g.pairs.any (fun q => q.shot == id)))

/-- The pulse of a fired shot is still driven. -/
def driven (s : State) (x : Shot) : Bool := decide (x.fireC ≤ s.now) && decide (4 * s.now < 4 * x.fireC + x.width)

/-- The units of the shots of frame `k` whose windows closed ahead of its start are formed. DEDUCED: log entry 45. -/
def formAhead (k : Nat) (s : State) : State :=
  (s.fire.shots.filter (fun x => x.frame == k && x.closed && x.unit.isNone && !s.driven x)).foldl
    (fun s x => s.formUnit x.id) s

/-- R149, R155, R17: the window of a shot closes on every channel, its unit is formed, unless its pulse is still
driven and may yet be cut, and its code group may close. DEDUCED: log entry 27. -/
def closeShot (cut : Bool) (sat : Nat) (x : Shot) (s : State) : State :=
  let vals := s.echoVals x.em
  let s := x.chans.foldl (closeWin x.id cut sat) s
  let c := if cut then s.now else x.fireC + x.window
  let s := s.updShot x.id (fun y => { y with closed := true, closeC := c, cut := cut, vals := some vals })
  let s := { s with stats := s.stats.map (fun (u : StatUnit) => { u with done := u.done.filter s.mayGive }) }
  let s := if !cut && s.driven x then s else s.formClosed x
  let s := s.updGroup x.em x.group (fun g => { g with opened := g.opened - 1 })
  s.closeGroup x.em x.group

/-- The open shot window of an emitter that closes first. -/
def nextToClose (s : State) (e : Nat) : Option Shot :=
  (sortBy (fun (x : Shot) => x.fireC + x.window) (s.fire.shots.filter (fun x => x.em == e && !x.closed))).head?

/-- R149: the emitter's oldest window closes. DEDUCED: log entry 27. -/
def windowClose (e sat : Nat) (s : State) : State :=
  match s.nextToClose e with
  | none => s
  | some x => s.closeShot false sat x

/-- The emitter's shot whose unit is presented next: the earliest window close, or nominal time, once it has come
(R192); a pulse that is still driven may yet be cut. DEDUCED: log entry 45. -/
def nextUnit (s : State) (e : Nat) : Option Shot :=
  let key := fun (x : Shot) => if x.closed then x.closeC else x.fireC + x.window
  (sortBy key (s.fire.shots.filter (fun x => x.em == e))).head?.filter
    (fun x => x.closed && decide (x.closeC ≤ s.now) && !s.ahead x && (x.unit.isSome || !s.driven x))

/-- R167, R168, R192: a stave-shot unit is presented to its landing region. DEDUCED: log entries 45 and 48. -/
def staveShotUnit (e : Nat) (s : State) : State :=
  match s.nextUnit e with
  | none => s
  | some x =>
    let s := if x.unit.isSome then s else s.formUnit x.id
    let unit := (s.shot? x.id).bind Shot.unit
    let s := { s with fire := { s.fire with shots := s.fire.shots.filter (fun y => y.id != x.id) } }
    match unit, s.regionFor 0 (s.echoPort e) with
    | some u, some n => s.admitUnit n u
    | _, _ => s

end State
end Sys2Proof.Machine
end

