-- ==== Sys2Proof/Machine/Therm.lean ====
section
/-! DEFINITION. The thermal manager (chapter 15): values in force and substitutes, octant temperatures and rates of
rise, throttle levels and the width in force. -/

namespace Sys2Proof.Machine

/-- The neighbours of a sensor (R373). -/
def neighbours (n : Nat) : List Nat :=
  if n < 24 then [n / 3 * 3, n / 3 * 3 + 1, n / 3 * 3 + 2].filter (fun k => k != n)
  else if n < 28 then [24 + (n - 24 + 3) % 4, 24 + (n - 24 + 1) % 4]
  else []

/-- The kinds of a THERMAL_LIMIT entry's ADDRESS (R385). -/
def thermAddress (kind index : Nat) : Nat := kind * 256 + index

/-- Table 15-3: the width in force at a level. -/
def widthAt (level width : Nat) : Nat :=
  if level = 0 then width else max 4 (width * (8 - min level 4) / 8)

/-- Table 15-3: a stave's slots are removed at a level. -/
def staveRemoved (level stave : Nat) : Bool := decide (8 - stave ≤ level - 4)

namespace State

/-- A sensor's history, and the state with it replaced. -/
def sensor (s : State) (n : Nat) : SensorSt := s.therm.sensors.getD n ⟨0, none, 0, 0, false⟩
def putSensor (n : Nat) (x : SensorSt) (s : State) : State :=
  { s with therm := { s.therm with sensors := s.therm.sensors.set n x } }

/-- An octant's thermal history, and the state with it replaced. -/
def octTherm (s : State) (g : Nat) : OctTherm := s.therm.octs.getD g ⟨0, 0, [], none, false, false⟩
def putOctTherm (g : Nat) (x : OctTherm) (s : State) : State :=
  { s with therm := { s.therm with octs := s.therm.octs.set g x } }

/-- A sensor is healthy. -/
def healthy (s : State) (n : Nat) : Bool := !(s.sensor n).failed

/-- The largest value in force among the healthy sensors of a list. -/
def maxHealthy (s : State) (l : List Nat) : Option Int :=
  (l.filter s.healthy).foldl (fun m n =>
    let v := s.rdS (F.THERM_TEMP_TEMP n)
    match m with | some a => some (max a v) | none => some v) none

/-- R375: the substitute of a failed sensor, from the first source that is healthy; none where no source is. -/
def substitute (s : State) (n : Nat) : Option Int :=
  let first := s.maxHealthy (neighbours n)
  let second := if n < 24 then none else s.maxHealthy [24, 25, 26, 27]
  let third := s.maxHealthy (List.range 24)
  (first.or (second.or third)).map (fun v => v + 80)

/-- R375: the value in force of one sensor. -/
def setInForce (s : State) (n : Nat) : State :=
  let x := s.sensor n
  if !x.failed then
    match x.valueAt with
    | some _ => (s.wrS (F.THERM_TEMP_TEMP n) x.value).wr (F.THERM_TEMP_SUBST n) 0
    | none => s
  else if n = 28 then s.wr (F.THERM_TEMP_SUBST n) 0
  else
    match s.substitute n with
    | some v => (s.wrS (F.THERM_TEMP_TEMP n) (clampI (-32768) 32767 v)).wr (F.THERM_TEMP_SUBST n) 1
    | none => s.wr (F.THERM_TEMP_SUBST n) 1

/-- A die sensor of octant `g` is substituted. -/
def octSubst (s : State) (g : Nat) : Bool := [0, 1, 2].any (fun k => s.flag (F.THERM_TEMP_SUBST (3 * g + k)))

/-- Die sensors of octant `g` that are failed. -/
def octFailed (s : State) (g : Nat) : Nat := ([0, 1, 2].filter (fun k => !s.healthy (3 * g + k))).length

/-- R376: T_oct. -/
def tOct (s : State) (g : Nat) : Int :=
  max (s.rdS (F.THERM_TEMP_TEMP (3 * g))) (max (s.rdS (F.THERM_TEMP_TEMP (3 * g + 1))) (s.rdS (F.THERM_TEMP_TEMP (3 * g + 2))))

/-- R376: the integral of T_oct over the present window, brought up to now. -/
def integOct (g : Nat) (s : State) : State :=
  let x := s.octTherm g
  let t := s.rdS (F.THERM_OCT_TEMP g)
  let n := s.now
  s.putOctTherm g { x with integ := x.integ + t * (n - x.integAt : Nat), integAt := n }

/-- T_oct, the substitute bits and the minimum-duty state of an octant follow its sensors (R376, R381). -/
def refreshOct (s : State) (g : Nat) : State :=
  let s := (s.integOct g).wrS (F.THERM_OCT_TEMP g) (s.tOct g)
  let s := if s.octSubst g then s.setIn F.THERM_STATUS_SUBST_OCT g else s.clearIn F.THERM_STATUS_SUBST_OCT g
  let was := bitOf (s.rd F.THERM_STATUS_MINDUTY_OCT) g
  if 2 ≤ s.octFailed g then
    if was then s
    else
      let s := s.putOctTherm g { s.octTherm g with minDue := true }
      (s.setIn F.THERM_STATUS_MINDUTY_OCT g).logEvent Ev.thermalLimit (thermAddress 4 g)
  else if was then
    (s.putOctTherm g { s.octTherm g with minDue := false }).clearIn F.THERM_STATUS_MINDUTY_OCT g
  else s

/-- All values in force, healthy sensors first, then the substitutes built from them. -/
def refreshTemps (s : State) : State :=
  let s := ((List.range 29).filter s.healthy).foldl setInForce s
  let s := ((List.range 29).filter (fun n => !s.healthy n)).foldl setInForce s
  (List.range 8).foldl refreshOct s

/-- R373: a sensor is declared failed. -/
def failSensor (n : Nat) (s : State) : State :=
  if (s.sensor n).failed then s
  else
    let s := s.putSensor n { s.sensor n with failed := true }
    let s := (s.setIn F.THERM_SENS_FAIL_FAIL n).wr (F.THERM_TEMP_FAILED n) 1
    ((s.count ⟨0x10, 1⟩ 0).raise Irq.thermSensor).logEvent Ev.thermalLimit (thermAddress 3 n)

/-- R373: the host readmits a sensor, which is judged afresh from its next result. DEDUCED: log entry 102. -/
def readmit (s : State) (n : Nat) : State :=
  let s := s.putSensor n { s.sensor n with failed := false, valueAt := none, run := 0 }
  ((s.clearIn F.THERM_SENS_FAIL_FAIL n).wr (F.THERM_TEMP_FAILED n) 0).refreshTemps

/-- A sensor is healthy and has a result to be judged by. -/
def judged (s : State) (n : Nat) : Bool := s.healthy n && (s.sensor n).valueAt.isSome

/-- R373, R374: sensor `n` against its neighbours, as their values stand. DEDUCED: log entry 102. -/
def disagree (s : State) (n : Nat) : State :=
  let far := fun k => decide (128 < (s.sensor n).value - (s.sensor k).value) || decide (128 < (s.sensor k).value - (s.sensor n).value)
  if !s.judged n then s
  else
    match (neighbours n).filter s.judged with
    | [a, b] => if far a && far b then s.failSensor n else s
    | [a] =>
      if decide (n < 24) && far a && decide (s.octFailed (n / 3) = 1) then
        if (s.sensor n).value < (s.sensor a).value then s.failSensor n else s.failSensor a
      else s
    | _ => s

/-- R373, R374: the sensors whose comparisons a change of sensor `n` touches are compared; a failure that this
declares touches the others again. DEDUCED: log entry 102. -/
def compare (n : Nat) (s : State) : State :=
  let l := n :: neighbours n
  l.foldl disagree (l.foldl disagree s)

/-- R373: a sensor's result of value `v` (1/16 °C) has completed, from code `code`. The tests of the result itself
come first; a sensor that fails them is not healthy and takes no part in a disagreement (R374). DEDUCED: log entry
102. -/
def sensorResult (n : Nat) (v : Int) (code : Nat) (s : State) : State :=
  let x := s.sensor n
  let fast := match x.valueAt with
    | some t0 => decide (800 * (s.now - t0 : Nat) < (v - x.value).natAbs * 1000000000)
    | none => false
  let at0 := s.now
  let s := s.putSensor n { x with value := v, valueAt := some at0 }
  if x.failed then s
  else
    let s := if fast = true ∨ (24 ≤ n ∧ (code ≤ 15 ∨ 16368 ≤ code)) then s.failSensor n else s
    s.compare n

/-- R373: a visit of an entry with sensor tag `n` has ended; `same` says that all its conversions returned `code`.
DEDUCED: log entry 102. -/
def sensorVisit (n : Nat) (code : Nat) (same : Bool) (s : State) : State :=
  let x := s.sensor n
  let run := if same then (if x.run != 0 && x.runCode == code then x.run + 1 else 1) else 0
  let s := s.putSensor n { x with runCode := code, run := run }
  if 16 ≤ run then (s.failSensor n).compare n else s

/-! ### Rates and levels (R376 to R381) -/

/-- R376: the rate of rise × 10⁸ × 100 ms windows: the difference of two window integrals, 0 until eleven exist.
DEDUCED: log entry 103. -/
def rateDiff (s : State) (g : Nat) : Int :=
  match (s.octTherm g).means with
  | a :: r => match r[9]? with | some b => a - b | none => 0
  | [] => 0

/-- The level of an octant. DEDUCED: log entry 103. -/
def level (s : State) (g : Nat) : Nat := s.rd (F.THERM_OCT_LEVEL g)

/-- A change of level, with the first rise's interrupt and entry (R378). -/
def setLevel (g l : Nat) (s : State) : State :=
  let old := s.level g
  let n := s.now
  let s := (s.putOctTherm g { s.octTherm g with changeAt := some n }).wr (F.THERM_OCT_LEVEL g) l
  let s := if old < l then s.count ⟨0x10, 0⟩ 0 else s
  if old = 0 ∧ 0 < l then (s.raise Irq.thermThrottle).logEvent Ev.thermalLimit (thermAddress 1 g) else s

/-- Enough time has passed since the level last changed. -/
def sinceChange (s : State) (g ms : Nat) : Bool :=
  match (s.octTherm g).changeAt with
  | some t => decide (ms * 1000000 ≤ s.now - t)
  | none => true

/-- R378, R380, R381: the level moves at a frame boundary, or at a window in a non-firing mode. DEDUCED: log entry
103. -/
def levelStep (s : State) (g : Nat) : State :=
  let l := s.level g
  let due := (s.octTherm g).minDue
  let s := if due then s.putOctTherm g { s.octTherm g with minDue := false } else s
  if due && decide (l < 11) then s.setLevel g 11
  else
    let t := s.rdS (F.THERM_OCT_TEMP g)
    let rate := s.rateDiff g
    let throt : Int := 16 * s.rd F.THERM_LIMITS_THROT_C
    let hot := decide (throt ≤ t) || decide ((s.rd F.THERM_LIMITS_THR_RATE : Int) * 100000000 ≤ rate)
    let cool := decide (t < throt - 16 * s.rd F.THERM_STEP_HYST_C) &&
      decide (rate < (s.rd F.THERM_LIMITS_WARN_RATE : Int) * 100000000)
    let floor := if bitOf (s.rd F.THERM_STATUS_MINDUTY_OCT) g then 11 else 0
    if hot && decide (l < 12) && s.sinceChange g (s.rd F.THERM_STEP_STEP_MS) then s.setLevel g (l + 1)
    else if !hot && cool && decide (floor < l) && !s.octSubst g && s.sinceChange g (s.rd F.THERM_STEP_RELEASE_MS) then
      s.setLevel g (l - 1)
    else s

/-- R377: the rate of rise of an octant against WARN_RATE. -/
def warnTest (s : State) (g : Nat) : State :=
  if (s.rd F.THERM_LIMITS_WARN_RATE : Int) * 100000000 ≤ s.rateDiff g then
    if bitOf (s.rd F.THERM_STATUS_WARN_OCT) g then s
    else ((s.setIn F.THERM_STATUS_WARN_OCT g).count ⟨0x10, 3⟩ 0).raise Irq.thermWarn
  else s.clearIn F.THERM_STATUS_WARN_OCT g

/-- R376, R377: THERM_OCT.RATE and the warning of an octant follow its windows. DEDUCED: log entry 103. -/
def refreshRate (s : State) (g : Nat) : State :=
  (s.wrS (F.THERM_OCT_RATE g) (clampI (-2048) 2047 (roundEven (s.rateDiff g) 100000000))).warnTest g

/-- R376, R377: one octant at the end of a 100 ms window. DEDUCED: log entry 103. -/
def windowOct (s : State) (g : Nat) : State :=
  let s := s.integOct g
  let x := s.octTherm g
  (s.putOctTherm g { x with integ := 0, means := (x.integ :: x.means).take 11 }).refreshRate g

/-- R376 to R378: a 100 ms window ends; in non-firing modes the levels move. The converter's windows run while it
does. DEDUCED: log entry 103. -/
def thermWindow (s : State) : State :=
  if s.hk.on then
    let s := (List.range 8).foldl windowOct s
    let s := { s with therm := { s.therm with windows := s.therm.windows + 1 } }
    if s.firing then s else (List.range 8).foldl levelStep s
  else s

end State
end Sys2Proof.Machine
end

