-- ==== Sys2Proof/Machine/Fire.lean ====
section
/-! DEFINITION. Emitter firing and diagnostics (chapter 5): FIRE_ALLOW, drive levels, delays, the fire decision,
current-sense evaluation, proof shots, sweeps and kerfs. -/

namespace Sys2Proof.Machine

/-! ### Schedule words (Table 5-1) -/

/-- The fields of a slot's word 0 and word 1. -/
def slotEn (w0 : Nat) : Bool := bitOf w0 31
def slotKerf (w0 : Nat) : Bool := bitOf w0 30
def slotEm (w0 : Nat) : Nat := bitsOf w0 29 24
def slotOffset (w0 : Nat) : Nat := bitsOf w0 23 0
def slotCode (w1 : Nat) : Nat := bitsOf w1 31 26
def slotMask (w1 : Nat) : Nat := bitsOf w1 25 22
def slotLimit (w1 : Nat) : Nat := bitsOf w1 21 18
def slotWindow (w1 : Nat) : Nat := bitsOf w1 14 0
def slotKerfLen (w1 : Nat) : Nat := bitsOf w1 23 0

/-! ### The code dither (R136) -/

/-- One step of the Galois LFSR. -/
def lfsrStep (s : Nat) : Nat := if s % 2 = 1 then (s / 2) ^^^ 0x80200003 else s / 2

/-- The generator after `p + 1` steps. -/
def lfsrRun : Nat → Nat → Nat
  | 0, s => lfsrStep s
  | p + 1, s => lfsrRun p (lfsrStep s)

/-- R136: the dither of a code position, ns. -/
def dither (seed member em ditherMax p : Nat) : Int :=
  let s0 := seed ^^^ (member * 2 ^ 24) ^^^ (em * 2 ^ 16)
  let s := lfsrRun p (if s0 = 0 then 1 else s0)
  ((s / 2 ^ 16 * (2 * ditherMax + 1) / 2 ^ 16 : Nat) : Int) - ditherMax

namespace State

/-! ### FIRE_ALLOW (R119, R120) -/

/-- R119: the AND that gives FIRE_ALLOW. -/
def allowNow (s : State) : Bool :=
  s.permits.laser && s.permits.held && s.permits.north && s.permits.south && s.firing &&
  !s.boot.tripped && s.boot.resetN && s.boot.phase == .up

/-- R120: shots whose pulse is still driven are cut: their windows close and their outcome is INTERLOCK; a window that
has closed already has no more to give. DEDUCED: log entry 39. -/
def cutShot (s : State) (x : Shot) : State :=
  if x.outcome ≤ 1 ∧ s.driven x then
    let s := s.updShot x.id (fun y => { y with outcome := 5 })
    if x.closed then (s.updShot x.id (fun y => { y with cut := true })).formClosed x else s.closeShot true 0 x
  else s

/-- R119, R120: FIRE_ALLOW and FIRE_STATUS follow the conditions; every fall cuts pulses and holds firing until a
frame boundary. DEDUCED: log entry 39. -/
def refreshAllow (s : State) : State :=
  let was := s.permits.allow
  let now := s.allowNow
  let s := (s.wrB F.FIRE_STATUS_LASER_PERMIT s.permits.laser).wrB F.FIRE_STATUS_PERMIT_WAIT (s.permits.laser && !s.permits.held)
  let s := (s.wrB F.FIRE_STATUS_PERMIT_N s.permits.north).wrB F.FIRE_STATUS_PERMIT_S s.permits.south
  let s := { s.wrB F.FIRE_STATUS_FIRE_ALLOW now with permits := { s.permits with allow := now } }
  if was && !now then
    let s := { s with fire := { s.fire with hold := true } }
    s.fire.shots.foldl cutShot s
  else s

/-- R119, R120: LASER_PERMIT falls. -/
def laserLow (s : State) : State := ({ s with permits := { s.permits with laser := false, held := false } }).refreshAllow
/-- R119: LASER_PERMIT rises. -/
def laserHigh (s : State) : State := ({ s with permits := { s.permits with laser := true } }).refreshAllow
/-- R119: LASER_PERMIT has been high for 10 ms. DESIGN CHOICE: log entry 37. -/
def permitHold (s : State) : State :=
  if s.permits.laser then ({ s with permits := { s.permits with held := true } }).refreshAllow else s

/-- Both halves' laser permits cleared, or set. DESIGN CHOICE: log entry 37. -/
def setPermits (b : Bool) (s : State) : State :=
  ({ s with permits := { s.permits with north := b, south := b } }).refreshAllow

/-! ### Drive level and delay (R122 to R125) -/

/-- R123: an octant's target code before clamping. -/
def levelRaw (s : State) (g : Nat) : Int :=
  let b := s.rd (F.FIRE_OCT_LEVEL_BANK g)
  let d := s.srcTemp g (s.rd (F.FIRE_OCT_LEVEL_TEMP_SRC g)) - 400
  let x := tempPoly 0 (s.rdS (F.FIRE_BANK_LEVEL_POLY_L1 b)) (s.rdS (F.FIRE_BANK_LEVEL_POLY_L2 b)) d
  s.rd (F.FIRE_OCT_LEVEL_BASE g) + x

/-- R123: an octant's target code. -/
def levelTarget (s : State) (g : Nat) : Nat :=
  (clampI (s.rd (F.FIRE_OCT_LEVEL_LIM_MIN g)) (s.rd (F.FIRE_OCT_LEVEL_LIM_MAX g)) (s.levelRaw g)).toNat

/-- CLAMPED follows the recomputed target. -/
def refreshLevel (s : State) (g : Nat) : State :=
  s.wrB (F.FIRE_OCT_LEVEL_STATUS_CLAMPED g) (decide (s.levelRaw g ≠ (s.levelTarget g : Int)))

/-- R123: at a frame boundary the output moves by at most 16 LSB; a zeroed octant stays at 0 (R144). -/
def levelDac (s : State) (g : Nat) : State :=
  if s.flag (F.FIRE_OCT_LEVEL_STATUS_ZEROED g) then s.wr (F.FIRE_OCT_LEVEL_STATUS_CODE g) 0
  else
    let c := s.rd (F.FIRE_OCT_LEVEL_STATUS_CODE g)
    let t := s.levelTarget g
    s.wr (F.FIRE_OCT_LEVEL_STATUS_CODE g) (if c < t then min t (c + 16) else max t (c - 16))

/-- R123: every drive-level output at code 0. -/
def levelsZero (s : State) : State := (List.range 8).foldl (fun s g => s.wr (F.FIRE_OCT_LEVEL_STATUS_CODE g) 0) s

/-- R124: an emitter's delay in force, recomputed. -/
def refreshDelay (s : State) (e : Nat) : State :=
  let b := s.rd (F.FIRE_EM_CFG_BANK e)
  let d := s.srcTemp (e / 8) (s.rd (F.FIRE_EM_CFG_TEMP_SRC e)) - 400
  let x := tempPoly 0 (s.rdS (F.FIRE_BANK_DELAY_POLY_D1 b)) (s.rdS (F.FIRE_BANK_DELAY_POLY_D2 b)) d
  s.wr (F.FIRE_EM_STATUS_DELAY_PS e) (clampI 0 65535 (s.rd (F.FIRE_EM_DELAY_DLY_BASE e) + x)).toNat

/-- Everything that follows the temperatures in chapters 4 and 5 (Table 15-4). -/
def refreshCompensation (s : State) : State :=
  let s := (List.range 8).foldl (fun s g => (s.refreshBias g).refreshLevel g) s
  (List.range 64).foldl refreshDelay s

/-! ### The schedule in force (R126, R127) -/

/-- The words of a slot of a copy. -/
def slotWords (s : State) (copy i : Nat) : Nat × Nat :=
  (s.tab 0x01 0 (2 * (copy * 1024 + i)), s.tab 0x01 0 (2 * (copy * 1024 + i) + 1))

/-- The slots of a copy, in order. -/
def slotsOf (s : State) (copy : Nat) : List (Nat × Nat × Nat) :=
  (List.range 1024).map (fun i => (i, (s.slotWords copy i).1, (s.slotWords copy i).2))

/-- The enabled shot slots, and kerf slots, of a copy: number and words. -/
def shotSlots (s : State) (copy : Nat) : List (Nat × Nat × Nat) :=
  (s.slotsOf copy).filter (fun p => slotEn p.2.1 && !slotKerf p.2.1)
def kerfSlots (s : State) (copy : Nat) : List (Nat × Nat × Nat) :=
  (s.slotsOf copy).filter (fun p => slotEn p.2.1 && slotKerf p.2.1)

/-- The copy in force. -/
def activeCopy (s : State) : Nat := s.rd F.FIRE_SCHED_ACTIVE

/-- R133: the stagger of an emitter. -/
def stagger (s : State) (e : Nat) : Nat := s.rd (F.FIRE_EM_CFG_STAGGER_POS e) * s.rd F.FIRE_CTRL_STAGGER_Q / 32

/-- The width in force of an emitter (R379). -/
def widthNow (s : State) (e : Nat) : Nat := widthAt (s.level (e / 8)) (s.rd (F.FIRE_EM_CFG_WIDTH e))

/-- R146: PROOF_NEEDED of every emitter. -/
def refreshProof (s : State) : State :=
  let named := (s.shotSlots s.activeCopy).map (fun p => slotEm p.2.1)
  (List.range 64).foldl (fun s e => s.wrB (F.FIRE_EM_STATUS_PROOF_NEEDED e)
    (s.flag (F.FIRE_EM_CFG_EN e) && decide (s.widthNow e < 12) && named.contains e)) s

/-! ### Faults and energy (R140, R141, R144, R145) -/

/-- An emitter counts as in fault, or as off, for Table 5-3. -/
def emOff (s : State) (e : Nat) : Bool :=
  !s.flag (F.FIRE_EM_CFG_EN e) || s.flag (F.FIRE_EM_STATUS_FAULT e) || (s.em e).waitFrame ||
  s.flag (F.FIRE_OCT_LEVEL_STATUS_ZEROED (e / 8))

/-- R139: the emitter has been off, or in fault, since the last frame boundary. -/
def noteOff (s : State) (e : Nat) : State := s.updEm e (fun x => { x with wasOff := true })

/-- R144: current before the fire edge: all 8 emitters of the octant count as in fault. -/
def preShort (e : Nat) (s : State) : State :=
  let g := e / 8
  let s := (List.range 8).foldl (fun s k => s.noteOff (8 * g + k)) s
  let s := (s.wr (F.FIRE_EM_STATUS_FAULT e) 1).wr (F.FIRE_EM_STATUS_FAULT_KIND e) 3
  let s := (s.wr (F.FIRE_OCT_LEVEL_STATUS_CODE g) 0).wr (F.FIRE_OCT_LEVEL_STATUS_ZEROED g) 1
  let s := s.setIn F.FIRE_STATUS_ZEROED_OCT g
  (s.raise Irq.emitterFault).logEvent Ev.emitterFault (3 * 256 + e)

/-- R144, R145: a write of CLEAR clears FAULT; the octant is released when no PRE_SHORT fault is left. -/
def emClear (e : Nat) (s : State) : State :=
  if s.flag (F.FIRE_EM_STATUS_FAULT e) then
    let s := (s.wr (F.FIRE_EM_STATUS_FAULT e) 0).wr (F.FIRE_EM_STATUS_FAULT_KIND e) 0
    let s := s.updEm e (fun x => { x with waitFrame := true, badRun := 0 })
    let g := e / 8
    if (List.range 8).any (fun k => s.rd (F.FIRE_EM_STATUS_FAULT_KIND (8 * g + k)) == 3) then s
    else
      let was := s.flag (F.FIRE_OCT_LEVEL_STATUS_ZEROED g)
      let s := (s.wr (F.FIRE_OCT_LEVEL_STATUS_ZEROED g) 0).clearIn F.FIRE_STATUS_ZEROED_OCT g
      if was then (List.range 8).foldl (fun s k => s.updEm (8 * g + k) (fun x => { x with waitFrame := true })) s else s
  else s

/-- R141: whether energy `e` still fits an emitter's budget. -/
def eyeFits (s : State) (em e : Nat) : Bool := decide ((s.em em).acc + e ≤ s.rd (F.FIRE_EM_EYE_BUDGET em) * 256)

/-- R141: a suppression. -/
def eyeSuppress (em : Nat) (s : State) : State :=
  let s := s.count ⟨0x04, 5⟩ 0
  if (s.em em).eyeHit then s
  else
    let s := s.updEm em (fun x => { x with eyeHit := true })
    (s.wr (F.FIRE_EM_STATUS_EYE_HIT em) 1).raise Irq.eyeLimit

/-- R140: energy charged; ACC shows it in 256 units, rounded down. -/
def charge (em e : Nat) (s : State) : State :=
  let a := (s.em em).acc + e
  (s.updEm em (fun x => { x with acc := a })).wr (F.FIRE_EM_EYE_ACC_ACC em) (a / 256)

/-- R140: a budget window ends. -/
def eyeWindowEnd (s : State) : State :=
  (List.range 64).foldl (fun s e =>
    (s.updEm e (fun x => { x with acc := 0, eyeHit := false })).wr (F.FIRE_EM_EYE_ACC_ACC e) 0) s

/-! ### Slot execution (R133 to R139, R149) -/

/-- The largest WINDOW among an emitter's shot slots in the copy in force (R157). -/
def wMaxOf (s : State) (e : Nat) : Nat :=
  ((s.shotSlots s.activeCopy).filter (fun p => slotEm p.2.1 == e)).foldl (fun m p => max m (slotWindow p.2.2)) 0

/-- R149: a window opens on one channel; a front end that the sequencer holds apart takes no part (R392). -/
def openWin (id : Nat) (acc : State × List ChanWin) (ch : Nat) : State × List ChanWin :=
  let s := acc.1
  let f := s.physical ch
  let x := s.fe f
  let w : ChanWin :=
    { ch := ch
      fe := f
      cal := s.calNow f
      range := x.range
      settle := x.settle
      subst := decide (256 ≤ f) && !x.apart
      held := x.apart
      isOpen := !x.apart
      event := false
      groups := []
      excess := false
      peaks := none }
  if x.apart then (s, acc.2 ++ [w])
  else
    let s := s.leaveGap f
    (s.updFe f (fun x => { x with wins := x.wins ++ [id], settle := false }), acc.2 ++ [w])

/-- The nominal time of an executed slot, as a coarse count (R133). -/
def nominalAt (q : QueuedShot) : Nat := q.job.frameC + q.job.nominal

/-- The shot that a queued slot becomes at its fire edge: the values in force there are latched (R124, R173, R218). A
slot that does not fire stands at its nominal time, with the angles then in force. DEDUCED: log entries 39 and 51. -/
def shotOf (s : State) (q : QueuedShot) (outcome : Nat) : Shot :=
  let j := q.job
  let fires := decide (outcome ≤ 1)
  let offset : Int := if fires then q.offset else j.nominal
  let c := ((j.frameC : Int) + offset).toNat
  let here := (s.vAngleAt c, s.hAngleAt c)
  let (v, h) := if fires then here else q.angles.getD here
  { id := s.fire.nextShot
    em := j.em
    slot := j.slot
    frame := j.frame
    frameSec := j.frameSec
    frameNs := j.frameNs
    fireC := c
    offset := offset
    outcome := outcome
    code := slotCode j.word1
    position := q.position
    group := q.group
    rxMask := slotMask j.word1
    limit := slotLimit j.word1
    window := slotWindow j.word1
    width := j.width
    delay := s.rd (F.FIRE_EM_STATUS_DELAY_PS j.em)
    quality := s.rd F.TIME_STATUS_QUALITY
    forced := j.forced
    v := v.1
    h := h.1
    vInv := v.2
    hInv := h.2
    kappa := j.kappa
    closed := !fires
    closeC := c
    cut := false
    chans := []
    vals := none
    unit := none }

/-- A shot recorded. -/
def putShot (x : Shot) (s : State) : State :=
  { s with fire := { s.fire with shots := s.fire.shots ++ [x], nextShot := s.fire.nextShot + 1 } }

/-- R156: a shot at position 0 claims its group's banks. -/
def claimAt (q : QueuedShot) (s : State) : State := if q.position = 0 then s.claimBanks q.job.em q.group else s

/-- An executed slot that does not fire: its header only (R138, R186). FIRE_LATE and FIRE_CROWDED count outcomes.
DEDUCED: log entry 39. -/
def notFired (q : QueuedShot) (outcome : Nat) (s : State) : State :=
  let e := q.job.em
  let s := if outcome = 4 then s.count ⟨0x04, 2⟩ 0 else if outcome = 2 then s.count ⟨0x04, 4⟩ 0 else s
  let x := s.shotOf q outcome
  let s := (((s.claimAt q).putShot x).formClosed x).updGroup e q.group (fun g => { g with opened := g.opened - 1 })
  s.closeGroup e q.group

/-- A slot waits in the fire queue, the last to have been decided. -/
def enqueue (q : QueuedShot) (s : State) : State := { s with fire := { s.fire with queue := s.fire.queue ++ [q] } }

/-- R135: the fire edge of a slot after the edge `td` of its domain, and not before `now0` where that is given:
deferred by up to 60 ns, else CROWDED, at its nominal time. DEDUCED: log entry 39. -/
def place (now0 td : Option Nat) (q : QueuedShot) : QueuedShot :=
  let t : Int := q.job.frameC + q.raw
  let after := fun (a : Int) (c : Option Nat) (gap : Nat) => c.elim a (fun c => max a (c + gap))
  let t' := after (after t td 20) now0 0
  if 60 < t' - t then { q with
    barred := some 2
    edge := nominalAt q
    deferred := true }
  else { q with
    barred := none
    edge := t'.toNat
    offset := t' - q.job.frameC
    deferred := decide (t < t') }

/-- A slot counts for R135: it is neither LATE nor turned away. DEDUCED: log entry 39. -/
def contends (q : QueuedShot) : Bool := q.turned.isNone && (q.barred.isNone || q.barred == some 2)

/-- R135: the latest fire edge of a domain, those of its slots in the fire queue included. DEDUCED: log entry 39. -/
def domainEdge (s : State) (dom : Nat) : Option Nat :=
  (s.fire.queue.filter (fun q => q.dom == dom && q.turned.isNone && q.barred.isNone)).foldl
    (fun m q => some (m.elim q.edge (max q.edge))) (s.fire.domains.getD dom none)

/-- The slots of a domain placed anew, in the order in which they were decided, after the edge `td`. DEDUCED: log
entry 39. -/
def placeAll (now0 dom : Nat) : Option Nat → List QueuedShot → List QueuedShot
  | _, [] => []
  | td, q :: r =>
    if q.dom = dom ∧ contends q then
      let q' := place (some now0) td q
      q' :: placeAll now0 dom (if q'.barred.isNone then some (td.elim q'.edge (max q'.edge)) else td) r
    else q :: placeAll now0 dom td r

/-- R135: a slot of a domain will not fire, so those after it are deferred from the edges that are left. DEDUCED: log
entry 39. -/
def replan (dom : Nat) (s : State) : State :=
  { s with fire := { s.fire with queue := placeAll s.now dom (s.fire.domains.getD dom none) s.fire.queue } }

/-- An executed slot will not fire: its header stands at its nominal time, and waits for it (R186). DEDUCED: log entry
39. -/
def turnAway (q : QueuedShot) (outcome : Nat) (s : State) : State :=
  let s := s.replan q.dom
  if s.now < nominalAt q then s.enqueue { q with
    turned := some outcome
    edge := nominalAt q }
  else s.notFired q outcome

/-- A fire edge noted: life log (Table 17-5), blanking, last edge. Edges older than the longest filter of the pickoff
chain serve nothing (R214). DEDUCED: log entry 39. -/
def noteEdge (e c : Nat) (s : State) : State :=
  let s := (s.lifeAdd (2 + 2 * e) 1).updEm e (fun x => { x with lastFire := some c })
  { s with fire := { s.fire with edges := (c, e) :: s.fire.edges.filter (fun p => decide (c ≤ p.1 + edgeSpan)) } }

/-- The energy of a pulse of `width` quarter nanoseconds at the code that the emitter's octant holds (R140). -/
def pulseEnergy (s : State) (e width : Nat) : Nat := width * s.rd (F.FIRE_OCT_LEVEL_STATUS_CODE (e / 8))

/-- A shot that fires (R138, R140, R149). DEDUCED: log entry 39. -/
def fired (q : QueuedShot) (s : State) : State :=
  let e := q.job.em
  let x := s.shotOf q (b2n q.deferred)
  let s := ((s.claimAt q).charge e (s.pulseEnergy e q.job.width)).noteEdge e x.fireC
  let s := { s with fire := { s.fire with domains := s.fire.domains.set q.dom (some (max x.fireC ((s.fire.domains.getD q.dom none).getD 0))) } }
  let s := s.countN ⟨0x04, 0⟩ 0 1
  let s := if q.deferred then s.count ⟨0x04, 3⟩ 0 else s
  let s := if 12 ≤ q.job.width then s.updEm e (fun y => { y with evals := y.evals ++ [false] }) else s
  let chans := (bitList x.rxMask 4).map (fun k => 4 * e + k)
  let (s, ws) := chans.foldl (openWin x.id) (s, [])
  s.putShot { x with chans := ws }

/-- R138: an executed slot at its instant: Table 5-3 from order 2 on, and current before the edge (R144). DEDUCED: log
entry 39. -/
def launch (s : State) (q : QueuedShot) : State :=
  let e := q.job.em
  match q.turned with
  | some k => s.notFired q k
  | none =>
    if s.emOff e then s.turnAway q 7
    else if !s.permits.allow || s.fire.hold || q.barred == some 5 then s.turnAway q 5
    else if s.staveInhibited e then s.turnAway q 6
    else
      match q.barred with
      | some k => s.turnAway q k
      | none =>
        if !s.eyeFits e (s.pulseEnergy e q.job.width) then (s.eyeSuppress e).turnAway q 3
        else if q.pre then (s.preShort e).turnAway q 7
        else s.fired q

/-- The angles at the nominal times that have come by coarse count `t` (R186, R218). DEDUCED: log entry 51. -/
def noteNominal (t : Nat) (s : State) : State :=
  { s with fire := { s.fire with queue := s.fire.queue.map (fun q =>
      if q.angles.isNone && decide (nominalAt q ≤ t) then
        { q with angles := some (s.vAngleAt (nominalAt q), s.hAngleAt (nominalAt q)) }
      else q) } }

/-- The executed slots whose instant has come by coarse count `t`, in the order of their instants. A slot turned away
at its edge waits for its nominal time, which may have come as well; `n` bounds the slots that remain. DEDUCED: log
entry 39. -/
def launchLoop (t : Nat) : Nat → State → State
  | 0, s => s
  | n + 1, s =>
    match sortBy QueuedShot.edge (s.fire.queue.filter (fun q => decide (q.edge ≤ t))) with
    | [] => s
    | q :: _ =>
      launchLoop t n ((({ s with fire := { s.fire with queue := s.fire.queue.erase q } }).pass q.edge).launch q)

/-- R19: the fire edges due by coarse count `t` are launched. DEDUCED: log entry 39. -/
def launchDue (t : Nat) (s : State) : State :=
  if s.fire.queue.isEmpty then s else (s.noteNominal t).launchLoop t (2 * s.fire.queue.length)

/-- The command arrives at coarse count `t`: the fire edges due by then have been launched, and time has passed since
the command before it. DESIGN CHOICE: log entry 5; DEDUCED: log entry 78. -/
def arrive (t : Nat) (s : State) : State := (s.launchDue t).pass t

/-- A command that acts before the fire edges of its own instant arrives: a frame boundary (R120, R481) and an output
of the pickoff (R218). DEDUCED: log entry 39. -/
def arriveFirst (t : Nat) (s : State) : State := (if t = 0 then s else s.launchDue (t - 1)).pass t

/-- R138: a shot slot is decided: it takes its code position, and waits in the fire queue for its edge, deferred under
R135. `wMax` is the largest WINDOW of its emitter (R157). `late` says that its fire-queue entry was not complete in
time (R19); `pre` that the emitter's current-sense input exceeds OPEN_THR in the 50 ns before the edge (R144). The
other conditions of Table 5-3 are tested at its instant. DEDUCED: log entry 39. -/
def decideSlot (j : SlotJob) (wMax : Nat) (late pre : Bool) (s : State) : State :=
  let e := j.em
  let s := s.enterGroup e j.frame wMax
  let position := (s.em e).position
  let group := (s.em e).nextGroup - 1
  let d := dither (s.tab 0x04 0 (slotCode j.word1)) s.memberNo e (s.rd F.FIRE_CTRL_DITHER_MAX) position
  let raw : Int := j.nominal + d
  let dom := s.rd (F.FIRE_EM_CFG_DOMAIN e)
  let q : QueuedShot :=
    { job := j
      turned := none
      barred := if j.first && decide (raw < 0) then some 5 else if late then some 4 else none
      dom := dom
      raw := raw
      edge := j.frameC + j.nominal
      offset := raw
      deferred := false
      pre := pre
      position := position
      group := group
      angles := none }
  let s := s.updGroup e group (fun g => { g with
    shots := g.shots + 1
    opened := g.opened + 1 })
  let s := s.updEm e (fun x => { x with position := x.position + 1 })
  (s.enqueue (if q.barred.isNone then place none (s.domainEdge dom) q else q)).launchDue s.now

/-! ### Current-sense evaluation (R143, R145, R147, R148) -/

/-- R143: the result of a peak (mV) and a rise time (0.25 ns; 63 where not reached). DEDUCED: log entry 41. -/
def csResult (s : State) (e peak rise : Nat) : Nat :=
  if peak < s.rd (F.FIRE_EM_CS_CFG_OPEN_THR e) then 2
  else if s.rd (F.FIRE_EM_CS_CFG_SHORT_THR e) < peak ∧ rise < s.rd (F.FIRE_EM_CS_CFG_MIN_RISE e) then 3
  else 1

/-- R145: the run of bad results. -/
def badResult (e kind : Nat) (s : State) : State :=
  let n := (s.em e).badRun + 1
  if s.rd F.FIRE_DIAG_CTRL_FAULT_COUNT ≤ n then
    let s := s.updEm e (fun x => { x with badRun := 0 })
    if s.flag (F.FIRE_EM_STATUS_FAULT e) then s
    else
      let s := ((s.noteOff e).wr (F.FIRE_EM_STATUS_FAULT e) 1).wr (F.FIRE_EM_STATUS_FAULT_KIND e) kind
      (s.raise Irq.emitterFault).logEvent Ev.emitterFault (kind * 256 + e)
  else s.updEm e (fun x => { x with badRun := n })

/-- R148: SWEEP_BUSY clears when the last proof shot of a sweep is evaluated. -/
def sweepCheck (s : State) : State :=
  if s.fire.sweep.isEmpty && s.fire.ems.all (fun x => !x.evals.contains true) then s.wr F.FIRE_DIAG_CTRL_SWEEP_BUSY 0 else s

/-- R143: the oldest pulse of an emitter that awaits evaluation is evaluated. DEDUCED: log entry 41. -/
def csEvaluate (e peak rise : Nat) (s : State) : State :=
  match (s.em e).evals with
  | [] => s
  | proof :: r =>
    let k := s.csResult e peak rise
    let s := s.updEm e (fun x => { x with evals := r })
    let s := (s.wr (F.FIRE_EM_STATUS_LAST_RESULT e) k).wr (F.FIRE_EM_CS_LAST_PEAK e) (min peak 1023)
    let s := s.wr (F.FIRE_EM_CS_LAST_RISE e) (min rise 63)
    let s := if k = 1 then s.updEm e (fun x => { x with badRun := 0 }) else s.badResult e (k - 1)
    if proof then
      let s := s.updEm e (fun x => { x with proofDone := true })
      ((s.wr (F.FIRE_EM_STATUS_UNVER_RUN e) 0).wr (F.FIRE_EM_STATUS_UNVERIFIED e) 0).sweepCheck
    else s

/-- R147: one emitter at the end of a diagnostic interval. -/
def diagOne (s : State) (e : Nat) : State :=
  let x := s.em e
  let s :=
    if s.flag (F.FIRE_EM_STATUS_PROOF_NEEDED e) && !x.proofDone then
      let n := min (s.rd (F.FIRE_EM_STATUS_UNVER_RUN e) + 1) 3
      let s := s.wr (F.FIRE_EM_STATUS_UNVER_RUN e) n
      if n = 3 ∧ !s.flag (F.FIRE_EM_STATUS_UNVERIFIED e) then
        ((s.wr (F.FIRE_EM_STATUS_UNVERIFIED e) 1).raise Irq.emitterUnverified).logEvent Ev.emitterUnverified e
      else s
    else s
  s.updEm e (fun x => { x with proofFired := false, proofDone := false })

/-- R146, R147: a diagnostic interval ends, in a firing mode. -/
def diagIntervalEnd (s : State) : State := if s.firing then (List.range 64).foldl diagOne s else s

/-- R148: a sweep starts on the masked emitters. -/
def sweepStart (s : State) : State :=
  let m := s.rd F.FIRE_SWEEP_MASK_LO_MASK + s.rd F.FIRE_SWEEP_MASK_HI_MASK * 2 ^ 32
  let l := bitList m 64
  ({ s with fire := { s.fire with sweep := l } }).wrB F.FIRE_DIAG_CTRL_SWEEP_BUSY (!l.isEmpty)

/-! ### Kerfs and proof shots (R128, R146) -/

/-- The next nominal fire time of an emitter at or after a coarse count, over the frame taken as periodic: a slot of
the frame before may have it past that frame's end. DEDUCED: log entry 41. -/
def nextNominal (s : State) (e p : Nat) : Option Nat :=
  let len := s.rd F.FIRE_FRAME_ACTIVE_ACTIVE_NS
  let ns := ((s.shotSlots s.activeCopy).filter (fun q => slotEm q.2.1 == e)).map
    (fun q => s.fire.frameC + slotOffset q.2.1 + s.stagger e)
  let back := fun (n : Nat) => if 1 < s.fire.nextFrame then (n - p) / len * len else 0
  let cand := ns.map (fun n => if p ≤ n then n - back n else n + ceilDiv (p - n) len * len)
  cand.foldl (fun m n => match m with | some a => some (min a n) | none => some n) none

/-- R146: an emitter is skipped at a proof-shot time near its own shots, those in the fire queue included. DEDUCED:
log entry 41. -/
def proofBlocked (s : State) (e p : Nat) : Bool :=
  (s.em e).lastFire.any (fun c => decide (p ≤ c + 1500)) ||
  s.fire.queue.any (fun q => q.job.em == e && q.turned.isNone && q.barred.isNone && decide (p ≤ q.edge + 1500) && decide (q.edge ≤ p + 1500)) ||
  (match s.nextNominal e p with | some n => decide (n ≤ p + 1500 + s.rd F.FIRE_CTRL_DITHER_MAX) | none => false)

/-- Throttling or rate-floor shedding has removed an emitter's slots (R25, R26, Table 5-3). -/
def emRemoved (s : State) (e : Nat) : Bool := (s.em e).shed || (s.em e).throttled

/-- The emitters that wait for a proof shot: those due in the interval and those of a sweep. DEDUCED: log entry 41. -/
def proofDue (s : State) : List Nat :=
  (List.range 64).filter (fun e =>
    (s.flag (F.FIRE_EM_STATUS_PROOF_NEEDED e) && !(s.em e).proofFired && !s.emRemoved e) || s.fire.sweep.contains e)

/-- R146: proof shots placed at the times of a kerf, lowest emitter first. DEDUCED: log entry 41. -/
def placeProofs (s : State) : List Nat → List Nat → List (Nat × Nat)
  | [], _ => []
  | p :: ps, due =>
    match due.find? (fun e => !s.proofBlocked e p) with
    | some e => (p, e) :: placeProofs s ps (due.filter (fun k => k != e))
    | none => placeProofs s ps due

/-- The proof-shot times of a kerf of length `len` that starts at `c`. DEDUCED: log entry 41. -/
def proofTimes (c len : Nat) : List Nat :=
  if len < 100 then [] else (List.range ((len - 100) / 50 + 1)).map (fun i => c + 50 + 50 * i)

/-- R93, R111: a kerf's start is a gap start on a front end; the gap before it counts (R99). DESIGN CHOICE: log entry
34. -/
def kerfGap (s : State) (f : Nat) : State := if s.inGap f then (s.takeGap f).gapStart f else s

/-- R103, R128, R146: the next kerf of the frame begins. DEDUCED: log entry 41. -/
def kerfStart (s : State) : State :=
  match s.fire.kerfs with
  | [] => s
  | (c, len) :: r =>
    let s := { s with fire := { s.fire with kerfs := r } }
    let s := (List.range 264).foldl kerfGap s
    let n := s.now
    let s := { s with rx := { s.rx with kerfAt := some n } }
    let ps := s.placeProofs (proofTimes c len) s.proofDue
    { s with fire := { s.fire with proofs := ps, kerfEnd := c + len } }

/-- R103: the kerf ends. -/
def kerfEnd (s : State) : State :=
  match s.rx.kerfAt with
  | none => s
  | some k =>
    let n := s.now
    { s with
      rx := { s.rx with kerfAt := none, kerfSum := s.rx.kerfSum + (n - k) }
      fire := { s.fire with proofs := [] } }

/-- R146: the next proof shot placed in the kerf, under R141, R144 and Table 5-3. -/
def proofShot (pre : Bool) (s : State) : State :=
  match s.fire.proofs with
  | [] => s
  | (c, e) :: r =>
    let s := { s with fire := { s.fire with proofs := r, sweep := s.fire.sweep.filter (fun k => k != e) } }
    let energy := s.pulseEnergy e 20
    if s.emRemoved e || s.emOff e || !s.permits.allow || s.fire.hold || s.staveInhibited e then s.sweepCheck
    else if !s.eyeFits e energy then (s.eyeSuppress e).sweepCheck
    else if pre then (s.preShort e).sweepCheck
    else
      let s := (s.charge e energy).noteEdge e c
      s.updEm e (fun x => { x with proofFired := true, evals := x.evals ++ [true] })

/-! ### Exchange of the schedule copies (R131, R139) -/

/-- The shot slots of an emitter in a copy as R139 compares them: OFFSET, CODE and WINDOW, in order. -/
def emSlots (s : State) (copy e : Nat) : List Nat :=
  sortBy id (((s.shotSlots copy).filter (fun p => slotEm p.2.1 == e)).map
    (fun p => slotOffset p.2.1 * 2 ^ 32 + slotCode p.2.2 * 2 ^ 16 + slotWindow p.2.2))

/-- R131: the copies exchange roles. The emitters whose groups start anew are left in `swapGroups`. -/
def swapExchange (s : State) : State :=
  let old := s.activeCopy
  let new := 1 - old
  let lenOld := s.rd F.FIRE_FRAME_ACTIVE_ACTIVE_NS
  let lenNew := s.rd F.FIRE_FRAME_SHADOW_NS
  let es := (List.range 64).filter (fun e => lenOld != lenNew || s.emSlots old e != s.emSlots new e)
  let s := (s.wr F.FIRE_SCHED_ACTIVE new).wr F.FIRE_SCHED_PEND 0
  let s := (s.wr F.FIRE_FRAME_ACTIVE_ACTIVE_NS lenNew).wr F.FIRE_FRAME_SHADOW_NS lenOld
  let n := ((s.slotsOf new).filter (fun p => slotEn p.2.1)).length
  ({ s with fire := { s.fire with swapGroups := es } }).wr F.FIRE_SCHED_SLOTS n

end State
end Sys2Proof.Machine
end

