-- ==== Sys2Proof/Machine/Cal.lean ====
section
/-! DEFINITION. Calibration (chapter 16): triggers, octant runs, the measurements' judgement and acceptance, the pickoff
trim and the starter set. -/

namespace Sys2Proof.Machine

/-- Fault-log ADDRESS of CAL_REJECTED (R399). DEDUCED: log entry 108. -/
def rejectAddress (order kind unit : Nat) : Nat := order * 2 ^ 24 + kind * 2 ^ 16 + unit

/-- The steps of an octant run in the order of R391: front end and kind bit. -/
def calSteps (g kinds : Nat) : List (Nat × Nat) :=
  let has := fun (k : Nat) => kinds.testBit k
  ([0, 2, 1].filter has).map (fun k => (256 + g, k)) ++
  (List.range 32).flatMap (fun j => ([0, 1].filter has).map (fun k => (32 * g + j, k)))

/-- R70: the widths of a code-density run over `h` edges. -/
def cdWidths (h : Nat) (counts : List Nat) : List Nat :=
  (List.range 128).map (fun i => (roundEven (counts.getD i 0 * 2 ^ 20 : Nat) h).toNat)

/-- R70: the skews of inputs 1 to 7. DEDUCED: log entry 106. -/
def cdSkews (sums : List Int) : List Int := (List.range 7).map (fun i => roundEven (sums.getD i 0) 4096)

/-- Occupied bins of a table or of counts. DEDUCED: log entry 108. -/
def occupied (l : List Nat) : Nat := (l.filter (fun w => 0 < w)).length

/-- Limits 2 to 5 of Table 3-1 on a table of widths over bins that hold `counts` edges, or over its own non-zero
widths: the first that fails, else 0. DEDUCED: log entry 108. -/
def widthLimits (counts ws : List Nat) : Nat :=
  let occ := occupied counts
  let held := (counts.reverse.dropWhile (fun h => h == 0)).length
  if occ < 112 ∨ 128 < occ then 2
  else if ws.getD 0 0 = 0 then 3
  else if (ws.take (held - 1)).any (fun w => w == 0) then 4
  else if ws.any (fun w => 24576 < w) then 5
  else 0

/-- Limit 6 of Table 3-1. DEDUCED: log entry 106. -/
def skewsOk (sk : List Int) : Bool := sk.all (fun x => decide (-127 ≤ x) && decide (x ≤ 127))

/-- Two fine-time tables agree within a tolerance, for every code. DEDUCED: log entry 106. -/
def tablesNear (tol : Nat) (a b : List Nat) : Bool :=
  (List.range 128).all (fun f =>
    decide (((fineTime false a f : Nat) : Int) - fineTime false b f ≤ tol) &&
    decide (((fineTime false b f : Nat) : Int) - fineTime false a f ≤ tol))

/-- Two lists of integers agree within a tolerance, place by place. DEDUCED: log entry 106. -/
def listNear (tol : Int) (a b : List Int) : Bool := (a.zip b).all (fun p => decide (p.1 - p.2 ≤ tol) && decide (p.2 - p.1 ≤ tol))

/-- The mean of two values, rounded (R397). -/
def mean2 (a b : Int) : Int := roundEven (a + b) 2

/-- R70, step 3: TRIM after an attempt has found `occ` occupied bins. Which way the line's delay moves the count is
the part's. DESIGN CHOICE: log entry 26. -/
def trimStep (occ trim : Nat) : Nat :=
  if decide (occ < 120) = Config.trimUp then min 63 (trim + 1) else trim - 1

/-- R70, step 3: TRIM at the end of the trim search, from the occupied bins of each attempt in order; `left` attempts
may still be made. DEDUCED: log entry 106. -/
def trimSearch : Nat → Nat → List Nat → Nat
  | left + 2, trim, occ :: r => if 120 ≤ occ ∧ occ ≤ 126 then trim else trimSearch (left + 1) (trimStep occ trim) r
  | _, trim, _ => trim

/-- The amplitude of a TIMING pulse (R395): threshold T0 in force in mV over the transimpedance of the range in kΩ
(Table 4-1), at amplitude `n`. -/
def timingAmpl (t0 : Int) (range n : Nat) : Nat := min 255 (ceilDiv (3 * t0.toNat * 2 ^ n) (4 * (2 * 4 ^ range)))

/-- Strictly increasing. DEDUCED: log entry 106. -/
def strictUp : List Int → Bool
  | a :: b :: r => decide (a < b) && strictUp (b :: r)
  | _ => true

/-- What judging a measurement gives. -/
inductive CalVerdict where
  /-- Rejected: the order of the failing limit. -/
  | reject (order : Nat)
  /-- Plausible; R397 asks for a repeat. -/
  | again (v : CalFirst)
  /-- Accepted: the value that takes effect. -/
  | accept (v : CalFirst)
  deriving Repr

namespace State

/-! ### Pending runs and starts (R387 to R389) -/

/-- Kinds of an octant's pending run. DEDUCED: log entry 105. -/
def calPend (s : State) (g : Nat) : Option Nat := (s.cal.pend.find? (fun p => p.1 == g)).map (fun p => p.2)

/-- Kinds added to an octant's pending run, or a run becomes pending. DEDUCED: log entry 105. -/
def addPend (g kinds : Nat) (s : State) : State :=
  let l := match s.calPend g with
    | some _ => s.cal.pend.map (fun p => if p.1 = g then (g, p.2 ||| kinds) else p)
    | none => s.cal.pend ++ [(g, kinds)]
  ({ s with cal := { s.cal with pend := l } }).wr (F.CAL_OCT_STATUS_PENDING g) 1

/-- An octant has a run in progress. -/
def calBusy (s : State) (g : Nat) : Bool := s.flag (F.CAL_OCT_STATUS_BUSY g)

/-- The modes in which runs are made (R388, R389). -/
def calMode (s : State) : Bool := s.mode == Mode.config || s.firing

/-- R389: the first start condition that does not hold, as WAIT shows it. -/
def calWait (s : State) (g : Nat) : Nat :=
  if 3 < s.rd F.TIME_STATUS_QUALITY then 1
  else if s.mode = Mode.scan ∧ s.flag (F.RX_OCT_XBAR_SUBST_EN g) then 2
  else if (match s.calRun (g / 4) with | some r => r.oct != g | none => false) then 3
  else if !s.calMode then 4
  else 0

/-- WAIT of every octant, as a read finds it. -/
def refreshWait (s : State) : State :=
  (List.range 8).foldl (fun s g => s.wr (F.CAL_OCT_STATUS_WAIT g) (if (s.calPend g).isSome then s.calWait g else 0)) s

/-- R387: the triggers of an octant, tested at a result of one of its sensors. DEDUCED: log entry 105. -/
def calTest (g : Nat) (s : State) : State :=
  if (s.mode = Mode.scan ∨ s.mode = Mode.calibrate) ∧ s.flag F.CAL_CTRL_AUTO_EN then
    let kinds := s.rd F.CAL_CTRL_AUTO_KINDS % 8
    let sum := s.rdS (F.THERM_TEMP_TEMP (3 * g)) + s.rdS (F.THERM_TEMP_TEMP (3 * g + 1)) + s.rdS (F.THERM_TEMP_TEMP (3 * g + 2))
    let d := sum - 3 * s.rdS (F.CAL_OCT_STATUS_T_LAST g)
    let far := decide (3 * (s.rd F.CAL_CTRL_CAL_DELTA : Int) < d) || decide (3 * (s.rd F.CAL_CTRL_CAL_DELTA : Int) < -d)
    if far && decide (kinds ≠ 0) && !s.calBusy g then s.addPend g kinds else s
  else s

/-! ### Pickoff runs (R401) -/

/-- R401: a pending pickoff run starts while the chain runs. -/
def pkoPoll (s : State) : State :=
  if s.flag F.CAL_DEV_PKO_PEND && s.flag F.ANGLE_STATUS_RUNNING && !s.flag F.CAL_DEV_PKO_BUSY then
    (({ s with cal := { s.cal with
        pko := PkoSums.init
        pkoFirst := none } }).wr F.CAL_DEV_PKO_PEND 0).wr F.CAL_DEV_PKO_BUSY 1
  else s

/-- R401: the trigger of a pickoff run, tested at a result of a die sensor. -/
def pkoTest (s : State) : State :=
  if (s.mode = Mode.scan ∨ s.mode = Mode.calibrate) ∧ s.flag F.CAL_CTRL_AUTO_EN ∧ bitOf (s.rd F.CAL_CTRL_AUTO_KINDS) 3 ∧
      !s.flag F.CAL_DEV_PKO_BUSY then
    let d := s.dieSum - 24 * s.rdS F.CAL_DEV_PKO_T_LAST
    let lim : Int := 24 * s.rd F.CAL_CTRL_CAL_DELTA
    (if lim < d ∨ lim < -d then s.wr F.CAL_DEV_PKO_PEND 1 else s).pkoPoll
  else s

/-! ### The octant run (R390 to R392) -/

/-- CAL_OCT_STATUS.FE of a front end. -/
def calFeCode (f : Nat) : Nat := if 256 ≤ f then 32 else f % 32

/-- The front end that CAL_OCT_STATUS.FE of an octant shows. -/
def calFeShown (s : State) (g : Nat) : Nat :=
  let c := s.rd (F.CAL_OCT_STATUS_FE g)
  if c < 32 then 32 * g + c else 256 + g

/-- The measurement of a step before its first pulse: INJ at AMPL 255, TIMING at eight amplitudes (R394, R395).
DEDUCED: log entry 33. -/
def measStart (s : State) (f kind : Nat) : Option CalMeas :=
  if kind = 0 then none
  else
    let t0 := ((s.fe f).thr.getD 0 0 : Int) + (s.fe f).delta
    let range := (s.fe f).range
    some {
      n := s.rd F.CAL_RUNCFG_N
      ampls := if kind = 2 then [255] else (List.range 8).map (timingAmpl t0 range)
      parts := []
      count := 0
      sum := 0
      sumSq := 0
      since := s.now
      late := false }

/-- The measurement made again from its beginning (R397). -/
def measAgain (t : Nat) (m : CalMeas) : CalMeas := { m with
  parts := []
  count := 0
  sum := 0
  sumSq := 0
  since := t
  late := false }

/-- A step of kind `kind` on front end `f` begins: it takes the values in force (R391, R395), for TIMING with the
injector's path delay. DEDUCED: log entry 106. -/
def stepBegin (u f kind : Nat) (r : CalRun) (s : State) : State :=
  let g := r.oct
  let path := if kind = 1 then roundEven (s.rd (F.RX_OCT_INJ_STATUS_REF_PS g) * 512 : Nat) 1000 else 0
  let ns := s.rd (F.RX_OCT_INJ_TIME_DELAY_NS g)
  let fine := s.rd (F.RX_OCT_INJ_TIME_DELAY_FINE g)
  s.putRun u (some { r with
    began := true
    temp := s.octMean g
    delayNs := ns
    delayFine := fine
    ref := 512 * (ns : Int) + 16 * fine + path
    ofsStep := s.rd F.CAL_LIMITS_OFS_STEP
    walkStep := s.rd F.CAL_LIMITS_WALK_STEP
    nativeTdc := !s.dll
    cdLog2 := s.rd F.TDC_CTRL_CD_LOG2
    meas := s.measStart f kind
    first := none })

/-- The run of a half ends: T_LAST is set and journalled (R391). -/
def runEnd (u : Nat) (r : CalRun) (s : State) : State :=
  let g := r.oct
  let s := ((s.putRun u none).statGive u).wr (F.RX_OCT_INJ_CTRL_OWNED g) 0
  let s := (s.wr (F.RX_OCT_XBAR_CAL_HOLD g) 0).wr (F.CAL_OCT_STATUS_BUSY g) 0
  let s := (s.wr (F.CAL_OCT_STATUS_FE g) 0x3F).clearIn F.CAL_STATUS_BUSY_OCT g
  let s := s.wrS (F.CAL_OCT_STATUS_T_LAST g) r.start
  s.journal [⟨5, 4 * 2 ^ 24 + g, [ofS 32 r.start]⟩]

/-- R71, R110: outside SCAN the spare's own code-density run is passed over while the spare is routed, or about to be.
DEDUCED: log entry 105. -/
def spareTaken (s : State) (g f kind : Nat) : Bool :=
  s.mode != Mode.scan && decide (256 ≤ f) && kind == 0 && ((s.routedCh g).isSome || (s.rxOct g).switch.isSome)

/-- R392: how the run reaches its next front end: by takeover in SCAN, else by holding the front end apart once no
window is open on it. DEDUCED: log entry 105. -/
def runPoll (u : Nat) (s : State) : State :=
  match s.calRun u with
  | none => s
  | some r0 =>
    let g := r0.oct
    let idle := (s.rxOct g).switch.isNone
    let r := match r0.todo with
      | (f, k) :: l => if s.spareTaken g f k then { r0 with todo := l } else r0
      | [] => r0
    if !s.calBusy g || r0.began then s
    else
      match r.todo with
      | [] => if s.mode = Mode.scan ∧ ((s.routedCh g).isSome ∨ !idle) then s else s.runEnd u r
      | (f, k) :: _ =>
        let s := (s.putRun u (some r)).wr (F.CAL_OCT_STATUS_FE g) (calFeCode f)
        if s.mode = Mode.scan then
          if 256 ≤ f then
            if (s.routedCh g).isNone then s.stepBegin u f k r else if idle then s.requestSwitch g .back else s
          else if s.routedCh g = some f then s.stepBegin u f k r
          else if !idle then s
          else if (s.routedCh g).isSome then s.requestSwitch g .back
          else (s.wr (F.RX_OCT_XBAR_CAL_HOLD g) 1).requestSwitch g (.toSpare f)
        else if s.inGap f then (s.updFe f (fun x => { x with apart := true })).stepBegin u f k r
        else s

/-- Both halves' runs go on as far as they can. DEDUCED: log entries 105 and 108. -/
def calPoll (s : State) : State := ((s.runPoll 0).runPoll 1).pkoPoll

/-- R389, R390: the sensor conversions are done; the start temperature is captured and the steps begin, unless a start
condition no longer holds: the run then stays pending. DEDUCED: log entry 105. -/
def runBegin (u : Nat) (r : CalRun) (s : State) : State :=
  let g := r.oct
  if s.calWait g ≠ 0 then s.putRun u none
  else
  let kinds := (s.calPend g).getD r.kinds
  let steps := calSteps g kinds
  let s := { s with cal := { s.cal with pend := s.cal.pend.filter (fun p => p.1 != g) } }
  let s := s.putRun u (some { r with kinds := kinds, start := s.octMean g, todo := steps, began := false })
  let s := (s.wr (F.CAL_OCT_STATUS_PENDING g) 0).wr (F.CAL_OCT_STATUS_BUSY g) 1
  let s := (s.wr (F.CAL_OCT_STATUS_KINDS g) kinds).setIn F.CAL_STATUS_BUSY_OCT g
  let s := s.wr (F.CAL_OCT_STATUS_FE g) (match steps with | (f, _) :: _ => calFeCode f | [] => 0x3F)
  let s := (if s.flag (F.RX_OCT_INJ_CTRL_RUN g) then s.injEnd g else s).wr (F.RX_OCT_INJ_CTRL_OWNED g) 1
  ((s.statTake u).count ⟨0x11, 2⟩ 0).calPoll

/-- R390: one owed conversion of the octant's die sensors has completed. DEDUCED: log entry 105. -/
def runConversion (g : Nat) (s : State) : State :=
  let u := g / 4
  match s.calRun u with
  | some r =>
    if r.oct = g ∧ 0 < r.owed then
      let r := { r with owed := r.owed - 1 }
      if r.owed = 0 then s.runBegin u r else s.putRun u (some r)
    else s
  | none => s

/-- Runs that wait for the host's injected conversion ask for theirs once it is done (R390). -/
def runRelease (s : State) (u : Nat) : State :=
  match s.calRun u with
  | some r => if r.waits then s.putRun u (some { r with waits := false, owed := 3 }) else s
  | none => s

/-- A run is owed conversions of its die sensors (R390). DEDUCED: log entry 105. -/
def calOwed (s : State) : Bool := [0, 1].any (fun u => match s.calRun u with | some r => decide (0 < r.owed) | none => false)

/-- CAL_RUN_START (R389, R390): a pending run of the octant starts. DEDUCED: log entry 105. -/
def runStart (g : Nat) (s : State) : State :=
  let s := s.refreshWait
  let earlier := (s.cal.pend.takeWhile (fun p => p.1 != g)).any (fun p => p.1 / 4 == g / 4 && s.calWait p.1 == 0)
  match s.calPend g with
  | none => s
  | some kinds =>
    if s.calWait g ≠ 0 ∨ earlier ∨ (s.calRun (g / 4)).isSome then s
    else
      let host := s.flag F.HK_STATUS_INJ_PEND && !s.calOwed
      let r : CalRun :=
        { oct := g
          kinds := kinds
          mode := s.mode
          waits := host
          owed := if host then 0 else 3
          start := 0
          todo := []
          began := false
          temp := 0
          delayNs := 0
          delayFine := 0
          ref := 0
          ofsStep := 0
          walkStep := 0
          nativeTdc := true
          cdLog2 := 0
          meas := none
          first := none }
      let s := s.putRun (g / 4) (some r)
      if host then s else s.wr F.HK_STATUS_INJ_PEND 1

/-- The step in progress of an octant's run ends: the front end is given back when its last step is done. -/
def stepEnd (g : Nat) (s : State) : State :=
  let u := g / 4
  match s.calRun u with
  | none => s
  | some r =>
    match r.todo with
    | [] => s
    | (f, _) :: rest =>
      let more := match rest with | (f', _) :: _ => f' == f | [] => false
      let s := s.putRun u (some { r with todo := rest, began := false, meas := none, first := none })
      let s := match rest with
        | (f', _) :: _ => s.wr (F.CAL_OCT_STATUS_FE g) (calFeCode f')
        | [] => s
      let s :=
        if more then s
        else if s.mode = Mode.scan then (if f < 256 ∧ s.routedCh g = some f then s.requestSwitch g .back else s)
        else s.updFe f (fun x => { x with apart := false, settle := true })
      s.calPoll

/-! ### Acceptance and rejection (R396 to R399) -/

/-- R399: a rejected result. -/
def calReject (order kind unit : Nat) (s : State) : State :=
  let s := s.count ⟨0x11, 1⟩ 0
  let s := if kind = 3 then s.wr F.CAL_DEV_PKO_REJ 1
    else s.setIn F.CAL_STATUS_REJECT_OCT (if 256 ≤ unit then unit - 256 else unit / 32)
  s.logEvent Ev.calRejected (rejectAddress order kind unit)

/-- R363, R397: results are repeated while the cord's SIZE is 5 to 8. DEDUCED: log entry 106. -/
def calRepeats (s : State) : Bool := decide (5 ≤ s.rd F.CORD_STATUS_SIZE)

/-- Whether two measurements agree within Table 16-3. DEDUCED: log entry 106. -/
def agree (a b : CalFirst) : Bool :=
  match a, b with
  | .tdc _ w1 k1, .tdc _ w2 k2 => tablesNear 4 w1 w2 && listNear 2 k1 k2
  | .timing o1 w1 k1, .timing o2 w2 k2 => listNear 4 [o1] [o2] && listNear 16 w1 w2 && listNear 8 k1 k2
  | .inj a, .inj b => listNear 10 [a] [b]
  | _, _ => false

/-- The mean of two measurements, rounded per field (R397). -/
def meanOf (a b : CalFirst) : CalFirst :=
  match a, b with
  | .tdc t1 w1 k1, .tdc t2 w2 k2 =>
    .tdc (mean2 t1 t2).toNat ((w1.zip w2).map (fun p => (mean2 p.1 p.2).toNat)) ((k1.zip k2).map (fun p => mean2 p.1 p.2))
  | .timing o1 w1 k1, .timing o2 w2 k2 =>
    .timing (mean2 o1 o2) ((w1.zip w2).map (fun p => mean2 p.1 p.2)) ((k1.zip k2).map (fun p => mean2 p.1 p.2))
  | .inj a, .inj b => .inj (mean2 a b)
  | _, b => b

/-- R397: what a measurement, with the order of the limit that it fails (0: none), leads to. -/
def verdict (s : State) (first : Option CalFirst) (fails : Nat) (v : CalFirst) : CalVerdict :=
  if fails ≠ 0 then .reject fails
  else if !s.calRepeats then .accept v
  else
    match first with
    | none => .again v
    | some a => if agree a v then .accept (meanOf a v) else .reject 0xFF

/-- The words of the skew registers of a front end, as its journal item holds them. -/
def skewWords (s : State) (f : Nat) : List Nat := [s.word (A.TDC_FE_SKEW_A f), s.word (A.TDC_FE_SKEW_B f)]

/-- Skews of inputs 1 to 7 put into force. -/
def putSkews (f : Nat) (sk : List Int) (s : State) : State :=
  let s := ((s.wrS (F.TDC_FE_SKEW_A_SKEW1 f) (sk.getD 0 0)).wrS (F.TDC_FE_SKEW_A_SKEW2 f) (sk.getD 1 0)).wrS
    (F.TDC_FE_SKEW_A_SKEW3 f) (sk.getD 2 0)
  let s := ((s.wr (F.TDC_FE_SKEW_A_SKEW0 f) 0).wrS (F.TDC_FE_SKEW_B_SKEW4 f) (sk.getD 3 0)).wrS
    (F.TDC_FE_SKEW_B_SKEW5 f) (sk.getD 4 0)
  (s.wrS (F.TDC_FE_SKEW_B_SKEW6 f) (sk.getD 5 0)).wrS (F.TDC_FE_SKEW_B_SKEW7 f) (sk.getD 6 0)

/-- A bin-width table put into force, with its origin (R75, R398). DEDUCED: log entry 128. -/
def putWidths (f : Nat) (ws : List Nat) (src : Nat) (s : State) : State :=
  ((s.putTabs 0x09 f 0 ws).wr (F.TDC_FE_STATUS_OCCUPIED f) (occupied ws)).wr (F.TDC_FE_STATUS_TABLE_SRC f) src

/-- The journal items of a bin-width table (Table 17-3). DEDUCED: log entry 31. -/
def widthItems (s : State) (f : Nat) : List JItem :=
  [⟨2, tabKey 0x09 f 0, s.tabWords 0x09 f 0 128⟩,
   ⟨5, 1 * 2 ^ 24 + f, [s.rd (F.TDC_FE_STATUS_TRIM f), s.rd (F.TDC_FE_STATUS_TABLE_SRC f)]⟩]

/-- The journal item of a front end's skews. -/
def skewItem (s : State) (f : Nat) : JItem := ⟨5, 2 * 2 ^ 24 + f, s.skewWords f⟩

/-- The journal items of a TIMING result. -/
def timingItems (s : State) (f : Nat) : List JItem :=
  [⟨1, A.ECHO_FE_OFFSET f, [s.word (A.ECHO_FE_OFFSET f)]⟩,
   ⟨1, A.ECHO_FE_TEMP f, [s.word (A.ECHO_FE_TEMP f)]⟩,
   ⟨1, A.ECHO_FE_WALK f 0, (List.range 8).map (fun n => s.word (A.ECHO_FE_WALK f n))⟩]

/-- A front end's walk put into force. -/
def putWalk (f : Nat) (w k : List Int) (s : State) : State :=
  (List.range 8).foldl (fun s n =>
    (s.wr (F.ECHO_FE_WALK_W f n) (w.getD n 0).toNat).wrS (F.ECHO_FE_WALK_WALK f n) (k.getD n 0)) s

/-- R398, R80: the value accepted on a run's step takes effect and is journalled; of a step of the compatibility mode
that is the skews alone. DEDUCED: log entry 106. -/
def calTake (f : Nat) (r : CalRun) (v : CalFirst) (s : State) : State :=
  let s := s.count ⟨0x11, 0⟩ 0
  match v with
  | .tdc trim ws sk =>
    if r.nativeTdc then
      let s := ((s.wr (F.TDC_FE_STATUS_TRIM f) trim).putWidths f ws 2).putSkews f sk
      s.journal (s.widthItems f ++ [s.skewItem f])
    else
      let s := s.putSkews f sk
      s.journal [s.skewItem f]
  | .timing o w k =>
    let s := ((s.wrS (F.ECHO_FE_OFFSET_OFFSET f) o).wrS (F.ECHO_FE_TEMP_CAL_TEMP f) r.temp).putWalk f w k
    s.journal (s.timingItems f)
  | .inj p =>
    let g := f - 256
    let s := s.wr (F.RX_OCT_INJ_STATUS_REF_PS g) (ofS 16 p)
    s.journal [⟨5, 3 * 2 ^ 24 + g, [s.rd (F.RX_OCT_INJ_STATUS_REF_PS g)]⟩]

/-- The verdict on a step of an octant's run acts. -/
def stepJudged (r : CalRun) (f kind fails : Nat) (v : CalFirst) (s : State) : State :=
  match s.verdict r.first fails v with
  | .reject order => (s.calReject order kind f).stepEnd r.oct
  | .again a => s.putRun (r.oct / 4) (some { r with
      first := some a
      meas := r.meas.map (measAgain s.now) })
  | .accept a => (s.calTake f r a).stepEnd r.oct

/-- The step of an octant's run that a result of a kind ends, with its front end. -/
def stepFor (s : State) (g kind : Nat) : Option (CalRun × Nat) :=
  match s.calRun (g / 4) with
  | some r =>
    match r.todo with
    | (f, k) :: _ => if r.oct = g ∧ r.began ∧ k = kind ∧ s.calBusy g then some (r, f) else none
    | [] => none
  | none => none

/-- The same on one front end: there is none while another front end is measured. -/
def stepOn (s : State) (g kind f : Nat) : Option CalRun :=
  match s.stepFor g kind with
  | some (r, f') => if f' = f then some r else none
  | none => none

/-! ### The three kinds of an octant (R393 to R396) -/

/-- Table 3-1: the order of the first limit that a code-density result fails, else 0. DEDUCED: log entry 106. -/
def cdFails (s : State) (f : Nat) (r : CalRun) (x : CdResult) : Nat :=
  let h := 2 ^ r.cdLog2
  let ws := cdWidths h x.counts
  let sk := cdSkews x.skews
  if !r.nativeTdc then (if skewsOk sk then 0 else 6)
  else
    let l := widthLimits x.counts ws
    let old := s.tabWords 0x09 f 0 128
    if !x.inTime || x.counts.sum != h then 1
    else if l ≠ 0 then l
    else if !skewsOk sk then 6
    else if !(old.all (fun w => w == 8192)) && !tablesNear 10 ws old then 7
    else 0

/-- CAL_TDC_STEP_DONE (R70, R80, R393): in the compatibility mode skews alone are measured. DEDUCED: log entry 106. -/
def tdcStepDone (g : Nat) (x : CdResult) (s : State) : State :=
  match s.stepFor g 0 with
  | none => s
  | some (r, f) =>
    let trim := trimSearch 8 (s.rd (F.TDC_FE_STATUS_TRIM f)) x.occ
    let ws := if r.nativeTdc then cdWidths (2 ^ r.cdLog2) x.counts else []
    s.stepJudged r f 0 (s.cdFails f r x) (.tdc trim ws (cdSkews x.skews))

/-- Whether a measurement has ended at coarse count `t`: every statistics run has reached N samples, or one has missed
its time limit, as the second value says (Table 16-2). -/
def measEnded (t kind : Nat) (m : CalMeas) : Bool × Bool :=
  let full := m.parts.length == calParts kind
  let late := m.late || (!full && decide (m.since + calLimit m.n < t))
  (full || late, late)

/-- The mean of a statistics run, LSB 2⁻¹⁷ ns (R84). -/
def partMean (m : CalMeas) (i : Nat) : Nat := (roundEven (256 * (m.parts.getD i (0, 0)).1 : Nat) m.n).toNat

/-- The standard deviation of a statistics run, LSB 2⁻¹⁷ ns (R84). -/
def partSd (m : CalMeas) (i : Nat) : Nat :=
  let p := m.parts.getD i (0, 0)
  if m.n < 2 then 0 else roundSqrt (65536 * (m.n * p.2 - p.1 * p.1)) (m.n * (m.n - 1))

/-- CAL_INJ_STEP_DONE (R394): the step is judged once its statistics run has ended. -/
def injStepDone (g f : Nat) (s : State) : State :=
  match s.stepOn g 2 f with
  | none => s
  | some r =>
    match r.meas with
    | none => s
    | some m =>
      let (ended, late) := measEnded s.now 2 m
      let p := roundEven (((partMean m 0 : Int) - 256 * r.ref) * 1000) (256 * 512) - Config.loopPs g
      let fails := if late then 1 else if listNear 500 [p] [Config.starter 11 g 0] then 0 else 2
      if ended then s.stepJudged r f 2 fails (.inj p) else s

/-- The walk in force holds its reset values. -/
def walkAtReset (s : State) (f : Nat) : Bool :=
  (List.range 8).all (fun n => s.word (A.ECHO_FE_WALK f n) == (resetWord (A.ECHO_FE_WALK f n)).toNat)

/-- The order of the first limit of Table 16-2 that a TIMING result fails, else 0. -/
def timingFails (s : State) (r : CalRun) (f : Nat) (late : Bool) (sd : Nat) (o : Int) (w k : List Int) : Nat :=
  let old := (List.range 8).map (fun n => s.rdS (F.ECHO_FE_WALK_WALK f n))
  if late then 1
  else if 4096 < sd then 2
  else if !strictUp w then 3
  else if !(k.all (fun v => decide (-4096 ≤ v) && decide (v ≤ 4096))) then 4
  else if !listNear r.ofsStep [o] [s.rdS (F.ECHO_FE_OFFSET_OFFSET f)] then 5
  else if !s.walkAtReset f && !listNear r.walkStep k old then 6
  else 0

/-- CAL_TIMING_STEP_DONE (R395, Table 16-2): the step is judged once its statistics runs have ended. -/
def timingStepDone (g f : Nat) (s : State) : State :=
  match s.stepOn g 1 f with
  | none => s
  | some r =>
    match r.meas with
    | none => s
    | some m =>
      let (ended, late) := measEnded s.now 1 m
      let t := fun (n : Nat) => (partMean m (2 * n) : Int)
      let w := (List.range 8).map (fun n => roundEven (partMean m (2 * n + 1) : Nat) 256)
      let k := (List.range 8).map (fun n => roundEven (t n - t 7) 256)
      let o := Config.starter 3 f 0 + roundEven (t 7 - 256 * (r.ref + Config.starter 4 f 0)) 256
      if ended then s.stepJudged r f 1 (s.timingFails r f late (partSd m 14) o w k) (.timing o w k) else s

/-! ### Abandoned runs (R400) -/

/-- The converter settles or converts for an octant run (R390). -/
def hkSensor (s : State) : Bool :=
  match s.hk.phase with
  | .settling (.sensor _) => true
  | .converting (.sensor _) => true
  | _ => false

/-- R400: a takeover that a run in SCAN has in progress or has asked for is undone: it switches back under R111, or at
once where the front ends are off. A switch that the host has asked for stays (R109). DEDUCED: log entry 108. -/
def takeoverBack (g : Nat) (s : State) : State :=
  let waits := (s.rxOct g).switch
  if s.flag (F.RX_OCT_XBAR_SUBST_EN g) then s
  else if (s.routedCh g).isNone then (if waits.isSome then s.dropSwitch g else s)
  else if !s.rx.powered then (s.dropSwitch g).switchBack g
  else if waits = some .back then s
  else s.requestSwitch g .back

/-- A run in progress on a half is abandoned; one that has not captured its temperature stays pending, and no further
conversion is owed to it; INJ_PEND stays set until the one in progress completes (R371). DEDUCED: log entries 105 and
108. -/
def runAbandon (cause u : Nat) (s : State) : State :=
  match s.calRun u with
  | none => s
  | some r =>
    let g := r.oct
    if !s.calBusy g then
      let s := s.putRun u none
      if 0 < r.owed ∧ !s.calOwed ∧ !s.hkSensor then s.wr F.HK_STATUS_INJ_PEND 0 else s
    else
      let f := match r.todo with | (f, _) :: _ => f | [] => s.calFeShown g
      let s := ((s.putRun u none).statGive u).wr (F.RX_OCT_INJ_CTRL_OWNED g) 0
      let s := (s.wr (F.RX_OCT_XBAR_CAL_HOLD g) 0).wr (F.CAL_OCT_STATUS_BUSY g) 0
      let s := (s.wr (F.CAL_OCT_STATUS_FE g) 0x3F).clearIn F.CAL_STATUS_BUSY_OCT g
      let s := if (s.fe f).apart then s.updFe f (fun x => { x with apart := false, settle := true }) else s
      let s := if r.mode = Mode.scan then s.takeoverBack g else s
      let s := (s.setIn F.CAL_STATUS_ABANDONED_OCT g).count ⟨0x11, 3⟩ 0
      s.logEvent Ev.calAbandoned (cause * 2 ^ 24 + f)

/-- A pickoff run in progress is abandoned. DEDUCED: log entry 108. -/
def pkoAbandon (cause : Nat) (s : State) : State :=
  if s.flag F.CAL_DEV_PKO_BUSY then
    ((s.wr F.CAL_DEV_PKO_BUSY 0).count ⟨0x11, 3⟩ 0).logEvent Ev.calAbandoned (cause * 2 ^ 24 + 0x1FF)
  else s

/-- R400: every run in progress is abandoned: cause 1 time quality, 2 mode change, 3 SAFE. DEDUCED: log entry 108. -/
def calAbandon (cause : Nat) (s : State) : State := ((s.runAbandon cause 0).runAbandon cause 1).pkoAbandon cause

/-- R41, R400: a quality of WARMUP or worse abandons runs. -/
def calQuality (s : State) : State := if 3 < s.rd F.TIME_STATUS_QUALITY then s.calAbandon 1 else s

/-- R400, R401: the chain has stopped during a pickoff run. -/
def pkoChain (s : State) : State := if s.flag F.ANGLE_STATUS_RUNNING then s.pkoPoll else s.pkoAbandon 2

/-! ### The pickoff trim (R401, Table 16-2) -/

/-- PKO_RUN_DONE: the run's first measurement, or its second, is judged once it has its 2²⁰ pairs. DEDUCED: log entry
108. -/
def pkoDone (second : Bool) (s : State) : State :=
  let x := s.cal.pko
  if !s.flag F.CAL_DEV_PKO_BUSY || decide (x.pairs < 2 ^ 20) || s.cal.pkoFirst.isSome != second then s
  else
    let gain : Int := (roundSqrt (65536 * 65536 * x.sqA) (max x.sqB 1) : Int) - 65536
    let ofs := roundEven (x.sumA - x.sumB) (max x.whole 1)
    let fails :=
      if x.sqB < 1000000 * 2 ^ 20 then 1
      else if !(listNear 1311 [gain] [0] && listNear 64 [ofs] [0]) then 2
      else if !(listNear 328 [gain] [s.rdS F.ANGLE_TRIM_GAIN] && listNear 16 [ofs] [s.rdS F.ANGLE_TRIM_OFFSET]) then 3
      else 0
    let finish := fun (s : State) =>
      let t := s.dieMean
      let s := (s.wr F.CAL_DEV_PKO_BUSY 0).wrS F.CAL_DEV_PKO_T_LAST t
      (s.journal [⟨5, 5 * 2 ^ 24, [ofS 32 t]⟩]).pkoPoll
    let take := fun (g o : Int) (s : State) =>
      let s := ((s.count ⟨0x11, 0⟩ 0).wrS F.ANGLE_TRIM_GAIN g).wrS F.ANGLE_TRIM_OFFSET o
      s.journal [⟨1, A.ANGLE_TRIM, [s.word A.ANGLE_TRIM]⟩]
    if fails ≠ 0 then finish (s.calReject fails 3 0x1FF)
    else if !s.calRepeats then finish (take gain ofs s)
    else
      match s.cal.pkoFirst with
      | none => { s with cal := { s.cal with
          pko := PkoSums.init
          pkoFirst := some (gain, ofs) } }
      | some (g, o) =>
        if listNear 33 [gain] [g] && listNear 2 [ofs] [o] then finish (take (mean2 gain g) (mean2 ofs o) s)
        else finish (s.calReject 0xFF 3 0x1FF)

/-! ### The starter set (R402) -/

/-- The starter values of kind TDC of one front end put into force. DESIGN CHOICE: log entry 107. -/
def starterTdc (s : State) (f : Nat) : State :=
  let ws := (List.range 128).map (fun i => (Config.starter 0 f i).toNat % 2 ^ 16)
  let s := (s.wr (F.TDC_FE_STATUS_TRIM f) ((Config.starter 1 f 0).toNat)).putWidths f ws 1
  s.putSkews f ((List.range 7).map (fun i => Config.starter 2 f (i + 1)))

/-- The starter values of kind TIMING of one front end put into force. DESIGN CHOICE: log entry 107. -/
def starterTiming (s : State) (f : Nat) : State :=
  let s := (s.wrS (F.ECHO_FE_OFFSET_OFFSET f) (Config.starter 3 f 0)).wrS (F.ECHO_FE_TEMP_CAL_TEMP f) (Config.starter 6 f 0)
  s.putWalk f ((List.range 8).map (fun n => Config.starter 9 f n)) ((List.range 8).map (fun n => Config.starter 10 f n))

/-- REF_PS of one octant's starter set put into force. DESIGN CHOICE: log entry 107. -/
def starterInj (s : State) (g : Nat) : State := s.wr (F.RX_OCT_INJ_STATUS_REF_PS g) (ofS 16 (Config.starter 11 g 0))

/-- ANGLE_TRIM of the starter set put into force. DESIGN CHOICE: log entry 107. -/
def starterPko (s : State) : State :=
  (s.wrS F.ANGLE_TRIM_GAIN (Config.starter 12 0 0)).wrS F.ANGLE_TRIM_OFFSET (Config.starter 13 0 0)

/-- The front ends of an octant, the spare last (Table 0-4). -/
def octFes (g : Nat) : List Nat := (List.range 32).map (fun j => 32 * g + j) ++ [256 + g]

/-- The mean of the starter CAL_TEMP values of some front ends. DESIGN CHOICE: log entry 107. -/
def starterTemp (fs : List Nat) : Int := roundEven ((fs.map (fun f => Config.starter 6 f 0)).sum) fs.length

/-- R402: the starter values of the named kinds of one octant: the state and the journal items. DESIGN CHOICE: log
entry 107. -/
def starterOct (kinds : Nat) (acc : State × List JItem) (g : Nat) : State × List JItem :=
  let s := acc.1
  let fs := octFes g
  let s := if kinds.testBit 0 then fs.foldl starterTdc s else s
  let s := if kinds.testBit 1 then fs.foldl starterTiming s else s
  let s := if kinds.testBit 2 then s.starterInj g else s
  let t := starterTemp fs
  let s := if kinds % 8 = 0 then s else s.wrS (F.CAL_OCT_STATUS_T_LAST g) t
  let items :=
    (if kinds.testBit 0 then fs.flatMap (fun f => s.widthItems f ++ [s.skewItem f]) else []) ++
    (if kinds.testBit 1 then fs.flatMap (fun f => s.timingItems f) else []) ++
    (if kinds.testBit 2 then [⟨5, 3 * 2 ^ 24 + g, [s.rd (F.RX_OCT_INJ_STATUS_REF_PS g)]⟩] else []) ++
    (if kinds % 8 = 0 then [] else [⟨5, 4 * 2 ^ 24 + g, [ofS 32 t]⟩])
  (s, acc.2 ++ items)

/-- CAL_STARTER's effect on the addressed octants, and on the trim for bit 3 (R402). DESIGN CHOICE: log entry 107. -/
def calStarter (gs : List Nat) (kinds : Nat) (s : State) : State :=
  let (s, items) := gs.foldl (starterOct kinds) (s, [])
  if kinds.testBit 3 then
    let t := starterTemp (List.range 264)
    let s := s.starterPko.wrS F.CAL_DEV_PKO_T_LAST t
    let s := s.journal (items ++ [⟨1, A.ANGLE_TRIM, [s.word A.ANGLE_TRIM]⟩, ⟨5, 5 * 2 ^ 24, [ofS 32 t]⟩])
    s.calendarAdd 4 kinds
  else (s.journal items).calendarAdd 4 kinds

end State
end Sys2Proof.Machine
end

