-- ==== Sys2Proof/Machine/Cam.lean ====
section
/-! DEFINITION. Camera ports and image pipeline (chapter 11): frames and malformed input, stripe buffers and turns, the
pipeline stages, the mid-exposure time stamp, camera control relays and the frame trailer. -/

namespace Sys2Proof.Machine

/-! ### The camera context (Table 11-4) -/

def ctxWidth (c : List Nat) : Nat := bitsOf (c.getD 0 0) 28 16
def ctxHeight (c : List Nat) : Nat := bitsOf (c.getD 0 0) 11 0
def ctxGlobal (c : List Nat) : Bool := bitOf (c.getD 1 0) 9
def ctxRaw12 (c : List Nat) : Bool := bitOf (c.getD 1 0) 8
def ctxBayer (c : List Nat) : Nat := bitsOf (c.getD 1 0) 7 6
def ctxScale (c : List Nat) : Nat := bitsOf (c.getD 1 0) 5 4
def ctxXfer (c : List Nat) : Bool := bitOf (c.getD 1 0) 3
def ctxMat709 (c : List Nat) : Bool := bitOf (c.getD 1 0) 2
def ctxFull (c : List Nat) : Bool := bitOf (c.getD 1 0) 1
/-- BLACK_φ and GAIN_φ. -/
def ctxBlack (c : List Nat) (ph : Nat) : Nat := bitsOf (c.getD (2 + ph / 2) 0 / 2 ^ (16 * (ph % 2))) 11 0
def ctxGain (c : List Nat) (ph : Nat) : Nat := bitsOf (c.getD (4 + ph / 2) 0 / 2 ^ (16 * (ph % 2))) 15 0
/-- m_rk, row-major. -/
def ctxMatrix (c : List Nat) (i : Nat) : Int := toS 16 (c.getD (6 + i) 0)
def ctxFsToL0 (c : List Nat) : Int := toS 32 (c.getD 15 0)
def ctxLineNs (c : List Nat) : Nat := bitsOf (c.getD 16 0) 23 0

/-- The downscale factor s. -/
def ctxFactor (c : List Nat) : Nat := 2 ^ ctxScale c

/-- A word has no bit set outside a mask. -/
def onlyBits (w mask : Nat) : Bool := w &&& mask == w

/-- Table 11-4: whether a context is valid. -/
def ctxOk (c : List Nat) : Bool :=
  let w := ctxWidth c
  let h := ctxHeight c
  onlyBits (c.getD 0 0) 0x1FFF0FFF && onlyBits (c.getD 1 0) 0x3FE && onlyBits (c.getD 2 0) 0x0FFF0FFF &&
  onlyBits (c.getD 3 0) 0x0FFF0FFF && (List.range 9).all (fun i => onlyBits (c.getD (6 + i) 0) 0xFFFF) &&
  onlyBits (c.getD 16 0) 0xFFFFFF && (List.range 15).all (fun i => c.getD (17 + i) 0 == 0) &&
  decide (64 ≤ w) && decide (w ≤ 4096) && w % 8 == 0 && decide (64 ≤ h) && decide (h ≤ 3072) && h % 8 == 0 &&
  decide (ctxScale c < 3) && (ctxGlobal c || (decide (1 ≤ ctxLineNs c) && decide (ctxLineNs c ≤ 1000000)))

/-! ### Pipeline stages (Table 11-3) -/

/-- The CFA phase of a pixel. -/
def cfaPhase (line col : Nat) : Nat := 2 * (line % 2) + col % 2

/-- The colour (0 R, 1 G, 2 B) of a phase under BAYER. -/
def cfaColour (bayer ph : Nat) : Nat :=
  match bayer with
  | 0 => [0, 1, 1, 2].getD ph 0
  | 1 => [1, 0, 2, 1].getD ph 0
  | 2 => [1, 2, 0, 1].getD ph 0
  | _ => [2, 1, 1, 0].getD ph 0

/-- Black level and white balance of one 12-bit pixel. -/
def whiteBalance (c : List Nat) (ph x12 : Nat) : Nat :=
  min 4095 (roundEven ((x12 - ctxBlack c ph : Nat) * ctxGain c ph : Nat) 1024).toNat

/-- A row of white-balanced pixels. -/
def balanceRow (c : List Nat) (line : Nat) (row : List Nat) : List Nat :=
  row.mapIdx (fun col x => whiteBalance c (cfaPhase line col) x)

/-- An index mirrored at the edges 0 and n − 1, which keeps its CFA phase. DESIGN CHOICE: log entry 63. -/
def mirror (n : Nat) (i : Int) : Nat :=
  let m : Int := n
  (if i < 0 then -i else if m ≤ i then 2 * (m - 1) - i else i).toNat

/-- A row's 5 values around a column. DESIGN CHOICE: log entry 63. -/
def around (width : Nat) (row : List Nat) (x : Nat) : List Nat :=
  [-2, -1, 0, 1, 2].map (fun (d : Int) => row.getD (mirror width ((x : Int) + d)) 0)

/-- R276: a missing colour at a site, interpolated along the direction of the smaller gradient, or the average of both
when they are equal. DESIGN CHOICE: log entry 63. -/
def interpolate (bayer y x k : Nat) (nb : List Nat) : Nat :=
  let grad := fun (d : Nat) => Config.gradient d k bayer (y % 2) (x % 2) nb
  let value := fun (d : Nat) => min 4095 (Config.along d k bayer (y % 2) (x % 2) nb)
  if grad 0 < grad 1 then value 0
  else if grad 1 < grad 0 then value 1
  else (roundEven (value 0 + value 1 : Nat) 2).toNat

/-- R, G and B of a site from the five rows around it. DESIGN CHOICE: log entry 63. -/
def demosaicAt (c : List Nat) (y x : Nat) (rows : List (List Nat)) : List Nat :=
  let own := cfaColour (ctxBayer c) (cfaPhase y x)
  let nb := rows.flatMap (fun r => around (ctxWidth c) r x)
  [0, 1, 2].map (fun k => if k = own then nb.getD 12 0 else interpolate (ctxBayer c) y x k nb)

/-- The colour matrix on one site. -/
def colourMatrix (c : List Nat) (rgb : List Nat) : List Nat :=
  [0, 1, 2].map (fun r => (clampI 0 4095 (roundEven
    ((List.range 3).map (fun k => ctxMatrix c (3 * r + k) * (rgb.getD k 0 : Int))).sum 1024)).toNat)

/-- A colour's mean over a block of sites. DEDUCED: log entry 65. -/
def blockMean (k : Nat) (sites : List (List Nat)) : Nat :=
  (roundEven ((sites.map (fun p => p.getD k 0)).sum : Nat) sites.length).toNat

/-- The twentieth root of num ÷ den rounded down, in units of 2⁻⁴⁰, by binary digits. PRESUMED: log entry 64. -/
def root20 (num den : Nat) : Nat → Nat → Nat
  | 0, r => r
  | k + 1, r => root20 num den k (if (r + 2 ^ k) ^ 20 * den ≤ num * 2 ^ 800 then r + 2 ^ k else r)

/-- The unit of a transferred value: 1 is 4,095 × 2⁴⁰. PRESUMED: log entry 64. -/
def xferUnit : Nat := 4095 * 2 ^ 40

/-- The transfer stage: the BT.709 opto-electronic transfer function of c ÷ 4,095, or the value itself. PRESUMED: log
entry 64. -/
def transfer (bt709 : Bool) (c : Nat) : Int :=
  if !bt709 then (c * 2 ^ 40 : Nat)
  else if c * 1000 < 18 * 4095 then (9 * c * 2 ^ 39 : Nat)
  else ((1099 * 4095 * root20 (c ^ 9) (4095 ^ 9) 41 0 : Nat) - (99 * 4095 * 2 ^ 40 : Nat)) / 1000

/-- K_r and K_b in 1/10,000 (BT.601, BT.709). PRESUMED: log entry 64. -/
def lumaK (c : List Nat) : Int × Int := if ctxMat709 c then (2126, 722) else (2990, 1140)

/-- Y in units of 1/(10,000 × xferUnit). -/
def lumaOf (c : List Nat) (p : List Int) : Int :=
  let (kr, kb) := lumaK c
  kr * p.getD 0 0 + (10000 - kr - kb) * p.getD 1 0 + kb * p.getD 2 0

/-- An 8-bit quantised value. PRESUMED: log entry 64. -/
def quant8 (num : Int) (den : Nat) : Nat := (clampI 0 255 (roundEven num den)).toNat

/-- Y of a pixel, quantised. PRESUMED: log entry 64. -/
def lumaCode (c : List Nat) (p : List Int) : Nat :=
  let d := 10000 * xferUnit
  if ctxFull c then quant8 (255 * lumaOf c p) d else quant8 (219 * lumaOf c p + (16 * d : Nat)) d

/-- Cb (k = 2) or Cr (k = 0) of a pair of pixels, quantised. PRESUMED: log entry 64. -/
def chromaCode (c : List Nat) (k : Nat) (p q : List Int) : Nat :=
  let (kr, kb) := lumaK c
  let m := 10000 - (if k = 2 then kb else kr)
  let d := (4 * m).toNat * xferUnit
  let v := 10000 * (p.getD k 0 + q.getD k 0) - lumaOf c p - lumaOf c q
  quant8 ((if ctxFull c then 255 else 224) * v + (128 * d : Nat)) d

/-- The pairs of an output line as Cb, Y0, Cr, Y1. -/
def packPairs (c : List Nat) : List (List Int) → List Nat
  | p :: q :: r => chromaCode c 2 p q :: lumaCode c p :: chromaCode c 0 p q :: lumaCode c q :: packPairs c r
  | _ => []

/-- Lines that a frame has for the pipeline: those kept, or HEIGHT once it has ended without a cut. -/
def CamFrame.total (f : CamFrame) : Nat :=
  if f.closed && !f.cut then ctxHeight f.ctx else f.lines.length

/-- A line of a frame: as kept, or filled with BLACK of each phase. -/
def CamFrame.row (f : CamFrame) (y : Nat) : List Nat :=
  match f.lines[y]? with
  | some r => r
  | none => (List.range (ctxWidth f.ctx)).map (fun x => ctxBlack f.ctx (cfaPhase y x))

/-- The colour-corrected sites of an image line, given the image's number of lines. -/
def CamFrame.sites (f : CamFrame) (h y : Nat) : List (List Nat) :=
  let rows := [-2, -1, 0, 1, 2].map (fun (d : Int) =>
    let yy := mirror h ((y : Int) + d)
    balanceRow f.ctx yy (f.row yy))
  (List.range (ctxWidth f.ctx)).map (fun x => colourMatrix f.ctx (demosaicAt f.ctx y x rows))

/-- Pixels of output line `o` after the transfer. -/
def CamFrame.outPixels (f : CamFrame) (h o : Nat) : List (List Int) :=
  let s := ctxFactor f.ctx
  let rows := (List.range s).map (fun i => f.sites h (s * o + i))
  (List.range (ctxWidth f.ctx / s)).map (fun x =>
    let block := rows.flatMap (fun r => (r.drop (s * x)).take s)
    [0, 1, 2].map (fun k => transfer (ctxXfer f.ctx) (blockMean k block)))

/-! ### The trailer (R282, R283, Tables 11-5 and 11-6) -/

/-- R278: t_mid in ns of device time. -/
def CamFrame.midNs (f : CamFrame) : Int :=
  f.tFs + ctxFsToL0 f.ctx + (if ctxGlobal f.ctx then 0 else (ctxHeight f.ctx / 2 * ctxLineNs f.ctx : Nat)) -
    (f.exp * 500 : Nat)

/-- The bounds of zone `i` of 8 over `n`. -/
def zoneBounds (n i : Nat) : Nat × Nat := (n / 8 * i, if i = 7 then n else n / 8 * (i + 1))

/-- Mean Y of a zone, LSB 1/256; an empty zone reads 0. DEDUCED: log entry 65. -/
def zoneMean (luma : List (List Nat)) (width r q : Nat) : Nat :=
  let (y0, y1) := zoneBounds luma.length r
  let (x0, x1) := zoneBounds width q
  let ys := ((luma.drop y0).take (y1 - y0)).flatMap (fun l => (l.drop x0).take (x1 - x0))
  if ys.isEmpty then 0 else (roundEven (256 * ys.sum : Nat) ys.length).toNat

/-- The 416 bytes of a frame trailer. -/
def CamFrame.trailer (f : CamFrame) (port : Nat) : List Nat :=
  let width := ctxWidth f.ctx / ctxFactor f.ctx
  let mid := (f.midNs % ((2 ^ 48 * 1000000000 : Nat) : Int)).toNat
  let ys := f.luma.flatten
  let hist := (List.range 64).map (fun i => (ys.filter (fun y => y / 4 == i)).length)
  let zones := (List.range 64).map (fun i => zoneMean f.luma width (i / 8) (i % 8))
  word64Bytes (f.seq * 2 ^ 32 + f.settings * 2 ^ 16 + f.flags) ++
  word64Bytes (mid / 1000000000 * 2 ^ 16) ++
  word64Bytes (mid % 1000000000 * 2 ^ 32 + f.fn % 2 ^ 16) ++
  word64Bytes (width * 2 ^ 51 + f.luma.length * 2 ^ 38 + ctxScale f.ctx * 2 ^ 36 + port * 2 ^ 35 + f.exp % 2 ^ 20) ++
  hist.flatMap wordBytes ++ zones.flatMap (fun z => [z / 256 % 256, z % 256])

namespace State

/-! ### Ports -/

/-- A port. DEDUCED: log entry 65. -/
def camPort (s : State) (p : Nat) : CamPort := s.cam.ports.getD p ⟨0, false, [], [], false, none, [], 0, 0, 0, []⟩

/-- Lines in a port's stripe buffer (R271). -/
def camBuffered (x : CamPort) : Nat := (x.frames.map (fun f => f.lines.length - f.used)).sum

/-- The open frame of a port. -/
def camOpen (x : CamPort) : Option CamFrame :=
  match x.frames.getLast? with
  | some f => if f.closed then none else some f
  | none => none

/-- The state with a port replaced; BUF_LINES and FRAME_OPEN follow. -/
def putCam (p : Nat) (x : CamPort) (s : State) : State :=
  let s := { s with cam := { s.cam with ports := s.cam.ports.set p x } }
  (s.wr (F.CAM_PORT_STATUS_BUF_LINES p) (camBuffered x)).wrB (F.CAM_PORT_STATUS_FRAME_OPEN p) (camOpen x).isSome

/-- The state with a port changed. -/
def updCam (p : Nat) (f : CamPort → CamPort) (s : State) : State := s.putCam p (f (s.camPort p))

/-- The state with the last frame of a port changed. -/
def updLastFrame (p : Nat) (f : CamFrame → CamFrame) (s : State) : State :=
  s.updCam p (fun x => { x with frames := updAt x.frames (x.frames.length - 1) f })

/-- R268: a port receives while EN is 1 and the mode is CONFIG, SCAN, CALIBRATE or SERVICE. DEDUCED: log entry 61. -/
def camReceives (s : State) (p : Nat) : Bool :=
  s.flag (F.CAM_PORT_CFG_EN p) && (s.mode == Mode.config || s.firing)

/-- The context words that table 0x08 holds for a port. -/
def camTable (s : State) (p : Nat) : List Nat := s.tabWords 0x08 0 (32 * p) 32

/-! ### The pipeline's turns (R271, R272) -/

/-- R272: a port is ready. -/
def camReady (s : State) (p : Nat) : Bool :=
  let x := s.camPort p
  let closed := match x.frames with | f :: _ => f.closed && decide (f.used < f.total) | [] => false
  if s.flag F.CAM_CTRL_MUX then closed || decide (1 ≤ camBuffered x) else closed || decide (16 ≤ camBuffered x)

/-- The next turn, preferring port `p`; none while no port is ready. -/
def camNext (p : Nat) (s : State) : State :=
  let t := if s.camReady p then some p else if s.camReady (1 - p) then some (1 - p) else none
  { s with cam := { s.cam with turn := t, taken := 0 } }

/-- A waiting pipeline takes the first port to become ready. -/
def camStart (s : State) : State := if s.cam.turn.isNone then s.camNext 0 else s

/-- The camera region of a port's output. DEDUCED: log entry 65. -/
def camRegion (s : State) (p : Nat) : Option Nat := s.regionOfStream (p + 1)

/-- Output lines of a frame that can be delivered: those whose neighbourhood is complete. DESIGN CHOICE: log entry
62. -/
def outReady (f : CamFrame) : Nat :=
  let s := ctxFactor f.ctx
  if f.closed && decide (f.total ≤ f.used) then f.total / s else (f.used - 2) / s

/-- Output line `o` of a port's oldest frame is delivered (R276, R282). DESIGN CHOICE: log entry 62. -/
def deliverLine (p : Nat) (s : State) (o : Nat) : State :=
  let x := s.camPort p
  match x.frames with
  | [] => s
  | f :: r =>
    let h := if f.closed then f.total else ctxHeight f.ctx
    let px := f.outPixels h o
    let s := s.putCam p { x with frames := { f with luma := f.luma ++ [px.map (lumaCode f.ctx)] } :: r }
    let final := f.closed && decide (o + 1 = f.total / ctxFactor f.ctx)
    match s.camRegion p with
    | some n => s.admitLine n f.seq o final (packPairs f.ctx px)
    | none => s

/-- R282: a frame whose lines are all processed ends with its trailer. DEDUCED: log entry 65. -/
def finishFrame (p : Nat) (s : State) : State :=
  let x := s.camPort p
  match x.frames with
  | [] => s
  | f :: r =>
    if f.closed && decide (f.total ≤ f.used) then
      let s := s.putCam p { x with frames := r }
      match s.camRegion p with
      | some n => s.admitTrailer n f.seq (f.trailer p)
      | none => s
    else s

/-- Every output line of the oldest frame that is ready is delivered; a frame that is processed whole ends. DEDUCED:
log entry 61. -/
def flushFrame (p : Nat) (s : State) : State :=
  match (s.camPort p).frames with
  | [] => s
  | f :: _ => (((List.range (outReady f)).drop f.luma.length).foldl (deliverLine p) s).finishFrame p

/-- The frames of a port in turn, as far as they are processed. -/
def flushFrames (p : Nat) (s : State) : State :=
  (s.camPort p).frames.foldl (fun s _ => s.flushFrame p) s

/-- The pipeline consumes lines of the oldest frame of the port whose turn it is, within the turn. DESIGN CHOICE: log
entry 62. -/
def camConsume (p n : Nat) (s : State) : State :=
  let x := s.camPort p
  match x.frames with
  | [] => s
  | f :: r =>
    if s.cam.turn ≠ some p then s
    else
      let lim := if s.flag F.CAM_CTRL_MUX then f.total - f.used else min (f.total - f.used) (64 - s.cam.taken)
      let k := min n lim
      let g := { f with used := f.used + k }
      let s := s.putCam p { x with frames := g :: r }
      let now := s.now
      let load := (now, k * ctxWidth f.ctx) :: s.cam.load.filter (fun q => decide (now < q.1 + 1000000000))
      let s := { s with cam := { s.cam with taken := s.cam.taken + k, load := load } }
      s.flushFrames p

/-- CAM_STATUS.LOAD at this instant. -/
def refreshLoad (s : State) : State :=
  let px := ((s.cam.load.filter (fun q => decide (s.now < q.1 + 1000000000))).map (fun q => q.2)).sum
  s.wr F.CAM_STATUS_LOAD (min (px / 1000000) 1023)

/-- PIPELINE_TURN (R272): the turn in progress ends, and the next port is chosen. DESIGN CHOICE: log entry 62. -/
def pipelineTurn (s : State) : State :=
  match s.cam.turn with
  | none => s
  | some p =>
    let open' := match (s.camPort p).frames with | f :: _ => !f.closed | [] => false
    if s.flag F.CAM_CTRL_MUX && open' then s
    else (s.camConsume p 4096).camNext (1 - p)

/-! ### Frames (R270, R273, R278) -/

/-- A frame closes to further lines. `cut` says that it was cut (R269, R273), else Table 11-2 pads it. DEDUCED: log
entry 61. -/
def closeFrame (p : Nat) (cut : Bool) (s : State) : State :=
  match camOpen (s.camPort p) with
  | none => s
  | some f =>
    let short := !cut && decide (f.got < ctxHeight f.ctx)
    let flags := f.flags ||| b2n cut ||| b2n short * 2 ^ 3
    let s := s.updLastFrame p (fun f => { f with closed := true, cut := cut, flags := flags })
    let s := if flags / 2 % 2 ^ 5 ≠ 0 then s.count ⟨0x0A, 4⟩ p else s
    let s := if cut then (s.count ⟨0x0A, 5⟩ p).wr (F.CAM_PORT_STATUS_OVERFLOW p) 1 else s
    (s.flushFrames p).camStart

/-- FE_MISSING marked on the open frame, which closes (Table 11-2). DEDUCED: log entry 61. -/
def closeMissing (p : Nat) (s : State) : State :=
  if (camOpen (s.camPort p)).isSome then
    (s.updLastFrame p (fun f => { f with flags := f.flags ||| 2 ^ 5 })).closeFrame p false
  else s

/-- The settings in force for a frame: the newest ID in force at its start (R280). -/
def settingsFor (x : CamPort) (seq : Nat) : CamSettings :=
  ((x.settings.filter (fun i => decide (i.from0 ≤ seq))).getLast?).getD ⟨0, 0, false, 0⟩

/-- CSI_FRAME_START (R270, R275, R277, R278, R280). -/
def csiFrameStart (p fn vc : Nat) (s : State) : State :=
  if !s.camReceives p then s
  else if vc ≠ s.rd (F.CAM_PORT_CFG_VC p) then s.count ⟨0x0A, 1⟩ p
  else
    let s := s.closeMissing p
    let x := s.camPort p
    let fps := s.rd (F.CAM_PORT_CFG_FPS_MAX p)
    let fast := match x.lastFs with | some c => decide ((s.now - c) * fps < 1000000000) | none => false
    let s := (if fast then s.count ⟨0x0A, 6⟩ p else s).count ⟨0x0A, 0⟩ p
    let ctx := if x.ctxNew then s.camTable p else x.ctx
    let set := settingsFor x x.nextSeq
    let f : CamFrame :=
      { seq := x.nextSeq % 2 ^ 32
        settings := set.id
        exp := set.exp
        flags := b2n set.nacked * 2 ^ 8 + b2n x.ctxNew * 2 ^ 9 + s.rd F.TIME_STATUS_QUALITY * 2 ^ 10
        fn := fn
        tFs := s.sec * 1000000000 + s.nsec
        ctx := ctx
        got := 0
        lines := []
        used := 0
        closed := false
        cut := false
        luma := [] }
    let keep := match x.settings.reverse.find? (fun i => decide (i.from0 ≤ x.nextSeq)) with
      | some i => x.settings.dropWhile (fun j => j != i)
      | none => x.settings
    let s := s.putCam p { x with
      nextSeq := x.nextSeq + 1
      opened := true
      frames := x.frames ++ [f]
      ctx := ctx
      ctxNew := false
      lastFs := some s.now
      settings := keep }
    (s.wr (F.CAM_PORT_SEQ_SEQ p) f.seq).wr (F.CAM_PORT_STATUS_ID_NOW p) set.id

/-- A line padded to WIDTH by its last two pixels, or cut to it; an empty line is filled with BLACK (Table 11-2).
DEDUCED: log entry 61. -/
def fitLine (c : List Nat) (y : Nat) (px : List Nat) : List Nat :=
  let w := ctxWidth c
  let n := px.length
  if n = 0 then (List.range w).map (fun x => ctxBlack c (cfaPhase y x))
  else if w ≤ n then px.take w
  else px ++ (List.range (w - n)).map (fun i => px.getD (if n = 1 then 0 else n - 2 + i % 2) 0)

/-- CSI_LINE (R266, R267, R270, R273): a long packet. `used` is how many lines the pipeline has consumed, in the turn
in progress, since the last event. DEDUCED: log entry 61. -/
def csiLine (p vc dt : Nat) (pixels : List Nat) (crcOk : Bool) (used : Nat) (s : State) : State :=
  let s := match s.cam.turn with | some q => s.camConsume q used | none => s
  if !s.camReceives p then s
  else
    let x := s.camPort p
    let ctx := match camOpen x with | some f => f.ctx | none => x.ctx
    if vc ≠ s.rd (F.CAM_PORT_CFG_VC p) ∨ dt ≠ (if ctxRaw12 ctx then 0x2C else 0x2B) then s.count ⟨0x0A, 1⟩ p
    else
      match camOpen x with
      | none => s.count ⟨0x0A, 3⟩ p
      | some f =>
        let n := pixels.length
        let w := ctxWidth ctx
        let fl := b2n (decide (n < w)) * 2 + b2n (decide (w < n)) * 4 + b2n (!crcOk) * 2 ^ 6
        if 64 ≤ camBuffered x then s.closeFrame p true
        else if ctxHeight ctx ≤ f.got then
          s.updLastFrame p (fun f => { f with got := f.got + 1, flags := f.flags ||| fl ||| 2 ^ 4 })
        else
          let px := fitLine ctx f.got (pixels.map (fun v => if ctxRaw12 ctx then v % 4096 else v % 1024 * 4))
          (s.updLastFrame p (fun f => { f with got := f.got + 1, lines := f.lines ++ [px], flags := f.flags ||| fl })).camStart

/-- CSI_FRAME_END (R270): a frame end packet. DEDUCED: log entry 61. -/
def csiFrameEnd (p vc : Nat) (s : State) : State :=
  if !s.camReceives p then s
  else if vc ≠ s.rd (F.CAM_PORT_CFG_VC p) then s.count ⟨0x0A, 1⟩ p
  else
    let x := s.camPort p
    if (camOpen x).isSome then s.closeFrame p false
    else if !x.opened then s
    else s.count ⟨0x0A, 3⟩ p

/-- CSI_SHORT_PACKET_IGNORED (R266). DEDUCED: log entry 61. -/
def csiIgnored (p : Nat) (s : State) : State := if s.camReceives p then s.count ⟨0x0A, 1⟩ p else s

/-- SOT_ERROR (R267). -/
def sotError (p : Nat) (s : State) : State := if s.camReceives p then s.wr (F.CAM_PORT_STATUS_SOT_ERR p) 1 else s

/-- CSI_HDR_ECC_ERROR (R267). -/
def hdrEcc (p : Nat) (s : State) : State :=
  if s.camReceives p then
    let s := s.count ⟨0x0A, 2⟩ p
    if (camOpen (s.camPort p)).isSome then s.updLastFrame p (fun f => { f with flags := f.flags ||| 2 ^ 7 }) else s
  else s

/-- FE_TIMEOUT (Table 11-2). -/
def feTimeout (p : Nat) (s : State) : State := if s.camReceives p then s.closeMissing p else s

/-! ### Enabling (R268, R269) -/

/-- R269: EN has been written from 0 to 1. DEDUCED: log entry 66. -/
def camEnable (p : Nat) (s : State) : State :=
  let e := s.rd (F.CAM_CCI_EXP_EXP_US p)
  (s.updCam p (fun x => { x with nextSeq := 0, opened := false, lastFs := none,
                                 settings := [⟨0, e, false, 0⟩] })).wr (F.CAM_CCI_STATUS_ID p) 0

/-- R269: EN has been written to 0, or the device leaves the receiving modes. DEDUCED: log entry 66. -/
def camClose (p : Nat) (s : State) : State := s.closeFrame p true

/-- R269, R449: both ports close. DEDUCED: log entry 66. -/
def camCloseAll (s : State) : State := (s.camClose 0).camClose 1

/-! ### Camera control (R279 to R281) -/

/-- CCI_GO's refusal, as a status (R279). -/
def cciStatus (s : State) (p : Nat) : Nat :=
  if s.flag (F.CAM_CCI_CTRL_BUSY p) then St.busy
  else if !s.camReceives p then St.mode
  else St.ok

/-- R279: the relay issues the next write of its list. -/
def cciIssue (p : Nat) (s : State) : State :=
  let x := s.camPort p
  let i := x.cciOut.length
  let w : CciWrite := ⟨s.rd (F.CAM_CCI_DATA_ADDR p i), s.rd (F.CAM_CCI_DATA_REG p i), s.rd (F.CAM_CCI_DATA_DATA p i),
    [100, 400, 1000].getD (s.rd (F.CAM_PORT_CFG_CCI_KHZ p)) 0⟩
  s.putCam p { x with cciOut := x.cciOut ++ [w] }

/-- R279: a relay starts, with the first write. -/
def cciStart (p : Nat) (s : State) : State :=
  let old := s.rd (F.CAM_CCI_STATUS_ID p)
  let id := if old = 65535 then 1 else old + 1
  let x := s.camPort p
  let prev := match x.settings.getLast? with | some i => i.exp | none => 0
  let exp := if s.flag (F.CAM_CCI_CTRL_KEEP_EXP p) then prev else s.rd (F.CAM_CCI_EXP_EXP_US p)
  let s := (s.putCam p { x with
    cciLeft := s.rd (F.CAM_CCI_CTRL_COUNT p)
    cciExp := exp
    cciId := id
    cciOut := [] }).cciIssue p
  ((s.wr (F.CAM_CCI_STATUS_ID p) id).wr (F.CAM_CCI_CTRL_BUSY p) 1).wr (F.CAM_CCI_STATUS_DONE p) 0

/-- R280, R281: a relay completes. -/
def cciComplete (p : Nat) (nacked : Bool) (s : State) : State :=
  let x := s.camPort p
  let from0 := if x.opened then x.nextSeq - 1 + s.rd (F.CAM_PORT_CFG_LATENCY p) else 0
  let i : CamSettings := ⟨x.cciId, x.cciExp, nacked, from0⟩
  (s.putCam p { x with settings := x.settings ++ [i], cciLeft := 0 }).wr (F.CAM_CCI_CTRL_BUSY p) 0

/-- CCI_WRITE_DONE (R280, R281). -/
def cciWriteDone (p : Nat) (ack : Bool) (s : State) : State :=
  if !s.flag (F.CAM_CCI_CTRL_BUSY p) then s
  else if ack then
    let s := s.bump (F.CAM_CCI_STATUS_DONE p)
    let k := (s.camPort p).cciLeft - 1
    if k = 0 then s.cciComplete p false else (s.updCam p (fun x => { x with cciLeft := k })).cciIssue p
  else
    let s := (s.wr (F.CAM_CCI_STATUS_NACK p) 1).raise Irq.camCciFail
    let s := s.logEvent Ev.camCciFail (p * 2 ^ 8 + s.rd (F.CAM_CCI_STATUS_DONE p))
    s.cciComplete p true

end State
end Sys2Proof.Machine
end

