-- ==== Sys2Proof/Machine/Net.lean ====
section
/-! DEFINITION. Network lanes and the budget check (chapter 12, R284 to R289, R301, R311 to R313). -/

namespace Sys2Proof.Machine

/-- A rational rounded up to a natural number. -/
def ratCeil (q : Rat) : Nat := ((q.num + q.den - 1) / q.den).toNat

namespace State

/-! ### Lanes (R285, R286) -/

/-- R285: a lane with EN = 1 is up in the modes of Table 1-5; in SAFE only SAFE_LANE is. -/
def laneMayUp (s : State) (l : Nat) : Bool :=
  s.flag (F.NET_LANE_CFG_EN l) && s.boot.phase == .up &&
  (s.quiet || s.firing || (s.mode == Mode.safe && s.rd F.NET_DOLEY_SAFE_LANE == l))

/-- The SGMII lane negotiates with its PHY (Table 12-1). -/
def sgmiiAn (s : State) (l : Nat) : Bool := s.rd (F.NET_LANE_CFG_MODE l) == 2 && s.flag (F.NET_LANE_CFG_AN_EN l)

/-- R285: LINK, from the PCS, auto-negotiation and the PHY's duplex. -/
def linkNow (s : State) (l : Nat) (pcs anDone half : Bool) : Bool :=
  s.laneMayUp l && pcs &&
  (s.rd (F.NET_LANE_CFG_MODE l) == 0 || !s.flag (F.NET_LANE_CFG_AN_EN l) || anDone) && !(s.sgmiiAn l && half)

/-- LINK of a lane changes: it is counted and NET_LINK raised (R285); a loss cuts the frame in progress (R307). -/
def setLink (l : Nat) (up : Bool) (s : State) : State :=
  if s.flag (F.NET_LANE_STATUS_LINK l) = up then s
  else
    let s := (((s.wrB (F.NET_LANE_STATUS_LINK l) up).raise Irq.netLink).count ⟨0x0B, 4⟩ l)
    if up then s else s.abortTx l

/-- R286: the PCS of a lane gains or loses lock; at a loss the equaliser starts from mid-range settings, unless
EQ_FREEZE holds every tap. DEDUCED: log entry 74. -/
def pcsLock (l : Nat) (pcs : Bool) (s : State) : State :=
  let x := s.laneSt l
  if x.pcs && !pcs && !s.flag (F.NET_LANE_CFG_EQ_FREEZE l) then
    (s.putLane l { x with
      pcs := false
      taps := LaneSt.init.taps }).wr (F.NET_LANE_STATUS_EQ_LOCK l) 0
  else s.putLane l { x with pcs := pcs }

/-- R285: what a lane's PCS and auto-negotiation show, and the negotiated speed. DEDUCED: log entry 74. -/
def laneChange (l : Nat) (pcs anDone half : Bool) (speed : Nat) (s : State) : State :=
  let m := s.rd (F.NET_LANE_CFG_MODE l)
  let an := s.flag (F.NET_LANE_CFG_AN_EN l) && m != 0
  let up := s.linkNow l pcs anDone half
  let s := s.pcsLock l (pcs && s.laneMayUp l)
  let s := (s.wrB (F.NET_LANE_STATUS_AN_DONE l) (an && anDone && pcs)).wrB (F.NET_LANE_STATUS_HALF_DUP l) (s.sgmiiAn l && half && pcs)
  let s :=
    if up then
      let s := s.wr (F.NET_LANE_STATUS_SPEED l) (if m = 0 then 3 else if s.sgmiiAn l then min speed 2 else 2)
      if s.sgmiiAn l then s.putLane l { s.laneSt l with speed := some (min speed 2) } else s
    else s
  s.setLink l up

/-- A lane is taken down. -/
def laneDown (s : State) (l : Nat) : State :=
  (((s.pcsLock l false).wr (F.NET_LANE_STATUS_AN_DONE l) 0).wr (F.NET_LANE_STATUS_HALF_DUP l) 0).setLink l false

/-- Lanes that the present mode does not allow are taken down. DEDUCED: log entry 73. -/
def lanesFollow (s : State) : State :=
  (List.range 8).foldl (fun s l => if s.laneMayUp l then s else s.laneDown l) s

/-- R286: no tap has moved by more than one step for 1 ms; the settings that the loop has found are open, and
EQ_FREEZE holds those that stand. DEDUCED: log entry 74. -/
def eqLock (l : Nat) (s : State) : State :=
  if s.laneMayUp l then
    let x := s.laneSt l
    let s := if s.flag (F.NET_LANE_CFG_EQ_FREEZE l) then s
      else (s.putLane l { x with taps := (List.range 6).map (fun i => Config.eqTap i s.free) }).tick
    s.wr (F.NET_LANE_STATUS_EQ_LOCK l) 1
  else s

/-! ### Received frames (R287, R288) -/

/-- A received frame's bytes are counted, while the lane's link is up. DEDUCED: log entry 75. -/
def rxFrame (l bytes : Nat) (s : State) : State := s.countN ⟨0x0B, 2⟩ l bytes

/-- R287, R288: a frame is discarded and counted. -/
def rxPause (l bytes : Nat) (s : State) : State :=
  if s.flag (F.NET_LANE_STATUS_LINK l) then (s.rxFrame l bytes).count ⟨0x0B, 5⟩ l else s
def rxDiscard (l bytes : Nat) (s : State) : State :=
  if s.flag (F.NET_LANE_STATUS_LINK l) then (s.rxFrame l bytes).count ⟨0x0B, 6⟩ l else s

/-- R289: a control frame leaves at the end of the frame in progress, or at once. DEDUCED: log entry 71. -/
def sendControl (l : Nat) (c : CtrlFrame) (s : State) : State :=
  let x := s.laneSt l
  if (s.port l).tx.isSome then s.putLane l { x with ctrl := x.ctrl ++ [c] } else s.emitCtrl l c

/-- R288: an ARP request is answered where it asks for the lane's IPv4 address. DEDUCED: log entry 71. -/
def arpRequest (l target mac ip : Nat) (s : State) : State :=
  if !s.flag (F.NET_LANE_STATUS_LINK l) then s
  else if s.laneIp4 l ≠ 0 ∧ target = s.laneIp4 l then (s.rxFrame l 64).sendControl l ⟨.arp, mac, ip, none, 64⟩
  else s.rxDiscard l 64

/-- R288: a neighbour solicitation is answered where it asks for the lane's IPv6 address. DEDUCED: log entry 71. -/
def neighbourSolicit (l target mac ip : Nat) (s : State) : State :=
  if !s.flag (F.NET_LANE_STATUS_LINK l) then s
  else if target = s.laneIp6 l then (s.rxFrame l 90).sendControl l ⟨.neighbour, mac, ip, none, 90⟩
  else s.rxDiscard l 90

/-- R288: an echo request to the lane's address is answered, up to 100 in a second. DEDUCED: log entry 71. -/
def icmpEcho (l : Nat) (v6 : Bool) (dst mac ip bytes : Nat) (s : State) : State :=
  if !s.flag (F.NET_LANE_STATUS_LINK l) then s
  else if (if v6 then dst = s.laneIp6 l else s.laneIp4 l ≠ 0 ∧ dst = s.laneIp4 l) then
    let x := s.laneSt l
    let anew := decide (x.icmpAt + 1000000000 ≤ s.now) || x.icmpN == 0
    let n := if anew then 0 else x.icmpN
    if n < 100 then
      let x := { x with
        icmpAt := if anew then s.now else x.icmpAt
        icmpN := n + 1 }
      ((s.putLane l x).rxFrame l bytes).sendControl l ⟨.echoReply, mac, ip, none, max 64 bytes⟩
    else s.rxDiscard l bytes
  else s.rxDiscard l bytes

/-- R295, R297, R298: FLUSH_US has elapsed since the first item of a region's open datagram. -/
def flushTimeout (n : Nat) (s : State) : State := s.closeDg n true

/-- R294: the hold time of frame `k` on an echo region has ended. -/
def echoRelease (n k : Nat) (s : State) : State :=
  if s.flag (F.LAND_REGION_EN n) && s.rd (F.LAND_REGION_STREAM n) == 0 then s.releaseFrame n k else s

/-! ### Region rules (R301) -/

/-- R301: the enabled regions keep within 126 blocks, do not overlap, and stand alone for their stream and port. -/
def regionsOk (s : State) : Bool :=
  let l := s.enabledRegions
  l.all (fun n => decide (s.rd (F.LAND_REGION_BASE n) + s.rd (F.LAND_REGION_SIZE n) ≤ 126)) &&
  l.all (fun n => l.all (fun m => n == m ||
    (decide (s.rd (F.LAND_REGION_BASE n) + s.rd (F.LAND_REGION_SIZE n) ≤ s.rd (F.LAND_REGION_BASE m) ∨
      s.rd (F.LAND_REGION_BASE m) + s.rd (F.LAND_REGION_SIZE m) ≤ s.rd (F.LAND_REGION_BASE n)) &&
     !(s.rd (F.LAND_REGION_STREAM n) == s.rd (F.LAND_REGION_STREAM m) &&
       s.rd (F.LAND_REGION_PORT n) == s.rd (F.LAND_REGION_PORT m)))))

/-- R301, first case: the staves named in a copy, on ports that have no enabled echo region; the first of them. -/
def echoRegionGap (s : State) (copy : Nat) : Option Nat :=
  (List.range 64).find? (fun e =>
    (s.shotSlots copy).any (fun p => slotEm p.2.1 == e) && (s.regionFor 0 (s.echoPort e)).isNone)

/-- R301: the other cases: an enabled camera port without a region, an enabled envelope without one, an enabled region
whose destination's MAC address is 0. -/
def cameraGap (s : State) : Option Nat :=
  [0, 1].find? (fun p => s.flag (F.CAM_PORT_CFG_EN p) && (s.regionOfStream (p + 1)).isNone)
def envGap (s : State) : Option Nat :=
  [0, 1, 2, 3].find? (fun e => bitOf ((s.tabWords 0x03 0 (((b2n (bitOf (s.rd F.GEOM_ENV_STATUS_ACTIVE) e)) * 4 + e) * 40) 1).getD 0 0) 31 &&
    (s.regionOfStream 3).isNone)
def destGap (s : State) : Option Nat :=
  s.enabledRegions.find? (fun n =>
    let d := s.rd (F.LAND_REGION_DEST n)
    s.rd (F.NET_DEST_MAC_HI_MAC_HI d) == 0 && s.rd (F.NET_DEST_MAC_LO_MAC_LO d) == 0)

/-! ### The budget check (R311 to R313) -/

/-- Data rate of a lane, Mbit/s (Table 12-1, R312). -/
def laneRate (s : State) (l : Nat) : Nat :=
  match s.rd (F.NET_LANE_CFG_MODE l) with
  | 0 => 10000
  | 2 =>
    if s.sgmiiAn l then (match (s.laneSt l).speed with | some 0 => 10 | some 1 => 100 | _ => 1000) else 1000
  | _ => 1000

/-- Wire bytes per datagram outside the UDP payload (R312: O). -/
def wireExtra (s : State) (n : Nat) : Nat :=
  let d := s.rd (F.LAND_REGION_DEST n)
  38 + (if s.flag (F.NET_DEST_CFG_TAG d) then 4 else 0) + (if s.flag (F.NET_DEST_CFG_IPV6 d) then 40 else 20) + 8

/-- Frame length of a copy, ns. -/
def frameLen (s : State) (copy : Nat) : Nat :=
  if copy = s.activeCopy then s.rd F.FIRE_FRAME_ACTIVE_ACTIVE_NS else s.rd F.FIRE_FRAME_SHADOW_NS

/-- Frames per second (R312: F). -/
def frameRate (s : State) (copy : Nat) : Rat :=
  (1000000000 : Rat) / ((s.frameLen copy + (if s.rd F.ACQ_CTRL_TRIG_SRC = 1 then s.rd F.ACQ_TRIG_DELAY_NS else 0) : Nat) : Rat)

/-- Need in bytes/s of the echo stream of a port, with O and without it (R312). DEDUCED: log entry 68. -/
def echoNeed (s : State) (copy n p : Nat) : Rat × Rat :=
  let b := 8 * (s.rd F.ECHO_CTRL_FORM + 1)
  let f := s.frameRate copy
  let bytes := (((s.shotSlots copy).filter (fun q => s.echoPort (slotEm q.2.1) == p)).map
    (fun q => 16 + popcount (slotMask q.2.2) 4 * slotLimit q.2.2 * b)).sum
  let re : Rat := (bytes : Rat) * f
  let d := re / ((s.udpRoom n - 79 : Nat) : Rat) + (1000000 : Rat) / (s.rd F.LAND_CTRL_FLUSH_US : Rat)
  let rate := re + 64 * d + 16 * f
  (rate + (s.wireExtra n : Rat) * d, rate)

/-- Need of a camera port's stream (R312). DEDUCED: log entry 68. -/
def camNeed (s : State) (n p : Nat) : Rat × Rat :=
  let c := s.camTable p
  let k := ctxFactor c
  let line := 2 * ctxWidth c / k
  let lines := ctxHeight c / k
  let room := s.udpRoom n - 40
  let dgs := if line ≤ room then ceilDiv lines (room / max line 1) + 1 else lines * ceilDiv line room + 1
  let fps := s.rd (F.CAM_PORT_CFG_FPS_MAX p)
  (((fps * (lines * line + 416 + (40 + s.wireExtra n) * dgs) : Nat) : Rat),
   ((fps * (lines * line + 416 + 40 * dgs) : Nat) : Rat))

/-- The enabled envelopes, by their copies in force. DEDUCED: log entry 59. -/
def envEnabled (s : State) : Nat :=
  ([0, 1, 2, 3].filter (fun e =>
    bitOf ((s.tabWords 0x03 0 (((b2n (bitOf (s.rd F.GEOM_ENV_STATUS_ACTIVE) e)) * 4 + e) * 40) 1).getD 0 0) 31)).length

/-- Need of the envelope reports (R312). DEDUCED: log entry 59. -/
def envNeed (s : State) (copy n : Nat) : Rat × Rat :=
  let t : Rat := ((s.rd F.GEOM_SECTOR_FRAMES * s.frameLen copy : Nat) : Rat) / 1000000000
  let b := 32 + 160 * s.envEnabled
  (((b + s.wireExtra n : Nat) : Rat) / t, (b : Rat) / t)

/-- Followers present whose relayed datagrams leave on a port of the master (R357). DESIGN CHOICE: log entry 69. -/
def relayedBy (s : State) (p : Nat) : List Nat :=
  if s.flag F.CORD_STRAPS_ROLE && s.flag F.CORD_STRAPS_MASTER then
    (bitList (s.rd F.CORD_STATUS_PRESENT) 8).filter (fun m =>
      m != s.memberNo && s.rd F.CORD_RELAY_MAP_PORT / 2 ^ (3 * m) % 8 == p)
  else []

/-- Need of a region's stream, with O and without it. A stream with more than one region counts in the region that
carries it. DEDUCED: log entry 68. -/
def regionRate (s : State) (copy n : Nat) : Rat × Rat :=
  let p := s.rd (F.LAND_REGION_PORT n)
  let st := s.rd (F.LAND_REGION_STREAM n)
  match st with
  | 0 => s.echoNeed copy n p
  | 5 =>
    let l := s.relayedBy p
    ((((l.map (fun m => Config.memberFact 0 m s.free)).sum : Nat) : Rat),
     (((l.map (fun m => Config.memberFact 1 m s.free)).sum : Nat) : Rat))
  | 4 => (0, 0)
  | _ =>
    if s.regionOfStream st ≠ some n then (0, 0)
    else if st = 3 then s.envNeed copy n
    else if s.flag (F.CAM_PORT_CFG_EN (st - 1)) then s.camNeed n (st - 1)
    else (0, 0)

/-- The region's datagrams leave on CORD0 (R357). -/
def regionRelayed (s : State) (n : Nat) : Bool := s.relayedStream (s.rd (F.LAND_REGION_STREAM n))

/-- Need of a port in bytes/s (R312). DEDUCED: log entry 68. -/
def portNeed (s : State) (copy p : Nat) : Rat :=
  ((s.enabledRegions.filter (fun n => s.rd (F.LAND_REGION_PORT n) == p && !s.regionRelayed n)).map
    (fun n => (s.regionRate copy n).1)).foldl (fun a b => a + b) 0

/-- Capacity of a port, Mbit/s (R30, R312). -/
def portCap (s : State) (p : Nat) : Nat := if s.flag (F.NET_LANE_CFG_EN p) then 9 * s.laneRate p / 10 else 0

/-- Need of a follower's CORD0, bytes/s: its own relayed streams and those of every member beyond it (R357). -/
def cordNeed (s : State) (copy : Nat) : Rat :=
  if s.isFollower then
    ((s.enabledRegions.filter s.regionRelayed).map (fun n => (s.regionRate copy n).1)).foldl (fun a b => a + b) 0 +
    ((((bitList (s.rd F.CORD_STATUS_PRESENT) 8).filter (fun m => decide (s.memberNo < m))).map
      (fun m => Config.memberFact 0 m s.free)).sum : Nat)
  else 0

/-- The requester of a stream (Table 12-7). -/
def requesterOf (st : Nat) : Nat := match st with | 0 => 0 | 1 => 1 | 2 => 1 | 3 => 2 | 4 => 3 | _ => 5

/-- Requesters that can request a port: requester 4, and each with an enabled region there. -/
def canRequest (s : State) (p : Nat) : List Nat :=
  (List.range 6).filter (fun r => r == 4 || s.enabledRegions.any (fun n =>
    requesterOf (s.rd (F.LAND_REGION_STREAM n)) == r && s.rd (F.LAND_REGION_PORT n) == p && !s.regionRelayed n))

/-- R313: how long a region's items wait for the port, in s. -/
def waitTime (s : State) (n : Nat) : Rat :=
  let p := s.rd (F.LAND_REGION_PORT n)
  let own := requesterOf (s.rd (F.LAND_REGION_STREAM n))
  ((((s.canRequest p).filter (fun r => r != own)).map (fun r => (s.rd (F.LAND_BURST_BURST r) * 64 + 9042) * 8)).sum : Nat) /
    ((s.laneRate p * 1000000 : Nat) : Rat)

/-- R294: the largest stagger, and the largest WINDOW, of a copy's enabled shot slots. DEDUCED: log entry 59. -/
def maxStagger (s : State) (copy : Nat) : Nat := (s.shotSlots copy).foldl (fun m p => max m (s.stagger (slotEm p.2.1))) 0
def maxWindow (s : State) (copy : Nat) : Nat := (s.shotSlots copy).foldl (fun m p => max m (slotWindow p.2.2)) 0

/-- R313: how long an echo region holds its items, in s. -/
def holdTime (s : State) (copy n : Nat) : Rat :=
  if s.rd (F.LAND_REGION_STREAM n) = 0 then
    ((s.frameLen copy + s.maxStagger copy + 2 * s.rd F.FIRE_CTRL_DITHER_MAX + 60 + s.maxWindow copy + 20000 : Nat) : Rat) / 1000000000
  else 0

/-- R313: need of a region in bytes. DEDUCED: log entry 68. -/
def regionNeed (s : State) (copy n : Nat) : Rat :=
  (s.regionRate copy n).2 * (s.holdTime copy n + s.waitTime n) + (2 * s.udpRoom n : Nat)

/-- R275: pixels per second of the enabled camera ports. -/
def pixelRate (s : State) : Nat :=
  (([0, 1].filter (fun p => s.flag (F.CAM_PORT_CFG_EN p))).map
    (fun p => ctxWidth (s.camTable p) * ctxHeight (s.camTable p) * s.rd (F.CAM_PORT_CFG_FPS_MAX p))).sum

/-- The checks of R311 in order, as kind, index and whether they fail. -/
def budgetResults (s : State) (copy : Nat) : List (Nat × Nat × Bool) :=
  (0, 9, decide (800000000 < s.pixelRate)) ::
  ((List.range 8).map (fun p => (0, p, decide (((s.portCap p * 125000 : Nat) : Rat) < s.portNeed copy p))) ++
  [(0, 8, s.isFollower && decide (((9000 * 125000 : Nat) : Rat) < s.cordNeed copy))] ++
  s.enabledRegions.map (fun n => (1, n, decide (((s.rd (F.LAND_REGION_SIZE n) * 65536 : Nat) : Rat) < s.regionNeed copy n))))

/-- R311: every need and capacity is written. DEDUCED: log entry 70. -/
def budgetWrite (copy : Nat) (s : State) : State :=
  let s := (List.range 8).foldl (fun s p =>
    (s.wr (F.LAND_PORT_BW_NEED_MBPS p) (min 65535 (ratCeil (s.portNeed copy p * 8 / 1000000)))).wr
      (F.LAND_PORT_BW_CAP_MBPS p) (s.portCap p)) s
  (List.range 16).foldl (fun s n =>
    s.wr (F.LAND_REGION_FILL_NEED_KIB n)
      (if s.flag (F.LAND_REGION_EN n) then min 65535 (ratCeil (s.regionNeed copy n / 1024)) else 0)) s

/-- R311: the budget check of a copy. The result says whether the command is refused; the fault-log ADDRESS is then
the word of LAND_BUDGET_STATUS. DEDUCED: log entry 70. -/
def budgetCheck (copy : Nat) (s : State) : State × Bool :=
  let l := s.budgetResults copy
  let lossy := s.flag F.LAND_CTRL_LOSSY_EGRESS
  let s := (s.budgetWrite copy).tick
  match l.find? (fun r => r.2.2) with
  | some r =>
    let s := ((s.wr F.LAND_BUDGET_STATUS_FAIL 1).wr F.LAND_BUDGET_STATUS_KIND r.1).wr F.LAND_BUDGET_STATUS_INDEX r.2.1
    if lossy then (s.wr F.LAND_BUDGET_STATUS_LOSSY_ACTIVE 1, false) else (s, true)
  | none =>
    ((((s.wr F.LAND_BUDGET_STATUS_FAIL 0).wr F.LAND_BUDGET_STATUS_KIND 0).wr F.LAND_BUDGET_STATUS_INDEX 0).wr
      F.LAND_BUDGET_STATUS_LOSSY_ACTIVE 0, false)

end State
end Sys2Proof.Machine
end

