-- ==== Sys2Proof/Machine/Modes.lean ====
section
/-! DEFINITION. Modes and their transitions (chapter 19, R445 to R452): SAFE entry, the start and the end of a
transition, and what every change of mode does. -/

namespace Sys2Proof.Machine
namespace State

/-! ### Recipes end (R339, R342) -/

/-- The opcode of the step that a run is at. DEDUCED: log entry 90. -/
def stepOpcode (r : RecipeRun) : Nat := (r.steps[r.step]?).elim 0 (fun (p : RecipeStep) => p.opcode)

/-- The running recipe is gone, with what it holds. DEDUCED: log entry 90. -/
def recipeGone (s : State) : State :=
  ({ s with cmd := { s.cmd with run := none } }).wr F.CMD_RECIPE_RUNNING 0

/-- R342: a step's status other than OK ends the running recipe. DEDUCED: log entry 90. -/
def recipeFail (status : Nat) (s : State) : State :=
  match s.cmd.run with
  | none => s
  | some r =>
    ((s.recipeGone.logEntry (r.number * 256 + r.step) status 0x0A 0 0 (stepOpcode r)).count ⟨0x0D, 9⟩ 0)

/-- R342: on entry to SAFE, SELFTEST or PARK the running recipe ends with a status, and the queue is emptied. DEDUCED:
log entry 90. -/
def recipesEnd (status : Nat) (s : State) : State :=
  let s := s.recipeFail status
  ({ s with cmd := { s.cmd with queue := [] } }).wr F.CMD_RECIPE_QUEUED 0

/-! ### The schedule stops -/

/-- R449: a window that is open closes at once, with the groups captured so far. -/
def closeNow (s : State) (x : Shot) : State :=
  if x.closed then s
  else
    let n := s.now
    (s.closeShot false 0 x).updShot x.id (fun y => { y with closeC := n })

/-- A queued slot whose fire edge has not been launched is not executed (R449): it gives no header, and its code group
counts no window of it. DEDUCED: log entry 39. -/
def dropQueued (s : State) (q : QueuedShot) : State :=
  (s.updGroup q.job.em q.group (fun g => { g with opened := g.opened - 1 })).closeGroup q.job.em q.group

/-- Frames run no longer: slots, kerfs, sweeps and a triggered start that still wait are dropped; the fire queue is kept
(R446). -/
def framesStop (s : State) : State :=
  let s := s.kerfEnd
  let s := { s with
    fire := { s.fire with
      slots := []
      kerfs := []
      early := none
      running := false
      sweep := [] }
    acq := { s.acq with
      due := none
      forced := false }
    cord := { s.cord with
      later := none
      entryDue := none } }
  (s.wr F.ACQ_STATUS_TRIG_ARMED 0).wr F.FIRE_DIAG_CTRL_SWEEP_BUSY 0

/-- R449: the schedule stops at once. -/
def scheduleStop (s : State) : State :=
  let s := s.framesStop
  let q := s.fire.queue
  let s := q.foldl dropQueued { s with fire := { s.fire with queue := [] } }
  s.fire.shots.foldl closeNow s

/-- R295: once the last unit of the mode just left has been formed, held frames and open datagrams leave. DEDUCED: log
entry 73. -/
def flushIdle (s : State) : State := if !s.firing && s.fire.shots.isEmpty then s.flushAll else s

/-! ### The core supply (R20 to R22, R466) -/

/-- A voltage change is sent to the regulator as one VOUT_COMMAND, after those before it (R466). While REG_FAULT is
set none is sent, and the last acknowledged command is assumed (R22). DEDUCED: log entry 16. -/
def cmdVdd (mv : Nat) (s : State) : State :=
  if s.flag F.PWR_AVS_STATUS_REG_FAULT then s
  else
    let s := (s.wr F.PWR_AVS_STATUS_VDD_MV mv).wrB F.PWR_AVS_STATUS_AT_CEILING (mv == 850)
    if s.pwr.owed.isNone then { s with pwr := { s.pwr with owed := some mv } }
    else { s with pwr := { s.pwr with later := s.pwr.later ++ [mv] } }

/-! ### A change of mode -/

/-- Injector runs of every octant end with the power of their front ends. DEDUCED: log entry 100. -/
def injEndAll (s : State) : State := (List.range 8).foldl (fun s g => s.injEnd g) s

/-- Front ends, bias and drive levels of a mode (Table 1-5, R95, R105, R123). -/
def powerFollow (s : State) : State :=
  if s.mode == Mode.config || s.firing then s.rxPowerUp else (s.rxPowerDown.injEndAll).levelsZero

/-- A mode in which the camera ports receive (R266). -/
def receiving (s : State) : Bool := s.mode == Mode.config || s.firing

/-- The present mode is replaced, and what hangs on the mode follows. `cause` is the cause of R400. -/
def setMode (m cause : Nat) (s : State) : State :=
  let old := s.mode
  let wasFiring := s.firing
  let wasReceiving := s.receiving
  let sectors := s.sectorsRun
  let s := (s.wr F.DEV_MODE_MODE m).wr F.DEV_MODE_TRANS 0
  let s := (s.wr F.DEV_MODE_TARGET m).refreshAllow
  let s := if old = m then s else s.count ⟨0x00, 0⟩ 0
  let s := if wasFiring && !s.firing then s.scheduleStop else s
  let s := if sectors && !(m == old) then s.sectorsDrop else s
  let s := if wasReceiving && !s.receiving then s.camCloseAll else s
  let s := s.powerFollow
  let s := if old = m then s else s.calAbandon cause
  let s := s.angleRefresh
  let s := s.pkoChain
  let s := s.servoRefresh
  let s := { s with boot := { s.boot with
    exiting := false
    waking := false } }
  s.lanesFollow

/-! ### SAFE (R449) -/

/-- R449: entry to SAFE with a cause bit of SAFE_CAUSE. From PARK, and before the firmware runs, there is none.
DEDUCED: log entries 73, 121 and 122. -/
def safeEnter (cause : Nat) (s : State) : State :=
  if s.mode = Mode.park then s
  else
    match s.boot.phase with
    | .held => s
    | _ =>
      let s := (s.setPermits false).setIn F.DEV_STATUS_SAFE_CAUSE cause
      if s.mode = Mode.safe ∧ !s.flag F.DEV_MODE_TRANS then s
      else
        let s := { s with boot := { s.boot with autoScan := false } }
        let s := s.recipesEnd St.safe
        let s := (s.setMode Mode.safe 3).scheduleStop
        (s.flushIdle).raise Irq.safeEntry

/-! ### Transitions (R445, R446) -/

/-- Table 19-3: whether a MODE_SET from one mode to another is in the table. -/
def transitionListed (a b : Nat) : Bool :=
  if b = Mode.safe then a != Mode.park
  else
    match a with
    | 1 => b == Mode.standby || b == Mode.selftest
    | 2 => b == Mode.selftest || b == Mode.config || b == Mode.park
    | 3 => b == Mode.standby || b == Mode.scan || b == Mode.calibrate || b == Mode.service
    | 4 => b == Mode.config || b == Mode.standby
    | 5 => b == Mode.config || b == Mode.standby
    | 7 => b == Mode.config || b == Mode.standby
    | _ => false

/-- SCAN, CALIBRATE or SERVICE, as a target. -/
def firingMode (m : Nat) : Bool := m == Mode.scan || m == Mode.calibrate || m == Mode.service

/-- R446: an accepted MODE_SET. MODE_SET to SAFE enters it with cause HOST. -/
def startTransition (m : Nat) (s : State) : State :=
  if m = Mode.safe then s.safeEnter 4
  else
    let s := (s.wr F.DEV_MODE_TRANS 1).wr F.DEV_MODE_TARGET m
    let s := { s with
      boot := { s.boot with exiting := s.firing }
      cord := { s.cord with
        marked := 0
        entryDue := none } }
    let s := if s.mode = Mode.safe then
        ({ s with cord := { s.cord with split := false } }).wr F.DEV_STATUS_SAFE_CAUSE 0 else s
    let s := if firingMode m then s.rxPowerUp else s
    -- between two triggered frames no frame is in progress
    if s.firing && s.fire.nextFrame = 0 then s.framesStop
    else if s.firing && s.fire.early.isNone && s.rd F.ACQ_CTRL_TRIG_SRC == 1 &&
        decide (s.fire.frameC + s.rd F.FIRE_FRAME_ACTIVE_ACTIVE_NS ≤ s.now) then
      { s with
        fire := { s.fire with running := false }
        acq := { s.acq with
          due := none
          forced := false }
        cord := { s.cord with later := none } }
    else s

/-- R446, R448: the transition in progress may complete now, unless an entry to SAFE waits for the journal (R416): an
exit once every unit of the last frame is formed, an entry to PARK once the journal queue is empty, a follower's entry
at an epoch start (R354). DEDUCED: log entry 122. -/
def transitionReady (s : State) : Bool :=
  let m := s.rd F.DEV_MODE_TARGET
  s.flag F.DEV_MODE_TRANS && !s.nvs.safeWait &&
  (if s.firing then !s.fire.running && s.fire.slots.isEmpty && s.fire.queue.isEmpty && s.fire.shots.isEmpty
   else if m = Mode.park then s.nvsIdle
   else if firingMode m && s.isFollower && s.flag F.CORD_STATUS_FORMED then s.cord.entryDue == some m
   else true)

/-- Entry to SCAN, CALIBRATE or SERVICE: frames are counted from 0, every stave starts a code group (R139), a new
series of diagnostic intervals starts (R146), the rotor and raster references start (R237, R241), and an external
trigger is armed (R163). DESIGN CHOICE: log entry 37; DEDUCED: log entries 44 and 46. -/
def firingEntry (s : State) : State :=
  let s := { s with
    fire := { s.fire with
      nextFrame := 0
      running := true
      slots := []
      kerfs := []
      queue := []
      early := none
      swapGroups := [] }
    acq := { s.acq with forced := s.acq.forced && s.acq.due.isSome }
    cmd := { s.cmd with boundaries := 0 }
    cord := { s.cord with entryDue := none }
    regions := s.regions.map (fun (r : RegionSt) => { r with released := 0 }) }
  let s := (List.range 64).foldl (fun s e => s.groupEvent e 0) s
  let s := { s with fire := { s.fire with ems := s.fire.ems.map (fun (x : EmSt) => { x with
    baseGroup := x.nextGroup
    proofFired := false
    proofDone := false }) } }
  s.servoModeEntry.armTrigger.setPermits true

/-- R368: the converter stops in PARK; an injected conversion that is owed is dropped. -/
def hkStop (s : State) : State :=
  let s := { s with hk := { s.hk with
    on := false
    todo := []
    phase := .idle
    left := 0
    lateRound := false } }
  (s.wr F.HK_STATUS_RUNNING 0).wr F.HK_STATUS_INJ_PEND 0

/-- R452: entry to PARK: the life log is flushed, lanes are down, the landing and the histogram banks are discarded,
and VDD_CORE goes to PARK_MV. -/
def parkEntry (s : State) : State :=
  let s := s.lifeFlush.forecast.hkStop
  let s := (List.range 16).foldl (fun s n => s.discardRegion n) s
  let s := { s with
    acq := { s.acq with
      bins := []
      jobs := []
      lists := [] }
    time := { s.time with
      src := .none
      locked := false } }
  let s := s.cmdVdd (s.rd F.PWR_PARK_PARK_MV)
  let s := (s.wr (F.CORD_LINK_LINK 0) 0).wr (F.CORD_LINK_LINK 1) 0
  (List.range 8).foldl (fun s p => s.putPort p { s.port p with replies := [] }) s

/-- R21, R437, R443: SELFTEST begins: the core supply is commanded to 850 mV. -/
def selftestEntry (s : State) : State :=
  let n := s.now
  ({ s with boot := { s.boot with stStart := n } }).cmdVdd 850

/-- Recipes whose trigger is the entry to a mode are queued (R338). DEDUCED: log entry 122. -/
def entryRecipes (m : Nat) (s : State) : State :=
  s.triggerRecipes (fun r => r.trigger / 2 ^ 24 == 4 && r.trigger % 2 ^ 8 == m)

/-- R446: a mode transition completes. DEDUCED: log entries 25 and 122. -/
def transitionDone (s : State) : State :=
  if s.transitionReady then
    let m := s.rd F.DEV_MODE_TARGET
    let old := s.firing
    let s := if m = Mode.selftest then s.recipesEnd St.busy else if m = Mode.park then s.recipesEnd St.mode else s
    let s := s.setMode m 2
    let s := if old then s.flushAll else s
    let s := if m = Mode.park then s.parkEntry else s
    let s := if m = Mode.selftest then s.selftestEntry else s
    let s := if m = Mode.config then s.servoModeEntry else s
    let s := if firingMode m then s.firingEntry else s
    (((s.raise Irq.modeDone).entryRecipes m).calPoll)
  else s

/-- R192, R295: a unit has been formed; the flush of a mode left follows the last one. DEDUCED: log entry 60. -/
def unitFormed (e : Nat) (s : State) : State := (s.staveShotUnit e).flushIdle

end State
end Sys2Proof.Machine
end

