-- ==== Sys2Proof/Machine/Timebase.lean ====
section
/-! DEFINITION. Reference, quality, device time, PTP, PPS_IN and oscillator compensation (chapter 2). -/

namespace Sys2Proof
namespace Machine

/-- ±100 ppm around a frequency (R32, R35). -/
def near100ppm (hz f : Nat) : Bool := decide (f ≤ hz + f / 10000) && decide (hz ≤ f + f / 10000)

/-- Values of FREQ_STATE and SYNC_STATE (Table 2-4). -/
def Freq.ref : Nat := 0
def Freq.warming : Nat := 4
def Freq.xtal : Nat := 5
def Freq.none : Nat := 7
def Sync.locked : Nat := 0
def Sync.hold : Nat := 1
def Sync.acquiring : Nat := 2
def Sync.free : Nat := 3

/-- A learned bin (R58). -/
def XtalBin.learned (b : XtalBin) : Bool := decide (60 ≤ b.count)

/-- R58: the bin of a die temperature in 1/16 °C. -/
def xtalBinOf (t : Int) : Nat := (clampI 0 15 ((t + 640) / 160)).toNat

/-- The first list of numbers comes before the second. -/
def listBefore : List Nat → List Nat → Bool
  | a :: r, b :: t => decide (a < b) || (a == b && listBefore r t)
  | _, _ => false

end Machine

/-- The better of two data sets under the BMCA: of one grandmaster the nearer; else by priority1, clockClass, accuracy,
variance, priority2 and identity, the lower first (R50). -/
def PtpData.better (a b : PtpData) : Bool :=
  if a.identity = b.identity then decide (a.steps < b.steps)
  else Machine.listBefore [a.priority1, a.class0, a.accuracy, a.variance, a.priority2, a.identity]
    [b.priority1, b.class0, b.accuracy, b.variance, b.priority2, b.identity]

/-- Two data sets of one grandmaster at one distance: the identities of their senders decide (R50). -/
def PtpData.level (a b : PtpData) : Bool := a.identity == b.identity && a.steps == b.steps

namespace Machine
namespace State

/-! ### Quality (R42) -/

/-- R42: QUALITY is the larger code; a worse one abandons calibration (R41), a better one may let it start. -/
def refreshQuality (s : State) : State :=
  let q := max (s.rd F.TIME_STATUS_FREQ_STATE) (s.rd F.TIME_STATUS_SYNC_STATE)
  ((s.wr F.TIME_STATUS_QUALITY q).calQuality).calPoll

/-- FREQ_STATE follows the source that the PLL runs from (Table 2-2). -/
def freqFollow (s : State) : State :=
  let v := match s.time.src with
    | .ref => if s.flag F.TIME_STATUS_REF_WARM then Freq.ref else Freq.warming
    | .xtal => Freq.xtal
    | .none => Freq.none
  (s.wr F.TIME_STATUS_FREQ_STATE v).refreshQuality

/-! ### XTAL compensation (R58, R59) -/

/-- A bin's stored offset, ppb. DEDUCED: log entry 24. -/
def binMean (b : XtalBin) : Rat := ratDiv b.sum b.count

/-- A bin by number. DEDUCED: log entry 24. -/
def xtalBin (s : State) (n : Nat) : XtalBin := s.time.bins.getD n ⟨0, 0⟩

/-- R59: between the centres of adjacent learned bins the offset is interpolated linearly. DEDUCED: log entry 24. -/
def binCorrection (s : State) (n : Nat) (t : Int) : Rat :=
  let centre : Int := -640 + 160 * n + 80
  let m : Nat := if t < centre then n - 1 else n + 1
  let a := binMean (s.xtalBin n)
  if m ≠ n ∧ m < 16 ∧ (s.xtalBin m).learned then
    let b := binMean (s.xtalBin m)
    let d : Int := if t < centre then centre - t else t - centre
    a + (b - a) * ratDiv d 160
  else a

/-- R59: the learned bin nearest to bin `n`, the lower one on a tie. DEDUCED: log entry 24. -/
def nearestBin (s : State) (n : Nat) : Option Nat :=
  ((List.range 16).filter (fun k => (s.xtalBin k).learned)).foldl (fun b k =>
    match b with
    | some j => if max k n - min k n < max j n - min j n then some k else some j
    | none => some k) none

/-- R59: the correction at the present die temperature, ppb. DEDUCED: log entry 24. -/
def xtalCorr (s : State) : Int :=
  let t := s.dieMean
  let n := xtalBinOf t
  if (s.xtalBin n).learned then ratRound (s.binCorrection n t)
  else match s.nearestBin n with
    | some k => ratRound (binMean (s.xtalBin k))
    | none => 0

/-- R59: TIME_XTAL_COMP and TIME_XTAL_BIN15 follow the bins, the die temperature and the source. DEDUCED: log entry
24. -/
def refreshXtal (s : State) : State :=
  let map := (List.range 15).foldl (fun w n => if (s.xtalBin n).learned then setBit w n else w) 0
  let s := (s.wr F.TIME_XTAL_COMP_LEARNED_MAP map).wrB F.TIME_XTAL_BIN15_LEARNED (s.xtalBin 15).learned
  let s := s.wrB F.TIME_XTAL_COMP_LEARNED_NOW (s.xtalBin (xtalBinOf s.dieMean)).learned
  s.wrS F.TIME_XTAL_COMP_CORR_PPB (if s.time.src = PllSource.xtal then clampI (-32768) 32767 s.xtalCorr else 0)

/-- R58: the measurement of XTAL against REF_IN of one second, ppb. DEDUCED: log entry 24. -/
def xtalMeasure (ppb : Int) (s : State) : State :=
  if s.time.src = PllSource.ref ∧ s.flag F.TIME_STATUS_REF_WARM = true then
    let n := xtalBinOf s.dieMean
    let b : XtalBin := ⟨(s.xtalBin n).sum + ppb, (s.xtalBin n).count + 1⟩
    let dirty := if b.learned && !s.time.binsDirty.contains n then s.time.binsDirty ++ [n] else s.time.binsDirty
    ({ s with time := { s.time with
        bins := s.time.bins.set n b
        binsDirty := dirty } }).refreshXtal
  else s

/-- R58, R408: learned bins are journalled, at most once per hour; each bin is a group of one. DEDUCED: log entry
24. -/
def xtalJournal (s : State) : State :=
  let due := match s.time.binsAt with | some t => decide (t + 3600000000000 ≤ s.now) | none => true
  if due && !s.time.binsDirty.isEmpty && !s.journalFull then
    let items := s.time.binsDirty.map (fun n =>
      let b := s.xtalBin n
      let u := ofS 64 b.sum
      (⟨5, 6 * 2 ^ 24 + n, [u / 2 ^ 32, u % 2 ^ 32, b.count % 2 ^ 32]⟩ : JItem))
    let n := s.now
    let s := { s with time := { s.time with
      binsDirty := []
      binsAt := some n } }
    items.foldl (fun s j => s.journal [j]) s
  else s

/-! ### Sources (R34 to R40) -/

/-- The PLL moves to another input (R36): the delay-locked loops lose lock (R79), and the move is counted. DEDUCED:
log entry 18. -/
def pllSwitch (src : PllSource) (s : State) : State :=
  let ever := s.time.everRef || src == .ref
  let s := { s with time := { s.time with
    src := src
    locked := false
    everRef := ever } }
  ((s.count ⟨0x01, 3⟩ 0).unlockAll).freqFollow.refreshXtal

/-- R34: the first move to REF_IN, once it is present, valid and warm. -/
def firstSwitch (s : State) : State :=
  if s.time.src = PllSource.xtal ∧ s.time.locked = true ∧ s.time.everRef = false ∧ s.flag F.TIME_STATUS_REF_PRESENT = true ∧
      s.flag F.TIME_STATUS_REF_WARM = true then s.pllSwitch PllSource.ref
  else s

/-- R40: both inputs are lost; from then on a move to REF_IN waits for RETURN_HOLD (R38). -/
def timebaseLost (s : State) : State :=
  let s := { s with time := { s.time with
    src := .none
    locked := false
    everRef := true } }
  let s := (s.setPermits false).freqFollow
  (s.logEvent Ev.timebaseLost 0).safeEnter 1

/-- R36, R40: REF_IN is declared absent. DEDUCED: log entry 18. -/
def refAbsent (s : State) : State :=
  let s := { s.wr F.TIME_STATUS_REF_PRESENT 0 with time := { s.time with refOkSince := none } }
  if s.time.src = PllSource.ref then
    if s.time.xtalOk then ((s.pllSwitch PllSource.xtal).wr F.TIME_STATUS_REF_LOST 1).raise Irq.refLost
    else ((s.wr F.TIME_STATUS_REF_LOST 1).raise Irq.refLost).timebaseLost
  else s

/-- R35: no edge of REF_IN for 2 µs. DEDUCED: log entry 18. -/
def refLost (s : State) : State :=
  if s.flag F.TIME_STATUS_REF_PRESENT then s.refAbsent else s

/-- REF_IN is present and valid (R35); where both inputs were lost the PLL takes it (R40). -/
def refValid (s : State) : State :=
  if s.flag F.TIME_STATUS_REF_PRESENT then s
  else
    let since := if s.flag F.TIME_STATUS_REF_WARM then some s.now else none
    let s := { s.wr F.TIME_STATUS_REF_PRESENT 1 with time := { s.time with refOkSince := since } }
    if s.time.src = PllSource.none ∧ s.mode ≠ Mode.park then
      { s with time := { s.time with
        src := .ref
        everRef := true } }
    else s.firstSwitch

/-- R32, R35: a 100 µs window of REF_IN against XTAL has counted a frequency. DEDUCED: log entry 18. -/
def refWindow (hz : Nat) (s : State) : State :=
  let sel := s.rd F.TIME_REF_CTRL_REF_SEL
  let det := s.rd F.TIME_STATUS_REF_FREQ_DET
  let bad := fun (s : State) => (s.wr F.TIME_STATUS_REF_FREQ_FAULT 1).refAbsent
  if sel = 0 then
    let seen := if near100ppm hz 10000000 then 1 else if near100ppm hz 100000000 then 2 else 0
    if det ≠ 0 then if seen = det then s.refValid else bad (s.wr F.TIME_STATUS_REF_FREQ_DET 0)
    else if seen ≠ 0 then (s.wr F.TIME_STATUS_REF_FREQ_DET seen).refValid
    else bad s
  else
    let s := s.wr F.TIME_STATUS_REF_FREQ_DET 0
    if near100ppm hz (if sel = 1 then 10000000 else 100000000) then s.refValid else bad s

/-- R37, R39: a new level of REF_WARM has held for 1 ms. -/
def refWarm (level : Bool) (s : State) : State :=
  let since := if level && s.flag F.TIME_STATUS_REF_PRESENT then some s.now else none
  let s := if s.flag F.TIME_STATUS_REF_WARM = level then s
    else { s.wrB F.TIME_STATUS_REF_WARM level with time := { s.time with refOkSince := since } }
  let s := if s.time.src = PllSource.ref ∧ s.rd F.TIME_STATUS_FREQ_STATE ≠ Freq.none then s.freqFollow else s
  s.firstSwitch

/-- R36, R40: the PLL is in lock on its input. -/
def pllLock (s : State) : State :=
  if s.time.src = PllSource.none then s
  else
    let s := { s with time := { s.time with locked := true } }
    let s := if s.rd F.TIME_STATUS_FREQ_STATE = Freq.none then s.freqFollow.refreshXtal else s
    s.firstSwitch

/-- R38: REF_IN has been present, valid and warm for RETURN_HOLD. -/
def refReturn (s : State) : State :=
  if s.time.src = PllSource.xtal ∧ s.time.refOkSince.isSome = true then s.pllSwitch PllSource.ref else s

/-- R40: XTAL is declared absent. -/
def xtalFault (s : State) : State :=
  let s := { s.wr F.TIME_STATUS_XTAL_FAULT 1 with time := { s.time with xtalOk := false } }
  if s.time.src = PllSource.xtal then
    if s.flag F.TIME_STATUS_REF_PRESENT then s.pllSwitch PllSource.ref else s.timebaseLost
  else s

/-- R40: XTAL is no longer declared absent. -/
def xtalReturn (s : State) : State :=
  let s := { s with time := { s.time with xtalOk := true } }
  if s.time.src = PllSource.none ∧ s.mode ≠ Mode.park then { s with time := { s.time with src := .xtal } } else s

/-! ### Device time (R48, R49) -/

/-- R48: GO samples the offset and makes the step pending. DEDUCED: log entry 25. -/
def stepGo (s : State) : State :=
  let d : Int := (s.rdS F.TIME_STEP_SEC_STEP_SEC * 1000000000 + s.rdS F.TIME_STEP_NS_STEP_NS) * 2 ^ 40
  { s.wr F.TIME_STEP_CTRL_PENDING 1 with time := { s.time with stepDue := some d } }

/-- R48: a pending step is applied, with its telemetry record. DEDUCED: log entry 25. -/
def stepApply (s : State) : State :=
  match s.time.stepDue with
  | none => s
  | some d =>
    let sec0 := s.sec
    let ns0 := s.nsec
    let dev := (((s.time.dev : Int) + d) % ((2 ^ 48 * secUnits : Nat) : Int)).toNat
    let s := { s with time := { s.time with
      dev := dev
      stepDue := none } }
    let s := (((s.wr F.TIME_STEP_CTRL_PENDING 0).wr F.TIME_STATUS_STEPPED 1).count ⟨0x01, 0⟩ 0)
    s.telemetry [recHeader 2 5, sec0 * 2 ^ 16, ns0 * 2 ^ 32, s.sec * 2 ^ 16, s.nsec * 2 ^ 32]

/-- TIME_STEP_APPLY: outside the firing modes a pending step is applied at the next coarse period; in them it waits
for the frame boundary, and after they are left for the first period in the new mode (R48). DEDUCED: log entry 25. -/
def stepNow (s : State) : State := if s.firing then s else s.stepApply

/-- R49: device time is latched. -/
def timeLatch (s : State) : State :=
  (((s.wr F.TIME_NOW_SEC_HI_SEC_HI (s.sec / 2 ^ 32)).wr F.TIME_NOW_SEC_LO_SEC_LO (s.sec % 2 ^ 32)).wr
    F.TIME_NOW_NS_NS s.nsec).wr F.TIME_NOW_FRAC_FRAC s.frac

/-! ### Sync state (R42, R52, R53, R56) -/

/-- SYNC_STATE replaced, and the quality with it. DEDUCED: log entry 21. -/
def setSync (v : Nat) (s : State) : State := (s.wr F.TIME_STATUS_SYNC_STATE v).refreshQuality

/-- A change of SYNC_SRC: ACQUIRING, or FREE for none. It steps nothing. DEDUCED: log entry 21. -/
def syncSource (s : State) : State :=
  let s := { s with time := { s.time with
    goodRun := 0
    badRun := 0
    missRun := 0
    todSec := none
    ppsKnown := false
    parent := none
    pathDelay := 0
    syncWait := none
    lastDiff := none } }
  s.setSync (if s.rd F.TIME_SYNC_CTRL_SYNC_SRC = 0 then Sync.free else Sync.acquiring)

/-- R53: lock is lost; device time runs on. -/
def syncLost (s : State) : State :=
  let s := { s with time := { s.time with
    goodRun := 0
    badRun := 0 } }
  if s.rd F.TIME_STATUS_SYNC_STATE = Sync.locked then s.setSync Sync.hold else s

/-- R53: SYNC_HOLD_S has passed without lock. -/
def syncExpire (s : State) : State :=
  if s.rd F.TIME_STATUS_SYNC_STATE = Sync.hold then s.setSync Sync.free else s

/-- The largest slew, 500 ppm, in units of TIME_RATE_ADJ (R52). DESIGN CHOICE: log entry 19. -/
def slewMax : Int := 549755813

/-- R52, R53, R56: an offset of device time against the transmitter, 2⁻¹⁶ ns, is corrected by a step or by slewing,
and drives the lock state; `need` good ones in a row give LOCKED. DESIGN CHOICE: log entry 19; DEDUCED: log entry
21. -/
def offsetIn (need : Nat) (o : Int) (s : State) : State :=
  let s :=
    if decide (s.rd F.TIME_LOCK_STEP_THRESH_US ≤ o.natAbs / 65536000) then
      if s.time.stepDue.isSome then s
      else { s.wr F.TIME_STEP_CTRL_PENDING 1 with time := { s.time with stepDue := some (-o * 2 ^ 24) } }
    else s.wrS F.TIME_RATE_ADJ_ADJ (clampI (-slewMax) slewMax (Config.slew o (s.rdS F.TIME_RATE_ADJ_ADJ)))
  if decide (o.natAbs < s.rd F.TIME_LOCK_LOCK_NS * 65536) then
    let s := { s with time := { s.time with
      goodRun := s.time.goodRun + 1
      badRun := 0 } }
    if need ≤ s.time.goodRun ∧ s.rd F.TIME_STATUS_SYNC_STATE ≠ Sync.locked then s.setSync Sync.locked else s
  else
    let s := { s with time := { s.time with
      goodRun := 0
      badRun := s.time.badRun + 1 } }
    if 4 ≤ s.time.badRun then s.syncLost else s

/-! ### PTP (R50, R51, R53) -/

/-- The device's own port identity on a lane: the clock identity from the base MAC address, and lane + 1 (Table 2-3).
PRESUMED: log entry 129. -/
def ownIdentity (l : Nat) : Nat :=
  let mac := baseMac
  (mac / 2 ^ 24 * 2 ^ 40 + 0xFFFE * 2 ^ 24 + mac % 2 ^ 24) * 2 ^ 16 + l + 1

/-- Table 2-3: the message is one that the PTP port takes. DEDUCED: log entry 20. -/
def ptpTakes (s : State) (l : Nat) (m : PtpMsg) : Bool :=
  s.flag (F.NET_LANE_STATUS_LINK l) && s.rd F.TIME_SYNC_CTRL_SYNC_SRC == 1 && s.rd F.TIME_SYNC_CTRL_PTP_LANE == l &&
  m.transport == s.rd F.TIME_SYNC_CTRL_PTP_TRANSPORT && m.domain == s.rd F.TIME_SYNC_CTRL_PTP_DOMAIN

/-- The 802.1AS profile is selected. -/
def profileAs (s : State) : Bool := s.flag F.TIME_SYNC_CTRL_PTP_PROFILE

/-- What a lane does with a PTP message: the PTP port takes it where the message belongs to the profile (`fits`, Table
2-3), else it is discarded (R288). DEDUCED: log entry 20. -/
def ptpReceive (fits : Bool) (l : Nat) (m : PtpMsg) (f : State → State) (s : State) : State :=
  if s.ptpTakes l m && fits then f (s.rxFrame l m.bytes) else s.rxDiscard l m.bytes

/-- The message comes from the transmitter that the BMCA has chosen. DEDUCED: log entry 20. -/
def fromParent (s : State) (m : PtpMsg) : Bool :=
  match s.time.parent with
  | some p => p.identity == m.sender
  | none => false

/-- Where the device's PTP messages go: a MAC and an IP address by transport, 0 with none; `peer` for peer delay
messages. -/
def ptpDest (transport : Nat) (peer : Bool) : Nat × Nat :=
  match transport with
  | 0 => (0x01005E000181, 0xE0000181)
  | 1 => (0x333300000181, 0xFF0E * 2 ^ 112 + 0x181)
  | _ => (if peer then 0x0180C200000E else 0x011B19000000, 0)

/-- Bytes of a frame with a PTP message of `n` bytes. -/
def ptpBytes (transport n : Nat) : Nat :=
  match transport with
  | 0 => 14 + 28 + n + 4
  | 1 => 14 + 48 + n + 4
  | _ => max 64 (14 + n + 4)

/-- The device sends a PTP message: a Delay_Req of 44 bytes, or a peer delay message of 54. DEDUCED: log entry 20. -/
def ptpSend (l : Nat) (m : PtpSent) (s : State) : State :=
  let tr := s.rd F.TIME_SYNC_CTRL_PTP_TRANSPORT
  let peer := m.kind != .delayReq
  let d := ptpDest tr peer
  s.sendControl l ⟨.ptp, d.1, d.2, some (s.rd F.TIME_SYNC_CTRL_PTP_DOMAIN, m), ptpBytes tr (if peer then 54 else 44)⟩

/-- R50: a delay measurement begins, by the mechanism of the profile. DEDUCED: log entry 20. -/
def ptpAsk (l : Nat) (s : State) : State :=
  let n := s.time.reqSeq
  let s := { s with time := { s.time with reqSeq := (n + 1) % 2 ^ 16 } }
  s.ptpSend l ⟨if s.profileAs then .pdelayReq else .delayReq, n, ownIdentity l, 0, 0⟩

/-- The transmit time of the request that a response answers: its sequence identifier and the device's own identity. -/
def reqTime (s : State) (l : Nat) (m : PtpMsg) : Option Int :=
  match s.time.reqSent with
  | some (n, t) => if n == m.seq && m.asked == ownIdentity l then some t else none
  | none => none

/-- A delay measurement is complete: its sum of both ways is halved. -/
def delayDone (both : Int) (s : State) : State :=
  { s with time := { s.time with
    pathDelay := roundEven both 2
    reqSent := none } }

/-- A Sync's times are complete: its offset follows, and a delay measurement begins. `diff` is receive time minus
corrected origin time. DEDUCED: log entry 20. -/
def syncComplete (l : Nat) (diff : Int) (s : State) : State :=
  let s := { s with time := { s.time with
    lastDiff := some diff
    syncWait := none } }
  (s.offsetIn 16 (diff - s.time.pathDelay)).ptpAsk l

/-- R53: a Sync. DEDUCED: log entry 20. -/
def ptpSync (l : Nat) (m : PtpMsg) (s : State) : State :=
  s.ptpReceive true l m (fun s =>
    let s := s.count ⟨0x01, 2⟩ 0
    if !s.fromParent m then s
    else
      let r := s.rxTime l - m.correction
      if m.twoStep then { s with time := { s.time with syncWait := some (m.seq, r.toNat) } }
      else s.syncComplete l (r - m.origin))

/-- R50: a Follow_Up completes the two-step Sync of its sequence number. DEDUCED: log entry 20. -/
def ptpFollowUp (l : Nat) (m : PtpMsg) (s : State) : State :=
  s.ptpReceive true l m (fun s =>
    match s.time.syncWait with
    | some (q, r) => if s.fromParent m && q == m.seq then s.syncComplete l ((r : Int) - m.origin - m.correction) else s
    | none => s)

/-- R50: a Delay_Resp completes the end-to-end measurement. DEDUCED: log entry 20. -/
def ptpDelayResp (l : Nat) (m : PtpMsg) (s : State) : State :=
  s.ptpReceive (!s.profileAs) l m (fun s =>
    match s.time.lastDiff, s.reqTime l m with
    | some d, some t3 => if s.fromParent m then s.delayDone (d + (m.origin - t3 - m.correction)) else s
    | _, _ => s)

/-- R50: a Pdelay_Req is answered two-step: the Pdelay_Resp carries its receipt time, and the Follow_Up, which leaves
with it, the transmit time of the Pdelay_Resp (R51). DEDUCED: log entry 20. -/
def ptpPdelayReq (l : Nat) (m : PtpMsg) (s : State) : State :=
  s.ptpReceive s.profileAs l m (fun s => s.ptpSend l ⟨.pdelayResp, m.seq, ownIdentity l, m.sender, s.rxTime l⟩)

/-- R50: a Pdelay_Resp completes the peer delay measurement. DEDUCED: log entry 20. -/
def ptpPdelayResp (l : Nat) (m : PtpMsg) (s : State) : State :=
  s.ptpReceive s.profileAs l m (fun s =>
    match s.reqTime l m with
    | some t1 => s.delayDone (s.rxTime l - t1 - m.turnaround - m.correction)
    | none => s)

/-- R50: an Announce: the BMCA keeps the better transmitter. One of clockClass 255 is no transmitter. DEDUCED: log
entry 20. -/
def ptpAnnounce (l : Nat) (m : PtpMsg) (s : State) : State :=
  s.ptpReceive true l m (fun s =>
    let better := match s.time.parent with
      | some p => m.data.better p.data || (m.data.level p.data && decide (m.sender < p.identity)) || p.identity == m.sender
      | none => true
    if better && m.data.class0 != 255 then { s with time := { s.time with parent := some ⟨m.data, m.sender⟩ } } else s)

/-- R53: Announce timeout. -/
def announceTimeout (s : State) : State :=
  if s.rd F.TIME_SYNC_CTRL_SYNC_SRC = 1 then
    ({ s with time := { s.time with
        parent := none
        syncWait := none } }).syncLost
  else s

/-! ### PPS_IN (R54 to R56) -/

/-- R55: an expected pulse was missing or rejected; three in a row lose the source. DEDUCED: log entry 21. -/
def ppsMiss (s : State) : State :=
  let s := { s with time := { s.time with
    goodRun := 0
    missRun := s.time.missRun + 1 } }
  if 3 ≤ s.time.missRun then s.syncLost else s

/-- R55, R56: a pulse is accepted, with its offset in 2⁻¹⁶ ns. DEDUCED: log entry 21. -/
def ppsAccept (o : Int) (s : State) : State :=
  let s := { s with time := { s.time with
    missRun := 0
    todSec := none
    ppsKnown := true } }
  s.offsetIn 8 o

/-- R54, R55: an edge of PPS_IN, `eighth` × 125 ps into its coarse period. Before any time of day an edge has no
second; a rejected edge is counted and ignored, and the pulse that it replaces is missing. DEDUCED: log entry 21. -/
def ppsEdge (rising : Bool) (eighth : Nat) (s : State) : State :=
  if s.rd F.TIME_SYNC_CTRL_SYNC_SRC ≠ 2 ∨ rising = s.flag F.TIME_PPS_CTRL_EDGE then s
  else
    let c : Int := s.dev16 + eighth % 8 * 8192 - s.rd F.TIME_PPS_CTRL_CABLE_NS * 65536
    let one : Int := 1000000000 * 65536
    match s.time.todSec with
    | some k => s.ppsAccept (c - k * one)
    | none =>
      if s.time.ppsKnown then
        let o := c - roundEven c (1000000000 * 65536) * one
        if o.natAbs ≤ s.rd F.TIME_PPS_CTRL_WIN_US * 65536000 then s.ppsAccept o
        else s.count ⟨0x01, 1⟩ 0
      else s

/-- R55: an expected pulse did not arrive. -/
def ppsMissing (s : State) : State :=
  if s.rd F.TIME_SYNC_CTRL_SYNC_SRC = 2 ∧ s.time.ppsKnown = true then s.ppsMiss else s

/-! ### REF_TUNE (R57) -/

/-- R57: the code that MODE asks for. DESIGN CHOICE: log entry 22. -/
def tuneTarget (s : State) : Nat :=
  let base : Int := s.rd F.TIME_TUNE_CODE
  if s.rd F.TIME_TUNE_MODE = 0 then base.toNat
  else
    let d := s.rdS (F.THERM_TEMP_TEMP 28) - 400
    let x := tempPoly base (s.rdS F.TIME_TUNE_POLY_C1) (s.rdS F.TIME_TUNE_POLY_C2) d
    (clampI 0 65535 (if s.rd F.TIME_TUNE_MODE = 2 then x + s.time.tuneInteg else x)).toNat

/-- R57: in HOLD the DAC holds CODE as written. -/
def tuneWrite (s : State) : State :=
  if s.rd F.TIME_TUNE_MODE = 0 then { s with time := { s.time with tune := s.rd F.TIME_TUNE_CODE } } else s

/-- R57, R384: each 10 ms in TEMP and DISCIPLINE, unless FREQ_STATE is not REF or the thermistor is failed. DESIGN
CHOICE: log entry 22. -/
def tuneStep (s : State) : State :=
  if s.rd F.TIME_TUNE_MODE = 0 ∨ s.rd F.TIME_STATUS_FREQ_STATE ≠ Freq.ref ∨ s.healthy 28 = false then s
  else
    let i := if s.rd F.TIME_TUNE_MODE = 2 ∧ s.rd F.TIME_STATUS_SYNC_STATE = Sync.locked then
        Config.tuneIntegrator (s.rdS F.TIME_RATE_ADJ_ADJ) s.time.tuneInteg
      else s.time.tuneInteg
    let s := { s with time := { s.time with tuneInteg := i } }
    let c := s.time.tune
    let t := s.tuneTarget
    { s with time := { s.time with tune := if c < t then c + 1 else if t < c then c - 1 else c } }

end State
end Machine
end Sys2Proof
end

