-- ==== Sys2Proof/Machine/Frame.lean ====
section
/-! DEFINITION. The frame boundary (R481): every action that the chapters apply there, in one operation, and the
shedding of emitters under RATE_FLOOR (chapter 1). -/

namespace Sys2Proof.Machine
namespace State

/-! ### The required rate and shedding (R20, R23, R24) -/

/-- Emitters named in a copy, ascending. DEDUCED: log entry 15. -/
def namedIn (s : State) (copy : Nat) : List Nat :=
  let l := (s.shotSlots copy).map (fun p => slotEm p.2.1)
  (List.range 64).filter (fun e => l.contains e)

/-- The emitters shed, ascending. DEDUCED: log entry 15. -/
def shedList (s : State) : List Nat := (List.range 64).filter (fun e => (s.em e).shed)

/-- R224: the engine steps per second of the axes as they stand enabled. DESIGN CHOICE: log entry 13. -/
def servoSteps (s : State) : Nat :=
  (([Axis.v, Axis.h].filter (fun ax => s.flag (F.SERVO_AXIS_CTRL_EN ax.num))).map
    (fun ax => ceilDiv 256000000000 (max 1 (s.axPeriod ax)))).sum

/-- Throttling removes an emitter's slots at the level that its octant has now (R26). -/
def gone (s : State) (e : Nat) : Bool := staveRemoved (s.level (e / 8)) (e % 8)

/-- R20, R26, R224: the rate that a copy needs with emitters shed, and without those that throttling removes, from all
that the configuration fixes, MHz, rounded up. DESIGN CHOICE: log entry 13. -/
def requiredFor (s : State) (copy : Nat) (shed : List Nat) : Nat :=
  let slots := (s.shotSlots copy).filter (fun p => !shed.contains (slotEm p.2.1) && !s.gone (slotEm p.2.1))
  let rest := Config.requiredRate
    (s.frameLen copy :: s.rd F.ECHO_CTRL_FORM :: s.pixelRate :: s.envEnabled :: slots.flatMap (fun p => [p.2.1, p.2.2]))
  min 65535 (ceilDiv (rest + s.fire.axisSteps) 1000000)

/-- PWR_AVS_RATE.REQUIRED follows the copy in force and the emitters shed. DESIGN CHOICE: log entry 13. -/
def refreshRequired (s : State) : State := s.wr F.PWR_AVS_RATE_REQUIRED (s.requiredFor s.activeCopy s.shedList)

/-- R20, R224: COMMIT computes REQUIRED, with the axis rates that it commits. DESIGN CHOICE: log entry 13. -/
def commitRate (s : State) : State :=
  let n := s.servoSteps
  State.refreshRequired { s with fire := { s.fire with
    committed := true
    axisSteps := n } }

/-- R21, R132: from the first COMMIT after a reset on, REQUIRED follows the copy in force. DESIGN CHOICE: log entry
13. -/
def followRate (s : State) : State := if s.fire.committed then s.refreshRequired else s

/-- SHED_COUNT follows the emitters shed. -/
def showShed (s : State) : State := s.wr F.PWR_AVS_STATUS_SHED_COUNT s.shedList.length

/-- R24: the conditions under which emitter `e` may be restored. -/
def restoreHolds (s : State) (e : Nat) : Bool :=
  !s.flag F.PWR_AVS_STATUS_REG_FAULT &&
  decide (115 * s.requiredFor s.activeCopy (s.shedList.filter (fun k => k != e)) < 100 * s.rd F.PWR_AVS_RATE_MEASURED)

/-- R24: the restore conditions have held for 1 s. DEDUCED: log entry 14. -/
def restoreHold (s : State) : State :=
  match s.shedList with
  | e :: _ => if s.restoreHolds e then { s with fire := { s.fire with restoreOk := true } } else s
  | [] => s

/-- R24: the 1 s starts anew where a restore condition lapses. DEDUCED: log entry 14. -/
def restoreLapse (s : State) : State :=
  if s.shedList.head?.any s.restoreHolds then s else { s with fire := { s.fire with restoreOk := false } }

/-- R23, R24: shedding and restoration at the boundary before frame `k`. DEDUCED: log entries 14 and 15. -/
def shedAtBoundary (k : Nat) (s : State) : State :=
  if !s.flag F.PWR_AVS_STATUS_RATE_FLOOR then s
  else
  let s := s.refreshRequired
  if decide (100 * s.rd F.PWR_AVS_RATE_MEASURED < 115 * s.rd F.PWR_AVS_RATE_REQUIRED) then
    let s := { s with fire := { s.fire with restoreOk := false } }
    match ((s.namedIn s.activeCopy).filter (fun e => !(s.em e).shed)).getLast? with
    | some e => (((s.updEm e (fun x => { x with shed := true })).refreshRequired).showShed).count ⟨0x14, 0⟩ 0
    | none => s
  else
    match s.shedList with
    | e :: rest =>
      if s.fire.restoreOk && s.restoreHolds e then
        let s := { s with fire := { s.fire with restoreOk := false } }
        let s := ((s.updEm e (fun x => { x with shed := false })).refreshRequired).showShed
        let s := s.groupEvent e k
        if rest.isEmpty then s.wr F.PWR_AVS_STATUS_RATE_FLOOR 0 else s
      else s.restoreLapse
    | [] => if s.flag F.PWR_AVS_STATUS_REG_FAULT then s else s.wr F.PWR_AVS_STATUS_RATE_FLOOR 0

/-! ### Group-starting events at a boundary (R139) -/

/-- R26, R379: the slots that throttling removes from an emitter follow its octant's level; a restored stave starts a
group. -/
def throttleEm (k : Nat) (s : State) (e : Nat) : State :=
  let gone := s.gone e
  let was := (s.em e).throttled
  let s := s.updEm e (fun x => { x with throttled := gone })
  if was && !gone then s.groupEvent e k else s

/-- R139, R145: an emitter that returns from EN = 0 or from fault, or whose STAGGER_POS or DOMAIN has changed, starts a
group. -/
def returnEm (k : Nat) (s : State) (e : Nat) : State :=
  let s := s.updEm e (fun x => { x with waitFrame := false })
  let x := s.em e
  let off := s.emOff e
  let s := s.updEm e (fun x => { x with
    wasOff := off
    moved := false })
  if (x.wasOff && !off) || x.moved then s.groupEvent e k else s

/-- R120, R139: FIRE_ALLOW is back: firing resumes, and every stave starts a group. -/
def resumeAtBoundary (k : Nat) (s : State) : State :=
  if s.fire.hold && s.permits.allow then
    (List.range 64).foldl (fun s e => s.groupEvent e k) { s with fire := { s.fire with hold := false } }
  else s

/-- R354: the epoch announced may start with frame `k`. DEDUCED: log entry 96. -/
def epochMay (s : State) (k : Nat) : Bool := s.cord.epochFrom.all (fun n => decide (n ≤ k))

/-- In a cord a SWAP waits for its epoch: on a follower for the marker, on the master of a formed one for the frame
announced. -/
def swapFree (s : State) (k : Nat) : Bool :=
  if s.isFollower then s.cord.epochDue else !s.flag F.CORD_STATUS_FORMED || s.epochMay k

/-- The SWAP that waits takes effect, on a follower of a formed cord only at an epoch start (R131, R354); one accepted
after the frame's first slots have been executed waits for the boundary after (R481). DEDUCED: log entry 42. -/
def swapAtBoundary (k : Nat) (s : State) : State :=
  if s.flag F.FIRE_SCHED_PEND && s.fire.early.all EarlyFrame.swap && s.swapFree k then
    let s := s.swapExchange
    s.fire.swapGroups.foldl (fun s e => s.groupEvent e k) s
  else s

/-- R354: an epoch starts: on the master at a mode entry and at a SWAP, on a follower at an epoch-start marker. -/
def epochAtBoundary (k : Nat) (swapped : Bool) (s : State) : State :=
  if s.isFollower then
    if s.cord.epochDue then
      let n := match s.cord.announced with | some p => p.1 | none => (s.rd F.CORD_EPOCH_EPOCH + 1) % 2 ^ 16
      let s := { s.wr F.CORD_EPOCH_EPOCH n with cord := { s.cord with
        epochDue := false
        announced := none } }
      (List.range 64).foldl (fun s e => s.groupEvent e k) s
    else s
  else if s.flag F.CORD_STATUS_FORMED && (k = 0 || swapped) then
    let s := s.wr F.CORD_EPOCH_EPOCH ((s.rd F.CORD_EPOCH_EPOCH + 1) % 2 ^ 16)
    let s := { s with cord := { s.cord with epochFrom := none } }
    (List.range 64).foldl (fun s e => s.groupEvent e k) s
  else s

/-! ### The slots of a frame -/

/-- The jobs of frame `k`, which starts now, in order of nominal time, ties by ascending em (R135, R138). DEDUCED: log
entry 127. -/
def frameJobs (k : Nat) (s : State) : List SlotJob :=
  let b := s.now
  let sec := s.sec
  let ns := s.nsec
  let jobs := (s.shotSlots s.activeCopy).filterMap (fun p =>
    let e := slotEm p.2.1
    if (s.em e).shed || (s.em e).throttled then none
    else some ({
      frame := k
      frameC := b
      frameSec := sec
      frameNs := ns
      slot := p.1
      em := e
      nominal := slotOffset p.2.1 + s.stagger e
      word1 := p.2.2
      width := s.widthNow e
      forced := s.acq.forced
      kappa := s.geom.kappa
      first := decide (k = 0) && !(s.extTrig && !s.isFollower) } : SlotJob))
  sortBy (fun j => j.nominal * 64 + j.em) jobs

/-- The kerfs of a frame, in order: start and length. -/
def frameKerfs (s : State) : List (Nat × Nat) :=
  sortBy (fun p => p.1) ((s.kerfSlots s.activeCopy).map (fun p => (s.now + slotOffset p.2.1, slotKerfLen p.2.2)))

/-! ### The boundary (R481) -/

/-- Whether the next frame may start: in external mode only at a triggered or forced start (R162 to R165), on a
follower only at the start that a marker, or its own time, gives (R353, R355). -/
def frameMayStart (s : State) : Bool := !(s.isFollower || s.extTrig) || s.acq.due.isSome

/-- R481: what the boundary before frame `k` changes for the shots of that frame: the schedule, its groups, and the
slots and widths that throttling and shedding leave. DEDUCED: log entry 42. -/
def memberActions (k : Nat) (s : State) : State :=
  let act := s.activeCopy
  let s := s.swapAtBoundary k
  let swapped := s.activeCopy != act
  let s := s.epochAtBoundary k swapped
  let gone := (List.range 64).map s.gone
  let s := (List.range 8).foldl levelStep s
  let s := (List.range 64).foldl (throttleEm k) s
  let s := if swapped then s.refreshRequired else if k = 0 || gone != (List.range 64).map s.gone then s.followRate else s
  let s := s.shedAtBoundary k
  let s := (List.range 64).foldl (returnEm k) s
  s.resumeAtBoundary k

/-- The frame's own values reach the shots of frame `k` that are ahead of its start (R149, R185, R257). DEDUCED: log
entry 42. -/
def stampAhead (k : Nat) (s : State) : State :=
  let sec := s.sec
  let ns := s.nsec
  let kappa := s.geom.kappa
  { s with fire := { s.fire with
      shots := s.fire.shots.map (fun (x : Shot) =>
        if x.frame = k then { x with frameSec := sec, frameNs := ns, kappa := kappa } else x)
      queue := s.fire.queue.map (fun (q : QueuedShot) =>
        if q.job.frame = k then { q with job := { q.job with frameSec := sec, frameNs := ns, kappa := kappa } } else q) } }

/-- On a follower, the start of the frame after, where its marker has come already (R353). -/
def nextMarker (s : State) : State :=
  match s.cord.later with
  | none => s
  | some (start, epoch, forced) => { s with
    cord := { s.cord with
      later := none
      epochDue := epoch }
    acq := { s.acq with
      due := some start
      forced := forced } }

/-- R481: a frame ends and frame `k` starts now. DEDUCED: log entries 25 and 42. -/
def frameStart (k : Nat) (s : State) : State :=
  let b := s.now
  let lenOld := s.rd F.FIRE_FRAME_ACTIVE_ACTIVE_NS
  let s := s.stepApply.trigStart.memberActions k
  let s := (List.range 8).foldl levelDac s
  let s := s.refreshProof.kappaAtBoundary.sectorAtBoundary k
  let s := (s.rasterAtBoundary b).refAtBoundary b (k == 0) (lenOld != s.rd F.FIRE_FRAME_ACTIVE_ACTIVE_NS)
  let done := s.fire.early.elim [] EarlyFrame.done
  let jobs := (s.frameJobs k).filter (fun j => !done.contains j.slot)
  let kerfs := s.frameKerfs
  let s := s.stampAhead k
  let s := { s with
    fire := { s.fire with
      slots := s.fire.slots ++ jobs
      kerfs := kerfs
      early := none
      swapGroups := []
      nextFrame := k + 1
      frameC := b }
    acq := { s.acq with
      due := none
      forced := false } }
  let s := (s.nextMarker).formAhead k
  if k = 0 then s
  else
    let n := s.cmd.boundaries + 1
    ({ s with cmd := { s.cmd with boundaries := n } }).triggerRecipes
      (fun r => r.trigger / 2 ^ 24 == 1 && n % max (r.trigger % 2 ^ 16) 1 == 0)

/-- FRAME_BOUNDARY: the next frame starts, or, where the device is leaving the mode, the last one ends (R446); a frame
whose first slots have been executed is in progress. DEDUCED: log entries 42 and 88. -/
def frameBoundary (s : State) : State :=
  if s.firing && s.fire.running then
    if s.boot.exiting && s.fire.early.isNone then
      { s with
        fire := { s.fire with
          running := false
          kerfs := [] }
        acq := { s.acq with
          due := none
          forced := false }
        cord := { s.cord with later := none } }
    else if s.frameMayStart then s.frameStart s.fire.nextFrame
    else s
  else s

/-! ### Slots (R138, R481) -/

/-- The start of the next frame, where it is known and still to come: that of a trigger accepted (R163) or of a marker
(R353), or the end of the present frame. Of a first frame only a trigger's is known (R446). DEDUCED: log entry 46. -/
def nextStart (s : State) : Option Nat :=
  if s.fire.nextFrame = 0 then (if s.extTrig && !s.isFollower then s.acq.due.filter (fun c => decide (s.now < c)) else none)
  else
    let c := if s.frameMayStart && s.acq.due.isNone then some (s.fire.frameC + s.rd F.FIRE_FRAME_ACTIVE_ACTIVE_NS)
      else s.acq.due
    c.filter (fun c => decide (s.now < c))

/-- R133, R481: a slot of the next frame that may fire before that frame's start is executed ahead of it, with what
the boundary will change for the frame's shots. DEDUCED: log entry 42. -/
def earlyExecute (late pre : Bool) (s : State) : State :=
  let k := s.fire.nextFrame
  match s.nextStart with
  | none => s
  | some c =>
    let done := s.fire.early.elim [] EarlyFrame.done
    let plan := (s.pass c).kappaAtBoundary.memberActions k
    match (plan.frameJobs k).filter (fun j =>
        !done.contains j.slot && decide (j.nominal < s.rd F.FIRE_CTRL_DITHER_MAX)) with
    | [] => s
    | j :: _ =>
      let s := s.updEm j.em (fun x => { x with startFrom := (plan.em j.em).startFrom })
      let swap := s.fire.early.elim (plan.activeCopy != s.activeCopy) EarlyFrame.swap
      let s := { s with fire := { s.fire with early := some ⟨k, done ++ [j.slot], swap⟩ } }
      s.decideSlot j (plan.wMaxOf j.em) late pre

/-- SLOT_EXECUTE: the next slot of the frame is decided; after the frame's last one, those of the next frame that may
fire before its start. DEDUCED: log entry 42. -/
def slotExecute (late pre : Bool) (s : State) : State :=
  match s.fire.slots with
  | j :: r => ({ s with fire := { s.fire with slots := r } }).decideSlot j (s.wMaxOf j.em) late pre
  | [] => if s.firing && s.fire.running && !s.boot.exiting then s.earlyExecute late pre else s

/-- R146, R214: the proof shots that the next kerf will hold, as they stand now: of the present frame, or of the next
one where it starts within the longest PRE_NS. DEDUCED: log entry 41. -/
def proofsAhead (s : State) : List (Nat × Nat) :=
  let placed := fun (z : State) (p : Nat × Nat) =>
    z.placeProofs (proofTimes p.1 p.2) (z.proofDue.filter (fun e => !s.fire.proofs.any (fun q => q.2 == e)))
  match s.fire.kerfs, s.nextStart with
  | k :: _, _ => placed s k
  | [], some c =>
    if s.firing && s.fire.running && !s.boot.exiting && decide (c ≤ s.now + 1000) then
      let plan := (s.pass c).memberActions s.fire.nextFrame
      plan.frameKerfs.head?.elim [] (placed plan)
    else []
  | [], none => []

/-! ### External frame starts (R163, R164) -/

/-- R163: the trigger is armed at the end of every frame. DEDUCED: log entry 46. -/
def armCheck (s : State) : State :=
  if s.firing && s.fire.running && s.acq.due.isNone &&
      decide (s.fire.nextFrame = 0 ∨ s.fire.frameC + s.rd F.FIRE_FRAME_ACTIVE_ACTIVE_NS ≤ s.now) then s.armTrigger
  else s

/-- An edge of EXT_TRIG, and the end of TIMEOUT_MS, with the trigger armed as it stands now. DEDUCED: log entry 46. -/
def trigEdge (level : Bool) (s : State) : State := s.armCheck.extTrigEdge level
/-- R164: the end of TIMEOUT_MS, likewise. DEDUCED: log entry 46. -/
def trigExpire (s : State) : State := s.armCheck.trigTimeout

end State
end Sys2Proof.Machine
end

