-- ==== Sys2Proof/Machine/Hk.lean ====
section
/-! DEFINITION. The housekeeping converter (chapter 15): rounds, visits, injected conversions, results by tag,
temperatures of the sensors, shutdown, and the temperature-step trigger of recipes. -/

namespace Sys2Proof.Machine

/-! ### Temperatures (R372) -/

/-- Fixed-point unit of the logarithm. -/
def lnUnit : Nat := 2 ^ 96

/-- 2 × artanh of num ÷ den, in units of 1 ÷ `lnUnit`: terms z^(2i+1) ÷ (2i+1) with z = num ÷ den. -/
def lnTerms (num den : Nat) : Nat → Nat → Nat → Nat → Nat
  | 0, _, _, acc => 2 * acc
  | k + 1, i, zp, acc => lnTerms num den k (i + 1) (zp * num / den * num / den) (acc + zp / (2 * i + 1))

/-- ln of p ÷ q for q ≤ p ≤ 2q, in units of 1 ÷ `lnUnit`. -/
def lnSmall (p q : Nat) : Nat := lnTerms (p - q) (p + q) 40 0 (lnUnit * (p - q) / (p + q)) 0

/-- ln of p ÷ q for p, q > 0, in units of 1 ÷ `lnUnit`. -/
def lnRatio (p q : Nat) : Int :=
  let a := Nat.log2 p
  let b := Nat.log2 q
  let p' := p * 2 ^ b
  let q' := q * 2 ^ a
  let k : Int := (a : Int) - b
  if p' < q' then (lnSmall (2 * p') q' : Int) + (k - 1) * lnSmall 2 1
  else (lnSmall p' q' : Int) + k * lnSmall 2 1

/-- R372: a thermistor's temperature in 1/16 °C from its code, none where the formula gives no temperature of the
register's range. DESIGN CHOICE: log entry 101. -/
def ntcTemp (nom ser beta x : Nat) : Option Int :=
  if x = 0 ∨ 16384 ≤ x ∨ nom = 0 ∨ ser = 0 then none
  else
    let l := lnRatio (ser * x) ((16384 - x) * nom)
    let d : Int := 20 * beta * lnUnit + 5963 * l
    if d ≤ 0 then none
    else
      let t := roundEven (5 * (16 * 5963 * beta * lnUnit : Nat) - 21852 * d) (5 * d).toNat
      if -32768 ≤ t ∧ t ≤ 32767 then some t else none

namespace State

/-- R372: the temperature of a sensor's code, 1/16 °C. A code that the formula gives no temperature yields a free
value. DESIGN CHOICE: log entry 101. -/
def sensorTemp (n code : Nat) (s : State) : Int × State :=
  if n < 24 then (clampI (-32768) 32767 (Config.dieTrim n code), s)
  else
    let i := n - 24
    match ntcTemp (s.rd (F.THERM_NTC_A_NOM_10OHM i)) (s.rd (F.THERM_NTC_A_SER_10OHM i)) (s.rd (F.THERM_NTC_B_BETA_K i)) code with
    | some t => (t, s)
    | none => (toS 16 s.fresh, s.tick)

/-! ### Shutdown (R382, R416) -/

/-- R382: an octant has reached SHUT_C. SAFE is entered at once, or after the journal entry in progress (R416). -/
def shutdown (g : Nat) (s : State) : State :=
  let s := ((s.setPermits false).wr F.THERM_STATUS_SHUT 1).logEvent Ev.thermalLimit (thermAddress 2 g)
  let s := ((s.count ⟨0x10, 2⟩ 0).lifeAdd 178 1).calendarAdd 5 g
  let s := s.lifeFlush.forecast
  if s.nvs.writing.isSome then { s with nvs := { s.nvs with safeWait := true } } else s.safeEnter 3

/-- An octant's temperature is at or above SHUT_C. -/
def shutReached (s : State) (g : Nat) : Bool :=
  decide (16 * (s.rd F.THERM_LIMITS_SHUT_C : Int) ≤ s.rdS (F.THERM_OCT_TEMP g))

/-- R382: an octant is held against SHUT_C, which it reaches again only after it has left it. DEDUCED: log entry
103. -/
def shutOct (s : State) (g : Nat) : State :=
  let was := (s.octTherm g).shut
  let now := s.shutReached g
  let s := if was = now then s else s.putOctTherm g { s.octTherm g with shut := now }
  if now && !was then s.shutdown g else s

/-- R382: the octants are held against SHUT_C. -/
def shutTest (s : State) : State := (List.range 8).foldl shutOct s

/-! ### The temperature-step trigger (R338) -/

/-- The reference of a recipe's temperature-step trigger is set to the octant's present mean. DEDUCED: log entry
88. -/
def tempRebase (n g : Nat) (s : State) : State :=
  let m := s.octMean g
  { s with cmd := { s.cmd with tempBase := s.cmd.tempBase.filter (fun b => b.recipe != n) ++ [⟨n, m⟩] } }

/-- A stored recipe's temperature-step trigger against octant `g`. A recipe that is queued already has met it.
DEDUCED: log entry 88. -/
def tempTrigger (g : Nat) (s : State) (r : Recipe) : State :=
  if r.trigger / 2 ^ 24 = 2 ∧ r.trigger / 2 ^ 16 % 256 = g ∧ s.recipeEnabled r.number then
    match s.cmd.tempBase.find? (fun b => b.recipe == r.number) with
    | none => s.tempRebase r.number g
    | some b =>
      if r.trigger % 2 ^ 16 ≤ (s.octMean g - b.mean).natAbs ∧ s.flag F.CMD_RECIPE_RUN_EN ∧ !s.cmd.queue.contains r.number then
        s.queueRecipe r.number
      else s
  else s

/-! ### Results (R369, R370) -/

/-- A sensor's result, and every consumer of the values in force (R372 to R376, R384, R387, R401). DEDUCED: log entry
88. -/
def tempResult (n code : Nat) (s : State) : State :=
  let p := s.sensorTemp n code
  let s := (p.2.sensorResult n p.1 code).refreshTemps
  let s := s.refreshCompensation.refreshXtal
  let s := if n < 24 then
      let s := s.cmd.recipes.foldl (fun s r => s.tempTrigger (n / 3) r) s
      (s.calTest (n / 3)).pkoTest
    else s
  s.shutTest

/-- R369, R370: a result is written to HK_DATA with its tag, and its takers take it. -/
def hkResult (tag code : Nat) (s : State) : State :=
  let s := if s.flag F.HK_CTRL_POLL_EN && s.flag F.HK_DATA_UNREAD then
      (s.wr F.HK_STATUS_OVERRUN 1).count ⟨0x0F, 3⟩ 0
    else s
  let s := ((s.wr F.HK_DATA_UNREAD 1).wr F.HK_DATA_TAG tag).wr F.HK_DATA_CODE code
  if 0xE0 ≤ tag then (if tag < 0xE0 + 29 then s.tempResult (tag - 0xE0) code else s) else s.snoopBus tag code

/-! ### The sequence (R366, R368, R371) -/

/-- Entry i of table 0x07 (Table 15-2). -/
def hkEntry (s : State) (i : Nat) : HkEntry :=
  let w := s.tab 0x07 0 (2 * i)
  ⟨i, bitOf w 31, bitsOf w 29 24, bitsOf w 23 16, bitsOf w 10 0, s.tab 0x07 0 (2 * i + 1) % 256⟩

/-- The enabled entries, in ascending order. -/
def hkEntries (s : State) : List HkEntry := ((List.range 64).map s.hkEntry).filter (fun e => 0 < e.count)

/-- The state with the converter's phase replaced. -/
def hkPhase (p : HkPhase) (s : State) : State := { s with hk := { s.hk with phase := p } }

/-- A visit begins, or the converter idles where no entry is left. -/
def hkVisit (s : State) : State :=
  match s.hk.todo with
  | [] => s.hkPhase .idle
  | e :: _ =>
    ({ s with hk := { s.hk with
        phase := .settling .entry
        left := e.count
        sum := 0
        firstCode := none
        allSame := true } }).wr F.HK_STATUS_ENTRY e.index

/-- A round starts with the table as it stands (R367, R368). -/
def hkRound (s : State) : State :=
  let es := s.hkEntries
  ({ s with hk := { s.hk with
      todo := es
      left := 0
      lateRound := false } }).hkVisit

/-- The injected conversion that is owed: a run's first (R390), else the host's. DEDUCED: log entry 100. -/
def hkOwed (s : State) : Option HkJob :=
  let of := fun (r : Option CalRun) => match r with
    | some r => if 0 < r.owed then some (HkJob.sensor (3 * r.oct + (3 - r.owed))) else none
    | none => none
  match of s.cal.runN with
  | some j => some j
  | none =>
    match of s.cal.runS with
    | some j => some j
    | none => if s.flag F.HK_STATUS_INJ_PEND then some .host else none

/-- An injected conversion that is owed starts at once unless a conversion is in progress (R371). DEDUCED: log entry
100. -/
def hkKick (s : State) : State :=
  match s.hk.phase with
  | .converting _ => s
  | .settling .host => s
  | .settling (.sensor _) => s
  | _ =>
    if s.hk.on then
      match s.hkOwed with
      | some j => s.hkPhase (.settling j)
      | none => s
    else s

/-- What the converter does after a conversion: an owed injected one, the rest of the visit (with SETTLE again after
an injected one), the next visit, or a late round (R368, R371). DEDUCED: log entry 100. -/
def hkNext (wasInj : Bool) (s : State) : State :=
  match s.hkOwed with
  | some j => s.hkPhase (.settling j)
  | none =>
    if 0 < s.hk.left then (if wasInj then s.hkPhase (.settling .entry) else s.hkPhase (.converting .entry))
    else if s.hk.todo.isEmpty && s.hk.lateRound then s.hkRound
    else s.hkVisit

/-- HK_ROUND_START (R368): a round starts, or is late because the previous one has not finished. DEDUCED: log entry
100. -/
def hkRoundStart (s : State) : State :=
  if !s.hk.on then s
  else if s.hk.todo.isEmpty then
    match s.hk.phase with
    | .idle => s.hkRound
    | _ =>
      -- an injected conversion is in progress: the round's first visit follows it
      { s with hk := { s.hk with lateRound := true } }
  else ({ s with hk := { s.hk with lateRound := true } }).count ⟨0x0F, 2⟩ 0

/-- HK_SETTLE_DONE (R368). -/
def hkSettleDone (s : State) : State :=
  match s.hk.phase with
  | .settling j => s.hkPhase (.converting j)
  | _ => s

/-- A conversion of the visited entry completes (R366, R368, R373). -/
def entryConversion (code : Nat) (s : State) : State :=
  match s.hk.todo with
  | [] => s.hkPhase .idle
  | e :: rest =>
    let s := s.count ⟨0x0F, 0⟩ 0
    let first := s.hk.firstCode.getD code
    let same := s.hk.allSame && first == code
    let left := s.hk.left - 1
    let sum := s.hk.sum + code
    let todo := if left = 0 then rest else e :: rest
    let s := { s with hk := { s.hk with
      todo := todo
      left := left
      sum := sum
      firstCode := some first
      allSame := same } }
    let s := if !e.avg then s.hkResult e.tag code
      else if left = 0 then s.hkResult e.tag (roundEven sum e.count).toNat
      else s
    let s := if left = 0 ∧ 0xE0 ≤ e.tag ∧ e.tag < 0xE0 + 29 then
        ((s.sensorVisit (e.tag - 0xE0) first same).refreshTemps).shutTest
      else s
    s.hkNext false

/-- The host's injected conversion completes (R371): runs that waited for it go on (R390). -/
def hostConversion (code : Nat) (s : State) : State :=
  let s := (s.count ⟨0x0F, 4⟩ 0).wr F.HK_STATUS_INJ_PEND 0
  let s := (s.wr F.HK_INJECT_RESULT_CODE code).wr F.HK_INJECT_RESULT_DONE 1
  let s := s.hkResult (s.rd F.HK_INJECT_TAG) code
  let s := (s.runRelease 0).runRelease 1
  (s.wrB F.HK_STATUS_INJ_PEND s.calOwed).hkNext true

/-- A conversion that an octant run asked for completes (R390). -/
def runSensorDone (n code : Nat) (s : State) : State :=
  let s := (s.hkResult (0xE0 + n) code).runConversion (n / 3)
  (s.wrB F.HK_STATUS_INJ_PEND s.calOwed).hkNext true

/-- HK_CONVERSION_DONE. -/
def hkConversionDone (code : Nat) (s : State) : State :=
  match s.hk.phase with
  | .converting .entry => s.entryConversion code
  | .converting .host => s.hostConversion code
  | .converting (.sensor n) => s.runSensorDone n code
  | _ => s

/-- The converter starts (R376): a round begins and the windows count anew. DEDUCED: log entry 100. -/
def hkStart (s : State) : State :=
  let n := s.now
  let s := { s with
    hk := { s.hk with on := true }
    therm := { s.therm with
      windows := 0
      octs := s.therm.octs.map (fun (x : OctTherm) => { x with
        integ := 0
        integAt := n
        means := [] }) } }
  let s := (List.range 8).foldl refreshRate s
  (s.wr F.HK_STATUS_RUNNING 1).hkRound

end State
end Sys2Proof.Machine
end

