-- ==== Sys2Proof/Machine/Power.lean ====
section
/-! DEFINITION. The adaptive core supply and its regulator (R21, R22, R466), and the pins of the permit chain that
resets drive. -/

namespace Sys2Proof.Machine
namespace State

/-- REG_FAULT is set: no further voltage changes are sent, the last acknowledged command is assumed (R22), and the
restore conditions lapse (R24). -/
def regFault (s : State) : State :=
  let a := s.pwr.acked
  let s := ((s.wr F.PWR_AVS_STATUS_REG_FAULT 1).wr F.PWR_AVS_STATUS_VDD_MV a).wrB F.PWR_AVS_STATUS_AT_CEILING (a == 850)
  State.restoreLapse { s with pwr := { s.pwr with
    owed := none
    later := [] } }

/-- R22: three consecutive periods without following set RATE_FLOOR. DEDUCED: log entry 14. -/
def floorTest (cannot : Bool) (s : State) : State :=
  let n := if cannot then s.pwr.floorRun + 1 else 0
  let s := { s with pwr := { s.pwr with floorRun := n } }
  if 3 ≤ n ∧ !s.flag F.PWR_AVS_STATUS_RATE_FLOOR then
    ((s.wr F.PWR_AVS_STATUS_RATE_FLOOR 1).raise Irq.rateFloor).logEvent Ev.rateFloor 0
  else s

/-- A step of the loop, counted where it is sent (Table 18-1). DEDUCED: log entry 14. -/
def stepVdd (counter mv : Nat) (s : State) : State :=
  if s.flag F.PWR_AVS_STATUS_REG_FAULT then s else (s.cmdVdd mv).count ⟨0x14, counter⟩ 0

/-- R21: the voltage step of a loop period, by the STEP_MV that stood at its start (Table 1-2). DEDUCED: log entry
14. -/
def avsStep (s : State) : State :=
  let m := s.rd F.PWR_AVS_RATE_MEASURED
  let r := s.rd F.PWR_AVS_RATE_REQUIRED
  let v := s.rd F.PWR_AVS_STATUS_VDD_MV
  let st := s.pwr.step
  if s.pwr.owed.isSome then s
  else if 100 * m < 115 * r then (if v < 850 then s.stepVdd 2 (min 850 (v + st)) else s)
  else if 12075 * r < 10000 * m then (if 550 < v then s.stepVdd 3 (max 550 (v - st)) else s)
  else s

/-- R21: with LOOP_EN = 0 the command is 850 mV: it is sent again where REG_FAULT had kept it back. DEDUCED: log entry
14. -/
def avsHold (s : State) : State :=
  if s.rd F.PWR_AVS_STATUS_VDD_MV ≠ 850 ∧ s.pwr.owed.isNone = true then s.cmdVdd 850 else s

/-- Table 1-2: a loop period begins, with the STEP_MV it will use. -/
def periodBegins (step : Nat) (s : State) : State := { s with pwr := { s.pwr with step := step } }

/-- AVS_LOOP_PERIOD (R21, R22): a loop period has ended with a measured rate, MHz. DEDUCED: log entry 14. -/
def avsLoopPeriod (measured : Nat) (s : State) : State :=
  let next := s.rd F.PWR_AVS_CTRL_STEP_MV
  if s.mode = Mode.selftest ∨ s.mode = Mode.park ∨ s.pwr.noLoop then s.periodBegins next
  else
    let s := (s.wr F.PWR_AVS_RATE_MEASURED (min measured 65535)).restoreLapse
    let low := decide (100 * s.rd F.PWR_AVS_RATE_MEASURED < 115 * s.rd F.PWR_AVS_RATE_REQUIRED)
    let s := s.floorTest (s.flag F.PWR_AVS_STATUS_REG_FAULT || (s.rd F.PWR_AVS_STATUS_VDD_MV == 850 && low))
    State.periodBegins next (if s.flag F.PWR_AVS_CTRL_LOOP_EN then s.avsStep else s.avsHold)

/-- PMBUS_COMMAND_DONE (R466): the VOUT_COMMAND on the bus completes. DEDUCED: log entry 16. -/
def pmbusCommandDone (ack : Bool) (s : State) : State :=
  match s.pwr.owed with
  | none => s
  | some mv =>
    if ack then { s with pwr := { s.pwr with
      acked := mv
      owed := s.pwr.later.head?
      later := s.pwr.later.drop 1 } }
    else (s.count ⟨0x14, 1⟩ 0).regFault

/-- PMBUS_STATUS_POLL (R466): a STATUS_WORD has been read. PRESUMED: log entry 38. -/
def pmbusStatus (status : Nat) (s : State) : State := if status % 2 ^ 16 = 0 then s else s.regFault

/-- PMB_ALERT (R466): the pin goes low and STATUS_WORD is read at once, unless the internal reset is held. -/
def pmbAlert (status : Nat) (s : State) : State :=
  let s := { s with pwr := { s.pwr with alert := true } }
  if s.boot.phase = .held then s else s.pmbusStatus status

/-- PMB_ALERT_TIMEOUT (R466). -/
def pmbAlertTimeout (s : State) : State :=
  if s.pwr.alert then ({ s with pwr := { s.pwr with alert := false } }).regFault else s

/-- A write of LOOP_EN = 0 sets the command to 850 mV (R21). -/
def loopWrite (s : State) : State :=
  if s.flag F.PWR_AVS_CTRL_LOOP_EN ∨ s.mode = Mode.park then s else s.cmdVdd 850

end State
end Sys2Proof.Machine
end

