-- ==== Sys2Proof/Machine/Sched.lean ====
section
/-! DEFINITION. The checks of a schedule copy (Table 5-2, R129), of the sector length (R258), and a SWAP (R131, R132),
with the refusals in the order of Table 13-12. -/

namespace Sys2Proof.Machine

/-! ### Table 5-2, entry by entry -/

/-- Check 1: a slot's field values within Table 5-1, against the frame length. -/
def slotOk (len w0 w1 : Nat) : Bool :=
  if slotEn w0 then
    decide (slotOffset w0 < len) &&
    (if slotKerf w0 then
      slotEm w0 == 0 && decide (w1 / 2 ^ 24 = 0) && decide (1 ≤ slotKerfLen w1) &&
      decide (slotKerfLen w1 ≤ 16000000) && decide (slotKerfLen w1 ≤ len)
    else
      slotMask w1 != 0 && decide (slotLimit w1 ≤ 8) && bitsOf w1 17 15 == 0 && decide (1 ≤ slotWindow w1) &&
      decide (slotWindow w1 ≤ 16384))
  else decide (w0 % 2 ^ 31 = 0) && decide (w1 = 0)

/-- The distance from `a` on to `b` over a frame taken as periodic. -/
def cyc (len a b : Nat) : Nat := if len = 0 then 0 else (b + len - a % len) % len

/-- Two stretches of the periodic frame have a nanosecond in common. -/
def cycMeet (len a la b lb : Nat) : Bool := decide (cyc len a b < la) || decide (cyc len b a < lb)

/-- The lowest of some entries, where there is one. -/
def lowest (l : List Nat) : Option Nat := l.foldl (fun m x => some (match m with | some y => min y x | none => x)) none

namespace State

/-- The frame length of a copy. -/
def lenOf (s : State) (copy : Nat) : Nat :=
  if copy = s.activeCopy then s.rd F.FIRE_FRAME_ACTIVE_ACTIVE_NS else s.rd F.FIRE_FRAME_SHADOW_NS

/-- The register that holds the frame length of a copy (R129). -/
def lenAddr (s : State) (copy : Nat) : Nat := if copy = s.activeCopy then A.FIRE_FRAME_ACTIVE else A.FIRE_FRAME

/-- The nominal interval from a shot slot to the next of its emitter, over the copy taken as periodic (R152). -/
def slotInterval (len : Nat) (shots : List (Nat × Nat × Nat)) (p : Nat × Nat × Nat) : Nat :=
  (shots.filter (fun q => q.1 != p.1 && slotEm q.2.1 == slotEm p.2.1)).foldl
    (fun m q => min m (cyc len (slotOffset p.2.1) (slotOffset q.2.1))) len

/-- R152: I_min of an emitter in a copy. -/
def minInterval (len : Nat) (shots : List (Nat × Nat × Nat)) (e : Nat) : Nat :=
  (shots.filter (fun p => slotEm p.2.1 == e)).foldl (fun m p => min m (slotInterval len shots p)) len

/-- Check 2: slots that take part in an interval below 2,000 ns. DEDUCED: log entry 40. -/
def check2 (len : Nat) (shots : List (Nat × Nat × Nat)) : List Nat :=
  (shots.filter (fun p => decide (len < 2000) || shots.any (fun q => q.1 != p.1 && slotEm q.2.1 == slotEm p.2.1 &&
    (decide (cyc len (slotOffset p.2.1) (slotOffset q.2.1) < 2000) ||
     decide (cyc len (slotOffset q.2.1) (slotOffset p.2.1) < 2000))))).map (fun p => p.1)

/-- Check 3: kerf slots that overlap another. DEDUCED: log entry 40. -/
def check3 (len : Nat) (kerfs : List (Nat × Nat × Nat)) : List Nat :=
  (kerfs.filter (fun p => kerfs.any (fun q => q.1 != p.1 &&
    cycMeet len (slotOffset p.2.1) (slotKerfLen p.2.2) (slotOffset q.2.1) (slotKerfLen q.2.2)))).map (fun p => p.1)

/-- Check 4: a shot slot's window, from the nominal time − DITHER_MAX on for its length, meets a kerf slot. -/
def windowMeets (s : State) (len : Nat) (p k : Nat × Nat × Nat) : Bool :=
  let d := s.rd F.FIRE_CTRL_DITHER_MAX
  let n := slotOffset p.2.1 + s.stagger (slotEm p.2.1)
  cycMeet len ((n + (d / len + 1) * len - d) % len) (2 * d + 60 + slotWindow p.2.2) (slotOffset k.2.1) (slotKerfLen k.2.2)

/-- Check 4: the entries, shot slots and kerf slots, of the pairs that meet. DEDUCED: log entry 40. -/
def check4 (s : State) (len : Nat) (shots kerfs : List (Nat × Nat × Nat)) : List Nat :=
  shots.flatMap (fun p => (kerfs.filter (fun k => s.windowMeets len p k)).map (fun k => min p.1 k.1))

/-- Check 5: with STAGGER_Q = 0, the slots whose domain differs from that of the lowest shot slot. DEDUCED: log entry
40. -/
def check5 (s : State) (shots : List (Nat × Nat × Nat)) : List Nat :=
  let dom := fun (p : Nat × Nat × Nat) => s.rd (F.FIRE_EM_CFG_DOMAIN (slotEm p.2.1))
  match shots with
  | [] => []
  | p :: _ =>
    if s.rd F.FIRE_CTRL_STAGGER_Q = 0 then (shots.filter (fun q => dom q != dom p)).map (fun q => q.1) else []

/-- Check 6: slots whose emitter has no energy budget. DEDUCED: log entry 40. -/
def check6 (s : State) (shots : List (Nat × Nat × Nat)) : List Nat :=
  (shots.filter (fun p => s.rd (F.FIRE_EM_EYE_BUDGET (slotEm p.2.1)) == 0)).map (fun p => p.1)

/-- Check 7: slots that break the window-to-interval limit (R152). DEDUCED: log entry 40. -/
def check7 (s : State) (len : Nat) (shots : List (Nat × Nat × Nat)) : List Nat :=
  (shots.filter (fun p =>
    decide (s.rd F.ACQ_CTRL_K * minInterval len shots (slotEm p.2.1) <
      slotWindow p.2.2 + 2 * s.rd F.FIRE_CTRL_DITHER_MAX + 60))).map (fun p => p.1)

/-- R129: the first failure of Table 5-2 on a copy, as its fault-log ADDRESS. DEDUCED: log entry 40. -/
def schedFailure (s : State) (copy : Nat) : Option Nat :=
  let len := s.lenOf copy
  let all := s.slotsOf copy
  let shots := s.shotSlots copy
  let kerfs := s.kerfSlots copy
  let entry := fun (l : List Nat) => (lowest l).map (fun i => 2 ^ 24 + copy * 1024 + i)
  match entry ((all.filter (fun p => !slotOk len p.2.1 p.2.2)).map (fun p => p.1)) with
  | some a => some a
  | none =>
    if len < 1000 ∨ 16000000 < len then some (s.lenAddr copy)
    else
      [check2 len shots, check3 len kerfs, s.check4 len shots kerfs, s.check5 shots, s.check6 shots,
        s.check7 len shots].findSome? entry

/-- R258: the sector length against a frame length and the largest stagger of a copy. -/
def sectorShort (s : State) (copy : Nat) : Bool :=
  decide (s.rd F.GEOM_SECTOR_FRAMES * s.lenOf copy < 1100000 + s.maxStagger copy)

/-! ### SWAP (R131, R132) -/

/-- The checks of a SWAP up to the budget check (Table 13-12), as status and fault-log ADDRESS. -/
def swapRefusal (s : State) : Option (Nat × Nat) :=
  let c := 1 - s.activeCopy
  if s.flag F.FIRE_SCHED_PEND then some (St.busy, 0)
  else
    match s.schedFailure c with
    | some a => some (St.badParam, a)
    | none =>
      if s.sectorShort c then some (St.badParam, A.GEOM_SECTOR)
      else if s.firing then
        match s.echoRegionGap c with
        | some e => some (St.badParam, A.LAND_ECHO_MAP (e / 8))
        | none => none
      else none

/-- An accepted SWAP: pending in the firing modes, at once otherwise. -/
def swapDo (s : State) : State :=
  if s.firing then s.wr F.FIRE_SCHED_PEND 1
  else
    let c := 1 - s.activeCopy
    let same := s.lenOf c == s.lenOf s.activeCopy && s.slotsOf c == s.slotsOf s.activeCopy
    let s := s.swapExchange
    let s := s.refreshProof.followRate
    if same then s else s.uncommit

end State
end Sys2Proof.Machine
end

