-- ==== Sys2Proof/Machine/Doley.lean ====
section
/-! DEFINITION. The Doley protocol (chapter 13): unit paths, the order of checks of Table 13-3, replies, kept
replies and the fault-log entry of a refusal. An opcode's own rules are its core function. -/

namespace Sys2Proof

/-- A transport of R320, on which a host's requests arrive and their replies leave. -/
def Source.isHost (src : Source) : Bool :=
  match src with
  | .lane _ _ => true
  | .spi => true
  | .uart => true
  | _ => false

/-- A request's LENGTH. -/
def Req.length (q : Req) : Nat := 4 * q.payload.length

/-- The word at a place of the payload. -/
def Req.arg (q : Req) (i : Nat) : Nat := q.payload.getD i 0

end Sys2Proof

namespace Sys2Proof.Machine

/-! ### Unit paths (R5 to R12) -/

/-- The fields of a unit path (Table 0-3). -/
structure UPath where
  member : Nat
  half   : Nat
  octant : Nat
  stave  : Nat
  chan   : Nat
  /-- The reserved bits. -/
  rest   : Nat
  deriving DecidableEq, Repr

/-- A path's fields. -/
def UPath.ofNat (p : Nat) : UPath :=
  ⟨bitsOf p 31 28, bitsOf p 26 25, bitsOf p 24 21, bitsOf p 20 16, bitsOf p 15 12, bitsOf p 27 27 + bitsOf p 11 0⟩

/-- R6 without the member's presence: every field holds a listed value, and reserved bits are 0. -/
def UPath.listed (p : UPath) : Bool :=
  p.rest == 0 && (p.member < 8 || p.member == 15) && (p.half < 2 || p.half == 3) && (p.octant < 4 || p.octant == 15) &&
  (p.stave < 8 || p.stave == 31) && (p.chan < 4 || p.chan == 8 || p.chan == 15) && (p.chan != 8 || p.stave == 0)

/-- A device path (R329). -/
def UPath.isDevice (p : UPath) : Bool := p.half == 3 && p.octant == 15 && p.stave == 31 && p.chan == 15

/-- An octant path (R331). -/
def UPath.isOctant (p : UPath) : Bool := p.stave == 31 && p.chan == 15

/-- The values that a path field addresses. -/
def pathRange (v all n : Nat) : List Nat := if v = all then List.range n else [v]

/-- The global octants addressed, ascending. -/
def UPath.octants (p : UPath) : List Nat :=
  (pathRange p.half 3 2).flatMap (fun h => (pathRange p.octant 15 4).map (fun o => 4 * h + o))

/-- The emitters addressed, ascending (R12). -/
def UPath.emitters (p : UPath) : List Nat :=
  p.octants.flatMap (fun g => (pathRange p.stave 31 8).map (fun s => 8 * g + s))

/-- The front ends addressed, ascending (R7, R9, R12): receive channels or spares, never both. -/
def UPath.frontEnds (p : UPath) : List Nat :=
  if p.chan = 8 then p.octants.map (fun g => 256 + g)
  else p.emitters.flatMap (fun e => (pathRange p.chan 15 4).map (fun k => 4 * e + k))

/-- The path of one octant, one emitter, one front end of member `m`. -/
def pathOfOctant (m g : Nat) : Nat := m * 2 ^ 28 + g / 4 * 2 ^ 25 + g % 4 * 2 ^ 21 + 31 * 2 ^ 16 + 15 * 2 ^ 12
def pathOfEmitter (m e : Nat) : Nat := m * 2 ^ 28 + e / 32 * 2 ^ 25 + e / 8 % 4 * 2 ^ 21 + e % 8 * 2 ^ 16 + 15 * 2 ^ 12
def pathOfFrontEnd (m f : Nat) : Nat :=
  if f < 256 then m * 2 ^ 28 + f / 128 * 2 ^ 25 + f / 32 % 4 * 2 ^ 21 + f / 4 % 8 * 2 ^ 16 + f % 4 * 2 ^ 12
  else m * 2 ^ 28 + (f - 256) / 4 * 2 ^ 25 + (f - 256) % 4 * 2 ^ 21 + 8 * 2 ^ 12

/-- The device path of member `m`. -/
def devicePath (m : Nat) : Nat := m * 2 ^ 28 + 0x07FFF000

/-! ### Opcodes -/

/-- What an opcode's own rules answer: a status, a reply payload, the fault-log ADDRESS of a refusal, and the state. -/
structure OpResult where
  status  : Nat
  payload : List Nat
  address : Nat
  state   : State
  deriving Repr

/-- Executed. -/
def OpResult.ok (s : State) : OpResult := ⟨St.ok, [], 0, s⟩

/-- Executed, with a reply payload. -/
def OpResult.reply (ws : List Nat) (s : State) : OpResult := ⟨St.ok, ws, 0, s⟩

/-- Refused: nothing changes. -/
def OpResult.refuse (status address : Nat) (s : State) : OpResult := ⟨status, [], address, s⟩

/-- An opcode's row of Table 13-5 and its core. -/
structure OpSpec where
  opcode : Nat
  /-- Marked SAFE. -/
  safe   : Bool
  /-- In the version 0x01 set (R343). -/
  v1     : Bool
  /-- Whether the payload's number of words is in the opcode's range, by version. -/
  lenOk  : Nat → Nat → Bool
  /-- Words of the reply, from the request's count words as they stand. -/
  replyWords : Req → State → Nat
  /-- The opcode's path rule. -/
  pathOk : Req → UPath → State → Bool
  /-- Resources the command needs (Table 13-9), as (rank, index). -/
  needs  : Req → State → List (Nat × Nat)
  /-- Step 13. -/
  core   : Req → State → OpResult

/-- A path with the member field of a version 0x01 request: the whole receiving device (R343). -/
def asLocal (q : Req) (s : State) : Req := if q.version = 1 then { q with path := devicePath s.memberNo } else q

namespace State

/-- Every packet is answered BUSY: in SELFTEST, and from step 3 to step 6 of Table 19-1 (R440). -/
def testing (s : State) : Bool := s.mode == Mode.selftest || s.boot.phase == BootPhase.starting

/-- R6, R347: a member field names a member that CORD_STATUS.PRESENT shows; outside a cord, 0 or all. -/
def memberOk (s : State) (m : Nat) : Bool :=
  m == 15 || if s.flag F.CORD_STRAPS_ROLE then m < 8 && bitOf (s.rd F.CORD_STATUS_PRESENT) m else m == 0

/-- R6. -/
def pathValid (s : State) (p : Nat) : Bool := (UPath.ofNat p).listed && s.memberOk (UPath.ofNat p).member

/-- R343: a version 0x01 path names a forerunner channel or all. DEDUCED: log entry 92. -/
def v1PathValid (p : Nat) : Bool := p < 64 || p == 0xFFFFFFFF

/-- The resources that the running recipe holds. DEDUCED: log entry 89. -/
def heldResources (s : State) : List (Nat × Nat) :=
  match s.cmd.run with
  | some r => r.held
  | none => []

/-- The opcodes that the boot ROM's SAFE accepts (R441). -/
def romOpcodes : List Nat := [0x0A00, 0x0A01, 0x0A03, 0x0600, 0x0601, 0x0302]

/-- R350: what a formed cord accepts only with member field 0xF. DEDUCED: log entry 92. -/
def cordWideOnly (s : State) (opcode : Nat) (q : Req) : Bool :=
  let a := q.arg 0
  let held := [A.FIRE_SCHED, A.FIRE_FRAME, A.ACQ_TRIG, A.ACQ_TRIG_TIMEOUT, A.CORD_CTRL]
  let srcOf := fun (w : Nat) => bitsOf w F.ACQ_CTRL_TRIG_SRC.hi F.ACQ_CTRL_TRIG_SRC.lo
  let now := s.word A.ACQ_CTRL
  s.flag F.CORD_STATUS_FORMED &&
  (match opcode with
   | 0x0101 => (addrRun a 4 (q.payload.length - 1)).any (fun b =>
       held.contains b || (b == A.ACQ_CTRL && srcOf (q.arg (1 + (b - a) / 4)) != srcOf now))
   | 0x0102 => held.contains a || (a == A.ACQ_CTRL &&
       srcOf ((now &&& (2 ^ 32 - 1 - q.arg 1 % 2 ^ 32)) ||| (q.arg 2 &&& q.arg 1)) != srcOf now)
   | 0x0201 => a == 4
   | 0x0202 => a == 1
   | 0x0400 => true
   | 0x0801 => true
   | _ => false)

/-- The number of members that answer a request, for the size of its reply (R11). -/
def memberCount (s : State) (q : Req) : Nat :=
  if q.version ≠ 1 ∧ q.path / 2 ^ 28 = 15 ∧ s.flag F.CORD_STATUS_FORMED = true then s.rd F.CORD_STATUS_SIZE else 1

/-- Steps 8 to 12 of Table 13-3: the first refusal, as a status and a fault-log ADDRESS. A recipe's own step finds
its resources held by itself. -/
def checks8to12 (s : State) (sp : OpSpec) (q : Req) : Option (Nat × Nat) :=
  let up := UPath.ofNat q.path
  if s.testing then some (St.busy, 0)
  else if s.boot.phase = .romSafe ∧ !romOpcodes.contains sp.opcode then some (St.safe, 0)
  else if s.mode = Mode.safe ∧ s.boot.phase ≠ .romSafe ∧ !sp.safe then some (St.safe, 0)
  else if q.version = 1 ∧ !sp.v1 then some (St.badOpcode, q.version * 2 ^ 24 + sp.opcode)
  else if !sp.lenOk q.version q.payload.length then some (St.badLength, q.length)
  else if 4 * (sp.replyWords q s * s.memberCount q) > (if q.version = 1 then 1024 else 8192) then some (St.badLength, q.length)
  else if q.version = 1 ∧ q.length > 1024 then some (St.badLength, q.length)
  else if q.version = 1 ∧ !v1PathValid q.path then some (St.badPath, q.path)
  else if q.version ≠ 1 ∧ !s.pathValid q.path then some (St.badPath, q.path)
  else if q.version ≠ 1 ∧ !sp.pathOk q up s then some (St.badPath, q.path)
  else if (q.version = 1 ∨ up.member ≠ 15) ∧ s.cordWideOnly sp.opcode q then some (St.badPath, q.path)
  else if q.src ≠ .recipe ∧ (sp.needs q s).any (fun r => s.heldResources.contains r) then some (St.busy, 0)
  else none

/-- A command is being carried out: the groups that it makes are its own (R326). -/
def commandBegins (s : State) : State :=
  let first := s.nvs.nextId
  { s with nvs := { s.nvs with command := some first } }

/-- The command has been carried out. -/
def commandEnds (s : State) : State := { s with nvs := { s.nvs with command := none } }

/-- Steps 8 to 13 on this device. -/
def runHere (sp : OpSpec) (q : Req) (s : State) : OpResult :=
  let r := match s.checks8to12 sp q with
    | some (st, a) => OpResult.refuse st a s
    | none => sp.core (asLocal q s) s.commandBegins
  { r with state := r.state.commandEnds }

/-! ### Replies -/

/-- R343: status codes that version 0x01 does not have. -/
def v1Status (st : Nat) : Nat :=
  if st = St.budget ∨ st = St.cordTimeout ∨ st = St.safe then St.mode
  else if st = St.nvsFail then St.busy
  else st

/-- A reply's header from its request (Tables 13-1, 13-2). -/
def replyTo (q : Req) (opcode status : Nat) (payload : List Nat) : Reply :=
  let v := if q.version = 1 then 1 else 2
  ⟨v, 1 + q.flags / 2 % 2 * 2, opcode, q.seq, q.path, if v = 1 then v1Status status else status, 0, payload⟩

/-- Bytes of a reply packet. DEDUCED: log entry 76. -/
def replyBytes (r : Reply) : Nat := 24 + 4 * r.payload.length

/-- A reply packet: its header (Table 13-1), its payload and its CRC-32C (R314, R316). DEDUCED: log entry 76. -/
def replyOctets (r : Reply) : List Nat :=
  let bs := [r.version, r.flags] ++ octets 2 r.opcode ++ octets 4 r.seq ++ octets 4 r.path ++
    octets 2 (4 * r.payload.length) ++ octets 2 r.status ++ octets 4 r.rest ++ wordsBytes r.payload
  bs ++ octets 4 (crc32c bs)

/-- A reply to RESET or CORD_RESET. -/
def toReset (r : Reply) : Bool := r.opcode == 0x0302 || r.opcode == 0x0801

/-- The reply of an accepted RESET or CORD_RESET, whatever its status, after whose last byte the reset follows (R334,
R358). DEDUCED: log entry 99. -/
def resetReply (s : State) (r : Reply) : Bool := toReset r && (s.boot.resetDue == .command || s.cord.resetOwed)

/-- SLIP framing (RFC 1055): END, the packet with END and ESC escaped, END. DEDUCED: log entry 82. -/
def slip (bs : List Nat) : List Nat :=
  [0xC0] ++ bs.flatMap (fun b => if b = 0xC0 then [0xDB, 0xDC] else if b = 0xDB then [0xDB, 0xDD] else [b]) ++ [0xC0]

/-- R299: a reply too large for its lane is replaced, with the fault-log entry of the BAD_LENGTH reply. -/
def fitReply (src : Source) (r : Reply) (s : State) : Reply × State :=
  match src with
  | .lane l ep =>
    let room := s.rd (F.NET_LANE_CFG_MTU l.val) - (if ep.ipv6 then 48 else 28)
    if replyBytes r ≤ room then (r, s)
    else
      ({ r with status := St.badLength, payload := [] },
        (s.logEntry (4 * r.payload.length) St.badLength src.code src.core r.seq r.opcode).count ⟨0x0D, 1⟩ src.core)
  | _ => (r, s)

/-- A message leaves on the cord lanes; the last 32 are held. -/
def cordSend (m : CordMsg) (s : State) : State := { s with cord := { s.cord with sent := (m :: s.cord.sent).take 32 } }

/-- The coordinator's transaction takes an answer. -/
def ownAnswer (a : CordAnswer) (s : State) : State :=
  match s.cord.txn with
  | some x => { s with cord := { s.cord with txn := some { x with answers := x.answers ++ [a] } } }
  | none => s

/-- The running recipe's step has ended with a status. -/
def stepEnded (status : Nat) (s : State) : State :=
  match s.cmd.run with
  | some r => { s with cmd := { s.cmd with run := some { r with wait := .ended status } } }
  | none => s

/-- R299: the headers of a reply over UDP: from DOLEY_PORT on the request's lane to where the request came from, with
the request's tag. PRESUMED: log entry 129. -/
def replyHeader (s : State) (l : Nat) (ep : Endpoint) : NetHeader :=
  { dstMac := ep.mac
    srcMac := s.laneMac l
    tag := ep.tag
    ipv6 := ep.ipv6
    srcIp := s.laneIp l ep.ipv6
    dstIp := ep.ip
    dscp := 0
    ident := 0
    srcPort := s.rd F.NET_DOLEY_DOLEY_PORT
    dstPort := ep.port }

/-- R323: the rate of the UART in force, bit/s. -/
def uartRate (s : State) : Nat :=
  if s.boot.phase = .up ∧ s.mode ≠ Mode.safe then s.rd F.CMD_UART_BAUD else 115200

/-- The reply of an accepted RESET is on its way (R334). DEDUCED: log entry 99. -/
def holdReset (r : Reply) (s : State) : State :=
  if s.resetReply r then { s with boot := { s.boot with resetReply := true } } else s

/-- A reply leaves on the UART, in one frame of 8N1 bytes (R323); an accepted RESET follows 1 ms after its last byte. -/
def uartSend (r : Reply) (s : State) : State :=
  let f : UartFrame := ⟨s.uartRate, slip (replyOctets r)⟩
  let s := { s with cmd := { s.cmd with uartOut := some f } }
  let last := s.now + ceilDiv (10 * f.octets.length * 1000000000) f.baud
  if s.resetReply r then { s with boot := { s.boot with replyEnd := last } } else s

/-- A reply leaves on its request's transport (R320): the lane's reply area, the SPI queue of 4 or the UART. -/
def deliver (src : Source) (r : Reply) (s : State) : State :=
  match src with
  | .lane l ep =>
    let s := ({ s with cmd := { s.cmd with lastReply := some (src, r) } }).holdReset r
    s.stageReply l.val ⟨s.replyHeader l.val ep, replyOctets r, s.resetReply r⟩
  | .spi =>
    if s.cmd.spiQ.length < 4 then
      ({ s with cmd := { s.cmd with
        spiQ := s.cmd.spiQ ++ [r]
        lastReply := some (src, r) } }).holdReset r
    else s.count ⟨0x0D, 4⟩ 0
  | .uart => ({ s with cmd := { s.cmd with lastReply := some (src, r) } }).uartSend r
  | .cordLink => s.cordSend (.answer ⟨s.memberNo, r.status, r.payload, 0⟩)
  | .device => s.ownAnswer ⟨s.memberNo, r.status, r.payload, 0⟩
  | .recipe => s.stepEnded r.status

/-- The kept replies of a core. -/
def kept (s : State) (core : Nat) : List KeptReply := if core = 0 then s.cmd.keptN else s.cmd.keptS

/-- The last 8 kept replies of a core, with one more (R319). -/
def keep (core : Nat) (k : KeptReply) (s : State) : State :=
  let l := s.kept core ++ [k]
  let l := l.drop (l.length - 8)
  if core = 0 then { s with cmd := { s.cmd with keptN := l } } else { s with cmd := { s.cmd with keptS := l } }

/-- Whether two sources are one under R319. -/
def sameSource (a b : Source) : Bool :=
  match a, b with
  | .lane l e, .lane l' e' => l == l' && e.ip == e'.ip && e.port == e'.port
  | .spi, .spi => true
  | .uart, .uart => true
  | _, _ => false

/-- The kept reply that a request repeats: the same source and SEQUENCE within 2 s (R319). -/
def duplicateOf (s : State) (q : Req) : Option KeptReply :=
  (s.kept q.src.core).find? (fun k => sameSource k.src q.src && k.seq == q.seq && decide (s.now ≤ k.formedAt + 2000000000))

/-- A reply is formed, kept unless BUSY, and sent unless QUIET suppresses it (R315, R319). What another member's
coordinator, this device's own part of a cord-wide request, or a recipe asked for goes back to it instead. -/
def sendReply (src : Source) (r : Reply) (s : State) : State :=
  if src.isHost then
    let (r, s) := s.fitReply src r
    let s := if r.status = St.busy then s else s.keep src.core ⟨src, r.seq, s.now, r⟩
    if r.status = St.ok ∧ r.flags / 2 % 2 = 1 then s else s.deliver src r
  else s.deliver src r

/-- R326: the fault-log entry of a refusal; BUSY writes none. Refusals are counted in CMD_ERRORS. A recipe's step and
this device's part of its own cord-wide request are answered by no reply of their own (R340, R349). DEDUCED: log
entries 80 and 81. -/
def logRefusal (q : Req) (opcode status address : Nat) (s : State) : State :=
  if status = St.ok ∨ status = St.busy ∨ q.src = .recipe ∨ q.src = .device then s
  else (s.logEntry address status q.src.code q.src.core q.seq opcode).count ⟨0x0D, 1⟩ q.src.core

/-- Whether a group still waits for the writer or is being written. DEDUCED: log entry 79. -/
def groupOwed (s : State) (id : Nat) : Bool :=
  s.nvs.queue.any (fun g => g.id == id) || (match s.nvs.writing with | some w => w.group.id == id | none => false)

/-- The reply of a command whose group was abandoned (R415). DEDUCED: log entry 79. -/
def nvsFailed (r : Reply) : Reply := { r with status := if r.version = 1 then St.busy else St.nvsFail, payload := [] }

/-- Whether a group that a command made has been abandoned at once (R414, R415). -/
def ownFailed (s before : State) : Bool := s.nvs.failedIds.any (fun id => decide (before.nvs.nextId ≤ id))

/-- An answered request: its fault-log entry, and its reply, which waits for the journal writer where the command made
a group (R324, R415). A group that the writer abandoned at once is answered NVS_FAIL, with the request's own entry
(R326, R414). DEDUCED: log entry 79. -/
def finish (q : Req) (opcode : Nat) (before : State) (r : OpResult) : State :=
  let s := r.state.logRefusal q opcode r.status r.address
  let rep := replyTo q opcode r.status r.payload
  if before.nvs.nextId < s.nvs.nextId ∧ r.status = St.ok then
    if s.ownFailed before then
      let s := { s with nvs := { s.nvs with failedIds := s.nvs.failedIds.filter (fun id => decide (id < before.nvs.nextId)) } }
      (s.logRefusal q opcode St.nvsFail 0).sendReply q.src (nvsFailed rep)
    else if s.groupOwed (s.nvs.nextId - 1) then
      { s with nvs := { s.nvs with await := s.nvs.await ++ [(s.nvs.nextId - 1, q.src, rep)] } }
    else s.sendReply q.src rep
  else s.sendReply q.src rep

/-- The replies whose groups are written or abandoned leave (R324, R415). DEDUCED: log entry 79. -/
def settleOne (s : State) (a : Nat × Source × Reply) : State :=
  if s.groupOwed a.1 then { s with nvs := { s.nvs with await := s.nvs.await ++ [a] } }
  else if s.nvs.failedIds.contains a.1 then
    let s := if a.2.1 = .recipe ∨ a.2.1 = .device then s
      else (s.logEntry 0 St.nvsFail a.2.1.code a.2.1.core a.2.2.seq a.2.2.opcode).count ⟨0x0D, 1⟩ a.2.1.core
    s.sendReply a.2.1 (nvsFailed a.2.2)
  else s.sendReply a.2.1 a.2.2

/-- All replies that wait are looked at once. DEDUCED: log entry 79. -/
def settle (s : State) : State :=
  let l := s.nvs.await
  let s := l.foldl settleOne { s with nvs := { s.nvs with await := [] } }
  { s with nvs := { s.nvs with failedIds := [] } }

/-! ### Arrival of a request -/

/-- Whether a transport's packets are received at all (R440, R441, R452, R453): not while the internal reset is held
or the boot ROM runs, not in PARK or before the entry to STANDBY that ends it, and on a lane only while its link is
up. DEDUCED: log entry 75. -/
def receives (s : State) (src : Source) : Bool :=
  (match s.boot.phase with | .held => false | _ => true) &&
  s.mode != Mode.park && !s.boot.tripped &&
  (match src with
   | .lane l _ => s.flag (F.NET_LANE_STATUS_LINK l.val) && (s.boot.phase == .up)
   | _ => true)

/-- R288: a request over UDP is for DOLEY_PORT at the lane's own address. -/
def addressed (s : State) (src : Source) : Bool :=
  match src with
  | .lane l ep =>
    (ep.ipv6 || s.laneIp4 l.val != 0) && ep.dst == s.laneIp l.val ep.ipv6 && ep.dport == s.rd F.NET_DOLEY_DOLEY_PORT
  | _ => true

/-- Bytes of the frame that carries a UDP payload of `n` bytes from an endpoint. DEDUCED: log entry 76. -/
def requestFrameBytes (ep : Endpoint) (n : Nat) : Nat :=
  max 64 (14 + (if ep.tag.isSome then 4 else 0) + (if ep.ipv6 then 40 else 20) + 8 + n + 4)

/-- A received packet of `n` bytes is counted (Table 18-1). DEDUCED: log entry 80. -/
def countBytes (src : Source) (n : Nat) (s : State) : State :=
  let s := s.count ⟨0x0D, 0⟩ src.core
  match src with
  | .lane l ep => s.countN ⟨0x0B, 2⟩ l.val (requestFrameBytes ep n)
  | _ => s

/-- A received request is counted. DEDUCED: log entry 80. -/
def countPacket (q : Req) (s : State) : State := s.countBytes q.src (24 + q.length)

/-- Steps 4 to 7 of Table 13-3, then what `run` does from step 8 on. -/
def accept (opcode : Nat) (q : Req) (run : State → State) (s : State) : State :=
  if q.flags % 2 = 1 then s.count ⟨0x0D, 2⟩ q.src.core
  else
    match s.duplicateOf q with
    | some k =>
      let s := s.count ⟨0x0D, 3⟩ q.src.core
      if k.reply.status = St.ok ∧ q.flags / 2 % 2 = 1 then s else s.deliver q.src k.reply
    | none =>
      if q.version ≠ 1 ∧ q.version ≠ 2 then
        s.finish q opcode (OpResult.refuse St.badOpcode (q.version * 2 ^ 24 + opcode) s)
      else if q.flags / 4 ≠ 0 ∨ q.status ≠ 0 then
        s.finish q opcode (OpResult.refuse St.badParam 0 s)
      else run s

/-! ### The input queues (R320) -/

/-- A core waits for the members' answers to a request: packets that arrive wait in its input queue. DESIGN CHOICE:
log entry 77. -/
def coreBusy (s : State) (core : Nat) : Bool :=
  match s.cord.txn with
  | some x => x.req.src.core == core
  | none => false

/-- A core's input queue (R320). -/
def inQueue (s : State) (core : Nat) : List QueuedReq := if core = 0 then s.cmd.inN else s.cmd.inS

/-- The state with a core's input queue replaced, as CMD_STATUS shows it. DESIGN CHOICE: log entry 77. -/
def putQueue (core : Nat) (l : List QueuedReq) (s : State) : State :=
  if core = 0 then ({ s with cmd := { s.cmd with inN := l } }).wr F.CMD_STATUS_QUEUE_N l.length
  else ({ s with cmd := { s.cmd with inS := l } }).wr F.CMD_STATUS_QUEUE_S l.length

end State
end Sys2Proof.Machine
end

