-- ==== Sys2Proof/Machine/Tally.lean ====
section
/-! DEFINITION. The tally (chapter 18): counter words, snapshots, dumps, the bandwidth meter and the sampler. -/

namespace Sys2Proof.Machine

/-- R429: the `n` counters from an index, through the instances of one block that exist; none where the sequence
would run past the last. -/
def counterSeq (block : Nat) : Nat → Nat → Nat → Option (List (Nat × Nat))
  | _, _, 0 => some []
  | inst, idx, n + 1 =>
    if tallyInst block ≤ inst then none
    else if idx < tallyCount block inst then
      (counterSeq block (if idx + 1 < tallyCount block inst then inst else inst + 1)
        (if idx + 1 < tallyCount block inst then idx + 1 else 0) n).map (fun r => (inst, idx) :: r)
    else none

/-- The 64-bit word of one counter from a store of counts (R429). -/
def counterWord (m : Sparse Nat) (block inst idx : Nat) (snap : Bool) : Nat :=
  let ch := tallyChained block inst
  if ch.contains idx then b2n snap * 2 ^ 61 + Sparse.get m 0 (ctrId ⟨block, idx⟩ inst) % 2 ^ 48
  else if idx ≥ 1 ∧ ch.contains (idx - 1) then
    2 ^ 62 + b2n snap * 2 ^ 61 + Sparse.get m 0 (ctrId ⟨block, idx - 1⟩ inst) / 2 ^ 48 % 2 ^ 48
  else
    let v := Sparse.get m 0 (ctrId ⟨block, idx⟩ inst)
    b2n (v == 2 ^ 48 - 1) * 2 ^ 63 + b2n snap * 2 ^ 61 + v % 2 ^ 48

/-- A 64-bit word as two payload words, big-endian. -/
def split64 (w : Nat) : List Nat := [w / 2 ^ 32 % 2 ^ 32, w % 2 ^ 32]

/-- Every counter of one block, in the order of R429. -/
def blockCounters (block : Nat) : List (Nat × Nat) :=
  (List.range (tallyInst block)).flatMap (fun i => (List.range (tallyCount block i)).map (fun j => (i, j)))

/-- A list cut into pieces of at most `n`; `fuel` bounds the number of pieces. -/
def pieces {α : Type} (n : Nat) : Nat → List α → List (List α)
  | 0, _ => []
  | fuel + 1, l => if l.isEmpty then [] else l.take n :: pieces n fuel (l.drop n)

/-- R432: one dump record. -/
def dumpRecord (d : DumpLatch) (block : Nat) (cs : List (Nat × Nat)) : List Nat :=
  let id := match cs with
    | (i, j) :: _ => ctrId ⟨block, j⟩ i
    | [] => 0
  [1 * 2 ^ 56 + (4 + cs.length) * 2 ^ 32, d.number % 2 ^ 32 * 2 ^ 32 + id, d.sec * 2 ^ 16 + cs.length, d.ns * 2 ^ 32] ++
    cs.map (fun c => counterWord d.counts block c.1 c.2 false)

/-- R432: the records of a dump, blocks in ascending number. -/
def dumpRecords (d : DumpLatch) : List (List Nat) :=
  (bitList d.mask 21).flatMap (fun b => (pieces 32 1000 (blockCounters b)).map (dumpRecord d b))

namespace State

/-- R430: the control counters are latched; SEQ and the latch time are recorded. DEDUCED: log entry 116. -/
def snapshot (s : State) : State :=
  let m := s.tally.live.filter (fun p => tallyClassC (p.1 / 2 ^ 24))
  let s := { s with tally := { s.tally with snap := m } }
  let s := s.wr F.TALLY_SNAP_SEQ ((s.rd F.TALLY_SNAP_SEQ + 1) % 2 ^ 16)
  let s := (s.wr F.TALLY_SNAP_SEC_SEC s.sec).wr F.TALLY_SNAP_NS_NS s.nsec
  s.count ⟨0x13, 2⟩ 0

/-- R431, R433: a dump falls due. It latches in the present coarse period, and a request of the same period joins it;
one that finds BUSY is not latched. DEDUCED: log entry 116. -/
def dumpDue (s : State) : State :=
  if s.tally.dumpAt = some s.now then s
  else if s.flag F.TALLY_DUMP_STATUS_BUSY then s.count ⟨0x13, 1⟩ 0
  else
    let mask := s.rd F.TALLY_DUMP_MASK_MASK
    let m := s.tally.live.filter (fun p => bitOf mask (p.1 / 2 ^ 24))
    let d : DumpLatch := ⟨s.tally.dumpNo, s.sec, s.nsec, mask, m⟩
    let n := s.now
    let s := { s with tally := { s.tally with
      dump := some d
      dumpNo := (s.tally.dumpNo + 1) % 2 ^ 32
      dumpAt := some n } }
    let s := (s.wr F.TALLY_DUMP_STATUS_BUSY 1).wr F.TALLY_DUMP_STATUS_NUMBER d.number
    s.count ⟨0x13, 0⟩ 0

/-- R431: PERIOD_MS elapses while it is not 0. -/
def dumpPeriod (s : State) : State := if s.rd F.TALLY_DUMP_CFG_PERIOD_MS = 0 then s else s.dumpDue

/-- R433: the latched dump's records enter the telemetry regions, and BUSY clears. -/
def dumpDone (s : State) : State :=
  match s.tally.dump with
  | none => s
  | some d =>
    let s := (dumpRecords d).foldl (fun s r => s.telemetry r) s
    ({ s with tally := { s.tally with dump := none } }).wr F.TALLY_DUMP_STATUS_BUSY 0

/-- R434: a meter window of one port ends. -/
def bwPort (s : State) (p : Nat) : State :=
  let b := min (s.tally.bwCount.getD p 0) (2 ^ 32 - 1)
  let s := s.wr (F.TALLY_BW_BYTES p) b
  if s.rd (F.TALLY_BW_PEAK_PEAK p) < b then s.wr (F.TALLY_BW_PEAK_PEAK p) b else s

/-- R434: a meter window ends. DEDUCED: log entry 116. -/
def bwWindow (s : State) : State :=
  let s := (List.range 8).foldl bwPort s
  { s with tally := { s.tally with bwCount := List.replicate 8 0 } }

/-- R435: a sample; its STEP may lie up to three steps beyond the step executing, which the part leaves open. DESIGN
CHOICE: log entry 117. -/
def sampleTick (s : State) : State :=
  if s.flag F.TALLY_SAMPLE_CFG_EN then
    let n := s.rd F.TALLY_SAMPLE_STATUS_NEXT
    let (run, rec, step) := match s.cmd.run with
      | some r => (1, r.number, min (r.step + s.fresh % 4) (r.steps.length - 1))
      | none => (0, s.rd F.CMD_RECIPE_NUMBER, s.rd F.CMD_RECIPE_STEP)
    let k := s.counter ⟨0x13, 3⟩ 0
    let s := ((((s.tick.wr (F.TALLY_SAMPLE_VALID n) 1).wr (F.TALLY_SAMPLE_RUNNING n) run).wr (F.TALLY_SAMPLE_RECIPE n) rec).wr
      (F.TALLY_SAMPLE_STEP n) step).wr (F.TALLY_SAMPLE_SAMPLE n) (k % 2 ^ 16)
    (s.wr F.TALLY_SAMPLE_STATUS_NEXT ((n + 1) % 16)).count ⟨0x13, 3⟩ 0
  else s

/-! ### Opcodes -/

/-- TALLY_SNAPSHOT (R430). -/
def opTallySnapshot (_ : Req) (s : State) : OpResult := OpResult.ok s.snapshot

/-- TALLY_READ (R429). -/
def opTallyRead (q : Req) (s : State) : OpResult :=
  let id := q.arg 0
  let n := q.arg 1
  let block := id / 2 ^ 24
  let inst := id / 2 ^ 8 % 2 ^ 16
  let idx := id % 16
  if n = 0 ∨ 1024 < n ∨ id / 16 % 16 ≠ 0 ∨ tallyInst block ≤ inst ∨ tallyCount block inst ≤ idx then
    OpResult.refuse St.badParam 0 s
  else
    match counterSeq block inst idx n with
    | none => OpResult.refuse St.badParam 0 s
    | some l =>
      let c := tallyClassC block
      let m := if c then s.tally.snap else s.tally.live
      OpResult.reply (l.flatMap (fun p => split64 (counterWord m block p.1 p.2 c))) s

/-- TALLY_DUMP (R431). -/
def opTallyDump (_ : Req) (s : State) : OpResult := OpResult.ok s.dumpDue

end State
end Sys2Proof.Machine
end

