-- ==== Sys2Proof/Machine/Regs.lean ====
section
/-! DEFINITION. Host accesses to registers (R2, R3, R459, R461, R479, R480): the checks of a written word, the rules of
single registers, what a write starts, and what a read latches. -/

namespace Sys2Proof.Machine

/-! ### Words against the register map -/

/-- The bits of a field. -/
def FieldDef.mask (f : FieldDef) : Nat := (2 ^ (f.hi + 1 - f.lo) - 1) * 2 ^ f.lo

/-- The bits of a register's fields of one access code. -/
def RegDef.maskOf (r : RegDef) (a : Access) : Nat := ((r.fields.filter (fun f => f.acc == a)).map FieldDef.mask).sum

/-- The bits that belong to no field (R3). LAND_ECHO_MAP reserves one bit in four. -/
def RegDef.reserved (r : RegDef) : Nat :=
  match r.kind with
  | .echoMap => 0x88888888
  | _ => 2 ^ 32 - 1 - (r.fields.map FieldDef.mask).sum

/-- The modes in which a field may change. -/
def Gate.ok (g : Gate) (m : Nat) : Bool :=
  match g with
  | .always => true
  | .standbyConfig => m == Mode.standby || m == Mode.config
  | .configOnly => m == Mode.config
  | .standbyConfigService => m == Mode.standby || m == Mode.config || m == Mode.service

/-- The word that a register holds after a write of its RW fields alone. -/
def RegDef.merge (r : RegDef) (old w : Nat) : Nat :=
  let m := r.maskOf .rw
  (old - (old &&& m)) ||| (w &&& m)

/-- A field is refused with MODE: an RW field that would change, or a WR field that is written, outside its modes
(R480). -/
def FieldDef.gated (f : FieldDef) (mode old w : Nat) : Bool :=
  match f.acc with
  | .rw => bitsOf old f.hi f.lo != bitsOf w f.hi f.lo && !f.gate.ok mode
  | .wr => bitsOf w f.hi f.lo != 0 && !f.gate.ok mode
  | _ => false

/-- A field's value lies outside its stated range. -/
def FieldDef.outside (f : FieldDef) (w : Nat) : Bool :=
  match f.acc with
  | .rw => decide (bitsOf w f.hi f.lo < f.min) || decide (f.max < bitsOf w f.hi f.lo)
  | _ => false

/-- What the register table alone refuses of a word: status and fault-log ADDRESS (R3, R4, R480). DEDUCED: log entry
7. -/
def RegDef.refusal (r : RegDef) (mode a old w : Nat) : Option (Nat × Nat) :=
  if w &&& r.reserved ≠ 0 then some (St.badParam, a)
  else if r.fields.any (fun f => f.gated mode old w) then some (St.mode, a)
  else if r.fields.any (fun f => f.outside w) then some (St.badParam, a)
  else none

/-- A written word leaves every RW field of a register whose fields all have mode rules as it stands, and triggers
nothing (R480). -/
def RegDef.inert (r : RegDef) (old w : Nat) : Bool :=
  r.fields.any (fun f => f.acc == .rw) && r.fields.all (fun f =>
    match f.acc with
    | .rw => f.gate != .always && bitsOf old f.hi f.lo == bitsOf w f.hi f.lo
    | .wr => bitsOf w f.hi f.lo == 0
    | .w1c => bitsOf w f.hi f.lo == 0
    | _ => true)

/-- Refusals of one register's own rule. -/
def refuseIf (c : Bool) (st a : Nat) : Option (Nat × Nat) := if c then some (st, if st = St.busy then 0 else a) else none

/-- The first refusal of a list. -/
def firstOf (l : List (Option (Nat × Nat))) : Option (Nat × Nat) := l.findSome? id

/-- A field differs between two words. -/
def fldDiff (f : Fld) (old new : Nat) : Bool := bitsOf old f.hi f.lo != bitsOf new f.hi f.lo

/-- The half of a front end. -/
def halfOfFe (f : Nat) : Nat := if f < 256 then f / 128 else (f - 256) / 4

namespace State

/-! ### Rules of single registers

Each takes the present state `s`, the state `p` as every RW field of the command would stand after it (R479), the
register's address, its present word, and the word written. -/

/-- Chapter 2. -/
def ruleTime (s p : State) (a w : Nat) : Option (Nat × Nat) :=
  if a = A.TIME_SYNC_CTRL then
    refuseIf (p.flag F.TIME_SYNC_CTRL_PTP_PROFILE && p.rd F.TIME_SYNC_CTRL_PTP_TRANSPORT != 2) St.badParam a
  else if a = A.TIME_RATE_ADJ then refuseIf (decide (1099511628 < (p.rdS F.TIME_RATE_ADJ_ADJ).natAbs)) St.badParam a
  else if a = A.TIME_STEP_NS then refuseIf (decide (999999999 < (p.rdS F.TIME_STEP_NS_STEP_NS).natAbs)) St.badParam a
  else if a = A.TIME_STEP_CTRL then refuseIf (bitOf w 0 && s.flag F.TIME_STEP_CTRL_PENDING) St.busy a
  else none

/-- Chapter 3: the statistics units (R82, R85, R86). DESIGN CHOICE: log entry 29. -/
def ruleStat (s p : State) (a old w : Nat) : Option (Nat × Nat) :=
  let u := (a - 0x020100) / 0x80
  let changed := old != p.word a
  let running := s.flag (F.TDC_STAT_STATUS_BUSY u)
  if a = A.TDC_STAT_CTRL u then
    let start := bitOf w 31
    firstOf [
      refuseIf (running && (start || (changed && !bitOf w 30))) St.busy a,
      refuseIf (start && halfOfFe (p.rd (F.TDC_STAT_CTRL_FE u)) != u) St.badParam a]
  else if running && changed then some (St.busy, 0)
  else if a = A.TDC_STAT_GATE u then
    refuseIf (decide (p.rd (F.TDC_STAT_GATE_GATE_HI u) < p.rd (F.TDC_STAT_GATE_GATE_LO u))) St.badParam a
  else none

/-- Chapter 4: the octant sets (R106, R109, R117). -/
def ruleRxOct (s p : State) (a w : Nat) : Option (Nat × Nat) :=
  let g := (a - 0x030100) / 0x40
  if a = A.RX_OCT_XBAR g then
    let sets := p.flag (F.RX_OCT_XBAR_SUBST_EN g) &&
      (!s.flag (F.RX_OCT_XBAR_SUBST_EN g) || s.rd (F.RX_OCT_XBAR_SUBST_CH g) != p.rd (F.RX_OCT_XBAR_SUBST_CH g))
    refuseIf (sets && (s.flag (F.RX_OCT_XBAR_CAL_HOLD g) || s.flag (F.RX_OCT_XBAR_SWITCH_PEND g) || s.calBusy g)) St.busy a
  else if a = A.RX_OCT_BIAS_LIM g then
    refuseIf (decide (p.rd (F.RX_OCT_BIAS_LIM_MAX g) < p.rd (F.RX_OCT_BIAS_LIM_MIN g))) St.badParam a
  else if a = A.RX_OCT_INJ_CTRL g && bitOf w 31 then
    let st := s.injGoStatus g (p.rd (F.RX_OCT_INJ_CTRL_TARGET g))
    refuseIf (st != St.ok) st a
  else none

/-- R97: the base thresholds are in order. -/
def thrOk (p : State) (l : Nat) : Bool :=
  match p.baseThr l with
  | [t0, t1, t2, t3] => decide (1 ≤ t0) && decide (t0 < t1) && decide (t1 < t2) && decide (t2 < t3) && decide (t3 ≤ 1023)
  | _ => false

/-- R102: the limits of T0 in order, and base T0 between them while ADAPT_EN is 1. -/
def adaptOk (p : State) (l : Nat) : Bool :=
  let lo := p.rd (F.RX_FE_ADAPT_LIM_T0_MIN l)
  let hi := p.rd (F.RX_FE_ADAPT_LIM_T0_MAX l)
  let t0 := p.rd (F.RX_FE_THR_A_T0 l)
  decide (lo ≤ hi) && (!p.flag (F.RX_FE_CFG_ADAPT_EN l) || (decide (lo ≤ t0) && decide (t0 ≤ hi)))

/-- Chapter 4: the front-end sets (R97, R102, R112). A write that clears SAT_SEEN changes the set. -/
def ruleRxFe (s p : State) (a old w : Nat) : Option (Nat × Nat) :=
  let l := (a - 0x220000) / 0x100
  let changed := old != p.word a || (a == A.RX_FE_STATUS l && bitOf old 25 && bitOf w 25)
  if 256 ≤ l && changed && (s.routedCh (l - 256)).isSome then some (St.busy, 0)
  else if a = A.RX_FE_CFG l then refuseIf (p.flag (F.RX_FE_CFG_ADAPT_EN l) && !p.adaptOk l) St.badParam a
  else if a = A.RX_FE_THR_A l || a = A.RX_FE_THR_B l then refuseIf (!p.thrOk l || !p.adaptOk l) St.badParam a
  else if a = A.RX_FE_ADAPT_LIM l then refuseIf (!p.adaptOk l) St.badParam a
  else none

/-- Chapter 5. -/
def ruleFire (s p : State) (a old w : Nat) : Option (Nat × Nat) :=
  let new := p.word a
  if a = A.FIRE_CTRL then
    refuseIf (fldDiff F.FIRE_CTRL_STAGGER_Q old new && !(p.check5 (p.shotSlots p.activeCopy)).isEmpty) St.badParam a
  else if a = A.FIRE_FRAME then refuseIf (old != new && s.flag F.FIRE_SCHED_PEND) St.busy a
  else if a = A.FIRE_SCHED then (if bitOf w 31 then p.swapRefusal else none)
  else if a = A.FIRE_DIAG_CTRL then refuseIf (bitOf w 31 && s.mode != Mode.service) St.mode a
  else if 0x041000 ≤ a then
    let e := (a - 0x041000) / 0x20
    if a = A.FIRE_EM_CFG e then
      refuseIf (fldDiff (F.FIRE_EM_CFG_DOMAIN e) old new && !(p.check5 (p.shotSlots p.activeCopy)).isEmpty) St.badParam a
    else if a = A.FIRE_EM_CS_CFG e then
      refuseIf (decide (p.rd (F.FIRE_EM_CS_CFG_SHORT_THR e) ≤ p.rd (F.FIRE_EM_CS_CFG_OPEN_THR e))) St.badParam a
    else none
  else
    let g := (a - 0x040100) / 0x10
    if a = A.FIRE_OCT_LEVEL_LIM g && decide (g < 8) then
      refuseIf (decide (p.rd (F.FIRE_OCT_LEVEL_LIM_MAX g) < p.rd (F.FIRE_OCT_LEVEL_LIM_MIN g))) St.badParam a
    else none

/-- Chapter 7: W_0 to W_7 strictly increase. -/
def walkOk (p : State) (f : Nat) : Bool :=
  (List.range 7).all (fun n => decide (p.rd (F.ECHO_FE_WALK_W f n) < p.rd (F.ECHO_FE_WALK_W f (n + 1))))

/-- R199: DIV against the running stages. -/
def divOk (p : State) : Bool := decide (5 * p.rd F.ANGLE_EXC_DIV ≤ 2 ^ (p.rd F.ANGLE_DEC_STAGES + 3))

/-- Chapter 8: R196 and R199 for RUN, and the rules of the other registers. -/
def ruleAngle (s p : State) (a old : Nat) : Option (Nat × Nat) :=
  let changed := old != p.word a
  let running := s.flag F.ANGLE_STATUS_RUNNING
  if a = A.ANGLE_CTRL then
    let r0 := s.flag F.ANGLE_CTRL_RUN
    let r1 := p.flag F.ANGLE_CTRL_RUN
    firstOf [
      refuseIf (r0 && !r1 && (s.mode == Mode.scan || s.axClosed .v)) St.mode a,
      refuseIf (!r0 && r1 && s.chainMode && !p.chainStartOk) St.badParam a]
  else if a = A.ANGLE_EXC then refuseIf (!p.divOk) St.badParam a
  else if a = A.ANGLE_DEC then firstOf [refuseIf (changed && running) St.mode a, refuseIf (!p.divOk) St.badParam a]
  else if A.ANGLE_HB_A 0 ≤ a && a ≤ A.ANGLE_HB_B 2 then refuseIf (changed && running) St.mode a
  else if a = A.ANGLE_CM_WIN then
    refuseIf (decide (p.rd F.ANGLE_CM_WIN_HI ≤ p.rd F.ANGLE_CM_WIN_LO)) St.badParam a
  else none

/-- R234, R229, R221, R230: SERVO_AXIS_CTRL of an axis. -/
def ruleAxis (s p : State) (ax : Axis) (a w : Nat) : Option (Nat × Nat) :=
  let n := ax.num
  let sets := p.flag (F.SERVO_AXIS_CTRL_EN n) && !s.flag (F.SERVO_AXIS_CTRL_EN n)
  let up := p.unparkStatus ax
  firstOf [
    refuseIf (sets && !s.bankValid ax) St.badParam a,
    refuseIf (sets && ax == .v && !p.vRateOk) St.badParam a,
    refuseIf (bitOf w 31 && up != St.ok) up a,
    refuseIf (bitOf w 29 && s.flag (F.SERVO_AXIS_STATUS_SWAP_PEND n)) St.busy a]

/-- Chapter 9. -/
def ruleServo (s p : State) (a old w : Nat) : Option (Nat × Nat) :=
  if a = A.SERVO_AXIS_CTRL 0 then ruleAxis s p .v a w
  else if a = A.SERVO_AXIS_CTRL 1 then ruleAxis s p .h a w
  else if a = A.SERVO_V_CFG || a = A.SERVO_V_LO || a = A.SERVO_V_HI then
    firstOf [
      refuseIf (a == A.SERVO_V_CFG && fldDiff F.SERVO_V_CFG_V_DIV old (p.word a) && p.flag (F.SERVO_AXIS_CTRL_EN 0) && !p.vRateOk)
        St.badParam a,
      refuseIf (p.flag F.SERVO_V_CFG_MODE && decide (p.rdS F.SERVO_V_HI_V_HI ≤ p.rdS F.SERVO_V_LO_V_LO)) St.badParam a]
  else none

/-- Chapter 10. -/
def ruleGeom (s p : State) (a w : Nat) : Option (Nat × Nat) :=
  if a = A.GEOM_SECTOR then refuseIf (p.sectorShort p.activeCopy) St.badParam a
  else if a = A.GEOM_POSE_CTRL then
    if bitOf w 31 then firstOf [refuseIf (!s.quiet) St.mode a, refuseIf (s.flag F.GEOM_POSE_CTRL_BUSY) St.busy a] else none
  else if a = A.GEOM_ENV_CTRL then refuseIf (w % 16 &&& s.rd F.GEOM_ENV_STATUS_APPLY_PEND != 0) St.busy a
  else none

/-- Chapter 11 (R268, R279). -/
def ruleCam (s p : State) (a old w : Nat) : Option (Nat × Nat) :=
  let k := if a < 0x0A0200 then 0 else 1
  let new := p.word a
  if a = A.CAM_PORT_CFG k then
    firstOf [
      refuseIf (s.flag (F.CAM_PORT_CFG_EN k) && (fldDiff (F.CAM_PORT_CFG_GEN k) old new ||
        fldDiff (F.CAM_PORT_CFG_LANES k) old new || fldDiff (F.CAM_PORT_CFG_VC k) old new ||
        fldDiff (F.CAM_PORT_CFG_LANE_10M k) old new)) St.mode a,
      refuseIf (p.flag (F.CAM_PORT_CFG_GEN k) && decide (150 < p.rd (F.CAM_PORT_CFG_LANE_10M k))) St.badParam a,
      refuseIf (p.flag (F.CAM_PORT_CFG_EN k) && !s.flag (F.CAM_PORT_CFG_EN k) && !ctxOk (s.camTable k)) St.badParam a]
  else if a = A.CAM_CCI_CTRL k then
    if bitOf w 31 then
      let st := p.cciStatus k
      refuseIf (st != St.ok) st a
    else none
  else if a = A.CAM_CCI_EXP k || A.CAM_CCI_DATA k 0 ≤ a then
    refuseIf (old != new && s.flag (F.CAM_CCI_CTRL_BUSY k)) St.busy a
  else none

/-- Chapters 12 to 18. -/
def ruleRest (s p : State) (a old w : Nat) : Option (Nat × Nat) :=
  let new := p.word a
  if A.LAND_REGION 0 ≤ a && a ≤ A.LAND_REGION 15 then refuseIf (old != new && !p.regionsOk) St.badParam a
  else if a = A.CMD_RECIPE_EN_LO || a = A.CMD_RECIPE_EN_HI then
    let b := if a = A.CMD_RECIPE_EN_LO then 0 else 32
    refuseIf ((bitList new 32).any (fun i => !bitOf old i && !s.cmd.recipes.any (fun r => r.number == b + i))) St.badParam a
  else if a = A.CORD_CTRL then refuseIf (p.rd F.CORD_CTRL_RELAY != 0 && !s.isFollower) St.badParam a
  else if a = A.HK_INJECT then refuseIf (s.flag F.HK_STATUS_INJ_PEND && (bitOf w 31 || old != new)) St.busy a
  else if a = A.THERM_LIMITS then
    refuseIf (decide (p.rd F.THERM_LIMITS_THR_RATE < p.rd F.THERM_LIMITS_WARN_RATE) ||
      decide (p.rd F.THERM_LIMITS_SHUT_C < p.rd F.THERM_LIMITS_THROT_C + 5)) St.badParam a
  else if a = A.TALLY_DUMP_MASK then refuseIf ((bitList new 21).any tallyClassC) St.badParam a
  else none

/-- The rule of the register at an address. -/
def regRule (s p : State) (a w : Nat) : Option (Nat × Nat) :=
  let old := s.word a
  match a / 0x10000 with
  | 0x01 => ruleTime s p a w
  | 0x02 => if A.TDC_STAT_CTRL 0 ≤ a then ruleStat s p a old w else none
  | 0x03 => if 0x030100 ≤ a then ruleRxOct s p a w else none
  | 0x04 => ruleFire s p a old w
  | 0x06 => if a = A.ECHO_CLASS_W then
      refuseIf (decide (p.rd F.ECHO_CLASS_W_SOFT_W ≤ p.rd F.ECHO_CLASS_W_HARD_W)) St.badParam a else none
  | 0x07 => ruleAngle s p a old
  | 0x08 => ruleServo s p a old w
  | 0x09 => ruleGeom s p a w
  | 0x0A => if 0x0A0100 ≤ a then ruleCam s p a old w else none
  | 0x20 => ruleTdcFe p a
  | 0x21 => ruleTdcFe p a
  | 0x22 => ruleRxFe s p a old w
  | 0x23 => ruleRxFe s p a old w
  | 0x24 => ruleWalk p a
  | 0x25 => ruleWalk p a
  | _ => ruleRest s p a old w
where
  /-- R64: inputs 0 and 1 stay enabled. -/
  ruleTdcFe (p : State) (a : Nat) : Option (Nat × Nat) :=
    let f := (a - 0x200000) / 0x100
    refuseIf (a == A.TDC_FE_CFG f && p.rd (F.TDC_FE_CFG_EDGE_EN f) % 4 != 3) St.badParam a
  /-- Chapter 7: a breakpoint write. -/
  ruleWalk (p : State) (a : Nat) : Option (Nat × Nat) :=
    let f := (a - 0x240000) / 0x100
    refuseIf (decide (A.ECHO_FE_WALK f 0 ≤ a) && !p.walkOk f) St.badParam a

/-! ### The checks of a command's words (R330, R479) -/

/-- The state as the RW fields of a command's words leave it: what R479 judges. DEDUCED: log entry 8. -/
def viewAfter (ws : List (Nat × Nat)) (s : State) : State :=
  ws.foldl (fun p aw =>
    match findReg aw.1 with
    | some r => p.putWord aw.1 (r.reg.merge (p.word aw.1) aw.2)
    | none => p) s

/-- The words of the budget check, as the check on `v` has left them (R311). DEDUCED: log entries 70 and 95. -/
def takeBudget (s v : State) : State :=
  let copy := fun (s : State) (a : Nat) => s.putWord a (v.word a)
  let s := copy { s with free := v.free } A.LAND_BUDGET_STATUS
  let s := (List.range 8).foldl (fun s p => copy s (A.LAND_PORT_BW p)) s
  (List.range 16).foldl (fun s n => copy s (A.LAND_REGION_FILL n)) s

/-- The copy whose budget a word puts to the check: that in force at a write of CAM_PORT_CFG.EN = 1 (R275), the shadow
at a SWAP in the firing modes (R132). DEDUCED: log entry 70. -/
def budgetCopy (s p : State) (a w : Nat) : Option Nat :=
  if a = A.CAM_PORT_CFG 0 || a = A.CAM_PORT_CFG 1 then
    let k := if a = A.CAM_PORT_CFG 0 then 0 else 1
    if p.flag (F.CAM_PORT_CFG_EN k) && !s.flag (F.CAM_PORT_CFG_EN k) then some s.activeCopy else none
  else if a = A.FIRE_SCHED && bitOf w 31 && s.firing then some (1 - s.activeCopy)
  else none

/-- One word of a command: its first refusal. The budget check writes its results whatever it finds. DEDUCED: log
entries 7 and 124. -/
def checkWord (p : State) (acc : State × Option (Nat × Nat)) (aw : Nat × Nat) : State × Option (Nat × Nat) :=
  match acc with
  | (s, some r) => (s, some r)
  | (s, none) =>
    match findReg aw.1 with
    | none => (s, some (St.access, aw.1))
    | some r =>
      match r.reg.refusal s.mode aw.1 (s.word aw.1) aw.2 with
      | some x => (s, some x)
      | none =>
        match regRule s p aw.1 aw.2 with
        | some x => (s, some x)
        | none =>
          match budgetCopy s p aw.1 aw.2 with
          | none => (s, none)
          | some c =>
            let (v, fails) := p.budgetCheck c
            let s := s.takeBudget v
            (s, if fails then some (St.budget, s.word A.LAND_BUDGET_STATUS) else none)

/-- R456: a word that kicks a watchdog. DEDUCED: log entries 7 and 124. -/
def kicks (aw : Nat × Nat) : Bool := aw.1 == A.DEV_WDT && aw.2 % 256 != 0

/-- A register journalled when it is written (R408). -/
def journalledReg (a : Nat) : Bool :=
  match findReg a with
  | some r => r.reg.journal == .onWrite
  | none => false

/-- A word that leaves every field of a register with mode rules as it stands and triggers nothing: it starts no
action and is not journalled (R480). DEDUCED: log entry 9. -/
def inertWord (s : State) (aw : Nat × Nat) : Bool :=
  match findReg aw.1 with
  | none => false
  | some r => r.reg.inert (s.word aw.1) aw.2

/-- A word whose command makes a group: a journalled register, a LOAD, an APPLY that acts at once (R252, R255, R408). -/
def makesGroup (s : State) (aw : Nat × Nat) : Bool :=
  (journalledReg aw.1 && !s.inertWord aw) || (aw.1 == A.GEOM_POSE_CTRL && bitOf aw.2 31) ||
  (aw.1 == A.GEOM_ENV_CTRL && aw.2 % 16 != 0 && !s.sectorsRun)

/-- All checks of a command's words, in ascending address (R330). DEDUCED: log entries 7, 8 and 124. -/
def checkWords (ws : List (Nat × Nat)) (s : State) : State × Option (Nat × Nat) :=
  match ws.find? (fun aw => (findReg aw.1).isNone) with
  | some aw => (s, some (St.access, aw.1))
  | none =>
    match ws.find? kicks with
    | some aw => (s, some (St.access, aw.1))
    | none =>
      match ws.foldl (checkWord (s.viewAfter ws)) (s, none) with
      | (s, some r) => (s, some r)
      | (s, none) => if ws.any s.makesGroup && s.journalFull then (s.queueRefused, some (St.busy, 0)) else (s, none)

/-! ### What a write starts -/

/-- Chapters 1 and 2. -/
def actTime (a old w : Nat) (s : State) : State :=
  if a = A.TIME_SYNC_CTRL then (if fldDiff F.TIME_SYNC_CTRL_SYNC_SRC old (s.word a) then s.syncSource else s)
  else if a = A.TIME_STEP_CTRL then (if bitOf w 0 then s.stepGo else s)
  else if a = A.TIME_TUNE || a = A.TIME_TUNE_POLY then s.tuneWrite
  else s

/-- Chapter 3. DESIGN CHOICE: log entry 29. -/
def actTdc (a old w : Nat) (s : State) : State :=
  if a = A.TDC_CTRL then
    if fldDiff F.TDC_CTRL_MODE old (s.word a) then s.unlockAll else s
  else
    let u := (a - 0x020100) / 0x80
    if a = A.TDC_STAT_CTRL u then
      let s := if bitOf w 31 then s.statStart u else s
      if bitOf w 30 then s.statAbort u else s
    else s

/-- Chapter 4: the octant sets. -/
def actRxOct (a old w : Nat) (s : State) : State :=
  if a < 0x030100 then s
  else
    let g := (a - 0x030100) / 0x40
    if a = A.RX_OCT_XBAR g then
      s.xbarSubst g (bitsOf old 31 31 == 1) (bitsOf old 4 0)
    else if a = A.RX_OCT_BIAS g || a = A.RX_OCT_BIAS_LIM g || a = A.RX_OCT_BIAS_POLY g then
      let s := s.refreshBias g
      if s.rx.powered then s else s.biasOffOne g
    else if a = A.RX_OCT_INJ_CTRL g then
      let s := if bitOf w 31 then s.injStart g else s
      if bitOf w 30 && !s.flag (F.RX_OCT_INJ_CTRL_OWNED g) then s.injEnd g else s
    else s

/-- Chapter 4: the front-end sets; a routed channel's registers act on the spare (R112). -/
def actRxFe (a old : Nat) (s : State) : State :=
  let l := (a - 0x220000) / 0x100
  let f := if l < 256 then s.physical l else l
  let new := s.word a
  if a = A.RX_FE_CFG l then
    let s := if fldDiff (F.RX_FE_CFG_RANGE l) old new || fldDiff (F.RX_FE_CFG_OFF l) old new then s.changeCfg f else s
    if !fldDiff (F.RX_FE_CFG_ADAPT_EN l) old new then s
    else if s.flag (F.RX_FE_CFG_ADAPT_EN l) then s.loopRestart f
    else s.showHeld l false false
  else if a = A.RX_FE_THR_A l || a = A.RX_FE_THR_B l then
    -- a routed spare's own set is written with its present values alone (R112), which starts nothing (R480)
    if 256 ≤ l ∧ (s.routedCh (l - 256)).isSome then s
    else ((s.wr (F.RX_FE_ADAPT_STATE_DELTA l) 0).changeThr f).loopRestart f
  else s

/-- Chapter 5. -/
def actFire (a old w : Nat) (s : State) : State :=
  let new := s.word a
  if a = A.FIRE_SCHED then (if bitOf w 31 then s.swapDo else s)
  else if a = A.FIRE_DIAG_CTRL then (if bitOf w 31 then s.sweepStart else s)
  else if 0x040100 ≤ a && a < 0x040200 then s.refreshLevel ((a - 0x040100) / 0x10)
  else if 0x040200 ≤ a && a < 0x040300 then s.refreshCompensation
  else if 0x041000 ≤ a then
    let e := (a - 0x041000) / 0x20
    if a = A.FIRE_EM_CFG e then
      let s := if fldDiff (F.FIRE_EM_CFG_STAGGER_POS e) old new || fldDiff (F.FIRE_EM_CFG_DOMAIN e) old new then
          s.updEm e (fun x => { x with moved := true }) else s
      let s := if bitsOf old 31 31 = 1 ∧ s.flag (F.FIRE_EM_CFG_EN e) = false then s.noteOff e else s
      (s.refreshDelay e).refreshProof
    else if a = A.FIRE_EM_DELAY e then s.refreshDelay e
    else if a = A.FIRE_EM_STATUS e then (if bitOf w 31 then s.emClear e else s)
    else s
  else s

/-- Chapter 8. -/
def actAngle (a w : Nat) (s : State) : State :=
  if a = A.ANGLE_CTRL then (if bitOf w 31 then s.requestReset else s)
  else if a = A.ANGLE_EXC then s.excWrite
  else if a = A.ANGLE_CA then s.rangeWrite
  else if a = A.ANGLE_DEC then s.wr F.ANGLE_CHAIN_GROUP_DELAY_NS (groupDelay (s.rd F.ANGLE_DEC_STAGES))
  else s

/-- R231, R234: PARK and UNPARK. PARK acts on an axis that may run; it takes back an UNPARK that waits. GATE_FAULT_N
low holds axis H in FAULT (R244). DEDUCED: log entries 55 and 56. -/
def parkNow (ax : Axis) (s : State) : State :=
  let x := s.axState ax
  let s := s.updAxis ax (fun x => { x with unpark := false })
  if !s.axMayRun ax || x == AxParked then s
  else if ax = .h ∧ s.flag F.SERVO_H_BUS_GATE_FAULT = true then (if x = AxFault then s else s.axFault .h 5)
  else s.axPark ax 2
def unparkNow (ax : Axis) (s : State) : State := s.updAxis ax (fun x => { x with unpark := true })

/-- SWAP of an axis's coefficient banks (R230); it touches what COMMIT journals only where the banks differ. -/
def swapBanks (ax : Axis) (s : State) : State :=
  let same := s.tabWords 0x06 0 (32 * ax.num) 16 == s.tabWords 0x06 0 (32 * ax.num + 16) 16
  let s := s.servoSwap ax
  if same then s else s.uncommit

/-- SERVO_AXIS_CTRL of an axis: EN, PARK, UNPARK and SWAP. -/
def actAxis (ax : Axis) (w : Nat) (s : State) : State :=
  let s := s.axRefresh ax
  let s := if bitOf w 30 then s.parkNow ax else s
  let s := if bitOf w 31 then s.unparkNow ax else s
  if bitOf w 29 then s.swapBanks ax else s

/-- Chapter 9. -/
def actServo (a w : Nat) (s : State) : State :=
  if a = A.SERVO_AXIS_CTRL 0 then s.actAxis .v w
  else if a = A.SERVO_AXIS_CTRL 1 then s.actAxis .h w
  else if a = A.SERVO_V_CFG || a = A.SERVO_V_LO || a = A.SERVO_V_HI || a = A.SERVO_V_TURN then s.profileWrite
  else if a = A.SERVO_H_BRIDGE then s.busWrite
  else s

/-- R255: APPLY waits for the next sector start in SCAN and SERVICE, and acts at once in other modes. -/
def applyEnv (mask : Nat) (s : State) : State :=
  if mask = 0 then s
  else if s.sectorsRun then s.wr F.GEOM_ENV_STATUS_APPLY_PEND (s.rd F.GEOM_ENV_STATUS_APPLY_PEND ||| mask)
  else s.envExchange mask

/-- R252: LOAD, with the journal group of the pose that it puts into force. -/
def poseLoadWrite (s : State) : State :=
  let s := s.poseLoad
  s.journal [⟨1, A.GEOM_POSE_TX, (List.range 6).map (fun i => s.word (A.GEOM_POSE_TX + 4 * i))⟩]

/-- Chapter 10. -/
def actGeom (a w : Nat) (s : State) : State :=
  if a = A.GEOM_CURV then s.kappaWrite
  else if a = A.GEOM_POSE_CTRL then (if bitOf w 31 then s.poseLoadWrite else s)
  else if a = A.GEOM_ENV_CTRL then s.applyEnv (w % 16)
  else s

/-- Chapter 11. -/
def actCam (a old w : Nat) (s : State) : State :=
  let k := if a < 0x0A0200 then 0 else 1
  if a = A.CAM_PORT_CFG k then
    if fldDiff (F.CAM_PORT_CFG_EN k) old (s.word a) then
      (if s.flag (F.CAM_PORT_CFG_EN k) then s.camEnable k else s.camClose k)
    else s
  else if a = A.CAM_CCI_CTRL k then (if bitOf w 31 then s.cciStart k else s)
  else s

/-- A recipe's temperature-step trigger starts from the mean at its enabling (R338). -/
def recipeEnabledNow (n : Nat) (s : State) : State :=
  match s.cmd.recipes.find? (fun r => r.number == n) with
  | some r => if r.trigger / 2 ^ 24 = 2 then s.tempRebase n (r.trigger / 2 ^ 16 % 256) else s
  | none => s

/-- Chapters 12 to 18. DEDUCED: log entry 9. -/
def actRest (a old w : Nat) (s : State) : State :=
  let new := s.word a
  if a = A.NET_DOLEY || (0x0B0100 ≤ a && a < 0x0B0300) then s.lanesFollow
  else if A.LAND_REGION 0 ≤ a && a ≤ A.LAND_REGION 15 then
    if old != new then s.resetRegion ((a - A.LAND_REGION 0) / 4) else s
  else if A.LAND_PORT_CTRL 0 ≤ a && a < 0x0C0280 then
    let p := (a - 0x0C0200) / 0x10
    if a = A.LAND_PORT_CTRL p then s.setDrained p else s
  else if a = A.CMD_RECIPE_EN_LO || a = A.CMD_RECIPE_EN_HI then
    let b := if a = A.CMD_RECIPE_EN_LO then 0 else 32
    ((bitList new 32).filter (fun i => !bitOf old i)).foldl (fun s i => s.recipeEnabledNow (b + i)) s
  else if a = A.HK_INJECT then (if bitOf w 31 then (s.wr F.HK_STATUS_INJ_PEND 1).hkKick else s)
  else if a = A.THERM_LIMITS then ((List.range 8).foldl warnTest s).shutTest
  else if a = A.THERM_SENS_FAIL then (bitList (old &&& w) 29).foldl readmit s
  else if a = A.LIFE_EVENT then (if bitOf w 31 then s.calendarAdd 8 (s.rd F.LIFE_EVENT_DATA) else s)
  else if a = A.TALLY_DUMP_CFG then (if bitOf w 31 then s.dumpDue else s)
  else if a = A.TALLY_SNAP then (if bitOf w 31 then s.snapshot else s)
  else if a = A.TALLY_BW_CFG then { s with tally := { s.tally with bwCount := List.replicate 8 0 } }
  else if a = A.PWR_AVS_CTRL then s.loopWrite
  else s

/-- R195: the chain follows a change of RUN once every word of the command stands. -/
def runChange (s before : State) : State :=
  if s.flag F.ANGLE_CTRL_RUN = before.flag F.ANGLE_CTRL_RUN then s else s.angleRefresh.pkoChain.servoRefresh

/-- A register that blanking reads (R214). -/
def blankReg (a : Nat) : Bool :=
  [A.ANGLE_BLANK_CTRL, A.ANGLE_BLANK, A.ANGLE_BLANK_EM_LO, A.ANGLE_BLANK_EM_HI].contains a

/-- What a write starts, its word being stored: `old` is the word before it, `w` the word written. -/
def regAct (a old w : Nat) (s : State) : State :=
  match a / 0x10000 with
  | 0x01 => s.actTime a old w
  | 0x02 => s.actTdc a old w
  | 0x03 => s.actRxOct a old w
  | 0x04 => s.actFire a old w
  | 0x07 => s.actAngle a w
  | 0x08 => s.actServo a w
  | 0x09 => s.actGeom a w
  | 0x0A => if 0x0A0100 ≤ a then s.actCam a old w else s
  | 0x22 => s.actRxFe a old
  | 0x23 => s.actRxFe a old
  | _ => s.actRest a old w

/-! ### Writes and reads -/

/-- One accepted word: RW fields set, W1C bits cleared, then what the write starts (R2). COMMITTED is cleared by a
change of an RW field that COMMIT journals (R447). DEDUCED: log entry 123. -/
def putHost (s : State) (aw : Nat × Nat) : State :=
  match findReg aw.1 with
  | none => s
  | some r =>
    if r.reg.inert (s.word aw.1) aw.2 then s
    else
    let s := if blankReg aw.1 then s.blankWrite else s
    let old := s.word aw.1
    let new := r.reg.merge old aw.2
    let clr := new &&& aw.2 &&& r.reg.maskOf .w1c
    let s := if new != old && r.reg.journal != .never then s.uncommit else s
    (s.putWord aw.1 (new - clr)).regAct aw.1 old aw.2

/-- The words of a command that are journalled (R408, R480). -/
def journalWords (s : State) (ws : List (Nat × Nat)) : List (Nat × Nat) :=
  ws.filter (fun aw => journalledReg aw.1 && !s.inertWord aw)

/-- Journalled registers as items (R408): the RW fields written. -/
def regItems (s : State) (ws : List (Nat × Nat)) : List JItem :=
  runsOf 1 4 (ws.map (fun aw =>
    (aw.1, match findReg aw.1 with
      | some r => BitVec.ofNat 32 (s.word aw.1 &&& r.reg.maskOf .rw)
      | none => 0))) []

/-- The words of an accepted command are written in ascending address, with one journal group (R330, R408). DEDUCED:
log entry 8. -/
def putWords (ws : List (Nat × Nat)) (s : State) : State :=
  let kept := s.journalWords ws
  let s := (ws.foldl putHost s).runChange s
  s.journal (s.regItems kept)

/-- A host write of words: checked whole, then written; the refusal otherwise. DEDUCED: log entry 8. -/
def hostWrite (ws : List (Nat × Nat)) (s : State) : State × Option (Nat × Nat) :=
  match s.checkWords ws with
  | (s, some r) => (s, some r)
  | (s, none) => (s.putWords ws, none)

/-- What a read latches, or brings up to date (R461). DEDUCED: log entry 30. -/
def beforeRead (a : Nat) (s : State) : State :=
  if a = A.TIME_NOW_SEC_HI then s.timeLatch
  else if a = A.ACQ_SPY_INFO then s.spyLatch
  else if a = A.ACQ_STATUS then s.armCheck
  else if a = A.CAM_STATUS then s.refreshLoad
  else if A.CAL_OCT_STATUS 0 ≤ a && a ≤ A.CAL_OCT_STATUS 7 then s.refreshWait
  else if 0x200000 ≤ a && a < 0x210800 && a % 0x100 = 0x10 then s.lastLatch ((a - 0x200000) / 0x100)
  else s

/-- One register read: latched, returned, and its RDC fields cleared in the same access (R2). -/
def hostRead (a : Nat) (s : State) : State × Nat :=
  match findReg a with
  | none => (s, 0)
  | some r =>
    let s := s.beforeRead a
    let v := s.word a
    let c := v &&& r.reg.maskOf .rdc
    (if c = 0 then s else s.putWord a (v - c), v)

/-- Registers read in order. -/
def hostReads : List Nat → State → State × List Nat
  | [], s => (s, [])
  | a :: r, s =>
    let (s, v) := s.hostRead a
    let (s, vs) := hostReads r s
    (s, v :: vs)

end State
end Sys2Proof.Machine
end

