-- ==== Sys2Proof/Machine/Tables.lean ====
section
/-! DEFINITION. The register, unit and table opcodes (R330, R331, R332, R462, R463) and the write rules of the nine
tables (chapters 3, 5, 8, 9, 10, 11 and 15). -/

namespace Sys2Proof.Machine

/-! ### Single registers (R330) -/

/-- Words with their consecutive addresses. -/
def addrWords (a : Nat) (ws : List Nat) : List (Nat × Nat) := ws.mapIdx (fun i w => (a + 4 * i, w))

/-- The first address of a run that is in no register map. -/
def firstUnmapped (l : List Nat) : Option Nat := l.find? (fun a => (findReg a).isNone)

/-- The refusal of a register command: BUDGET_EXCEEDED carries a copy of LAND_BUDGET_STATUS (R318). DEDUCED: log entry
11. -/
def OpResult.refuseReg (st a : Nat) (s : State) : OpResult :=
  ⟨st, if st = St.budget then [s.word A.LAND_BUDGET_STATUS] else [], a, s⟩

namespace State

/-- REG_READ. -/
def opRegRead (q : Req) (s : State) : OpResult :=
  let n := q.arg 1
  if n = 0 ∨ 2048 < n ∨ (q.version = 1 ∧ n ≠ 1) then OpResult.refuse St.badParam (q.arg 0) s
  else
    let l := addrRun (q.arg 0) 4 n
    match firstUnmapped l with
    | some a => OpResult.refuse St.access a s
    | none =>
      let (s, ws) := s.hostReads l
      OpResult.reply ws s

/-- REG_WRITE. -/
def opRegWrite (q : Req) (s : State) : OpResult :=
  match s.hostWrite (addrWords (q.arg 0) (q.payload.drop 1)) with
  | (s, some (st, a)) => OpResult.refuseReg st a s
  | (s, none) => OpResult.ok s

/-- The word that REG_MODIFY writes: W1C and WR bits outside the mask are 0. -/
def modifyWord (r : RegDef) (old mask value : Nat) : Nat :=
  let keep := old - (old &&& mask)
  (keep - (keep &&& (r.maskOf .w1c ||| r.maskOf .wr))) ||| (value &&& mask)

/-- REG_MODIFY: the merged word is checked, then the register is read, then the word is written. -/
def opRegModify (q : Req) (s : State) : OpResult :=
  let a := q.arg 0
  match findReg a with
  | none => OpResult.refuse St.access a s
  | some r =>
    let w := modifyWord r.reg (s.word a) (q.arg 1) (q.arg 2)
    match s.checkWords [(a, w)] with
    | (s, some (st, b)) => OpResult.refuseReg st b s
    | (s, none) =>
      let (s, v) := s.hostRead a
      OpResult.reply [v] (s.putWords [(a, w)])

end State

/-! ### Per-unit sets (R331, R462) -/

/-- The kinds of per-unit set. -/
inductive UnitKind where
  | frontEnd | emitter | octant
  deriving DecidableEq, Repr

/-- A kind of set in the map: set 0's first address, its bytes up to its last register, and the stride. -/
structure UnitSet where
  kind   : UnitKind
  base   : Nat
  size   : Nat
  stride : Nat
  deriving DecidableEq, Repr

/-- The per-unit sets (Tables 20-2, 20-3 and R462). -/
def unitSets : List UnitSet := [
  ⟨.frontEnd, 0x200000, 0x34, 0x100⟩,
  ⟨.frontEnd, 0x220000, 0x24, 0x100⟩,
  ⟨.frontEnd, 0x240000, 0x30, 0x100⟩,
  ⟨.emitter, 0x041000, 0x1C, 0x20⟩,
  ⟨.emitter, 0x060100, 0x4, 0x4⟩,
  ⟨.octant, 0x030100, 0x24, 0x40⟩,
  ⟨.octant, 0x040100, 0xC, 0x10⟩]

/-- The set of unit 0 that holds an address. -/
def unitSetOf (a : Nat) : Option UnitSet :=
  unitSets.find? (fun u => decide (u.base ≤ a) && decide (a < u.base + u.size) && (findReg a).isSome)

/-- The units of a kind that a path addresses. -/
def unitsOf (k : UnitKind) (p : UPath) : List Nat :=
  match k with
  | .frontEnd => p.frontEnds
  | .emitter => p.emitters
  | .octant => p.octants

/-- The path rule of a kind. -/
def unitPathOk (k : UnitKind) (p : UPath) : Bool :=
  match k with
  | .frontEnd => true
  | .emitter => p.chan == 15
  | .octant => p.isOctant

/-- The path of one unit of a kind. -/
def pathOfUnit (k : UnitKind) (m u : Nat) : Nat :=
  match k with
  | .frontEnd => pathOfFrontEnd m u
  | .emitter => pathOfEmitter m u
  | .octant => pathOfOctant m u

/-- R331: an address in no set has no path rule. -/
def unitRule (q : Req) (p : UPath) (_ : State) : Bool :=
  match unitSetOf (q.arg 0) with
  | some u => unitPathOk u.kind p
  | none => true

/-- Units that a unit command addresses: for sizing its reply (Table 13-3, step 10). -/
def unitCount (q : Req) : Nat :=
  match unitSetOf (q.arg 0) with
  | some u => (unitsOf u.kind (UPath.ofNat q.path)).length
  | none => 0

/-- The refusal of one unit of a command: a group names its path (R10, R318). DEDUCED: log entry 10. -/
def OpResult.refuseUnit (k : UnitKind) (group : Bool) (u st a : Nat) (s : State) : OpResult :=
  ⟨st, if st = St.budget then [s.word A.LAND_BUDGET_STATUS] else if group then [pathOfUnit k s.memberNo u] else [], a, s⟩

/-- The checks of a unit command's address and words against the set of unit 0: status and fault-log ADDRESS. DEDUCED:
log entry 10. -/
def unitRefusal (a n : Nat) : Option (Nat × Nat) :=
  match unitSetOf a with
  | none => some (St.access, a)
  | some u =>
    if u.base + u.stride < a + 4 * n then some (St.badLength, 0)
    else (firstUnmapped (addrRun a 4 n)).map (fun b => (St.access, b))

namespace State

/-- UNIT_READ: `n` words per unit, in ascending global number (R11). DEDUCED: log entry 10. -/
def opUnitRead (q : Req) (s : State) : OpResult :=
  let a := q.arg 0
  let n := q.arg 1
  if n = 0 ∨ 64 < n then OpResult.refuse St.badParam a s
  else
    match unitRefusal a n, unitSetOf a with
    | some (st, b), _ => OpResult.refuse st (if st = St.badLength then q.length else b) s
    | none, none => OpResult.refuse St.access a s
    | none, some u =>
      let l := (unitsOf u.kind (UPath.ofNat q.path)).flatMap (fun i => addrRun (a + u.stride * i) 4 n)
      let (s, ws) := s.hostReads l
      OpResult.reply ws s

/-- One unit's words of a UNIT_WRITE, judged with the words of every unit standing (R10, R479): the first refusing
unit, its status and its ADDRESS. -/
def checkUnit (p : State) (a stride : Nat) (ws : List Nat) (acc : State × Option (Nat × Nat × Nat)) (i : Nat) :
    State × Option (Nat × Nat × Nat) :=
  match acc with
  | (s, some r) => (s, some r)
  | (s, none) =>
    match (addrWords (a + stride * i) ws).foldl (checkWord p) (s, none) with
    | (s, some (st, b)) => (s, some (i, st, b))
    | (s, none) => (s, none)

/-- UNIT_WRITE: the same words to every addressed unit, under R10, as one journal group. DEDUCED: log entry 10. -/
def opUnitWrite (q : Req) (s : State) : OpResult :=
  let a := q.arg 0
  let ws := q.payload.drop 1
  match unitRefusal a ws.length, unitSetOf a with
  | some (st, b), _ => OpResult.refuse st (if st = St.badLength then q.length else b) s
  | none, none => OpResult.refuse St.access a s
  | none, some u =>
    let is := unitsOf u.kind (UPath.ofNat q.path)
    let all := is.flatMap (fun i => addrWords (a + u.stride * i) ws)
    match is.foldl (checkUnit (s.viewAfter all) a u.stride ws) (s, none) with
    | (s, some (i, st, b)) => OpResult.refuseUnit u.kind (decide (1 < is.length)) i st b s
    | (s, none) =>
      if all.any s.makesGroup && s.journalFull then OpResult.refuse St.busy 0 s.queueRefused
      else OpResult.ok (s.putWords all)

end State

/-! ### Tables (R332, R463) -/

/-- Words of a table (Table 20-4); none for an undefined ID. -/
def tabSize (id : Nat) : Option Nat :=
  match id with
  | 0x01 => some 4096 | 0x02 => some 512 | 0x03 => some 320 | 0x04 => some 64 | 0x05 => some 48
  | 0x06 => some 64 | 0x07 => some 128 | 0x08 => some 64 | 0x09 => some 128
  | _ => none

/-- R326: the fault-log ADDRESS of a table refusal. DEDUCED: log entry 11. -/
def tabAddr (id x : Nat) : Nat := id * 2 ^ 24 + x % 2048

/-- R332: table 0x09 takes a front-end path, every other table a device path. -/
def tabRule (q : Req) (p : UPath) (_ : State) : Bool := q.arg 0 == 0x09 || p.isDevice

/-- The units of a table command. -/
def tabUnits (q : Req) : List Nat := if q.arg 0 = 0x09 then (UPath.ofNat q.path).frontEnds else [0]

/-- R463, R343: the range of a table command. -/
def tabRange (q : Req) (off n : Nat) : Option (Nat × Nat) :=
  let id := q.arg 0
  match tabSize id with
  | none => some (St.badParam, tabAddr id 0)
  | some size =>
    if q.version = 1 ∧ id ≠ 0x01 ∧ id ≠ 0x04 then some (St.badParam, tabAddr id 0)
    else if n = 0 ∨ 2048 < n ∨ size < off + n then some (St.badParam, tabAddr id off)
    else none

/-- A sequence-table entry (Table 15-2, R367). An entry of zeros is disabled (R366). DESIGN CHOICE: log entry 104. -/
def hkEntryOk (w0 w1 : Nat) : Bool :=
  (w0 == 0 && w1 == 0) ||
  (!bitOf w0 30 && bitsOf w0 15 11 == 0 && w1 / 256 == 0 && decide (bitsOf w0 29 24 ≤ 47) &&
    decide (1 ≤ bitsOf w0 10 0) && decide (bitsOf w0 10 0 ≤ 2000) && decide (w1 < 0xFD) &&
    (!(decide (0xE0 ≤ w1) && decide (w1 ≤ 0xFC)) || w1 - 0xE0 == bitsOf w0 29 24))

/-- Some enabled entry of a table visits sensor `s` with its tag. -/
def hkVisits (ws : List Nat) (s : Nat) : Bool :=
  (List.range 64).any (fun i => ws.getD (2 * i + 1) 0 == 0xE0 + s && bitsOf (ws.getD (2 * i) 0) 23 16 != 0)

/-- R367: what refuses the sequence table that a write would leave, as an ADDRESS. DESIGN CHOICE: log entry 104. -/
def hkRefusal (ws : List Nat) : Option Nat :=
  match (List.range 64).find? (fun i => !hkEntryOk (ws.getD (2 * i) 0) (ws.getD (2 * i + 1) 0)) with
  | some i => some (0x07 * 2 ^ 24 + i)
  | none => ((List.range 29).find? (fun s => !hkVisits ws s)).map (fun s => 0x07 * 2 ^ 24 + 2 ^ 15 + s)

/-- R75: what a host's bin-width table must meet. -/
def widthsOk (ws : List Nat) : Bool :=
  ws.all (fun w => decide (w < 2 ^ 16)) && widthLimits ws ws == 0 &&
  decide (ws.sum ≤ 1049600) && decide (1047552 ≤ ws.sum)

/-- The places of whole blocks of `size` words in a write. -/
def blocksOf (size off n : Nat) : List Nat := (List.range (n / size)).map (fun i => off / size + i)

/-- A table with a run of words replaced. -/
def spliceAt (l : List Nat) (off : Nat) (ws : List Nat) : List Nat := l.take off ++ ws ++ l.drop (off + ws.length)

namespace State

/-- Whether block `k` of table 0x03 is the copy in force of its envelope (R253). -/
def envInForce (s : State) (k : Nat) : Bool := b2n (bitOf (s.rd F.GEOM_ENV_STATUS_ACTIVE) (k % 4)) == k / 4

/-- The axis of a coefficient bank, and whether the bank is in force (R228). -/
def bankAxis (k : Nat) : Axis := if k / 2 = 0 then .v else .h
def bankInForce (s : State) (k : Nat) : Bool := s.bankNow (bankAxis k) == k % 2

/-- R130: table 0x01. DEDUCED: log entry 40. -/
def sched01 (s : State) (off n : Nat) : Option (Nat × Nat) :=
  let lo := s.activeCopy * 2048
  if off < lo + 2048 ∧ lo < off + n then some (St.activeTable, tabAddr 1 (max off lo / 2))
  else refuseIf (s.flag F.FIRE_SCHED_PEND) St.busy 0

/-- R251: table 0x02. -/
def dir02 (s : State) (q : Req) (off : Nat) (ws : List Nat) : Option (Nat × Nat) :=
  if !s.quiet then some (St.mode, tabAddr 2 off)
  else if off % 2 ≠ 0 ∨ ws.length % 2 ≠ 0 then some (St.badLength, q.length)
  else (ws.findIdx? (fun w => decide (2 ^ 20 ≤ w))).map (fun i => (St.badParam, tabAddr 2 (off + i)))

/-- R255: table 0x03. -/
def env03 (s : State) (q : Req) (off : Nat) (ws : List Nat) : Option (Nat × Nat) :=
  let ks := blocksOf 40 off ws.length
  if off % 40 ≠ 0 ∨ ws.length % 40 ≠ 0 then some (St.badLength, q.length)
  else
    match ks.find? s.envInForce with
    | some k => some (St.activeTable, tabAddr 3 (40 * k))
    | none =>
      if ks.any (fun k => bitOf (s.rd F.GEOM_ENV_STATUS_APPLY_PEND) (k % 4)) then some (St.busy, 0)
      else (ks.find? (fun k => !envOk ((ws.drop (40 * k - off)).take 40))).map (fun k => (St.badParam, tabAddr 3 (40 * k)))

/-- R211: table 0x05. -/
def poly05 (s : State) (q : Req) (off n : Nat) : Option (Nat × Nat) :=
  if s.mode = Mode.scan ∨ s.mode = Mode.calibrate then some (St.mode, tabAddr 5 off)
  else refuseIf (decide (off % 12 ≠ 0) || decide (n % 12 ≠ 0)) St.badLength q.length

/-- R228: table 0x06. -/
def bank06 (s : State) (q : Req) (off : Nat) (ws : List Nat) : Option (Nat × Nat) :=
  let ks := blocksOf 16 off ws.length
  if off % 16 ≠ 0 ∨ ws.length % 16 ≠ 0 then some (St.badLength, q.length)
  else
    match ks.find? s.bankInForce with
    | some k => some (St.activeTable, tabAddr 6 (16 * k))
    | none =>
      if ks.any (fun k => s.flag (F.SERVO_AXIS_STATUS_SWAP_PEND (bankAxis k).num)) then some (St.busy, 0)
      else
        (ks.find? (fun k => !bankOk (bankAxis k) ((ws.drop (16 * k - off)).take 16))).map
          (fun k => (St.badParam, tabAddr 6 (16 * k)))

/-- R367: table 0x07. DESIGN CHOICE: log entry 104. -/
def hk07 (s : State) (off : Nat) (ws : List Nat) : Option (Nat × Nat) :=
  if off % 2 ≠ 0 ∨ ws.length % 2 ≠ 0 then some (St.badLength, tabAddr 7 0)
  else (hkRefusal (spliceAt (s.tabWords 0x07 0 0 128) off ws)).map (fun a => (St.badParam, a))

/-- R277: table 0x08. -/
def ctx08 (s : State) (q : Req) (off : Nat) (ws : List Nat) : Option (Nat × Nat) :=
  let ks := blocksOf 32 off ws.length
  let part := fun (k : Nat) => (ws.drop (32 * k - off)).take 32
  let shape := fun (c : List Nat) => (ctxWidth c, ctxHeight c, ctxScale c)
  if off % 32 ≠ 0 ∨ ws.length % 32 ≠ 0 then some (St.badLength, q.length)
  else
    match ks.find? (fun k => !ctxOk (part k)) with
    | some k => some (St.badParam, tabAddr 8 (32 * k))
    | none =>
      if s.firing then
        (ks.find? (fun k => shape (part k) != shape (s.camTable k))).map (fun k => (St.mode, tabAddr 8 (32 * k)))
      else none

/-- R75: table 0x09. -/
def width09 (s : State) (q : Req) (off : Nat) (ws : List Nat) : Option (Nat × Nat) :=
  if s.mode = Mode.scan ∨ s.mode = Mode.calibrate then some (St.mode, tabAddr 9 off)
  else if off ≠ 0 ∨ ws.length ≠ 128 then some (St.badLength, q.length)
  else refuseIf (!widthsOk ws) St.badParam (tabAddr 9 ((ws.findIdx? (fun w => decide (2 ^ 16 ≤ w))).getD 0))

/-- The rule of each table on a write. DEDUCED: log entry 126. -/
def tabRefusal (s : State) (q : Req) (off : Nat) (ws : List Nat) : Option (Nat × Nat) :=
  match q.arg 0 with
  | 0x01 => s.sched01 off ws.length
  | 0x02 => s.dir02 q off ws
  | 0x03 => s.env03 q off ws
  | 0x04 => refuseIf (!s.quiet) St.mode (tabAddr 4 off)
  | 0x05 => s.poly05 q off ws.length
  | 0x06 => s.bank06 q off ws
  | 0x07 => s.hk07 off ws
  | 0x08 => s.ctx08 q off ws
  | _ => s.width09 q off ws

/-- R408: the tables that are journalled when they are written. DEDUCED: log entry 31. -/
def tabJournalled (id : Nat) : Bool := id == 2 || id == 5 || id == 7 || id == 8 || id == 9

/-- An accepted table write, with its journal group. -/
def tabPut (q : Req) (off : Nat) (ws : List Nat) (s : State) : State :=
  let id := q.arg 0
  if id = 9 then
    let fs := tabUnits q
    let s := fs.foldl (fun s f => s.putWidths f ws 3) s
    s.journal (fs.flatMap s.widthItems)
  else
    let same := s.tabWords id 0 off ws.length == ws
    let s := s.putTabs id 0 off ws
    let s := if id = 4 && !same then s.uncommit else s
    let s := if id = 8 then (blocksOf 32 off ws.length).foldl (fun s k => s.updCam k (fun x => { x with ctxNew := true })) s else s
    if tabJournalled id then s.journal [⟨2, tabKey id 0 off, ws⟩] else s

/-- R130: a refusal with ACTIVE_TABLE on table 0x01 is counted in FIRE_SCHED_REFUSED. -/
def noteActive (a : Nat) (s : State) : State :=
  (s.bump F.FIRE_SCHED_REFUSED_REFUSED).wr F.FIRE_SCHED_REFUSED_LAST_ENTRY (a % 2048)

/-- TABLE_READ. -/
def opTableRead (q : Req) (s : State) : OpResult :=
  let off := q.arg 1
  let n := q.arg 2
  match tabRange q off n with
  | some (st, a) => OpResult.refuse st a s
  | none => OpResult.reply ((tabUnits q).flatMap (fun u => s.tabWords (q.arg 0) u off n)) s

/-- TABLE_WRITE. -/
def opTableWrite (q : Req) (s : State) : OpResult :=
  let off := q.arg 1
  let ws := q.payload.drop 2
  match tabRange q off ws.length with
  | some (st, a) => OpResult.refuse st a s
  | none =>
    match s.tabRefusal q off ws with
    | some (st, a) =>
      let s := if q.arg 0 = 1 ∧ st = St.activeTable then s.noteActive a else s
      let us := tabUnits q
      ⟨st, if 1 < us.length then [pathOfFrontEnd s.memberNo (us.headD 0)] else [], a, s⟩
    | none =>
      if tabJournalled (q.arg 0) && s.journalFull then OpResult.refuse St.busy 0 s.queueRefused
      else OpResult.ok (s.tabPut q off ws)

/-- TABLE_SWAP of table 0x01: the checks of a SWAP, with its budget check in the firing modes (R131, R132). -/
def swapSchedule (s : State) : OpResult :=
  match s.swapRefusal with
  | some (st, a) => OpResult.refuse st a s
  | none =>
    if s.firing then
      let (v, fails) := s.budgetCheck (1 - s.activeCopy)
      let s := s.takeBudget v
      if fails then OpResult.refuseReg St.budget (s.word A.LAND_BUDGET_STATUS) s else OpResult.ok s.swapDo
    else OpResult.ok s.swapDo

/-- TABLE_SWAP of table 0x03: APPLY (R255). -/
def swapEnvelopes (mask : Nat) (s : State) : OpResult :=
  if mask &&& s.rd F.GEOM_ENV_STATUS_APPLY_PEND ≠ 0 then OpResult.refuse St.busy 0 s
  else if !s.sectorsRun && s.journalFull then OpResult.refuse St.busy 0 s.queueRefused
  else OpResult.ok (s.applyEnv mask)

/-- TABLE_SWAP. DEDUCED: log entry 11. -/
def opTableSwap (q : Req) (s : State) : OpResult :=
  let id := q.arg 0
  let x := q.arg 1
  if id = 1 ∧ x = 0 then s.swapSchedule
  else if q.version = 1 then OpResult.refuse St.badParam (tabAddr id 0) s
  else if id = 3 ∧ 1 ≤ x ∧ x ≤ 15 then s.swapEnvelopes x
  else if id = 6 ∧ x ≤ 1 then
    let ax := bankAxis (2 * x)
    if s.flag (F.SERVO_AXIS_STATUS_SWAP_PEND ax.num) then OpResult.refuse St.busy 0 s
    else OpResult.ok (s.swapBanks ax)
  else OpResult.refuse St.badParam (tabAddr id 0) s

end State
end Sys2Proof.Machine
end

