-- ==== Sys2Proof/Machine/Commit.lean ====
section
/-! DEFINITION. COMMIT: its checks in the order of Table 13-12 and the group that it journals (R335, R351, R357, R408,
R447). -/

namespace Sys2Proof.Machine

/-- The listed words of a run of keys, at keys moved by `shift` down. -/
def keysIn (lo n shift : Nat) (m : Sparse Word) : Sparse Word :=
  (m.filter (fun p => decide (lo ≤ p.1) && decide (p.1 < lo + n))).map (fun p => (p.1 - shift, p.2))

/-- Two runs of a table hold the same words. -/
def sameRun (a b : Sparse Word) : Bool :=
  a.filter (fun p => p.2 != tabReset p.1) == b.filter (fun p => p.2 != tabReset p.1)

namespace State

/-! ### Cord rules (R351, R357) -/

/-- Followers whose datagrams this master forwards: those that relay a stream. No message of the manual tells it.
DESIGN CHOICE: log entry 69. -/
def relayingFollowers (s : State) : List Nat :=
  if s.flag F.CORD_STRAPS_ROLE && s.flag F.CORD_STRAPS_MASTER then
    (bitList (s.rd F.CORD_STATUS_PRESENT) 8).filter (fun m => m != s.memberNo && Config.memberFact 0 m s.free != 0)
  else []

/-- CORD_RELAY_MAP.PORT of a member. -/
def relayPort (s : State) (m : Nat) : Nat := s.rd F.CORD_RELAY_MAP_PORT / 2 ^ (3 * m) % 8

/-- R357: a follower's port without an enabled relay region; a relayed region's MTU above that of the lane that
carries it. DESIGN CHOICE: log entry 69. -/
def relayGap (s : State) : Bool :=
  s.relayingFollowers.any (fun m => !s.enabledRegions.any (fun n =>
    s.rd (F.LAND_REGION_STREAM n) == 5 && s.rd (F.LAND_REGION_PORT n) == s.relayPort m))
/-- R357: whether a relaying follower's MTU exceeds that of the lane that carries its datagrams. DESIGN CHOICE: log
entry 69. -/
def relayMtu (s : State) : Bool :=
  s.relayingFollowers.any (fun m => decide (s.rd (F.NET_LANE_CFG_MTU (s.relayPort m)) < Config.memberFact 2 m s.free)) ||
  (s.isFollower && (s.enabledRegions.filter s.regionRelayed).any (fun n =>
    decide (Config.memberFact 3 s.memberNo s.free < s.rd (F.NET_LANE_CFG_MTU (s.rd (F.LAND_REGION_PORT n))))))

/-- R351, as one member can judge it: TRIG_SRC external on the master with DELAY_NS too short for its filter. -/
def triggerTooShort (s : State) : Bool :=
  s.flag F.CORD_STATUS_FORMED && s.flag F.CORD_STRAPS_MASTER && s.rd F.ACQ_CTRL_TRIG_SRC == 1 &&
  decide (s.rd F.ACQ_TRIG_DELAY_NS < 1600 + 10 * s.rd F.ACQ_TRIG_FILTER)

/-! ### The checks (Table 13-12) -/

/-- Checks 1 to 6, as status and fault-log ADDRESS. DEDUCED: log entry 85. -/
def commitRefusal (s : State) : Option (Nat × Nat) :=
  let c := s.activeCopy
  if s.flag F.GEOM_POSE_CTRL_BUSY then some (St.busy, 0)
  else
    match s.schedFailure c, s.echoRegionGap c, s.cameraGap, s.envGap, s.destGap with
    | some a, _, _, _, _ => some (St.badParam, a)
    | none, gap, cam, env, dest =>
      if s.sectorShort c then some (St.badParam, A.GEOM_SECTOR)
      else
        firstOf [
          gap.map (fun e => (St.badParam, A.LAND_ECHO_MAP (e / 8))),
          cam.map (fun p => (St.badParam, A.CAM_PORT_CFG p)),
          env.map (fun _ => (St.badParam, A.GEOM_ENV_STATUS)),
          dest.map (fun n => (St.badParam, A.LAND_REGION n)),
          refuseIf s.relayGap St.badParam A.CORD_RELAY_MAP,
          refuseIf s.relayMtu St.badParam A.CORD_RELAY_MAP,
          refuseIf s.triggerTooShort St.badParam A.ACQ_TRIG]

/-- All checks of COMMIT; the budget check writes its results whatever it finds (R311). DEDUCED: log entry 85. -/
def commitCheck (s : State) : State × Option (Nat × Nat) :=
  match s.commitRefusal with
  | some r => (s, some r)
  | none =>
    let (s, fails) := s.budgetCheck s.activeCopy
    (s, if fails then some (St.budget, s.word A.LAND_BUDGET_STATUS) else none)

/-! ### The group (R408) -/

/-- The RW fields of a register, where a COMMIT journals them. DEDUCED: log entry 86. -/
def commitMask (a : Nat) : Nat :=
  match findReg a with
  | some r => if r.reg.journal == .never then 0 else r.reg.maskOf .rw
  | none => 0

/-- Registers whose RW fields differ from their last journalled values, with those fields. An item never journalled
was last at its reset value. DEDUCED: log entry 86. -/
def changedRegs (s : State) : List (Nat × Word) :=
  let keys := (s.regs.map (fun p => p.1)) ++ ((s.nvs.jregs.map (fun p => p.1)).filter (fun a => (Sparse.find? a s.regs).isNone))
  (sortBy (fun a => a) keys).filterMap (fun a =>
    let m := commitMask a
    let now := s.word a &&& m
    let last := (Sparse.get s.nvs.jregs (resetWord a) a).toNat &&& m
    if now = last then none else some (a, BitVec.ofNat 32 now))

/-- The active copy of table 0x01 with its frame length, one item, under the keys of copy 0. DEDUCED: log entry 86. -/
def scheduleItems (s : State) : List JItem :=
  let c := s.activeCopy
  let now := keysIn (tabKey 1 0 (2048 * c)) 2048 (2048 * c) s.tabs
  let last := keysIn (tabKey 1 0 0) 2048 0 s.nvs.jtabs
  let len := s.word A.FIRE_FRAME_ACTIVE
  if sameRun now last && len == (Sparse.get s.nvs.jregs (resetWord A.FIRE_FRAME_ACTIVE) A.FIRE_FRAME_ACTIVE).toNat then []
  else [⟨2, tabKey 1 0 0, s.tabWords 1 0 (2048 * c) 1024⟩, ⟨2, tabKey 1 0 1024, s.tabWords 1 0 (2048 * c + 1024) 1024⟩,
        ⟨1, A.FIRE_FRAME_ACTIVE, [len]⟩]

/-- Table 0x04. DEDUCED: log entry 86. -/
def seedItems (s : State) : List JItem :=
  if sameRun (keysIn (tabKey 4 0 0) 64 0 s.tabs) (keysIn (tabKey 4 0 0) 64 0 s.nvs.jtabs) then []
  else [⟨2, tabKey 4 0 0, s.tabWords 4 0 0 64⟩]

/-- The banks in force of table 0x06, under the keys of bank 0. DEDUCED: log entry 86. -/
def bankItems (s : State) : List JItem :=
  [Axis.v, Axis.h].filterMap (fun ax =>
    let off := 32 * ax.num
    let b := s.bankNow ax
    let now := keysIn (tabKey 6 0 (off + 16 * b)) 16 (16 * b) s.tabs
    let last := keysIn (tabKey 6 0 off) 16 0 s.nvs.jtabs
    if sameRun now last then none else some ⟨2, tabKey 6 0 off, s.tabWords 6 0 (off + 16 * b) 16⟩)

/-- What an accepted COMMIT journals. DEDUCED: log entry 86. -/
def commitItems (s : State) : List JItem :=
  runsOf 1 4 s.changedRegs [] ++ s.scheduleItems ++ s.seedItems ++ s.bankItems

/-- R419: a trial succeeds. DEDUCED: log entry 114. -/
def trialDone (s : State) : State :=
  ({ s with nvs := { s.nvs with trialAt := none } }).wr F.NVS_BOOT_TRIAL 0

/-- TRIAL_TIMEOUT: 600 s after the start of a trial image (R419). DEDUCED: log entry 114. -/
def trialTimeout (s : State) : State := if s.nvs.trialAt.isSome then s.trialDone else s

/-- COMMIT (R335). DEDUCED: log entry 85. -/
def opCommit (_ : Req) (s : State) : OpResult :=
  if s.mode ≠ Mode.config then OpResult.refuse St.mode 0 s
  else
    match s.commitCheck with
    | (s, some (st, a)) => OpResult.refuseReg st a s
    | (s, none) =>
      let items := s.commitItems
      if !items.isEmpty && s.journalFull then OpResult.refuse St.busy 0 s.queueRefused
      else OpResult.ok ((s.wr F.DEV_STATUS_COMMITTED 1).trialDone.commitRate.journal items)

end State
end Sys2Proof.Machine
end

