-- ==== Sys2Proof/Machine/Recipe.lean ====
section
/-! DEFINITION. Stored recipes (R309, R337 to R339): their form, the resources of their steps, and the opcodes that
store, read, enable, delete and run them. -/

namespace Sys2Proof.Machine

/-! ### The form of a recipe (R337, R338) -/

/-- The opcodes that exist only in recipes. -/
def Op.acquire : Nat := 0x0910
def Op.release : Nat := 0x0911
def Op.wait : Nat := 0x0912

/-- The steps of a recipe, from its words after word 2; `none` where the words are not whole steps within bounds.
DEDUCED: log entry 87. -/
def parseSteps : Nat → List Nat → Option (List RecipeStep)
  | _, [] => some []
  | 0, _ => none
  | fuel + 1, w :: r =>
    let n := w % 2 ^ 16
    match r with
    | [] => none
    | path :: rest =>
      if n % 4 ≠ 0 ∨ 248 < n ∨ rest.length < n / 4 then none
      else (parseSteps fuel (rest.drop (n / 4))).map (fun l => ⟨w / 2 ^ 16 % 2 ^ 16, path, rest.take (n / 4)⟩ :: l)

/-- R338: the trigger words. -/
def triggerOk (w : Nat) : Bool :=
  let x := w % 2 ^ 24
  match w / 2 ^ 24 with
  | 0 => x == 0
  | 1 => decide (1 ≤ x) && decide (x ≤ 65535)
  | 2 => decide (x / 2 ^ 16 ≤ 7) && decide (1 ≤ x % 2 ^ 16) && decide (x % 2 ^ 16 ≤ 1600)
  | 3 => decide (x ≤ 20)
  | 4 => [Mode.standby, Mode.config, Mode.scan, Mode.calibrate, Mode.service].contains x
  | _ => false

/-- R337: the opcodes that no step may hold. DEDUCED: log entry 87. -/
def stepForbidden (p : RecipeStep) : Bool :=
  [0x0302, 0x0600, 0x0601, 0x0900, 0x0903, 0x0801].contains p.opcode ||
  (p.opcode == 0x0300 && p.payload.headD 0 == Mode.park)

/-- The recipe that the words of RECIPE_STORE give, where they have the form of R337 and R338. DEDUCED: log entry
87. -/
def parseRecipe (ws : List Nat) : Option Recipe :=
  let w0 := ws.getD 0 0
  let w1 := ws.getD 1 0
  if 64 ≤ w0 ∨ 2 ≤ ws.getD 2 0 ∨ !triggerOk w1 then none
  else
    match parseSteps 256 (ws.drop 3) with
    | some steps => if steps.isEmpty || steps.any stepForbidden then none else some ⟨w0, w1, steps, ws⟩
    | none => none

/-! ### Resources (R309, R339) -/

/-- The resource that an ACQUIRE or a RELEASE names. -/
def resourceOf (w : Nat) : Nat × Nat := (w / 2 ^ 24, w % 2 ^ 8)

/-- A resource word names a resource: one NVS port, 16 regions, 8 ports, one cord link. DEDUCED: log entry 87. -/
def resourceOk (w : Nat) : Bool :=
  w / 2 ^ 8 % 2 ^ 16 == 0 &&
  (match w / 2 ^ 24 with
   | 1 => w % 2 ^ 8 == 0
   | 2 => decide (w % 2 ^ 8 < 16)
   | 3 => decide (w % 2 ^ 8 < 8)
   | 4 => w % 2 ^ 8 == 0
   | _ => false)

/-- The register addresses that a register or unit write touches. DEDUCED: log entry 92. -/
def writtenAddrs (opcode path : Nat) (ws : List Nat) : List Nat :=
  let a := ws.headD 0
  match opcode with
  | 0x0101 => addrRun a 4 (ws.length - 1)
  | 0x0102 => [a]
  | 0x0104 =>
    (match unitSetOf a with
     | some u => (unitsOf u.kind (UPath.ofNat path)).flatMap (fun i => addrRun (a + u.stride * i) 4 (ws.length - 1))
     | none => [])
  | _ => []

namespace State

/-- Table 13-9. -/
def stepNeeds (s : State) (opcode path : Nat) (ws : List Nat) : List (Nat × Nat) :=
  let l := writtenAddrs opcode path ws
  let id := ws.headD 0
  let nvs := opcode / 2 ^ 8 == 6 || opcode == 0x0502 || (opcode == 0x0201 && tabJournalled id) ||
    (opcode == 0x0202 && id == 3) || l.any journalledReg
  (if nvs then [(1, 0)] else []) ++
  (if opcode = 0x0702 then s.telemRegions.map (fun n => (2, n)) else []) ++
  ((List.range 8).filter (fun p => l.contains (A.LAND_PORT_CTRL p))).map (fun p => (3, p)) ++
  (if opcode = 0x0800 then [(4, 0)] else [])

/-- R339: each step finds its resources taken, and each ACQUIRE keeps the rank order. -/
def ranksOk (s : State) : List (Nat × Nat) → List RecipeStep → Bool
  | _, [] => true
  | held, p :: r =>
    let w := p.payload.headD 0
    if p.opcode = Op.acquire then
      resourceOk w && held.all (fun h => decide (h.1 < w / 2 ^ 24)) && ranksOk s (resourceOf w :: held) r
    else if p.opcode = Op.release then resourceOk w && ranksOk s (held.filter (fun h => h != resourceOf w)) r
    else (s.stepNeeds p.opcode p.path p.payload).all (fun n => held.contains n) && ranksOk s held r

/-! ### Storing (R337) -/

/-- The stored recipe of a number. -/
def recipe? (s : State) (n : Nat) : Option Recipe := s.cmd.recipes.find? (fun r => r.number == n)

/-- A recipe's enable bit written, with what hangs on it. -/
def setEnabled (n : Nat) (b : Bool) (s : State) : State :=
  if s.recipeEnabled n = b then s
  else
    let f := if n < 32 then F.CMD_RECIPE_EN_LO_EN else F.CMD_RECIPE_EN_HI_EN
    let s := if b then s.setIn f (n % 32) else s.clearIn f (n % 32)
    let s := s.uncommit
    if b then s.recipeEnabledNow n else s

/-- The recipe of a number replaced, or gone. -/
def putRecipe (n : Nat) (r : Option Recipe) (s : State) : State :=
  let l := s.cmd.recipes.filter (fun x => x.number != n)
  { s with cmd := { s.cmd with recipes := match r with | some r => insertBy (fun x => x.number) r l | none => l } }

/-- The chunks of a recipe (Table 17-3). -/
def recipeItems (n : Nat) (ws : List Nat) : List JItem :=
  (pieces 1024 3 ws).mapIdx (fun i c => ⟨3, i * 2 ^ 16 + n, c⟩)

/-- The recipe runs or is queued. -/
def recipeBusy (s : State) (n : Nat) : Bool :=
  s.cmd.queue.contains n || (match s.cmd.run with | some r => r.number == n | none => false)

/-- RECIPE_STORE. DEDUCED: log entry 87. -/
def opRecipeStore (q : Req) (s : State) : OpResult :=
  match parseRecipe q.payload with
  | none => OpResult.refuse St.badParam 0 s
  | some r =>
    if !s.ranksOk [] r.steps then OpResult.refuse St.badParam 0 s
    else if s.recipeBusy r.number then OpResult.refuse St.busy 0 s
    else if s.journalFull then OpResult.refuse St.busy 0 s.queueRefused
    else
      let on := bitOf (q.arg 2) 0
      let s := (s.putRecipe r.number (some r)).setEnabled r.number on
      let s := if on then s.recipeEnabledNow r.number else s
      OpResult.ok (s.journal (recipeItems r.number r.words))

/-- RECIPE_READ: a number that holds no recipe is refused. DEDUCED: log entry 87. -/
def opRecipeRead (q : Req) (s : State) : OpResult :=
  match s.recipe? (q.arg 0) with
  | some r => OpResult.reply r.words s
  | none => OpResult.refuse St.badParam 0 s

/-- RECIPE_ENABLE. DEDUCED: log entry 87. -/
def opRecipeEnable (q : Req) (s : State) : OpResult :=
  let n := q.arg 0
  if 64 ≤ n ∨ 2 ≤ q.arg 1 ∨ (q.arg 1 = 1 ∧ (s.recipe? n).isNone) then OpResult.refuse St.badParam 0 s
  else OpResult.ok (s.setEnabled n (q.arg 1 == 1))

/-- RECIPE_DELETE: a queued copy leaves the queue, and the enable bit is cleared. A run in progress completes.
DEDUCED: log entry 87. -/
def opRecipeDelete (q : Req) (s : State) : OpResult :=
  let n := q.arg 0
  if (s.recipe? n).isNone then OpResult.refuse St.badParam 0 s
  else if s.journalFull then OpResult.refuse St.busy 0 s.queueRefused
  else
    let s := (s.setEnabled n false).putRecipe n none
    let l := s.cmd.queue.filter (fun x => x != n)
    let s := ({ s with cmd := { s.cmd with queue := l } }).wr F.CMD_RECIPE_QUEUED l.length
    OpResult.ok (s.journal [⟨4, n, [0]⟩])

/-- RECIPE_RUN: the recipe enters the queue, enabled or not (R338, R340). DEDUCED: log entry 87. -/
def opRecipeRun (q : Req) (s : State) : OpResult :=
  if (s.recipe? (q.arg 0)).isNone then OpResult.refuse St.badParam 0 s else OpResult.ok (s.queueRecipe (q.arg 0))

end State
end Sys2Proof.Machine
end

