-- ==== Sys2Proof/Machine/Boot.lean ====
section
/-! DEFINITION. Resets, start-up, self-test, watchdogs and waking (chapter 19; the firmware slots of R419, the replay of
R410, the life log at start-up of R422 and R423). -/

namespace Sys2Proof.Machine

/-! ### The boot ROM's choice of slot (R419) -/

/-- Words of a firmware slot. DEDUCED: log entry 112. -/
def slotWord (m : Sparse Nat) (k w : Nat) : Nat := Sparse.get m 0 (k * 2 ^ 19 + w)

/-- The CRC-32C of the first bytes of a slot. DEDUCED: log entry 112. -/
def slotCrc (m : Sparse Nat) (k bytes : Nat) : Nat := crc32c ((List.range (bytes / 4)).flatMap (fun w => wordBytes (slotWord m k w)))

/-- A slot passes its check: it can be read, and where a selection names it, its CRC is that of the selection.
DEDUCED: log entry 112. -/
def slotPasses (n : NvsSt) (sel : BootSel) (bad : Bool) (k : Nat) : Bool :=
  !bad &&
  (if sel.slot = k then slotCrc n.slots k sel.bytes == sel.crc
   else if n.prevSel.slot = k then slotCrc n.slots k n.prevSel.bytes == n.prevSel.crc
   else true)

/-- What a way of waking is (R453). -/
def wakeAllowed (how : Wake) (spi uart : Bool) : Bool :=
  match how with
  | .pin => true
  | .spi => spi
  | .uart => uart

namespace State

/-! ### Entry to a reset (R436, R438, R455, R457) -/

/-- The registers that a reset of a kind keeps: the fault log's count, the straps where they are not sampled anew, the
state of the reference and of sync where time goes on, the journal half in use, the level of GATE_FAULT_N. DEDUCED:
log entry 119. -/
def keptRegs (kind : Nat) (s r : State) : State :=
  let r := if kind = 0 then r else r.wr F.CMD_STATUS_FAULT_ENTRIES s.cmd.faults.length
  let r := if kind = 0 then r else r.putWord A.CORD_STRAPS (s.word A.CORD_STRAPS)
  let r := (r.wr F.NVS_STATUS_HALF (s.rd F.NVS_STATUS_HALF)).wr F.NVS_GEN_GENERATION (s.rd F.NVS_GEN_GENERATION)
  let r := r.wr F.SERVO_H_BUS_GATE_FAULT (s.rd F.SERVO_H_BUS_GATE_FAULT)
  if kind < 2 then r
  else
    let y := s.rd F.TIME_STATUS_SYNC_STATE
    let r := (r.wr F.TIME_STATUS_FREQ_STATE (s.rd F.TIME_STATUS_FREQ_STATE)).wr F.TIME_STATUS_SYNC_STATE
      (if y = Sync.locked then Sync.hold else y)
    let r := (r.wr F.TIME_STATUS_REF_PRESENT (s.rd F.TIME_STATUS_REF_PRESENT)).wr F.TIME_STATUS_REF_WARM
      (s.rd F.TIME_STATUS_REF_WARM)
    (r.wr F.TIME_STATUS_REF_FREQ_DET (s.rd F.TIME_STATUS_REF_FREQ_DET)).wr F.TIME_STATUS_QUALITY
      (max (r.rd F.TIME_STATUS_FREQ_STATE) (r.rd F.TIME_STATUS_SYNC_STATE))

/-- Device time and its source over a reset of a kind (Table 19-5). XTAL is there by the release (R436), and a PLL
that had lost both inputs locks to it (R40). DEDUCED: log entries 17 and 119. -/
def keptTime (kind : Nat) (s : State) : TimeSt :=
  if kind < 2 then TimeSt.init
  else
    let lost := s.time.src == PllSource.none
    { TimeSt.init with
      dev := s.time.dev
      src := if lost then .xtal else s.time.src
      locked := lost || s.time.locked
      everRef := s.time.everRef
      refOkSince := s.time.refOkSince }

/-- The MRAM over a reset: all but the writer and what waits for it. DEDUCED: log entry 119. -/
def keptNvs (kind : Nat) (s : State) : NvsSt :=
  { NvsSt.init with
    slots := s.nvs.slots
    super0 := s.nvs.super0
    super1 := s.nvs.super1
    half0 := s.nvs.half0
    half1 := s.nvs.half1
    sel := s.nvs.sel
    prevSel := s.nvs.prevSel
    pendingSel := s.nvs.pendingSel
    trialAt := if kind = 3 then s.nvs.trialAt else none
    copyA := s.nvs.copyA
    copyB := s.nvs.copyB
    calendar := s.nvs.calendar }

/-- R457: an internal reset begins. What Table 19-5 keeps stays; the levels of the pins stay; all else is as after a
power-on reset, and nothing fires (R438). TRIP tells of the last power-on reset, so another kind leaves it. DEDUCED:
log entry 119. -/
def enterReset (kind : Nat) (s : State) : State :=
  let kind := if s.boot.tripped || (s.boot.phase == .held && s.boot.kind == 0) then 0 else kind
  let r := { State.reset with
    pending := s.pending
    now := s.now
    free := s.free
    boot := { State.reset.boot with
      kind := kind
      supplyOk := s.boot.supplyOk
      resetN := s.boot.resetN
      tripped := s.boot.tripped }
    permits := { s.permits with
      north := false
      south := false
      allow := false }
    time := s.keptTime kind
    nvs := s.keptNvs kind
    cmd := { State.reset.cmd with faults := if kind = 0 then [] else s.cmd.faults }
    servo := { State.reset.servo with
      encA := s.servo.encA
      encB := s.servo.encB }
    pwr := { State.reset.pwr with
      acked := if kind = 0 then 850 else s.pwr.acked
      alert := s.pwr.alert } }
  let r := (s.keptRegs kind r).wr F.DEV_RESET_CAUSE_KIND kind
  let old := s.flag F.DEV_RESET_CAUSE_TRIP
  (r.wrB F.DEV_RESET_CAUSE_TRIP (if kind = 0 then s.boot.tripped || (s.boot.phase == .held && old) else old)).refreshAllow

/-- SUPPLY_OUT_OF_RANGE (R436). DEDUCED: log entries 119 and 120. -/
def supplyBad (s : State) : State :=
  (({ s with boot := { s.boot with supplyOk := false } }).enterReset 0).wr F.DEV_RESET_CAUSE_TRIP (b2n s.boot.tripped)

/-- RESET_N_FALL (R438): FIRE_ALLOW goes low whatever the pulse's length; `resets` says that the filter took it.
DEDUCED: log entry 119. -/
def resetFall (resets : Bool) (s : State) : State :=
  let s := ({ s with boot := { s.boot with resetN := false } }).refreshAllow
  if resets then s.enterReset 1 else s.calPoll

/-- R345: the straps are sampled. DESIGN CHOICE: log entry 3. -/
def sampleStraps (role : Bool) (id : Nat) (s : State) : State :=
  ((s.wrB F.CORD_STRAPS_ROLE role).wr F.CORD_STRAPS_ID (id % 8)).wrB F.CORD_STRAPS_MASTER (role && id % 8 == 0)

/-- RESET_N_RISE (R438, R345). -/
def resetRise (role : Bool) (id : Nat) (s : State) : State :=
  let s := { s with boot := { s.boot with resetN := true } }
  if s.boot.phase = .held then s.sampleStraps role id else s.refreshAllow

/-- THERMAL_TRIP (R383): every block is held in reset. DEDUCED: log entry 115. -/
def thermalTrip (s : State) : State := ({ s with boot := { s.boot with tripped := true } }).enterReset 0

/-- TRIP_RELEASE (R383). -/
def tripRelease (s : State) : State := { s with boot := { s.boot with tripped := false } }

/-- COMMAND_RESET (R334, Table 19-4): the queue is empty, and the life log is flushed first. -/
def commandReset (s : State) : State :=
  if s.boot.resetDue = .command ∧ s.nvsIdle = true ∧ s.replyOwed = false ∧ s.boot.replyEnd + 1000000 ≤ s.now then
    s.lifeFlush.enterReset 2 else s

/-- R358, Table 19-4: a cord reset is due; it is taken once the journal queue is empty. DEDUCED: log entry 99. -/
def cordResetTaken (s : State) : State :=
  if s.boot.resetDue = .cord ∧ s.nvsIdle = true then s.lifeFlush.enterReset 4 else s

/-! ### Watchdogs (R456) -/

/-- A core's last restart of its watchdog. -/
def wdtAt (s : State) (h : Half) : Nat := match h with | .north => s.boot.wdtN | .south => s.boot.wdtS

/-- A core restarts its watchdog. -/
def wdtRestart (h : Half) (s : State) : State :=
  let n := s.now
  match h with
  | .north => { s with boot := { s.boot with wdtN := n } }
  | .south => { s with boot := { s.boot with wdtS := n } }

/-- The cores run their firmware: the watchdogs run in every mode except PARK. -/
def wdtRuns (s : State) : Bool := (s.boot.phase == .starting || s.boot.phase == .up) && s.mode != Mode.park

/-- WDT_KICK. DEDUCED: log entry 124. -/
def wdtKick (h : Half) (s : State) : State := if s.wdtRuns then s.wdtRestart h else s

/-- WATCHDOG_BITE: TIMEOUT_MS has passed without a restart. The permits are cleared, the entry is written, the journal
entry in progress is completed and the life log flushed; then the reset. DEDUCED: log entries 81 and 124. -/
def watchdogBite (h : Half) (s : State) : State :=
  if s.wdtRuns && decide (s.wdtAt h + s.rd F.DEV_WDT_TIMEOUT_MS * 1000000 ≤ s.now) then
    let s := (s.setPermits false).logEntry h.num Ev.watchdogReset 0x0B h.num 0 0
    let s := if s.nvs.writing.isSome then s.entryDone true else s
    s.lifeFlush.enterReset 3
  else s

/-! ### Start-up: slot, replay and life log (Table 19-1) -/

/-- R419: the selection that the journal holds takes effect at a reset where an activation was pending. DEDUCED: log
entries 112 and 114. -/
def bootSelect (boot : Option (List Nat)) (s : State) : State :=
  let n := s.nvs
  match n.pendingSel with
  | some x =>
    if boot = some [x.slot, x.bytes, x.crc] then
      { s with nvs := { n with
        prevSel := if x.slot = n.sel.slot then n.prevSel else n.sel
        sel := x
        pendingSel := none
        trialNew := true } }
    else { s with nvs := { n with pendingSel := none } }
  | none => s

/-- The slot that starts, whether it is the other one, and whether none passes. A watchdog reset during a trial
returns the selection to the previous slot, unless an activation has done so. DEDUCED: log entries 112 and 114. -/
def bootSlot (bad0 bad1 : Bool) (s : State) : State × Option (Nat × Bool) :=
  let back := decide (s.boot.kind = 3) && s.nvs.trialAt.isSome
  let s := if back && !s.nvs.trialNew then
      { s with nvs := { s.nvs with
        sel := s.nvs.prevSel
        prevSel := s.nvs.sel
        trialNew := false } } else s
  let s := { s with nvs := { s.nvs with trialAt := none } }
  let k := s.nvs.sel.slot
  let bad := fun (i : Nat) => if i = 0 then bad0 else bad1
  if slotPasses s.nvs s.nvs.sel (bad k) k then (s, some (k, back))
  else if slotPasses s.nvs s.nvs.sel (bad (1 - k)) (1 - k) then (s, some (1 - k, true))
  else (s, none)

/-- A journalled register word put back: its RW fields (R408). FIRE_FRAME_ACTIVE comes back whole with table 0x01. -/
def replayReg (s : State) (p : Nat × Word) : State :=
  if p.1 = A.FIRE_FRAME_ACTIVE then s.putWord p.1 p.2.toNat
  else
    match findReg p.1 with
    | some r => s.putWord p.1 (r.reg.merge (s.word p.1) p.2.toNat)
    | none => s

/-- A journalled table word put back. -/
def replayTab (s : State) (p : Nat × Word) : State :=
  s.putTab (p.1 / 2 ^ 24) (p.1 / 2 ^ 15 % 2 ^ 9) (p.1 % 2 ^ 15) p.2.toNat

/-- A journalled calibration item put back (Table 17-3). -/
def replayItem (s : State) (p : Nat × List Nat) : State :=
  let i := p.1 % 2 ^ 9
  let w := fun (n : Nat) => p.2.getD n 0
  match p.1 / 2 ^ 24 with
  | 1 => (s.wr (F.TDC_FE_STATUS_TRIM i) (w 0)).wr (F.TDC_FE_STATUS_TABLE_SRC i) (w 1)
  | 2 => (s.putWord (A.TDC_FE_SKEW_A i) (w 0)).putWord (A.TDC_FE_SKEW_B i) (w 1)
  | 3 => s.wr (F.RX_OCT_INJ_STATUS_REF_PS i) (w 0)
  | 4 => s.wr (F.CAL_OCT_STATUS_T_LAST i) (w 0)
  | 5 => s.wr F.CAL_DEV_PKO_T_LAST (w 0)
  | 6 => { s with time := { s.time with bins := s.time.bins.set i ⟨toS 64 (w 0 * 2 ^ 32 + w 1), w 2⟩ } }
  | _ => s

/-- A journalled recipe put back, where its words have the form of R337. -/
def replayRecipe (s : State) (p : Nat × List (Nat × List Nat)) : State :=
  match parseRecipe ((sortBy (fun c => c.1) p.2).flatMap (fun c => c.2)) with
  | some r => s.putRecipe r.number (some r)
  | none => s

/-- R402, Table 19-1 step 4: starter values of one front end, for the items with no journalled value. DESIGN CHOICE:
log entry 107. -/
def starterFe (m : JMap) (s : State) (f : Nat) : State :=
  let has := fun (item : Nat) => m.items.any (fun p => p.1 == item * 2 ^ 24 + f)
  let reg := fun (a : Nat) => (Sparse.find? a m.regs).isSome
  let s := if (Sparse.find? (tabKey 9 f 0) m.tabs).isSome then s
    else s.putWidths f ((List.range 128).map (fun i => (Config.starter 0 f i).toNat % 2 ^ 16)) 1
  let s := if has 1 then s else s.wr (F.TDC_FE_STATUS_TRIM f) (Config.starter 1 f 0).toNat
  let s := if has 2 then s else s.putSkews f ((List.range 7).map (fun i => Config.starter 2 f (i + 1)))
  let s := if reg (A.ECHO_FE_OFFSET f) then s else s.wrS (F.ECHO_FE_OFFSET_OFFSET f) (Config.starter 3 f 0)
  let s := if reg (A.ECHO_FE_TEMP f) then s
    else (s.wrS (F.ECHO_FE_TEMP_TC f) (Config.starter 5 f 0)).wrS (F.ECHO_FE_TEMP_CAL_TEMP f) (Config.starter 6 f 0)
  let s := if reg (A.ECHO_FE_AMP f) then s
    else (s.wr (F.ECHO_FE_AMP_SLOPE f) (Config.starter 7 f 0).toNat).wr (F.ECHO_FE_AMP_W0 f) (Config.starter 8 f 0).toNat
  let s := if reg (A.ECHO_FE_WALK f 0) then s
    else s.putWalk f ((List.range 8).map (fun n => Config.starter 9 f n)) ((List.range 8).map (fun n => Config.starter 10 f n))
  s.wr (F.TDC_FE_STATUS_OCCUPIED f) (occupied (s.tabWords 9 f 0 128))

/-- R211: the starter polynomials of the ranges that the journal holds no set for. DESIGN CHOICE: log entry 107. -/
def starterPoly (m : JMap) (s : State) (r : Nat) : State :=
  if (Sparse.find? (tabKey 5 0 (12 * r)) m.tabs).isSome then s
  else s.putTabs 5 0 (12 * r) ((List.range 12).map (fun i => (Config.starter 14 0 (12 * r + i) % 2 ^ 32).toNat))

/-- The starter values of an octant, and of the device, for the items with no journalled value. DESIGN CHOICE: log
entry 107. -/
def starterFill (m : JMap) (s : State) : State :=
  let has := fun (k : Nat) => m.items.any (fun p => p.1 == k)
  let s := (List.range 264).foldl (starterFe m) s
  let s := (List.range 8).foldl (fun s g =>
    let s := if has (3 * 2 ^ 24 + g) then s else s.starterInj g
    if has (4 * 2 ^ 24 + g) then s else s.wrS (F.CAL_OCT_STATUS_T_LAST g) (starterTemp (octFes g))) s
  let s := (List.range 4).foldl (starterPoly m) s
  let s := if (Sparse.find? A.ANGLE_TRIM m.regs).isSome then s else s.starterPko
  if has (5 * 2 ^ 24) then s else s.wrS F.CAL_DEV_PKO_T_LAST (starterTemp (List.range 264))

/-- R89, R92, R96: the settings in force of a front end are those of its replayed registers. DEDUCED: log entry 58. -/
def feReplay (s : State) (f : Nat) : State :=
  (s.updFe f (fun x => { x with
    range := s.rd (F.RX_FE_CFG_RANGE f)
    off := s.flag (F.RX_FE_CFG_OFF f)
    thr := s.baseThr f })).wr (F.RX_FE_STATUS_RANGE_NOW f) (s.rd (F.RX_FE_CFG_RANGE f))

/-- R109: a replayed SUBST_EN asks for the switch to the spare. DEDUCED: log entry 58. -/
def octReplay (s : State) (g : Nat) : State :=
  if s.flag (F.RX_OCT_XBAR_SUBST_EN g) then s.requestSwitch g (.toSpare (32 * g + s.rd (F.RX_OCT_XBAR_SUBST_CH g))) else s

/-- Pose, schedule and other state that follows the replayed registers and tables. DEDUCED: log entry 58. -/
def followReplay (s : State) : State :=
  let n := ((s.slotsOf s.activeCopy).filter (fun p => slotEn p.2.1)).length
  let s := (s.wr F.FIRE_SCHED_SLOTS n).wr F.ANGLE_CHAIN_GROUP_DELAY_NS (groupDelay (s.rd F.ANGLE_DEC_STAGES))
  let pose := [A.GEOM_POSE_TX, A.GEOM_POSE_TY, A.GEOM_POSE_TZ, A.GEOM_POSE_ROLL, A.GEOM_POSE_PITCH, A.GEOM_POSE_YAW]
  let s := if pose.all (fun a => s.word a == 0) then s else s.poseLoad.poseMatrixDone
  let s := { s with
    servo := { s.servo with profile := s.profileRegs }
    cam := { s.cam with ports := s.cam.ports.mapIdx (fun p (x : CamPort) => { x with ctx := s.camTable p }) } }
  let s := { s with
    time := { s.time with tune := s.rd F.TIME_TUNE_CODE }
    pwr := { s.pwr with step := s.rd F.PWR_AVS_CTRL_STEP_MV } }
  let s := (List.range 264).foldl feReplay s
  let s := (List.range 8).foldl octReplay s
  ((s.refreshCompensation.refreshProof).showDll).refreshXtal

/-- The half that the superblock of the higher generation names, its generation, and its journal (R410, R411).
DEDUCED: log entry 111. -/
def openJournal (s : State) : State :=
  let best := match s.nvs.super0, s.nvs.super1 with
    | some a, some b => some (if a.generation < b.generation then b else a)
    | some a, none => some a
    | none, some b => some b
    | none, none => none
  match best with
  | none => s.wr F.NVS_STATUS_JOURNAL_EMPTY 1
  | some b =>
    let s := (s.wr F.NVS_STATUS_HALF b.half).wr F.NVS_GEN_GENERATION b.generation
    let l := validPrefix s.half
    let s := s.putHalf l
    { s with nvs := { s.nvs with nextSeq := (l.getLast?.elim 0 (fun (e : JEntry) => e.seq)) + 1 } }

/-- R410: the replay, with the starter set where the journal holds no value. DEDUCED: log entry 118. -/
def replayAll (s : State) : State :=
  let m := replay s.half
  let s := m.regs.foldl replayReg s
  let s := m.tabs.foldl replayTab s
  let s := m.items.foldl replayItem s
  let s := m.recipes.foldl replayRecipe s
  let s := { s with nvs := { s.nvs with
    jregs := m.regs
    jtabs := m.tabs } }
  (s.starterFill m).followReplay

/-- R423: the calendar's count stepped forward over valid entries of the expected lap. -/
def calendarStep (s : State) : Nat → Nat → Nat
  | 0, i => i
  | k + 1, i =>
    let w := fun (j : Nat) => Sparse.get s.nvs.calendar 0 (4 * (i % 61440) + j)
    if w 3 % 2 ^ 16 = crc32c (wordsBytes [w 0, w 1, w 2]) % 2 ^ 16 ∧ w 3 / 2 ^ 23 % 2 = i / 61440 % 2 ∧
        w 3 / 2 ^ 24 ≠ 0 then calendarStep s k (i + 1)
    else i

/-- R422, R423: the counter block and the calendar are loaded. DEDUCED: log entries 115 and 121. -/
def lifeOpen (s : State) : State :=
  let a := s.nvs.copyA
  let b := s.nvs.copyB
  let l := if a.valid && (!b.valid || decide (b.seq ≤ a.seq)) then a.counts else if b.valid then b.counts else []
  let s := { s with nvs := { s.nvs with life := l } }
  let i := s.calendarStep (s.nvs.calendar.length + 1) (s.lifeCount 182)
  { s with nvs := { s.nvs with life := Sparse.put s.nvs.life 0 182 i } }

/-- Step 5 of Table 19-1: the life log is loaded, and the reset recorded in it (R455). DEDUCED: log entry 115. -/
def lifeLoad (s : State) : State :=
  let kind := s.boot.kind
  let s := s.lifeOpen.lifeAdd (168 + 2 * kind) 1
  let s := if kind = 0 ∧ s.flag F.DEV_RESET_CAUSE_TRIP = true then (s.lifeAdd 180 1).calendarAdd 6 0 else s
  let s := if kind = 3 then s.count ⟨0x00, 2⟩ 0 else s
  s.calendarAdd 1 kind

/-- R419: what the choice of slot leaves: NVS_BOOT, the trial, the calendar, and a selection returned to is
journalled. A selection whose slot failed its check stays, and its first start is still to come. DEDUCED: log entry
112. -/
def slotRecord (slot : Nat) (fell back : Bool) (s : State) : State :=
  let trial := s.nvs.trialNew && slot == s.nvs.sel.slot
  let n := s.now
  let s := ((s.wr F.NVS_BOOT_SLOT slot).wr F.NVS_BOOT_NEXT_SLOT s.nvs.sel.slot).wrB F.NVS_BOOT_FALLBACK fell
  let s := s.wrB F.NVS_BOOT_TRIAL trial
  let s := { s with nvs := { s.nvs with
    trialNew := s.nvs.trialNew && !trial
    trialAt := if trial then some n else none } }
  let s := if trial then s.calendarAdd 2 slot else s
  let s := if fell then s.calendarAdd 3 slot else s
  if back then s.journal [⟨6, 0, [s.nvs.sel.slot, s.nvs.sel.bytes, s.nvs.sel.crc]⟩] else s

/-- R441: the boot ROM's own SAFE, with the life log that it goes on with and the snapshot that ends every reset
(R430). DEDUCED: log entry 121. -/
def romSafe (s : State) : State :=
  let s := State.snapshot { s.lifeOpen with boot := { s.boot with phase := .romSafe } }
  let s := ((s.wr F.DEV_MODE_MODE Mode.safe).wr F.DEV_MODE_TARGET Mode.safe).setIn F.DEV_STATUS_SAFE_CAUSE 0
  ((s.wr F.DEV_STATUS_ST_FAIL 1).logEvent Ev.selftestFail (2 ^ 24)).raise Irq.safeEntry

/-- RESET_RELEASE (R436, R439): the internal reset is released, and steps 1 to 5 of Table 19-1 run. DEDUCED: log
entries 17, 118 and 120. -/
def resetRelease (role : Bool) (id : Nat) (bad0 bad1 : Bool) (s : State) : State :=
  if s.boot.phase ≠ .held ∨ s.boot.resetN = false ∨ s.boot.tripped = true then s
  else
    let kind := s.boot.kind
    let s := { s with boot := { s.boot with supplyOk := true } }
    let s := if kind = 0 ∨ kind = 4 then s.sampleStraps role id else s
    let s := if kind < 2 then { s with time := { s.time with
        dev := 0
        locked := true } } else s
    let s := s.openJournal
    let s := s.bootSelect (replay s.half).boot
    let back := decide (kind = 3) && s.nvs.trialAt.isSome
    match s.bootSlot bad0 bad1 with
    | (s, none) => s.romSafe
    | (s, some (slot, fell)) =>
      let s := { s with boot := { s.boot with phase := .starting } }
      let s := (s.wdtRestart .north).wdtRestart .south
      let s := s.replayAll
      let s := if kind < 2 then s.syncSource else s
      let s := (s.lifeLoad).slotRecord slot fell back
      s.freqFollow.hkStart.selftestEntry

/-! ### Self-test (R442 to R444) and step 7 -/

/-- A completed entry to a mode without frames: MODE_DONE and the mode-entry recipes (R446, R338). -/
def enterQuiet (m : Nat) (s : State) : State :=
  let s := s.setMode m 2
  let s := if m = Mode.config then s.servoModeEntry else s
  (((s.raise Irq.modeDone).entryRecipes m).calPoll)

/-- R448: what AUTO_MODE makes of STANDBY. In a cord, entry to SCAN waits for the members. -/
def autoMode (s : State) : State :=
  let a := s.rd F.DEV_BOOT_AUTO_MODE
  if a = 0 then s
  else
    let s := s.enterQuiet Mode.config
    if a = 1 then s
    else if s.flag F.CORD_STRAPS_ROLE then { s with boot := { s.boot with autoScan := true } }
    else if s.flag F.DEV_STATUS_COMMITTED then s.startTransition Mode.scan
    else s

/-- R443, R444: the results of the tests: the failed ones, each with its first failing unit. -/
def testResults (fails : List (Nat × Nat)) (s : State) : State :=
  let l := sortBy (fun p => p.1) fails
  let mask := l.foldl (fun w p => setBit w (p.1 % 8)) 0
  let s := (s.wr F.DEV_ST_RESULT_RUN 255).wr F.DEV_ST_RESULT_FAIL mask
  let s := match l with
    | p :: _ => (s.wr F.DEV_ST_DETAIL_FIRST_TEST (p.1 % 8)).wr F.DEV_ST_DETAIL_UNIT p.2
    | [] => (s.wr F.DEV_ST_DETAIL_FIRST_TEST 255).wr F.DEV_ST_DETAIL_UNIT 0
  let s := l.foldl (fun s p => (s.logEvent Ev.selftestFail (p.1 % 8 * 2 ^ 24 + p.2 % 2 ^ 9)).count ⟨0x00, 3⟩ 0) s
  let ms := (s.now - s.boot.stStart) / 1000000
  let s := s.wrB F.DEV_STATUS_ST_FAIL (!l.isEmpty)
  { s with
    boot := { s.boot with stMs := ms }
    pwr := { s.pwr with noLoop := l.any (fun p => p.1 == 7) } }

/-- Step 7 of Table 19-1, up to the entry to STANDBY or SAFE. DEDUCED: log entries 118 and 121. -/
def stepSeven (s : State) : State :=
  let (s, r) := s.commitCheck
  ((s.wrB F.DEV_STATUS_COMMITTED r.isNone).snapshot |> fun s => { s with boot := { s.boot with phase := .up } })

/-- SELFTEST_DONE (R442): the tests finish, giving STANDBY or SAFE. DEDUCED: log entry 118. -/
def selftestDone (fails : List (Nat × Nat)) (s : State) : State :=
  let first := s.boot.phase == .starting
  if !(first || (s.boot.phase == .up && s.mode == Mode.selftest)) then s
  else
    let s := s.testResults fails
    let s := if first then s.stepSeven else s
    if !fails.isEmpty then s.safeEnter 0
    else if s.mode ≠ Mode.selftest then s
    else
      let s := s.enterQuiet Mode.standby
      if first then s.autoMode else s

/-! ### Waking (R453) -/

/-- WAKE. DEDUCED: log entry 122. -/
def wake (how : Wake) (s : State) : State :=
  if s.mode = Mode.park ∧ s.boot.waking = false ∧
      wakeAllowed how (s.flag F.PWR_PARK_WAKE_SPI) (s.flag F.PWR_PARK_WAKE_UART) = true then
    State.cmdVdd 850 { s with boot := { s.boot with waking := true } }
  else s

/-- An input that the PLL can lock to stands at it. DEDUCED: log entry 16. -/
def inputOk (s : State) : Bool := s.time.xtalOk || s.flag F.TIME_STATUS_REF_PRESENT

/-- WAKE_COMPLETE: the regulator has acknowledged and the PLL is in lock again, on XTAL or without it on REF_IN (R34);
with neither, the wake goes on. The watchdogs start with a whole TIMEOUT_MS (R456). DEDUCED: log entries 16 and
122. -/
def wakeComplete (s : State) : State :=
  if s.boot.waking = true ∧ s.pwr.owed.isNone = true ∧ s.inputOk = true then
    let src : PllSource := if s.time.xtalOk then .xtal else .ref
    let s := { s with time := { s.time with
      src := src
      locked := true
      everRef := src == PllSource.ref } }
    let s := (s.wdtRestart .north).wdtRestart .south
    let s := s.freqFollow.syncSource.refreshXtal.hkStart.enterQuiet Mode.standby
    if 736 < s.rd F.NVS_STATUS_FILL_KIB ∧ s.mayCompact = true then s.startCompaction else s
  else s

end State
end Sys2Proof.Machine
end

