-- ==== Sys2Proof/Machine/Cord.lean ====
section
/-! DEFINITION. Cords of devices (chapter 14): formation by roll call, heartbeats and split authority, CORD_SYNC
markers and epochs, relayed datagrams and the cord link. -/

namespace Sys2Proof.Machine

/-- What a roll call brings of a follower: its number, its mode and its COMMITTED. -/
abbrev RollEntry := Nat × Nat × Bool

/-- R347: the followers that count: those before the first number that is not greater than the one before it. -/
def rollPrefix : Nat → List RollEntry → List RollEntry
  | _, [] => []
  | last, e :: r => if last < e.1 ∧ e.1 < 8 then e :: rollPrefix e.1 r else []

/-- Table 14-1: the marker's kind from its width, decoded to ±1 ns: epoch start and forced trigger. -/
def markerKind (width : Nat) : Option (Bool × Bool) :=
  if 3 ≤ width ∧ width ≤ 5 then some (false, false)
  else if 7 ≤ width ∧ width ≤ 9 then some (false, true)
  else if 11 ≤ width ∧ width ≤ 13 then some (true, false)
  else if 15 ≤ width ∧ width ≤ 17 then some (true, true)
  else none

namespace State

/-- The master of a cord. -/
def isMaster (s : State) : Bool := s.flag F.CORD_STRAPS_MASTER

/-- The part's own blocks run: not in PARK, and not while the internal reset or the boot ROM holds them. -/
def cordRuns (s : State) : Bool := (s.boot.phase == .starting || s.boot.phase == .up) && s.mode != Mode.park

/-- A member of a formed cord. -/
def formed (s : State) : Bool := s.flag F.CORD_STATUS_FORMED

/-! ### Roll call (R347) -/

/-- ROLL_CALL: the master sends a roll call on CORD1. DEDUCED: log entry 97. -/
def rollCall (s : State) : State :=
  if s.isMaster && s.cordRuns then (s.cordSend (.rollCall [s.memberNo])).count ⟨0x0E, 0⟩ 0 else s

/-- ROLL_CALL_RX: a follower adds its number and passes the roll call downstream; the last one that it reaches returns
it upstream. DEDUCED: log entry 97. -/
def rollCallRx (ms : List Nat) (s : State) : State :=
  if s.isFollower && s.cordRuns && s.flag (F.CORD_LINK_LINK 0) then
    let l := ms ++ [s.memberNo]
    s.cordSend (if s.flag (F.CORD_LINK_LINK 1) then .rollCall l else .rollReturn l)
  else s

/-- R347: the followers before a lane that is down, as this member sees its own two lanes. DEDUCED: log entry 97. -/
def beforeDown (s : State) (l : List RollEntry) : List RollEntry :=
  let l := if s.flag (F.CORD_LINK_LINK 1) then l else l.filter (fun e => decide (e.1 ≤ s.memberNo))
  if s.isMaster || s.flag (F.CORD_LINK_LINK 0) then l else l.filter (fun e => decide (e.1 < s.memberNo))

/-- R347: a follower that is not present is not in a formed cord. DEDUCED: log entry 97. -/
def leaveCord (s : State) : State :=
  let s := ((s.wr F.CORD_STATUS_FORMED 0).wr F.CORD_STATUS_PRESENT 1).wr F.CORD_STATUS_SIZE 1
  { s with cord := { s.cord with modes := [] } }

/-- The seed table of the cord: the master sends its copy, a follower takes it (R356). DEDUCED: log entry 123. -/
def takeSeeds (seeds : List Nat) (s : State) : State :=
  if s.isMaster then s.cordSend (.seeds (s.tabWords 4 0 0 64)) else s.putTabs 4 0 0 (seeds.take 64)

/-- The cord forms: epochs are numbered from 0 (R354), and the seeds are copied (R356). DEDUCED: log entry 96. -/
def cordForms (seeds : List Nat) (s : State) : State :=
  (((s.wr F.CORD_STATUS_FORMED 1).wr F.CORD_EPOCH_EPOCH 0).takeSeeds seeds)

/-- ROLL_CALL_RETURN: FORMED, PRESENT and SIZE on a member present; a set that differs from the one before raises
CORD_MEMBERS. The modes of the other members, the master's being `lead`, serve R350 and R448. PRESUMED: log entry 94;
DEDUCED: log entry 97. -/
def rollCallReturn (lead : Nat) (ms : List RollEntry) (seeds : List Nat) (s : State) : State :=
  let l := s.beforeDown (rollPrefix 0 ms)
  if !(s.flag F.CORD_STRAPS_ROLE && s.cordRuns) then s
  else if !(s.isMaster || l.any (fun e => e.1 == s.memberNo)) then s.leaveCord
  else
    let mask := l.foldl (fun w e => setBit w e.1) 1
    let was := s.formed
    let old := s.rd F.CORD_STATUS_PRESENT
    let s := (s.wr F.CORD_STATUS_PRESENT mask).wr F.CORD_STATUS_SIZE (l.length + 1)
    let s := if s.isMaster then s.cordSend (.formed mask) else s
    let modes := (((0, lead, false) :: l).filter (fun e => e.1 != s.memberNo)).map (fun e => (e.1, e.2.1))
    let s := { s with cord := { s.cord with modes := modes } }
    if was then (if mask = old then s else s.raise Irq.cordMembers) else s.cordForms seeds

/-- R448: every member present is in CONFIG with COMMITTED set. -/
def allWait (s : State) (ms : List RollEntry) : Bool :=
  s.isMaster && s.formed && s.boot.autoScan && s.mode == Mode.config && !s.flag F.DEV_MODE_TRANS &&
  s.flag F.DEV_STATUS_COMMITTED && (s.beforeDown (rollPrefix 0 ms)).all (fun e => e.2.1 == Mode.config && e.2.2)

/-! ### Split authority (R359 to R362) -/

/-- SPLIT_AUTHORITY with a cause: the permits are cleared, the device enters SAFE, and the event is logged. DEDUCED:
log entry 97. -/
def splitAuthority (cause extra : Nat) (s : State) : State :=
  let s := s.setPermits false
  let s := { s with cord := { s.cord with split := true } }
  let s := (s.wr F.CORD_STATUS_SPLIT 1).wr F.CORD_STATUS_CAUSE cause
  (s.logEvent Ev.splitAuthority (extra * 2 ^ 8 + cause)).safeEnter 2

/-- Sequence number of a checker's next heartbeat. -/
def hbSeq (s : State) (h : Half) : Nat := match h with | .north => s.cord.hbSeqN | .south => s.cord.hbSeqS

/-- The other half. -/
def otherHalf (h : Half) : Half := match h with | .north => .south | .south => .north

/-- "Heartbeat of this half received within 250 µs." -/
def hbOk (h : Half) : Fld := match h with | .north => F.CORD_AUTH_HB_N_OK | .south => F.CORD_AUTH_HB_S_OK

/-- The coarse count before which a checker sends no heartbeat. -/
def muteTill (s : State) (h : Half) : Nat := match h with | .north => s.cord.muteN | .south => s.cord.muteS

/-- HALF_HEARTBEAT_SEND: a checker sends its claim and its sequence number, unless it has just detected a fault.
DEDUCED: log entry 97. -/
def halfSend (h : Half) (s : State) : State :=
  if s.cordRuns && decide (s.muteTill h ≤ s.now) then
    let n := s.hbSeq h
    let b : HalfBeat := ⟨s.rd F.CORD_AUTH_HOLDER, n⟩
    match h with
    | .north => { s with cord := { s.cord with
        hbSeqN := n + 1
        beatN := some b } }
    | .south => { s with cord := { s.cord with
        hbSeqS := n + 1
        beatS := some b } }
  else s

/-- Since when both checkers have exchanged heartbeats without fault. -/
def halfOk (s : State) : State :=
  let n := s.now
  if s.flag F.CORD_AUTH_HB_N_OK && s.flag F.CORD_AUTH_HB_S_OK && s.cord.halfOkSince.isNone then
    { s with cord := { s.cord with halfOkSince := some n } }
  else s

/-- R359: a checker detects a fault: the time without fault ends, and it is silent until the other half has noticed. A
checker that misses a half silent for that reason is not silent itself. DEDUCED: log entry 97. -/
def halfFault (h : Half) (s : State) : State :=
  let till := s.now + 250000
  let other := s.muteTill (otherHalf h)
  let s := { s with cord := { s.cord with halfOkSince := none } }
  if 0 < other ∧ s.now ≤ other then s
  else
    match h with
    | .north => { s with cord := { s.cord with muteN := till } }
    | .south => { s with cord := { s.cord with muteS := till } }

/-- HALF_HEARTBEAT: checker `h` receives the other half's claim, 0 for north; its own claim is HOLDER. DEDUCED: log
entry 97. -/
def halfHeartbeat (h : Half) (claim : Nat) (s : State) : State :=
  if s.cordRuns then
    let s := s.wr (hbOk (otherHalf h)) 1
    if claim = s.rd F.CORD_AUTH_HOLDER then s.halfOk else (s.halfFault h).splitAuthority 1 0
  else s

/-- HALF_HEARTBEAT_TIMEOUT: checker `h` has heard nothing of the other half for 250 µs. DEDUCED: log entry 97. -/
def halfTimeout (h : Half) (s : State) : State :=
  if s.cordRuns then
    let o := otherHalf h
    ((s.wr (hbOk o) 0).halfFault h).splitAuthority 2 o.num
  else s

/-- The cord heartbeat's time without fault ends. DEDUCED: log entry 97. -/
def cordFault (s : State) : State := { s with cord := { s.cord with cordOkSince := none } }

/-- CORD_HEARTBEAT_SEND: the master's heartbeat (R360). -/
def cordHbSend (s : State) : State :=
  if s.isMaster && s.formed && s.cordRuns then
    s.cordSend (.heartbeat (baseMac) s.memberNo (s.rd F.CORD_EPOCH_EPOCH))
  else s

/-- A heartbeat of another base MAC address has been heard within the last 250 µs (R361). -/
def twoMasters (s : State) (mac : Nat) : Bool :=
  match s.cord.lastHb with
  | some (m, t) => m != mac && decide (s.now ≤ t + 250000)
  | none => false

/-- R361, on a follower: who is in charge. -/
def followerHb (mac member : Nat) (s : State) : State :=
  let two := s.twoMasters mac
  let n := s.now
  let s := { s with cord := { s.cord with lastHb := some (mac, n) } }
  if two then s.cordFault.splitAuthority 4 0
  else if member ≠ 0 then s.cordFault.splitAuthority 5 0
  else { s with cord := { s.cord with cordOkSince := some (s.cord.cordOkSince.getD n) } }

/-- CORD_HEARTBEAT: it is forwarded (R360) and its identity judged (R361). DEDUCED: log entry 97. -/
def cordHeartbeat (mac member epoch : Nat) (s : State) : State :=
  if s.flag F.CORD_STRAPS_ROLE && s.cordRuns then
    let s := s.cordSend (.heartbeat mac member epoch)
    if s.isMaster then
      if mac = baseMac ∧ member = s.memberNo then s else s.cordFault.splitAuthority 4 0
    else s.followerHb mac member
  else s

/-- CORD_HEARTBEAT_TIMEOUT: a follower has heard no heartbeat for 250 µs (R361), one that is still in a firing mode after
a roll call without it included. DEDUCED: log entry 97. -/
def cordHbTimeout (s : State) : State :=
  if s.isFollower && (s.formed || s.firing) && s.cordRuns then s.cordFault.splitAuthority 3 0 else s

/-- R362: a MODE_SET out of SAFE after SPLIT_AUTHORITY: 1 ms of heartbeats without fault. -/
def authorityBack (s : State) : Bool :=
  let since := fun (x : Option Nat) => match x with | some t => decide (t + 1000000 ≤ s.now) | none => false
  !s.cord.split || (since s.cord.halfOkSince && (!s.isFollower || since s.cord.cordOkSince))

/-! ### Markers and epochs (R353 to R355) -/

/-- R354, R446: a mode entry of the master waits for its first frame boundary. -/
def entering (s : State) : Bool := s.flag F.DEV_MODE_TRANS && firingMode (s.rd F.DEV_MODE_TARGET) && !s.firing

/-- Whether a frame start of the master follows. -/
def frameComing (s : State) : Bool :=
  s.isMaster && s.formed &&
  (s.entering || (s.firing && s.fire.running && !s.boot.exiting && (!s.extTrig || s.acq.due.isSome)))

/-- The frame that the master's next marker announces: with frames shorter than 1,500 ns, one after the next (R353).
DEDUCED: log entry 96. -/
def markFrame (s : State) : Nat := if s.entering then s.cord.marked else max s.cord.marked s.fire.nextFrame

/-- The width of the master's next marker (Table 14-1). -/
def markerWidth (s : State) : Nat :=
  let k := s.markFrame
  let epoch := k = 0 ∨ (s.flag F.FIRE_SCHED_PEND = true ∧ s.epochMay k = true)
  if epoch then (if s.acq.forced then 16 else 12) else (if s.acq.forced then 8 else 4)

/-- SYNC_MARKER_SEND: the cord-reset marker where it is owed (R358), else the marker of the next frame start. -/
def markerSend (s : State) : State :=
  if s.isMaster && s.cord.resetOwed && !s.replyOwed then s.cordSend (.marker 24)
  else if s.frameComing then
    let k := s.markFrame + 1
    let s := s.cordSend (.marker s.markerWidth)
    { s with cord := { s.cord with marked := k } }
  else s

/-- A follower whose frames run by markers (R353): a firing mode is entered only in a formed cord. -/
def byMarkers (s : State) : Bool := s.isFollower && s.firing && s.fire.running

/-- The start that a follower's own time gives: its previous frame start plus the frame length in force (R355).
DEDUCED: log entry 96. -/
def ownStart (s : State) : Nat := s.fire.frameC + s.rd F.FIRE_FRAME_ACTIVE_ACTIVE_NS

/-- The frame start, of a follower's own time, that the next marker should name: that of the next frame, or of the one
after where the next one's marker has come already. DEDUCED: log entry 96. -/
def markerDue (s : State) : Nat :=
  match s.acq.due with
  | some d => d + s.rd F.FIRE_FRAME_ACTIVE_ACTIVE_NS
  | none => s.ownStart

/-- A frame start on a follower, with the kind of its marker: the next one, or the one after it (R353). DEDUCED: log
entry 96. -/
def putStart (start : Nat) (epoch forced : Bool) (s : State) : State :=
  if s.acq.due.isSome then { s with cord := { s.cord with later := some (start, epoch, forced) } }
  else { s with
    cord := { s.cord with epochDue := epoch }
    acq := { s.acq with
      due := some start
      forced := forced } }

/-- R355: a marker is missed: the frame starts on the follower's own time; the second in a row loses the master.
DEDUCED: log entry 96. -/
def markerMissed (s : State) : State :=
  let run := s.cord.missRun + 1
  let due := s.markerDue
  let s := (s.bump F.CORD_EPOCH_SYNC_MISS).putStart due false false
  let s := { s with cord := { s.cord with missRun := run } }
  if run < 2 then s else s.cordFault.splitAuthority 6 0

/-- A further marker may come: none has for the next frame, or frames are short enough for the one after it (R353).
DEDUCED: log entry 96. -/
def markerFree (s : State) : Bool :=
  s.acq.due.isNone || (s.cord.later.isNone && decide (s.rd F.FIRE_FRAME_ACTIVE_ACTIVE_NS < 1500))

/-- SYNC_MISS. -/
def syncMiss (s : State) : State :=
  if s.byMarkers && s.markerFree && (s.acq.due.isSome || decide (0 < s.fire.nextFrame)) then s.markerMissed else s

/-- The frame start of a marker whose rising edge comes now, on the nearest start of a coarse period (R353). DEDUCED:
log entry 96. -/
def markerStart (s : State) : Nat := ((1000 * s.now + 1500000 - s.rd F.CORD_SYNC_DLY_DLY_PS) + 500) / 1000

/-- R355: a marker more than 2 ns from its due time. In external mode a marker has no due time, nor has the first one.
DEDUCED: log entry 96. -/
def markerOff (s : State) : Bool :=
  !s.extTrig && (s.acq.due.isSome || (s.firing && decide (0 < s.fire.nextFrame))) &&
  decide (s.markerStart + 2 < s.markerDue ∨ s.markerDue + 2 < s.markerStart)

/-- A marker in time: the frame start that follows, and at an epoch start the entry, join or SWAP that waits (R354).
DEDUCED: log entry 96. -/
def markerTaken (epoch forced : Bool) (s : State) : State :=
  let start := s.markerStart
  let entry := if epoch && s.entering then some (s.rd F.DEV_MODE_TARGET) else s.cord.entryDue
  if s.firing || entry.isSome then
    State.putStart start epoch forced { s with cord := { s.cord with
      missRun := 0
      entryDue := entry } }
  else s

/-- SYNC_MARKER: a follower decodes a marker by its width, in ns. DEDUCED: log entry 96. -/
def syncMarker (width : Nat) (s : State) : State :=
  if s.isFollower && (s.formed || s.firing) && s.cordRuns && s.markerFree then
    match markerKind width with
    | none => s
    | some (epoch, forced) =>
      if s.markerOff then (if s.byMarkers then s.markerMissed else s) else s.markerTaken epoch forced
  else s

/-- CORD_RESET_MARKER: the falling edge of the 24 ns marker resets every member present (R358). DEDUCED: log entry
99. -/
def cordResetMarker (s : State) : State :=
  if s.cordRuns && ((s.isFollower && s.formed) || (s.isMaster && s.cord.resetOwed)) then
    ({ s with
      boot := { s.boot with resetDue := .cord }
      cord := { s.cord with resetOwed := false } }).cordResetTaken
  else s

/-- EPOCH_ANNOUNCE: the number and the event of the next epoch reach a follower (R354). DEDUCED: log entry 96. -/
def epochAnnounce (n ev : Nat) (s : State) : State :=
  if s.isFollower && s.formed && s.cordRuns then
    { s with cord := { s.cord with announced := some (n % 2 ^ 16, ev) } }
  else s

/-- R354: the master announces the epoch that a mode entry (event 0) or a SWAP (event 1) newly owed will start; a SWAP
waits for the second boundary from now, so that a frame lies between. DEDUCED: log entry 96. -/
def announce (s before : State) : State :=
  let n := (s.rd F.CORD_EPOCH_EPOCH + 1) % 2 ^ 16
  if !(s.isMaster && s.formed) then s
  else if s.entering && !before.entering then s.cordSend (.announce n 0)
  else if s.flag F.FIRE_SCHED_PEND && !before.flag F.FIRE_SCHED_PEND then
    let from1 := max (s.fire.nextFrame + 1) s.cord.marked
    ({ s with cord := { s.cord with epochFrom := some from1 } }).cordSend (.announce n 1)
  else s

/-! ### Relayed datagrams (R300, R310, R357) -/

/-- Word 0 of a relayed datagram with RELAYED set (Table 12-2). DEDUCED: log entry 98. -/
def markRelayed (ws : List Nat) : List Nat :=
  match ws with
  | w :: r => setBit w 41 :: r
  | [] => []

/-- A datagram that arrives on CORD1, with no place in a region yet. -/
def relayedDg (n : Nat) (ws octets : List Nat) : Datagram :=
  let b := 8 * ws.length + octets.length
  ⟨n, ws.headD 0 / 2 ^ 56 % 2 ^ 4, ws, octets, b, b, 0, 0, 1, true⟩

/-- The relay region of the port that CORD_RELAY_MAP names for a member. DEDUCED: log entry 98. -/
def relayRegion (s : State) (m : Nat) : Option Nat := s.regionFor 5 (s.relayPort m)

/-- RELAY_DATAGRAM: on the master the datagram enters its relay region as one item, or is discarded there (R302); a
follower passes it through behind its own (R357). DEDUCED: log entry 98. -/
def relayDatagram (ws octets : List Nat) (s : State) : State :=
  if !s.cordRuns then s
  else if s.isMaster then
    match s.relayRegion (ws.headD 0 / 2 ^ 53 % 8) with
    | none => s
    | some n =>
      let d := relayedDg n (markRelayed ws) octets
      if s.hasRoom n d.bytes then
        let s := (s.countN ⟨0x0C, 6⟩ n d.bytes).count ⟨0x0E, 2⟩ 0
        s.updRegion n (fun r => { r with
          closed := r.closed ++ [d]
          fill := r.fill + d.bytes })
      else s.countDrop n 0 0 1 d.bytes
  else if s.isFollower then
    ({ s with cord := { s.cord with through := s.cord.through ++ [relayedDg 16 ws octets] } }).count ⟨0x0E, 2⟩ 0
  else s

/-- The region whose own datagram leaves next on CORD0 (R357). DEDUCED: log entry 98. -/
def relaySource (s : State) : Option Nat :=
  s.enabledRegions.find? (fun n => s.relayedStream (s.rd (F.LAND_REGION_STREAM n)) && !(s.region n).closed.isEmpty)

/-- A datagram has left on CORD0: this member's own first, then one that passes through (R357). DEDUCED: log entry
98. -/
def cordTxEnd (s : State) : State :=
  if !(s.isFollower && s.flag (F.CORD_LINK_LINK 0)) then s
  else
    match s.relaySource with
    | some n =>
      let r := s.region n
      match r.closed with
      | [] => s
      | d :: rest =>
        let s := s.putRegion n { r with
          closed := rest
          fill := r.fill - d.bytes
          seq := (r.seq + 1) % 2 ^ 32 }
        s.cordSend (.relay { d with words := withSeq d r.seq })
    | none =>
      match s.cord.through with
      | [] => s
      | d :: rest => ({ s with cord := { s.cord with through := rest } }).cordSend (.relay d)

/-- R310: UNORDERED ends once the relay regions are empty with the cord link up. DEDUCED: log entry 98. -/
def orderBack (s : State) : State :=
  let l := s.enabledRegions.filter (fun n => s.rd (F.LAND_REGION_STREAM n) == 5)
  if s.flag (F.CORD_LINK_UNORDERED 1) && s.flag (F.CORD_LINK_LINK 1) && l.all (fun n => (s.region n).closed.isEmpty) then
    s.wr (F.CORD_LINK_UNORDERED 1) 0
  else s

/-- FRAME_TX_END: on a network lane (R303), or on CORD0 as port 8. DEDUCED: log entry 98. -/
def txEnd (p : Nat) (s : State) : State := if p < 8 then (s.frameEnd p).orderBack else s.cordTxEnd

/-- CORD_RELAY_TIMEOUT (R310, R357): the partial frame is ended and counted, the grant is dropped, and forwarding goes
on unordered. DEDUCED: log entry 98. -/
def relayTimeout (p : Nat) (s : State) : State :=
  match (s.port p).tx with
  | none => s
  | some t =>
    if t.requester ≠ 5 then s
    else
      let s := ((s.dropDg t.dg).regionFollows t).endGrant p
      let s := s.arbiterEvent 3 p 5 t.dg.items
      (s.bump (F.CORD_LINK_TIMEOUTS 1)).wr (F.CORD_LINK_UNORDERED 1) 1

/-- LINK_CHANGE of a cord lane: a single device's stay down (R345). DEDUCED: log entry 97. -/
def cordLink (n : Nat) (up : Bool) (s : State) : State :=
  (s.wrB (F.CORD_LINK_LINK n) (up && s.flag F.CORD_STRAPS_ROLE && s.cordRuns)).orderBack

/-! ### The cord's status word (R352) -/

/-- The word of this member. -/
def cordWord (s : State) : Nat :=
  let heard := s.isMaster || (match s.cord.lastHb with | some (_, t) => decide (s.now ≤ t + 250000) | none => false)
  s.memberNo * 2 ^ 29 + b2n s.isMaster * 2 ^ 28 + s.rd (F.CORD_LINK_LINK 0) * 2 ^ 27 + s.rd (F.CORD_LINK_LINK 1) * 2 ^ 26 +
    b2n heard * 2 ^ 25 + s.mode

end State
end Sys2Proof.Machine
end

