-- ==== Sys2Proof/Machine/Opcodes.lean ====
section
/-! DEFINITION. The opcodes of Table 13-5: modes and resets, calibration, the store, the reports, time and the cord, and
the table itself. -/

namespace Sys2Proof.Machine

/-- The confirmation word of RESET and CORD_RESET. -/
def resetWordArg : Nat := 0xA5A5

/-- A refusal of an octant command: a group names its first refusing octant (R10, R318). -/
def OpResult.refuseOctant (gs : List Nat) (g st : Nat) (s : State) : OpResult :=
  ⟨st, if 1 < gs.length then [pathOfOctant s.memberNo g] else [], 0, s⟩

namespace State

/-! ### Modes and reset (R333, R334, R344, R350, R445, R450) -/

/-- R382: some octant is too warm for an exit from SAFE. -/
def tooWarm (s : State) : Bool :=
  (List.range 8).any (fun g =>
    decide (16 * ((s.rd F.THERM_LIMITS_THROT_C : Int) - (s.rd F.THERM_STEP_HYST_C : Int)) ≤ s.rdS (F.THERM_OCT_TEMP g)))

/-- R450: what refuses an exit from SAFE. DEDUCED: log entry 122. -/
def exitRefused (s : State) (m : Nat) : Bool :=
  s.rd F.TIME_STATUS_FREQ_STATE == Freq.none || !s.authorityBack || s.tooWarm ||
  (m == Mode.standby && s.flag F.DEV_STATUS_ST_FAIL)

/-- R347, R350: what refuses an entry to SCAN, CALIBRATE or SERVICE in a cord. DEDUCED: log entry 122. -/
def entryRefused (s : State) (m : Nat) (wide : Bool) : Bool :=
  (s.isFollower && !s.formed) || (s.formed && !wide && !(s.cord.modes.all (fun p => p.2 == m)))

/-- MODE_SET. DEDUCED: log entry 122. -/
def opModeSet (q : Req) (s : State) : OpResult :=
  let m := q.arg 0
  let wide := decide (q.version ≠ 1) && decide (q.path / 2 ^ 28 = 15)
  if 7 < m then OpResult.refuse St.badParam 0 s
  else if q.version = 1 ∧ m ≠ Mode.standby ∧ m ≠ Mode.config ∧ m ≠ Mode.scan then OpResult.refuse St.mode 0 s
  else if q.version = 1 ∧ m = Mode.scan ∧ s.flag F.TDC_CTRL_MODE = false then OpResult.refuse St.mode 0 s
  else if s.flag F.DEV_MODE_TRANS then OpResult.refuse St.busy 0 s
  else if !transitionListed s.mode m then OpResult.refuse St.mode 0 s
  else if s.mode = Mode.safe ∧ m ≠ Mode.safe ∧ s.exitRefused m = true then OpResult.refuse St.mode 0 s
  else if firingMode m && (!s.flag F.DEV_STATUS_COMMITTED || s.entryRefused m wide) then OpResult.refuse St.mode 0 s
  else OpResult.ok (s.startTransition m)

/-- MODE_GET. -/
def opModeGet (_ : Req) (s : State) : OpResult :=
  OpResult.reply [s.rd F.DEV_MODE_TRANS * 2 ^ 16 + s.rd F.DEV_MODE_TARGET * 2 ^ 8 + s.mode] s

/-- RESET: the reset is taken once the store is idle, and not before 1 ms has passed (R334). -/
def opReset (q : Req) (s : State) : OpResult :=
  if q.arg 0 ≠ resetWordArg then OpResult.refuse St.badParam 0 s
  else
    let n := s.now
    OpResult.ok { s with boot := { s.boot with
      resetDue := .command
      replyEnd := n } }

/-! ### Calibration (R388, R402) -/

/-- A kind mask and its path: bit 3 only with the whole device (R388). -/
def kindsOk (k : Nat) (p : UPath) : Bool := decide (0 < k) && decide (k < 16) && (!bitOf k 3 || (p.half == 3 && p.octant == 15))

/-- R388: what refuses a run on an octant. DEDUCED: log entry 105. -/
def calRefusal (s : State) (g : Nat) : Option Nat :=
  if !s.calMode then some St.mode
  else if 3 < s.rd F.TIME_STATUS_QUALITY then some St.mode
  else if s.calBusy g then some St.busy
  else if s.mode = Mode.scan ∧ s.flag (F.RX_OCT_XBAR_SUBST_EN g) = true then some St.busy
  else none

/-- CAL_RUN. DEDUCED: log entry 105. -/
def opCalRun (q : Req) (s : State) : OpResult :=
  let k := q.arg 0
  let p := UPath.ofNat q.path
  if !kindsOk k p then OpResult.refuse St.badParam 0 s
  else
    match p.octants.find? (fun g => (s.calRefusal g).isSome) with
    | some g => OpResult.refuseOctant p.octants g ((s.calRefusal g).getD 0) s
    | none =>
      let s := if k % 8 = 0 then s else p.octants.foldl (fun s g => s.addPend g (k % 8)) s
      let s := if bitOf k 3 then (s.wr F.CAL_DEV_PKO_PEND 1).pkoPoll else s
      OpResult.ok s.refreshWait

/-- CAL_STATUS. -/
def opCalStatus (q : Req) (s : State) : OpResult :=
  let s := s.refreshWait
  OpResult.reply ((UPath.ofNat q.path).octants.map (fun g => s.word (A.CAL_OCT_STATUS g))) s

/-- CAL_STARTER. -/
def opCalStarter (q : Req) (s : State) : OpResult :=
  let k := q.arg 0
  let p := UPath.ofNat q.path
  if !kindsOk k p then OpResult.refuse St.badParam 0 s
  else if !(s.quiet || s.mode == Mode.service) then OpResult.refuseOctant p.octants (p.octants.headD 0) St.mode s
  else if s.journalFull then OpResult.refuse St.busy 0 s.queueRefused
  else OpResult.ok (s.calStarter p.octants k)

/-! ### The store (R412, R417, R418, R420) -/

/-- The slot in use; the boot ROM's SAFE has none (R441). -/
def slotInUse (s : State) (k : Nat) : Bool := s.boot.phase != .romSafe && s.rd F.NVS_BOOT_SLOT == k

/-- Image words put into a slot. -/
def putImage (k : Nat) : Nat → List Nat → Sparse Nat → Sparse Nat
  | _, [], m => m
  | w, v :: r, m => putImage k (w + 1) r (Sparse.put m 0 (k * 2 ^ 19 + w) (v % 2 ^ 32))

/-- NVS_IMAGE_WRITE. DEDUCED: log entry 112. -/
def opImageWrite (q : Req) (s : State) : OpResult :=
  let k := q.arg 0
  let off := q.arg 1
  let ws := q.payload.drop 2
  if 1 < k ∨ off % 4 ≠ 0 ∨ 2097152 < off + 4 * ws.length then OpResult.refuse St.badParam 0 s
  else if s.slotInUse k then OpResult.refuse St.access 0 s
  else if !(s.quiet || s.mode == Mode.service || s.boot.phase == .romSafe) then OpResult.refuse St.mode 0 s
  else
    let cancel := match s.nvs.pendingSel with | some x => x.slot == k | none => false
    let s := { s with nvs := { s.nvs with
      slots := putImage k (off / 4) ws s.nvs.slots
      pendingSel := if cancel then none else s.nvs.pendingSel } }
    OpResult.ok (if cancel then s.wr F.NVS_BOOT_NEXT_SLOT (s.rd F.NVS_BOOT_SLOT) else s)

/-- NVS_IMAGE_ACTIVATE. DEDUCED: log entry 112. -/
def opImageActivate (q : Req) (s : State) : OpResult :=
  let k := q.arg 0
  let n := q.arg 1
  let crc := q.arg 2
  if 1 < k ∨ n % 4 ≠ 0 ∨ n = 0 ∨ 2097152 < n then OpResult.refuse St.badParam 0 s
  else if s.slotInUse k then OpResult.refuse St.badParam 0 s
  else if slotCrc s.nvs.slots k n ≠ crc then OpResult.refuse St.badParam 0 s
  else if s.journalFull then OpResult.refuse St.busy 0 s.queueRefused
  else
    let s := { s with nvs := { s.nvs with pendingSel := some ⟨k, n, crc⟩ } }
    OpResult.ok (((s.wr F.NVS_BOOT_NEXT_SLOT k).calendarAdd 2 k).journal [⟨6, 0, [k, n, crc]⟩])

/-- NVS_LIFE_READ. -/
def opLifeRead (q : Req) (s : State) : OpResult :=
  let o := q.arg 0
  let n := q.arg 1
  if n = 0 ∨ 2048 < n ∨ 262144 < o + n then OpResult.refuse St.badParam 0 s
  else OpResult.reply ((List.range n).map (fun i => s.lifeWord (o + i))) s

/-- NVS_COMPACT. -/
def opCompact (_ : Req) (s : State) : OpResult :=
  if s.flag F.NVS_STATUS_COMPACTING then OpResult.refuse St.busy 0 s else OpResult.ok s.startCompaction

/-! ### The cord (R352, R358) -/

/-- CORD_STATUS, as this member answers it for itself. PRESUMED: log entry 94. -/
def opCordStatus (_ : Req) (s : State) : OpResult :=
  if s.flag F.CORD_STRAPS_ROLE then OpResult.reply [s.cordWord] s else OpResult.refuse St.mode 0 s

/-- CORD_RESET: the master owes the marker; a follower of a formed cord only confirms. DEDUCED: log entry 99. -/
def opCordReset (q : Req) (s : State) : OpResult :=
  if q.arg 0 ≠ resetWordArg then OpResult.refuse St.badParam 0 s
  else if s.isMaster then
    let n := s.now
    OpResult.ok { s with
      boot := { s.boot with replyEnd := n }
      cord := { s.cord with resetOwed := true } }
  else if s.isFollower && s.formed then OpResult.ok s
  else OpResult.refuse St.mode 0 s

/-! ### Reports and time (R328, R329, R336, R443) -/

/-- SELFTEST_REPORT. -/
def opSelftestReport (_ : Req) (s : State) : OpResult :=
  OpResult.reply [s.rd F.DEV_ST_RESULT_FAIL * 2 ^ 16 + s.rd F.DEV_ST_RESULT_RUN,
    s.rd F.DEV_ST_DETAIL_FIRST_TEST * 2 ^ 24 + s.rd F.DEV_ST_DETAIL_UNIT,
    s.word A.DEV_RESET_CAUSE, s.boot.stMs % 2 ^ 16] s

/-- A fault-log entry as seven words (Table 13-6). -/
def faultWords (e : FaultEntry) : List Nat :=
  [e.address, e.code * 2 ^ 16 + e.source * 2 ^ 8 + e.core, e.seq, e.opcode * 2 ^ 16 + e.sec / 2 ^ 32 % 2 ^ 16,
    e.sec % 2 ^ 32, e.ns, e.frac * 2 ^ 16]

/-- FAULT_LOG_READ. -/
def opFaultRead (_ : Req) (s : State) : OpResult :=
  OpResult.reply (s.cmd.faults.length :: s.cmd.faults.flatMap faultWords) s

/-- FAULT_LOG_CLEAR. -/
def opFaultClear (_ : Req) (s : State) : OpResult :=
  OpResult.ok (({ s with cmd := { s.cmd with faults := [] } }).wr F.CMD_STATUS_FAULT_ENTRIES 0)

/-- IDENT. DESIGN CHOICE: log entry 113. -/
def opIdent (_ : Req) (s : State) : OpResult :=
  let k := s.rd F.NVS_BOOT_SLOT
  let crc := if s.nvs.sel.slot = k then s.nvs.sel.crc else s.nvs.prevSel.crc
  OpResult.reply [0x2564, Config.siliconStep % 2 ^ 32, Config.imageVersion k crc % 2 ^ 32, k] s

/-- TIME_GET. -/
def opTimeGet (_ : Req) (s : State) : OpResult :=
  OpResult.reply [s.sec / 2 ^ 32 % 2 ^ 16, s.sec % 2 ^ 32, s.nsec, s.frac * 2 ^ 16 + s.rd F.TIME_STATUS_QUALITY] s

/-- TIME_OF_DAY. DEDUCED: log entry 91. -/
def opTimeOfDay (q : Req) (s : State) : OpResult :=
  if s.rd F.TIME_SYNC_CTRL_SYNC_SRC ≠ 2 then OpResult.refuse St.mode 0 s
  else if 2 ^ 16 ≤ q.arg 0 then OpResult.refuse St.badParam 0 s
  else OpResult.ok { s with time := { s.time with todSec := some (q.arg 0 * 2 ^ 32 + q.arg 1) } }

end State

/-! ### Table 13-5 -/

/-- Exactly `n` words of payload, in either version. -/
def words (n : Nat) : Nat → Nat → Bool := fun _ k => k == n

/-- From `a` to `b` words of payload. -/
def wordsIn (a b : Nat) : Nat → Nat → Bool := fun _ k => decide (a ≤ k) && decide (k ≤ b)

/-- A reply of `n` words. -/
def replies (n : Nat) : Req → State → Nat := fun _ _ => n

/-- The path rules "device" and "octant". -/
def onDevice : Req → UPath → State → Bool := fun _ p _ => p.isDevice
def onOctant : Req → UPath → State → Bool := fun _ p _ => p.isOctant

/-- The resources of Table 13-9. -/
def needsOf (op : Nat) : Req → State → List (Nat × Nat) := fun q s => s.stepNeeds op q.path q.payload

/-- Words of a stored recipe. -/
def recipeWords (q : Req) (s : State) : Nat := match s.recipe? (q.arg 0) with | some r => r.words.length | none => 0

/-- A row of Table 13-5 with a device path, no part of the version 0x01 set and not marked SAFE. -/
def plain (op : Nat) (len : Nat → Nat → Bool) (rep : Req → State → Nat) (core : Req → State → OpResult) : OpSpec :=
  { opcode := op
    safe := false
    v1 := false
    lenOk := len
    replyWords := rep
    pathOk := onDevice
    needs := needsOf op
    core := core }

def Op.regRead : OpSpec := { plain 0x0100 (words 2) (fun q _ => q.arg 1) State.opRegRead with v1 := true }
def Op.regWrite : OpSpec :=
  { plain 0x0101 (fun v k => decide (2 ≤ k) && decide (k ≤ if v = 1 then 2 else 2048)) (replies 0) State.opRegWrite with v1 := true }
def Op.regModify : OpSpec := plain 0x0102 (words 3) (replies 1) State.opRegModify
def Op.unitRead : OpSpec :=
  { plain 0x0103 (words 2) (fun q _ => q.arg 1 * unitCount q) State.opUnitRead with pathOk := unitRule }
def Op.unitWrite : OpSpec := { plain 0x0104 (wordsIn 2 65) (replies 0) State.opUnitWrite with pathOk := unitRule }
def Op.tableRead : OpSpec :=
  { plain 0x0200 (words 3) (fun q _ => q.arg 2 * (tabUnits q).length) State.opTableRead with
    v1 := true
    pathOk := tabRule }
def Op.tableWrite : OpSpec :=
  { plain 0x0201 (wordsIn 3 2048) (replies 0) State.opTableWrite with
    v1 := true
    pathOk := tabRule }
def Op.tableSwap : OpSpec := { plain 0x0202 (words 2) (replies 0) State.opTableSwap with v1 := true }
def Op.modeSet : OpSpec :=
  { plain 0x0300 (words 1) (replies 0) State.opModeSet with
    safe := true
    v1 := true }
def Op.modeGet : OpSpec :=
  { plain 0x0301 (words 0) (replies 1) State.opModeGet with
    safe := true
    v1 := true }
def Op.reset : OpSpec := { plain 0x0302 (words 1) (replies 0) State.opReset with safe := true }
def Op.commit : OpSpec := { plain 0x0400 (words 0) (replies 0) State.opCommit with v1 := true }
def Op.calRun : OpSpec := { plain 0x0500 (words 1) (replies 0) State.opCalRun with pathOk := onOctant }
def Op.calStatus : OpSpec :=
  { plain 0x0501 (words 0) (fun q _ => (UPath.ofNat q.path).octants.length) State.opCalStatus with pathOk := onOctant }
def Op.calStarter : OpSpec := { plain 0x0502 (words 1) (replies 0) State.opCalStarter with pathOk := onOctant }
def Op.imageWrite : OpSpec := plain 0x0600 (wordsIn 3 2047) (replies 0) State.opImageWrite
def Op.imageActivate : OpSpec := plain 0x0601 (words 3) (replies 0) State.opImageActivate
def Op.lifeRead : OpSpec := plain 0x0602 (words 2) (fun q _ => q.arg 1) State.opLifeRead
def Op.compact : OpSpec := plain 0x0603 (words 0) (replies 0) State.opCompact
def Op.tallySnapshot : OpSpec := plain 0x0700 (words 0) (replies 0) State.opTallySnapshot
def Op.tallyRead : OpSpec := plain 0x0701 (words 2) (fun q _ => 2 * q.arg 1) State.opTallyRead
def Op.tallyDump : OpSpec := plain 0x0702 (words 0) (replies 0) State.opTallyDump
def Op.cordStatus : OpSpec := plain 0x0800 (words 0) (replies 1) State.opCordStatus
def Op.cordReset : OpSpec := plain 0x0801 (words 1) (replies 0) State.opCordReset
def Op.recipeStore : OpSpec := plain 0x0900 (wordsIn 5 2048) (replies 0) State.opRecipeStore
def Op.recipeRead : OpSpec := plain 0x0901 (words 1) recipeWords State.opRecipeRead
def Op.recipeEnable : OpSpec := plain 0x0902 (words 2) (replies 0) State.opRecipeEnable
def Op.recipeDelete : OpSpec := plain 0x0903 (words 1) (replies 0) State.opRecipeDelete
def Op.recipeRun : OpSpec := plain 0x0904 (words 1) (replies 0) State.opRecipeRun
def Op.selftestReport : OpSpec :=
  { plain 0x0A00 (words 0) (replies 4) State.opSelftestReport with
    safe := true
    v1 := true }
def Op.faultRead : OpSpec :=
  { plain 0x0A01 (words 0) (fun _ s => 1 + 7 * s.cmd.faults.length) State.opFaultRead with safe := true }
def Op.faultClear : OpSpec := { plain 0x0A02 (words 0) (replies 0) State.opFaultClear with safe := true }
def Op.ident : OpSpec :=
  { plain 0x0A03 (words 0) (replies 4) State.opIdent with
    safe := true
    v1 := true }
def Op.timeGet : OpSpec := { plain 0x0B00 (words 0) (replies 4) State.opTimeGet with v1 := true }
def Op.timeOfDay : OpSpec := plain 0x0B01 (words 2) (replies 0) State.opTimeOfDay

/-- Table 13-5. -/
def opTable : List OpSpec := [
  Op.regRead, Op.regWrite, Op.regModify, Op.unitRead, Op.unitWrite, Op.tableRead, Op.tableWrite, Op.tableSwap, Op.modeSet,
  Op.modeGet, Op.reset, Op.commit, Op.calRun, Op.calStatus, Op.calStarter, Op.imageWrite, Op.imageActivate, Op.lifeRead,
  Op.compact, Op.tallySnapshot, Op.tallyRead, Op.tallyDump, Op.cordStatus, Op.cordReset, Op.recipeStore, Op.recipeRead,
  Op.recipeEnable, Op.recipeDelete, Op.recipeRun, Op.selftestReport, Op.faultRead, Op.faultClear, Op.ident, Op.timeGet,
  Op.timeOfDay]

/-- The row of an opcode. -/
def opSpec (op : Nat) : Option OpSpec := opTable.find? (fun x => x.opcode == op)

end Sys2Proof.Machine
end

