-- ==== Sys2Proof/Machine/Requests.lean ====
section
/-! DEFINITION. Requests on their way (chapters 13 and 14): where a request is executed, what a coordinator and a member
do for it, the running recipe, packets that break the form, and the SPI queue. -/

namespace Sys2Proof.Machine

/-- Where a request is carried out (R348, R349, R352). -/
inductive Route where
  | here
  | forward (m : Nat)
  | wide
  /-- CORD_STATUS: every member present is asked for its word. -/
  | status
  deriving DecidableEq, Repr

/-- The opcodes that only read (R349: "a value of a group read"). -/
def readOpcodes : List Nat :=
  [0x0100, 0x0103, 0x0200, 0x0301, 0x0501, 0x0602, 0x0701, 0x0901, 0x0A00, 0x0A01, 0x0A03, 0x0B00]

/-- The first answer in ascending member whose status is not OK. DEDUCED: log entry 84. -/
def firstRefusal (l : List CordAnswer) : Option CordAnswer :=
  (sortBy (fun (a : CordAnswer) => a.member) l).find? (fun a => a.status != St.ok)

/-- Each of the members has answered. DEDUCED: log entry 84. -/
def allAnswered (x : CordTxn) : Bool := x.members.all (fun m => x.answers.any (fun a => a.member == m))

/-- R351: the members' frame lengths, active and shadow, agree. DEDUCED: log entry 95. -/
def lengthsAgree (l : List CordAnswer) : Bool :=
  match l with
  | [] => true
  | a :: r => r.all (fun b => b.payload == a.payload)

/-- The refusal that a check phase meets first. Of a COMMIT, a budget failure stands behind the frame lengths that
differ (Table 13-12). DEDUCED: log entry 95. -/
def checkRefusal (commit : Bool) (l : List CordAnswer) : Option CordAnswer :=
  match firstRefusal (if commit then l.filter (fun a => a.status != St.budget) else l) with
  | some a => some a
  | none => if commit && !lengthsAgree l then none else firstRefusal l

/-- The word of CORD_STATUS for a member that did not answer: member 0 is the master (R352). DEDUCED: log entry 93. -/
def silentWord (m : Nat) : Nat := m * 2 ^ 29 + (if m = 0 then 2 ^ 28 + 2 ^ 25 else 0) + 0xFF

namespace State

/-! ### Recipes run (R340 to R342) -/

/-- The modes in which recipes run. -/
def recipesRun (s : State) : Bool := s.boot.phase == .up && (s.quiet || s.firing)

/-- RECIPE_START: the recipe at the head of the queue is taken. DEDUCED: log entry 88. -/
def recipeStart (s : State) : State :=
  match s.cmd.run, s.cmd.queue with
  | none, n :: rest =>
    if s.recipesRun then
      let s := ({ s with cmd := { s.cmd with queue := rest } }).wr F.CMD_RECIPE_QUEUED rest.length
      match s.recipe? n with
      | none => s
      | some r =>
        let s := { s with cmd := { s.cmd with run := some ⟨n, 0, r.steps, [], .ready⟩ } }
        (((s.wr F.CMD_RECIPE_RUNNING 1).wr F.CMD_RECIPE_NUMBER n).wr F.CMD_RECIPE_STEP 0).recipeEnabledNow n
    else s
  | _, _ => s

/-- The running recipe replaced. -/
def putRecipeRun (r : RecipeRun) (s : State) : State := { s with cmd := { s.cmd with run := some r } }

/-- A step has ended: the next one follows, the recipe has ended, or its failure ends it (R342). -/
def stepDone (status : Nat) (s : State) : State :=
  match s.cmd.run with
  | none => s
  | some r =>
    if status ≠ St.ok then s.recipeFail status
    else if r.steps.length ≤ r.step + 1 then s.recipeGone
    else (s.putRecipeRun { r with step := r.step + 1, wait := .ready }).wr F.CMD_RECIPE_STEP (r.step + 1)

/-- A step whose command has ended is taken up. -/
def recipeResume (s : State) : State :=
  match s.cmd.run with
  | some r => match r.wait with | .ended st => s.stepDone st | _ => s
  | none => s

/-- R341: a resource is held by another user: the NVS port by the writer, a transmit port by a grant, the cord link by
a request under way. DEDUCED: log entry 89. -/
def resourceBusy (s : State) (rank index : Nat) : Bool :=
  match rank with
  | 1 => !s.nvsIdle
  | 3 => s.flag (F.LAND_PORT_STATUS_GRANTED index)
  | 4 => s.cord.txn.isSome
  | _ => false

/-- What refuses an ACQUIRE, a RELEASE or a WAIT before it acts (R317, steps 10, 11 and 13). -/
def ownStepRefusal (s : State) (p : RecipeStep) (ok : Bool) : Option Nat :=
  if p.payload.length ≠ 1 then some St.badLength
  else if !s.pathValid p.path then some St.badPath
  else if !ok then some St.badParam
  else none

/-- ACQUIRE: the resource is taken, or the step waits (R341). DEDUCED: log entry 89. -/
def recipeAcquire (r : RecipeRun) (p : RecipeStep) (s : State) : State :=
  let w := p.payload.headD 0
  match s.ownStepRefusal p (resourceOk w) with
  | some st => s.stepDone st
  | none =>
    let (rank, index) := resourceOf w
    if s.resourceBusy rank index then
      let n := s.now
      match r.wait with
      | .acquire _ _ _ => s
      | _ => s.putRecipeRun { r with wait := .acquire rank index n }
    else (s.putRecipeRun { r with held := r.held ++ [(rank, index)] }).stepDone St.ok

/-- RELEASE. DEDUCED: log entry 87. -/
def recipeRelease (r : RecipeRun) (p : RecipeStep) (s : State) : State :=
  let w := p.payload.headD 0
  match s.ownStepRefusal p (resourceOk w) with
  | some st => s.stepDone st
  | none => (s.putRecipeRun { r with held := r.held.filter (fun h => h != resourceOf w) }).stepDone St.ok

/-- WAIT. DEDUCED: log entry 87. -/
def recipeWait (r : RecipeRun) (p : RecipeStep) (s : State) : State :=
  let us := p.payload.headD 0
  match s.ownStepRefusal p (decide (1 ≤ us) && decide (us ≤ 1000000)) with
  | some st => s.stepDone st
  | none =>
    let n := s.now
    s.putRecipeRun { r with wait := .delay (n + 1000 * us) }

/-- The present step of the running recipe, where it may be executed: it is ready, or it is an ACQUIRE that waits. -/
def presentStep (s : State) : Option (RecipeRun × RecipeStep) :=
  match s.cmd.run with
  | none => none
  | some r =>
    match r.wait, r.steps[r.step]? with
    | .ready, some p => some (r, p)
    | .acquire _ _ _, some p => some (r, p)
    | _, _ => none

/-- RECIPE_STEPS counts a step as its execution begins. DEDUCED: log entry 88. -/
def countStep (r : RecipeRun) (s : State) : State :=
  match r.wait with
  | .ready => s.count ⟨0x0D, 6⟩ 0
  | _ => s

/-- The rows ACQUIRE, RELEASE and WAIT: the present step, where it is of that opcode. -/
def ownStep (op : Nat) (act : RecipeRun → RecipeStep → State → State) (s : State) : State :=
  match s.presentStep with
  | some (r, p) => if p.opcode = op then act r p (s.countStep r) else s
  | none => s

/-- ACQUIRE_TIMEOUT: an ACQUIRE has waited 100 ms. -/
def acquireTimeout (s : State) : State :=
  match s.cmd.run with
  | some r => match r.wait with | .acquire _ _ _ => s.stepDone St.busy | _ => s
  | none => s

/-- WAIT_EXPIRE. -/
def waitExpire (s : State) : State :=
  match s.cmd.run with
  | some r => match r.wait with | .delay _ => s.stepDone St.ok | _ => s
  | none => s

/-! ### The coordinator (R348, R349) -/

/-- Where a request goes. Version 0x01 never addresses members (R343); a path that is not valid, and every packet in
SELFTEST, is answered here. DEDUCED: log entry 93. -/
def route (s : State) (op : Nat) (q : Req) : Route :=
  let m := q.path / 2 ^ 28
  if q.version = 1 ∨ !s.formed ∨ s.testing ∨ !s.pathValid q.path then .here
  else if op = 0x0800 then .status
  else if m = 15 then .wide
  else if m = s.memberNo then .here
  else .forward m

/-- The transaction replaced. -/
def putTxn (x : Option CordTxn) (s : State) : State := { s with cord := { s.cord with txn := x } }

/-- The request as it travels in the cord. -/
def inCord (q : Req) : Req := { q with src := .cordLink }

/-- A transaction's request is answered: by a reply with its fault-log entry, to the recipe's step, or, where the
master asked for the entry of AUTO_MODE, to nobody (R448). DEDUCED: log entry 84. -/
def answerTo (x : CordTxn) (log : Bool) (status address : Nat) (payload : List Nat) (s : State) : State :=
  let s := s.putTxn none
  let q := x.req
  match q.src with
  | .recipe => s.stepEnded status
  | .device => if status = St.ok then { s with boot := { s.boot with autoScan := false } } else s
  | _ =>
    let s := if log then s.logRefusal q x.opcode status address else s
    s.sendReply q.src (replyTo q x.opcode status payload)

/-- This device's part of the apply phase. -/
def ownApply (sp : OpSpec) (q : Req) (s : State) : State := s.finish { q with src := .device } sp.opcode (s.runHere sp q)

/-- The check phase has all its answers: apply, or abort with the first refusal (R10, R318, R349, R351). DEDUCED: log
entries 93 and 95; PRESUMED: log entry 94. -/
def checkResolved (x : CordTxn) (s : State) : State :=
  let stop := fun (st a : Nat) (ws : List Nat) =>
    ((s.cordSend .abort).count ⟨0x0E, 1⟩ 0).answerTo x true st a ws
  let commit := decide (x.opcode = 0x0400)
  match checkRefusal commit x.answers with
  | some a =>
    let ws := if a.payload.isEmpty ∨ commit then [a.member * 2 ^ 28 + x.req.path % 2 ^ 28] else a.payload
    stop a.status a.address ws
  | none =>
    if commit && !lengthsAgree x.answers then stop St.badParam A.FIRE_FRAME_ACTIVE []
    else
      match opSpec x.opcode with
      | none => stop St.badOpcode 0 []
      | some sp =>
        let s := s.cordSend (.apply x.opcode (inCord x.req))
        let s := s.putTxn (some { x with
          phase := .apply
          answers := [] })
        s.ownApply sp x.req

/-- The values and confirmations of the apply phase in ascending member (R11). DEDUCED: log entry 93. -/
def applyResolved (x : CordTxn) (s : State) : State :=
  match firstRefusal x.answers with
  | some a => s.answerTo x true a.status a.address a.payload
  | none => s.answerTo x true St.ok 0 ((sortBy (fun (a : CordAnswer) => a.member) x.answers).flatMap (fun a => a.payload))

/-- CORD_STATUS: a word per member present, in ascending order; the missing ones are shown as silent (R352). PRESUMED:
log entry 94. -/
def statusResolved (x : CordTxn) (s : State) : State :=
  s.answerTo x true St.ok 0 (x.members.map (fun m =>
    match x.answers.find? (fun a => a.member == m) with
    | some a => a.payload.headD (silentWord m)
    | none => silentWord m))

/-- The transaction goes on as far as its answers allow, one phase at a time. -/
def resolveOne (s : State) : State :=
  match s.cord.txn with
  | none => s
  | some x =>
    if !allAnswered x then s
    else
      match x.phase with
      | .forward _ => match x.answers with | a :: _ => s.answerTo x false a.status 0 a.payload | [] => s
      | .check => s.checkResolved x
      | .apply => s.applyResolved x
      | .status => s.statusResolved x

/-- Both phases, where one answer completes them, and then the recipe that waited. -/
def resolve (s : State) : State := s.resolveOne.resolveOne.recipeResume

/-- A transaction begins, while none is under way. DEDUCED: log entry 93. -/
def beginTxn (x : CordTxn) (m : CordMsg) (s : State) : State := ((s.cordSend m).putTxn (some x)).resolve

/-- This member's answer to a check: its status, with no effect but what its budget check shows (R311, R357). A COMMIT
that meets checks 1 to 5 brings the frame lengths (R351). DEDUCED: log entries 93 and 95. -/
def checkAnswer (s : State) (sp : OpSpec) (q : Req) : State × CordAnswer :=
  let r := s.runHere sp q
  let ws := if sp.opcode = 0x0400 ∧ (r.status = St.ok ∨ r.status = St.budget)
    then [s.rd F.FIRE_FRAME_ACTIVE_ACTIVE_NS, s.rd F.FIRE_FRAME_SHADOW_NS]
    else if r.status = St.ok then [] else r.payload
  ({ s.takeBudget r.state with free := s.free }, ⟨s.memberNo, r.status, ws, r.address⟩)

/-- A request is carried out where its path says. One transaction at a time: a second is answered BUSY. DEDUCED: log
entry 93. -/
def carryOut (sp : OpSpec) (q : Req) (s : State) : State :=
  let txn := fun (p : CordPhase) (ms : List Nat) (l : List CordAnswer) => (⟨q, sp.opcode, p, ms, l⟩ : CordTxn)
  let all := bitList (s.rd F.CORD_STATUS_PRESENT) 8
  let busy := s.finish q sp.opcode (OpResult.refuse St.busy 0 s)
  match s.route sp.opcode q with
  | .here => (s.finish q sp.opcode (s.runHere sp q)).announce s
  | .forward m =>
    if s.cord.txn.isSome then busy
    else s.beginTxn (txn (.forward m) [m] []) (.forward m sp.opcode (inCord q))
  | .wide =>
    if s.cord.txn.isSome then busy
    else
      let (z, a) := s.checkAnswer sp q
      (z.beginTxn (txn .check all [a]) (.check sp.opcode (inCord q))).announce s
  | .status =>
    match s.checks8to12 sp q with
    | some (st, a) => s.finish q sp.opcode (OpResult.refuse st a s)
    | none =>
      if s.cord.txn.isSome then busy
      else s.beginTxn (txn .status all [⟨s.memberNo, St.ok, [s.cordWord], 0⟩]) (.check sp.opcode (inCord q))

/-- An opcode that is not defined: steps 8 and 9 of Table 13-3. -/
def unknownOp (op : Nat) (q : Req) (s : State) : State :=
  if s.testing then s.finish q op (OpResult.refuse St.busy 0 s)
  else if s.mode = Mode.safe then s.finish q op (OpResult.refuse St.safe 0 s)
  else s.finish q op (OpResult.refuse St.badOpcode (q.version * 2 ^ 24 + op) s)

/-- A request that finds its core's input queue full: step 12 of Table 13-3 refuses it unless an earlier step does. -/
def queueFull (op : Nat) (q : Req) (s : State) : State :=
  match opSpec op with
  | none => s.unknownOp op q
  | some sp =>
    let (st, a) := (s.checks8to12 sp q).getD (St.busy, 0)
    s.finish q op (OpResult.refuse st a s)

/-- A Doley packet whose form is right arrives: it is executed, or waits in its core's input queue (R288, R317, R320).
DESIGN CHOICE: log entry 77. -/
def receiveWith (opcode : Nat) (q : Req) (run : State → State) (s : State) : State :=
  if !s.receives q.src then s
  else if !s.addressed q.src then
    match q.src with
    | .lane l ep => s.rxDiscard l.val (requestFrameBytes ep (24 + q.length))
    | _ => s
  else
    let s := s.countPacket q
    let c := q.src.core
    if s.coreBusy c then
      if (s.inQueue c).length < 8 then s.putQueue c (s.inQueue c ++ [⟨opcode, q⟩])
      else s.accept opcode q (fun s => s.queueFull opcode q)
    else s.accept opcode q run

/-- A Doley request of a host: steps 4 to 7 of Table 13-3, then its execution. DESIGN CHOICE: log entry 77. -/
def request (sp : OpSpec) (q : Req) (s : State) : State :=
  s.receiveWith sp.opcode q (fun s => (s.carryOut sp q).recipeResume)

/-- A packet that waited is executed. -/
def execQueued (x : QueuedReq) (s : State) : State :=
  s.accept x.opcode x.req (fun s =>
    match opSpec x.opcode with
    | some sp => (s.carryOut sp x.req).recipeResume
    | none => s.unknownOp x.opcode x.req)

/-- Packets of a core's input queue are executed, oldest first, until one makes the core wait again: up to `k`. -/
def drainCore (core : Nat) : Nat → State → State
  | 0, s => s
  | k + 1, s =>
    if s.coreBusy core then s
    else match s.inQueue core with
      | [] => s
      | x :: rest => drainCore core k ((s.putQueue core rest).execQueued x)

/-- Both cores go on with their input queues. -/
def drain (s : State) : State := drainCore 1 8 (drainCore 0 8 s)

/-- RECIPE_STEP: the present step is executed as a request with SOURCE recipe (R340). -/
def recipeStep (s : State) : State :=
  match s.presentStep with
  | none => s
  | some (r, p) =>
    let s := s.countStep r
    if p.opcode = Op.acquire then s.recipeAcquire r p
    else if p.opcode = Op.release then s.recipeRelease r p
    else if p.opcode = Op.wait then s.recipeWait r p
    else
      let q : Req := ⟨.recipe, 2, 0, 0, 0, p.path, p.payload⟩
      match opSpec p.opcode with
      | none => s.stepDone St.badOpcode
      | some sp => (((s.putRecipeRun { r with wait := .reply }).carryOut sp q).recipeResume).drain

/-- CORD_MEMBER_ANSWER: an answer from a member that has not yet answered. DEDUCED: log entry 93. -/
def memberAnswer (a : CordAnswer) (s : State) : State :=
  match s.cord.txn with
  | none => s
  | some x =>
    if x.members.contains a.member && !x.answers.any (fun b => b.member == a.member) then
      (((s.putTxn (some { x with answers := x.answers ++ [a] })).resolve).announce s).drain
    else s

/-- CORD_TIMEOUT (R348, R349, R352). DEDUCED: log entry 93. -/
def cordTimeout (s : State) : State :=
  match s.cord.txn with
  | none => s
  | some x =>
    let s := { s with nvs := { s.nvs with await := s.nvs.await.filter (fun a => a.2.1 != Source.device) } }
    let mask := x.answers.foldl (fun w a => setBit w a.member) 0
    let s := match x.phase with
      | .forward _ => s.answerTo x true St.cordTimeout 0 []
      | .check => ((s.cordSend .abort).count ⟨0x0E, 1⟩ 0).answerTo x true St.cordTimeout 0 []
      | .apply => s.answerTo x true St.cordTimeout 0 (if readOpcodes.contains x.opcode then [] else [mask])
      | .status => s.statusResolved x
    s.recipeResume.drain

/-! ### The member (R348, R349) -/

/-- A member of a formed cord that can take the cord's messages. -/
def inFormed (s : State) : Bool := s.formed && s.cordRuns

/-- CORD_REQUEST: a forwarded request is executed and its reply goes back; CORD_STATUS asks for this member's word.
DEDUCED: log entry 93. -/
def cordRequest (op : Nat) (q : Req) (s : State) : State :=
  if !s.inFormed then s
  else
    let q := inCord q
    match opSpec op with
    | none => s.finish q op (OpResult.refuse St.badOpcode (q.version * 2 ^ 24 + op) s)
    | some sp => (s.finish q op (s.runHere sp q)).announce s

/-- CORD_CHECK: the checks from step 8 on, without effect. A query for CORD_STATUS is answered with the word. DEDUCED:
log entry 93. -/
def cordCheck (op : Nat) (q : Req) (s : State) : State :=
  if !s.inFormed then s
  else if op = 0x0800 then s.cordSend (.answer ⟨s.memberNo, St.ok, [s.cordWord], 0⟩)
  else
    let q := inCord q
    match opSpec op with
    | none => s.cordSend (.answer ⟨s.memberNo, St.badOpcode, [], q.version * 2 ^ 24 + op⟩)
    | some sp =>
      let (z, a) := s.checkAnswer sp q
      ({ z with cord := { z.cord with checked := some (op, q) } }).cordSend (.answer a)

/-- The checked request is gone. -/
def cordForget (s : State) : State := { s with cord := { s.cord with checked := none } }

/-- CORD_APPLY: the checked request is executed and confirmed. DEDUCED: log entry 93. -/
def cordApply (s : State) : State :=
  match s.cord.checked with
  | none => s
  | some (op, q) =>
    let s := s.cordForget
    match opSpec op with
    | none => s
    | some sp => (s.finish q op (s.runHere sp q)).announce s

/-- R448: the master makes a cord-wide entry to SCAN once every member present waits for it. DEDUCED: log entry 97. -/
def autoEntry (ms : List RollEntry) (s : State) : State :=
  if s.allWait ms && s.cord.txn.isNone then
    (s.carryOut Op.modeSet ⟨.device, 2, 0, 0, 0, devicePath 15, [Mode.scan]⟩).drain
  else s

/-! ### The journal writer's end of an entry (R409, R415, R416) -/

/-- Replies, transactions, recipes and packets that waited for a group go on. -/
def settleAll (s : State) : State := s.settle.resolve.drain

/-- JOURNAL_WRITE_DONE. -/
def writeDone (ok : Bool) (s : State) : State :=
  let s := (s.entryDone ok).settleAll
  let s := if s.nvs.safeWait then ({ s with nvs := { s.nvs with safeWait := false } }).safeEnter 3 else s
  s.cordResetTaken

/-! ### Packets that break the form, and the serial transports (R317, R322, R323) -/

/-- A reply of steps 2 and 3: the header as received, with LENGTH 0; it is never kept (R319). -/
def echoReply (src : Source) (r : Reply) (address : Nat) (s : State) : State :=
  ((s.logEntry address r.status src.code src.core r.seq r.opcode).count ⟨0x0D, 1⟩ src.core).deliver src r

/-- A packet's bytes as received, without SLIP's framing on the UART, through every step of Table 13-3. DEDUCED: log
entry 82. -/
def packetBytes (src : Source) (bs : List Nat) (s : State) : State :=
  let f := fun (i n : Nat) => beNat ((bs.drop i).take n)
  let len := f 12 2
  let q : Req := ⟨src, f 0 1, f 1 1, f 14 2, f 4 4, f 8 4, bytesWords ((bs.drop 20).take (bs.length - 24))⟩
  let op := f 2 2
  let head := fun (st : Nat) => (⟨q.version, q.flags ||| 1, op, q.seq, q.path, st, f 16 4, []⟩ : Reply)
  let crc := f (bs.length - 4) 4
  let c := s.countBytes src bs.length
  if bs.length < 24 then c.count ⟨0x0D, 2⟩ src.core
  else if len % 4 ≠ 0 ∨ 8192 < len ∨ len ≠ bs.length - 24 then c.echoReply src (head St.badLength) len
  else if crc32c (bs.take (bs.length - 4)) ≠ crc then c.echoReply src (head St.crc) crc
  else
    match opSpec op with
    | some sp => s.request sp q
    | none => s.receiveWith op q (fun s => s.unknownOp op q)

/-- MALFORMED_PACKET: a packet's bytes as received by a transport. DEDUCED: log entry 82. -/
def malformed (src : Source) (bs : List Nat) (s : State) : State :=
  if !(s.receives src && src.isHost) then s
  else if !s.addressed src then
    match src with
    | .lane l ep => s.rxDiscard l.val (requestFrameBytes ep bs.length)
    | _ => s
  else s.packetBytes src bs

/-- HSPI_IRQ_N: low while at least one reply is queued (R322). -/
def hspiIrqN (s : State) : Bool := s.cmd.spiQ.isEmpty

/-- HSPI_READ (R322): a transaction with a command byte; 0xA5 reads, and `clocked` bytes of the oldest queued reply are
clocked after its length. It leaves once that is all of it. -/
def spiRead (command clocked : Nat) (s : State) : State :=
  if command ≠ 0xA5 then s
  else
    match s.cmd.spiQ with
    | [] => { s with cmd := { s.cmd with miso := octets 2 0 } }
    | r :: rest =>
      let bs := replyOctets r
      let s := { s with cmd := { s.cmd with miso := octets 2 bs.length ++ bs.take clocked } }
      if bs.length ≤ clocked then
        let s := { s with cmd := { s.cmd with spiQ := rest } }
        if toReset r && s.boot.resetReply then s.replyGone else s
      else s

/-- UART_FRAME_ERROR and UART_GAP_TIMEOUT: the frame is discarded and counted. -/
def uartError (s : State) : State := if s.receives .uart then s.count ⟨0x0D, 5⟩ 1 else s

end State
end Sys2Proof.Machine
end

