-- ==== Sys2Proof/Machine/Run.lean ====
section
/-! DEFINITION. How a command runs: it arrives at its coarse count, device time has passed since the one before it,
and then it has its effect. No effect touches the queue or the clock. The four wrappers are irreducible, so that a
proof meets them by the lemmas of `Laws/Run.lean`. -/

namespace Sys2Proof

/-- The REG_WRITE packet of one pair: the data word with the row's action bit set (R330). DESIGN CHOICE: log entry
83. -/
def RegReq.write (x : RegReq) (address bit : Nat) : Req :=
  ⟨x.src, 2, 0, 0, x.seq, x.path, [address, x.word ||| bit]⟩

/-- The REG_WRITE packet of two consecutive words. DESIGN CHOICE: log entry 83. -/
def RegReq.writeTwo (x : RegReq) (address second : Nat) : Req :=
  ⟨x.src, 2, 0, 0, x.seq, x.path, [address, x.word, second]⟩

/-- The REG_READ packet of one word (R330). DESIGN CHOICE: log entry 83. -/
def RegReq.read (x : RegReq) (address : Nat) : Req := ⟨x.src, 2, 0, 0, x.seq, x.path, [address, 1]⟩

namespace Machine

/-- What a command answers. -/
abbrev Res := Host.Outcome State Fault Refusal

/-- A command with the effect `f` arrives at coarse count `t`. -/
@[irreducible] def run (t : Nat) (f : State → State) (s : State) : Res :=
  .next { f (s.arrive t) with
          pending := s.pending
          now := max s.now t }

/-- A command that has no effect while the internal reset is held (R436). DEDUCED: log entry 78. -/
@[irreducible] def live (t : Nat) (f : State → State) (s : State) : Res :=
  run t (fun s => if s.boot.phase = BootPhase.held then s else f s) s

/-- A command of a block that stops in PARK (R452). DEDUCED: log entry 78. -/
@[irreducible] def awake (t : Nat) (f : State → State) (s : State) : Res :=
  live t (fun s => if s.mode = Mode.park then s else f s) s

/-- `awake` for a command that acts before the fire edges of its own instant (R120, R218, R481); those follow it. DEDUCED:
log entry 39. -/
@[irreducible] def awakeFirst (t : Nat) (f : State → State) (s : State) : Res :=
  let a := s.arriveFirst t
  let b := if a.boot.phase = BootPhase.held ∨ a.mode = Mode.park then a else f a
  .next { b.launchDue t with
          pending := s.pending
          now := max s.now t }

end Machine

end Sys2Proof
end

