-- ==== Sys2Proof/Machine/Cascade.lean ====
section
/-! DEFINITION. Meanings of the commands of cords (chapter 14). -/

namespace Sys2Proof.Machine

/-- ROLL_CALL: the master sends a roll call (R347). -/
def execRollCall (t : Nat) (s : State) : Res :=
  awake t (fun s => s.rollCall) s

/-- ROLL_CALL_RX: a roll call on CORD0 with the numbers before this member's (R347). -/
def execRollCallRx (t : Nat) (ms : List Nat) (s : State) : Res :=
  awake t (fun s => s.rollCallRx ms) s

/-- ROLL_CALL_RETURN: the returned roll call: the master's mode, the numbers, modes and COMMITTED of the followers, and
the master's seeds (R347, R350, R356, R448). -/
def execRollCallReturn (t : Nat) (x : RollReturn) (seeds : List Nat) (s : State) : Res :=
  awake t (fun s => (s.rollCallReturn x.lead x.members seeds).autoEntry x.members) s

/-- CORD_REQUEST: a request forwarded by a coordinator (R348). -/
def execCordRequest (t op : Nat) (q : Req) (s : State) : Res :=
  awake t (fun s => s.cordRequest op q) s

/-- CORD_TIMEOUT: an answer has not come within LINK_TIMEOUT_US (R348, R349). -/
def execCordTimeout (t : Nat) (s : State) : Res :=
  awake t (fun s => s.cordTimeout) s

/-- CORD_CHECK: the check phase reaches a member (R349). -/
def execCordCheck (t op : Nat) (q : Req) (s : State) : Res :=
  awake t (fun s => s.cordCheck op q) s

/-- CORD_APPLY: the apply phase reaches a member (R349). -/
def execCordApply (t : Nat) (s : State) : Res :=
  awake t (fun s => s.cordApply) s

/-- CORD_ABORT: a checked request is aborted (R349). -/
def execCordAbort (t : Nat) (s : State) : Res :=
  awake t (fun s => s.cordForget) s

/-- CORD_APPLY_TIMEOUT: neither apply nor abort has come (R349). -/
def execCordApplyTimeout (t : Nat) (s : State) : Res :=
  awake t (fun s => s.cordForget) s

/-- SYNC_MARKER_SEND: 1,500 ns before a frame start of the master (R353). -/
def execSyncMarkerSend (t : Nat) (s : State) : Res :=
  awake t (fun s => s.markerSend) s

/-- SYNC_MARKER: a marker of `width` ns reaches a follower (R353). -/
def execSyncMarker (t width : Nat) (s : State) : Res :=
  awake t (fun s => s.syncMarker width) s

/-- SYNC_MISS: a due marker is missing (R355). -/
def execSyncMiss (t : Nat) (s : State) : Res :=
  awake t (fun s => s.syncMiss) s

/-- CORD_RESET_MARKER: the falling edge of the cord-reset marker (R358). -/
def execCordResetMarker (t : Nat) (s : State) : Res :=
  awake t (fun s => s.cordResetMarker) s

/-- EPOCH_ANNOUNCE: the announcement of an epoch (R354). -/
def execEpochAnnounce (t epoch event : Nat) (s : State) : Res :=
  awake t (fun s => s.epochAnnounce epoch event) s

/-- CORD_HEARTBEAT_SEND: the master's heartbeat falls due (R360). -/
def execCordHeartbeatSend (t : Nat) (s : State) : Res :=
  awake t (fun s => s.cordHbSend) s

/-- CORD_HEARTBEAT: a cord heartbeat arrives (R360, R361). -/
def execCordHeartbeat (t mac member epoch : Nat) (s : State) : Res :=
  awake t (fun s => s.cordHeartbeat mac member epoch) s

/-- CORD_HEARTBEAT_TIMEOUT: no cord heartbeat for 250 µs (R361). -/
def execCordHeartbeatTimeout (t : Nat) (s : State) : Res :=
  awake t (fun s => s.cordHbTimeout) s

/-- HALF_HEARTBEAT_SEND: the checker of a half sends its claim (R359). -/
def execHalfHeartbeatSend (t : Nat) (h : Half) (s : State) : Res :=
  awake t (fun s => s.halfSend h) s

/-- HALF_HEARTBEAT: the checker of half `h` receives the other half's claim (R359). -/
def execHalfHeartbeat (t : Nat) (h : Half) (claim : Fin 2) (s : State) : Res :=
  awake t (fun s => s.halfHeartbeat h claim) s

/-- HALF_HEARTBEAT_TIMEOUT: the checker of half `h` has heard nothing for 250 µs (R359). -/
def execHalfHeartbeatTimeout (t : Nat) (h : Half) (s : State) : Res :=
  awake t (fun s => s.halfTimeout h) s

/-- CORD_MEMBER_ANSWER: an answer reaches the coordinator (R348, R349). -/
def execCordMemberAnswer (t member status : Nat) (payload : List Nat) (address : Nat) (s : State) : Res :=
  awake t (fun s => s.memberAnswer ⟨member, status, payload, address⟩) s

end Sys2Proof.Machine
end

