-- ==== Sys2Proof/Machine/Commands.lean ====
section
/-! DEFINITION. Meanings of the commands of Table 13-5, recipe steps and the serial transports (chapter 13). -/

namespace Sys2Proof.Machine

/-- REG_READ: REG_READ (R330), received as the packet `q`. -/
def execRegRead (t : Nat) (q : Req) (s : State) : Res :=
  run t (fun s => s.request Op.regRead q) s

/-- REG_WRITE: REG_WRITE (R330), received as the packet `q`. -/
def execRegWrite (t : Nat) (q : Req) (s : State) : Res :=
  run t (fun s => s.request Op.regWrite q) s

/-- REG_MODIFY: REG_MODIFY (R330), received as the packet `q`. -/
def execRegModify (t : Nat) (q : Req) (s : State) : Res :=
  run t (fun s => s.request Op.regModify q) s

/-- UNIT_READ: UNIT_READ (R331), received as the packet `q`. -/
def execUnitRead (t : Nat) (q : Req) (s : State) : Res :=
  run t (fun s => s.request Op.unitRead q) s

/-- UNIT_WRITE: UNIT_WRITE (R331), received as the packet `q`. -/
def execUnitWrite (t : Nat) (q : Req) (s : State) : Res :=
  run t (fun s => s.request Op.unitWrite q) s

/-- TABLE_READ: TABLE_READ (R332, R463), received as the packet `q`. -/
def execTableRead (t : Nat) (q : Req) (s : State) : Res :=
  run t (fun s => s.request Op.tableRead q) s

/-- TABLE_WRITE: TABLE_WRITE (R332), received as the packet `q`. -/
def execTableWrite (t : Nat) (q : Req) (s : State) : Res :=
  run t (fun s => s.request Op.tableWrite q) s

/-- TABLE_SWAP: TABLE_SWAP (R332), received as the packet `q`. -/
def execTableSwap (t : Nat) (q : Req) (s : State) : Res :=
  run t (fun s => s.request Op.tableSwap q) s

/-- MODE_SET: MODE_SET (R333, R344, R350, R446, R450), received as the packet `q`. -/
def execModeSet (t : Nat) (q : Req) (s : State) : Res :=
  run t (fun s => s.request Op.modeSet q) s

/-- MODE_GET: MODE_GET (R329), received as the packet `q`. -/
def execModeGet (t : Nat) (q : Req) (s : State) : Res :=
  run t (fun s => s.request Op.modeGet q) s

/-- RESET: RESET (R334), received as the packet `q`. -/
def execReset (t : Nat) (q : Req) (s : State) : Res :=
  run t (fun s => s.request Op.reset q) s

/-- COMMIT: COMMIT (R335), received as the packet `q`. -/
def execCommit (t : Nat) (q : Req) (s : State) : Res :=
  run t (fun s => s.request Op.commit q) s

/-- CAL_RUN: CAL_RUN (R388), received as the packet `q`. -/
def execCalRun (t : Nat) (q : Req) (s : State) : Res :=
  run t (fun s => s.request Op.calRun q) s

/-- CAL_STATUS: CAL_STATUS (Table 13-5), received as the packet `q`. -/
def execCalStatus (t : Nat) (q : Req) (s : State) : Res :=
  run t (fun s => s.request Op.calStatus q) s

/-- CAL_STARTER: CAL_STARTER (R402), received as the packet `q`. -/
def execCalStarter (t : Nat) (q : Req) (s : State) : Res :=
  run t (fun s => s.request Op.calStarter q) s

/-- NVS_IMAGE_WRITE: NVS_IMAGE_WRITE (R417), received as the packet `q`. -/
def execNvsImageWrite (t : Nat) (q : Req) (s : State) : Res :=
  run t (fun s => s.request Op.imageWrite q) s

/-- NVS_IMAGE_ACTIVATE: NVS_IMAGE_ACTIVATE (R418), received as the packet `q`. -/
def execNvsImageActivate (t : Nat) (q : Req) (s : State) : Res :=
  run t (fun s => s.request Op.imageActivate q) s

/-- NVS_LIFE_READ: NVS_LIFE_READ (R420), received as the packet `q`. -/
def execNvsLifeRead (t : Nat) (q : Req) (s : State) : Res :=
  run t (fun s => s.request Op.lifeRead q) s

/-- NVS_COMPACT: NVS_COMPACT (R412), received as the packet `q`. -/
def execNvsCompact (t : Nat) (q : Req) (s : State) : Res :=
  run t (fun s => s.request Op.compact q) s

/-- TALLY_SNAPSHOT: TALLY_SNAPSHOT (R430), received as the packet `q`. -/
def execTallySnapshot (t : Nat) (q : Req) (s : State) : Res :=
  run t (fun s => s.request Op.tallySnapshot q) s

/-- TALLY_READ: TALLY_READ (R429), received as the packet `q`. -/
def execTallyRead (t : Nat) (q : Req) (s : State) : Res :=
  run t (fun s => s.request Op.tallyRead q) s

/-- TALLY_DUMP: TALLY_DUMP (R431), received as the packet `q`. -/
def execTallyDump (t : Nat) (q : Req) (s : State) : Res :=
  run t (fun s => s.request Op.tallyDump q) s

/-- CORD_STATUS: CORD_STATUS (R352), received as the packet `q`. -/
def execCordStatus (t : Nat) (q : Req) (s : State) : Res :=
  run t (fun s => s.request Op.cordStatus q) s

/-- CORD_RESET: CORD_RESET (R358), received as the packet `q`. -/
def execCordReset (t : Nat) (q : Req) (s : State) : Res :=
  run t (fun s => s.request Op.cordReset q) s

/-- RECIPE_STORE: RECIPE_STORE (R337), received as the packet `q`. -/
def execRecipeStore (t : Nat) (q : Req) (s : State) : Res :=
  run t (fun s => s.request Op.recipeStore q) s

/-- RECIPE_READ: RECIPE_READ (Table 13-5), received as the packet `q`. -/
def execRecipeRead (t : Nat) (q : Req) (s : State) : Res :=
  run t (fun s => s.request Op.recipeRead q) s

/-- RECIPE_ENABLE: RECIPE_ENABLE (R338), received as the packet `q`. -/
def execRecipeEnable (t : Nat) (q : Req) (s : State) : Res :=
  run t (fun s => s.request Op.recipeEnable q) s

/-- RECIPE_DELETE: RECIPE_DELETE (R337), received as the packet `q`. -/
def execRecipeDelete (t : Nat) (q : Req) (s : State) : Res :=
  run t (fun s => s.request Op.recipeDelete q) s

/-- RECIPE_RUN: RECIPE_RUN (R338, R340), received as the packet `q`. -/
def execRecipeRun (t : Nat) (q : Req) (s : State) : Res :=
  run t (fun s => s.request Op.recipeRun q) s

/-- SELFTEST_REPORT: SELFTEST_REPORT (R443), received as the packet `q`. -/
def execSelftestReport (t : Nat) (q : Req) (s : State) : Res :=
  run t (fun s => s.request Op.selftestReport q) s

/-- FAULT_LOG_READ: FAULT_LOG_READ (R328), received as the packet `q`. -/
def execFaultLogRead (t : Nat) (q : Req) (s : State) : Res :=
  run t (fun s => s.request Op.faultRead q) s

/-- FAULT_LOG_CLEAR: FAULT_LOG_CLEAR (R328), received as the packet `q`. -/
def execFaultLogClear (t : Nat) (q : Req) (s : State) : Res :=
  run t (fun s => s.request Op.faultClear q) s

/-- IDENT: IDENT (Table 13-5), received as the packet `q`. -/
def execIdent (t : Nat) (q : Req) (s : State) : Res :=
  run t (fun s => s.request Op.ident q) s

/-- TIME_GET: TIME_GET (R336), received as the packet `q`. -/
def execTimeGet (t : Nat) (q : Req) (s : State) : Res :=
  run t (fun s => s.request Op.timeGet q) s

/-- TIME_OF_DAY: TIME_OF_DAY (R336), received as the packet `q`. -/
def execTimeOfDay (t : Nat) (q : Req) (s : State) : Res :=
  run t (fun s => s.request Op.timeOfDay q) s

/-- ACQUIRE: ACQUIRE as the present step of the running recipe (R341). -/
def execAcquire (t : Nat) (s : State) : Res :=
  awake t (fun s => s.ownStep Op.acquire State.recipeAcquire) s

/-- ACQUIRE_TIMEOUT: an ACQUIRE has waited 100 ms (R341). -/
def execAcquireTimeout (t : Nat) (s : State) : Res :=
  awake t (fun s => s.acquireTimeout) s

/-- RELEASE: RELEASE as the present step (R337). -/
def execRelease (t : Nat) (s : State) : Res :=
  awake t (fun s => s.ownStep Op.release State.recipeRelease) s

/-- WAIT: WAIT as the present step (R337). -/
def execWait (t : Nat) (s : State) : Res :=
  awake t (fun s => s.ownStep Op.wait State.recipeWait) s

/-- WAIT_EXPIRE: the delay of a WAIT step has elapsed (R337). -/
def execWaitExpire (t : Nat) (s : State) : Res :=
  awake t (fun s => s.waitExpire) s

/-- RECIPE_START: the recipe at the head of the queue is taken (R340). -/
def execRecipeStart (t : Nat) (s : State) : Res :=
  awake t (fun s => s.recipeStart) s

/-- RECIPE_STEP: the present step of the running recipe is executed (R340). -/
def execRecipeStep (t : Nat) (s : State) : Res :=
  awake t (fun s => s.recipeStep) s

/-- HSPI_READ: an SPI transaction that is not a write (R322). -/
def execHspiRead (t : Nat) (x : SpiTurn) (s : State) : Res :=
  live t (fun s => s.spiRead x.command x.clocked) s

/-- UART_FRAME_ERROR: a UART frame with an error (R323). -/
def execUartFrameError (t : Nat) (s : State) : Res :=
  live t (fun s => s.uartError) s

/-- UART_GAP_TIMEOUT: a gap of more than 10 ms in a UART frame (R323). -/
def execUartGapTimeout (t : Nat) (s : State) : Res :=
  live t (fun s => s.uartError) s

/-- MALFORMED_PACKET: a packet's bytes as received (R314 to R319). -/
def execMalformedPacket (t : Nat) (src : Source) (bytes : List Nat) (s : State) : Res :=
  run t (fun s => s.malformed src bytes) s

end Sys2Proof.Machine
end

