-- ==== Sys2Proof/Machine/Firing.lean ====
section
/-! DEFINITION. Meanings of the commands of permits, frames, slots, kerfs, peak lists and triggers (chapters 1, 5 and 6). -/

namespace Sys2Proof.Machine

/-- LASER_PERMIT_LOW: LASER_PERMIT falls (R119, R120). -/
def execLaserPermitLow (t : Nat) (s : State) : Res :=
  run t (fun s => s.laserLow.calPoll) s

/-- LASER_PERMIT_HIGH: LASER_PERMIT rises (R119). -/
def execLaserPermitHigh (t : Nat) (s : State) : Res :=
  run t (fun s => s.laserHigh) s

/-- PERMIT_HOLD_EXPIRE: LASER_PERMIT has been high for 10 ms (R119). -/
def execPermitHoldExpire (t : Nat) (s : State) : Res :=
  run t (fun s => s.permitHold) s

/-- FRAME_BOUNDARY: a frame boundary (R481). -/
def execFrameBoundary (t : Nat) (s : State) : Res :=
  awakeFirst t (fun s => s.frameBoundary) s

/-- RESTORE_HOLD_EXPIRE: the restore conditions have held for 1 s (R24). -/
def execRestoreHoldExpire (t : Nat) (s : State) : Res :=
  awake t (fun s => s.restoreHold) s

/-- SLOT_EXECUTE: the next slot is decided; `late`: the fire queue is late; `pre`: current before the edge (R138,
R144). -/
def execSlotExecute (t : Nat) (late pre : Bool) (s : State) : Res :=
  awake t (fun s => s.slotExecute late pre) s

/-- CS_EVALUATE: a pulse's current-sense result (R143). -/
def execCsEvaluate (t : Nat) (e : Fin 64) (peak rise : Nat) (s : State) : Res :=
  awake t (fun s => s.csEvaluate e peak rise) s

/-- EYE_WINDOW_END: a budget window ends (R140). -/
def execEyeWindowEnd (t : Nat) (s : State) : Res :=
  live t (fun s => s.eyeWindowEnd) s

/-- DIAG_INTERVAL_END: a diagnostic interval ends (R147). -/
def execDiagIntervalEnd (t : Nat) (s : State) : Res :=
  awake t (fun s => s.diagIntervalEnd) s

/-- KERF_START: the next kerf begins (R103, R128). -/
def execKerfStart (t : Nat) (s : State) : Res :=
  awake t (fun s => s.kerfStart.calPoll) s

/-- KERF_END: the kerf ends (R103). -/
def execKerfEnd (t : Nat) (s : State) : Res :=
  awake t (fun s => s.kerfEnd) s

/-- PROOF_SHOT: the next proof shot of the kerf (R146). -/
def execProofShot (t : Nat) (pre : Bool) (s : State) : Res :=
  awake t (fun s => s.proofShot pre) s

/-- SCHED_SWAP: a write of FIRE_SCHED.SWAP (R131). -/
def execSchedSwap (t : Nat) (x : RegReq) (s : State) : Res :=
  run t (fun s => s.request Op.regWrite (x.write (A.FIRE_SCHED) (2 ^ 31))) s

/-- EMITTER_CLEAR: a write of FIRE_EM_STATUS.CLEAR (R145). -/
def execEmitterClear (t : Nat) (e : Fin 64) (x : RegReq) (s : State) : Res :=
  run t (fun s => s.request Op.regWrite (x.write (A.FIRE_EM_STATUS e) (2 ^ 31))) s

/-- SWEEP: a write of FIRE_DIAG_CTRL.SWEEP (R148). -/
def execSweep (t : Nat) (x : RegReq) (s : State) : Res :=
  run t (fun s => s.request Op.regWrite (x.write (A.FIRE_DIAG_CTRL) (2 ^ 31))) s

/-- PEAK_LIST_DONE: the peak finder completes a list (R158). -/
def execPeakListDone (t : Nat) (ch : Fin 256) (s : State) : Res :=
  awake t (fun s => s.peakListDone ch) s

/-- EXT_TRIG_EDGE: the filtered EXT_TRIG goes to a level (R163). -/
def execExtTrigEdge (t : Nat) (level : Bool) (s : State) : Res :=
  awake t (fun s => s.trigEdge level) s

/-- TRIG_TIMEOUT: TIMEOUT_MS since arming (R164). -/
def execTrigTimeout (t : Nat) (s : State) : Res :=
  awake t (fun s => s.trigExpire) s

/-- SPY_LATCH: a read of ACQ_SPY_INFO (R169). -/
def execSpyLatch (t : Nat) (x : RegReq) (s : State) : Res :=
  run t (fun s => s.request Op.regRead (x.read (A.ACQ_SPY_INFO))) s

/-- STAVE_SHOT_UNIT: the emitter's oldest closed shot is formed (R167, R192). -/
def execStaveShotUnit (t : Nat) (e : Fin 64) (s : State) : Res :=
  awake t (fun s => s.unitFormed e) s

end Sys2Proof.Machine
end

