-- ==== Sys2Proof/Machine/Motion.lean ====
section
/-! DEFINITION. Meanings of the commands of angle path and mirror servo (chapters 8 and 9). -/

namespace Sys2Proof.Machine

/-- PICKOFF_OUTPUT: an output of the decimation chain, from the samples since the last one; a true flag marks blanking
(R203 to R215). -/
def execPickoffOutput (t : Nat) (samples : List (Int × Bool)) (s : State) : Res :=
  awakeFirst t (fun s => s.pickoffOutput s.proofsAhead samples) s

/-- DEMOD_PERIOD_BOUNDARY: a demodulator period ends (R198, R201). -/
def execDemodPeriodBoundary (t peak : Nat) (s : State) : Res :=
  awake t (fun s => s.demodBoundary peak) s

/-- CLIP_RESET_REQUEST: eight consecutive clipping codes (R201). -/
def execClipResetRequest (t : Nat) (s : State) : Res :=
  awake t (fun s => s.clipReset) s

/-- CA_RESET_TIMER: RESET_MS since the previous reset (R201). -/
def execCaResetTimer (t : Nat) (s : State) : Res :=
  awake t (fun s => s.requestReset) s

/-- RESET_NOW: a write of ANGLE_CTRL.RESET_NOW (R201). -/
def execResetNow (t : Nat) (x : RegReq) (s : State) : Res :=
  run t (fun s => s.request Op.regWrite (x.write (A.ANGLE_CTRL) (2 ^ 31))) s

/-- ANGLE_RUN: a write of ANGLE_CTRL.RUN (R195). -/
def execAngleRun (t : Nat) (x : RegReq) (s : State) : Res :=
  run t (fun s => s.request Op.regWrite (x.write (A.ANGLE_CTRL) 0)) s

/-- EXC_WRITE: a write of ANGLE_EXC (R198). -/
def execExcWrite (t : Nat) (x : RegReq) (s : State) : Res :=
  run t (fun s => s.request Op.regWrite (x.write (A.ANGLE_EXC) 0)) s

/-- ELEC_FAULT: an electrode is in fault: 0 PKO_INP, 1 PKO_INN (R216). -/
def execElecFault (t : Nat) (pin : Fin 2) (s : State) : Res :=
  awake t (fun s => s.elecFault pin) s

/-- ELEC_RECOVER: an electrode leaves fault (R217). -/
def execElecRecover (t : Nat) (pin : Fin 2) (s : State) : Res :=
  awake t (fun s => s.elecRecover pin) s

/-- SERVO_PERIOD_START: a servo period starts (R222). -/
def execServoPeriodStart (t : Nat) (ax : Axis) (s : State) : Res :=
  awake t (fun s => s.servoPeriodStart ax) s

/-- OUTPUT_INSTANT: the output instant of a period; `finished`: the program has finished (R223). -/
def execOutputInstant (t : Nat) (ax : Axis) (finished : Bool) (s : State) : Res :=
  awake t (fun s => s.outputInstant ax finished) s

/-- SERVO_PARK_CMD: a write of SERVO_AXIS_CTRL.PARK (R231). -/
def execServoParkCmd (t : Nat) (ax : Axis) (x : RegReq) (s : State) : Res :=
  run t (fun s => s.request Op.regWrite (x.write (A.SERVO_AXIS_CTRL ax.num) (2 ^ 30))) s

/-- UNPARK: a write of SERVO_AXIS_CTRL.UNPARK (R234). -/
def execUnpark (t : Nat) (ax : Axis) (x : RegReq) (s : State) : Res :=
  run t (fun s => s.request Op.regWrite (x.write (A.SERVO_AXIS_CTRL ax.num) (2 ^ 31))) s

/-- SERVO_SWAP: a write of SERVO_AXIS_CTRL.SWAP (R230). -/
def execServoSwap (t : Nat) (ax : Axis) (x : RegReq) (s : State) : Res :=
  run t (fun s => s.request Op.regWrite (x.write (A.SERVO_AXIS_CTRL ax.num) (2 ^ 29))) s

/-- SERVO_EN_WRITE: a write of SERVO_AXIS_CTRL.EN (R229). -/
def execServoEnWrite (t : Nat) (ax : Axis) (x : RegReq) (s : State) : Res :=
  run t (fun s => s.request Op.regWrite (x.write (A.SERVO_AXIS_CTRL ax.num) 0)) s

/-- PARK_SLEW_STEP: 10 µs of the drive DAC's return (R233). -/
def execParkSlewStep (t : Nat) (s : State) : Res :=
  awake t (fun s => s.parkSlew) s

/-- ACQ_TIMEOUT: ACQ_MS in ACQUIRE (R231). -/
def execAcqTimeout (t : Nat) (ax : Axis) (s : State) : Res :=
  awake t (fun s => s.acqTimeout ax) s

/-- RASTER_START: the raster's own timer reaches its period (R237). -/
def execRasterStart (t : Nat) (s : State) : Res :=
  awake t (fun s => s.rasterTimer) s

/-- ENC_EDGE: newly accepted levels of ENC_A and ENC_B (R239). -/
def execEncEdge (t : Nat) (a b : Bool) (s : State) : Res :=
  awake t (fun s => s.encEdge a b) s

/-- ENC_INDEX: a rising edge of ENC_I (R239). -/
def execEncIndex (t : Nat) (s : State) : Res :=
  awake t (fun s => s.encIndex) s

/-- PWM_UPDATE: a PWM period's centre (R242). -/
def execPwmUpdate (t : Nat) (s : State) : Res :=
  awake t (fun s => s.pwmUpdate) s

/-- VBUS_STALE: no bridge-voltage result for 100 ms (R243). -/
def execVbusStale (t : Nat) (s : State) : Res :=
  awake t (fun s => s.setBus none) s

/-- GATE_FAULT: GATE_FAULT_N goes to a level (R244). -/
def execGateFault (t : Nat) (level : Bool) (s : State) : Res :=
  run t (fun s => s.gateFault level) s

/-- ALIGN_DONE: ALIGN_MS has passed (R244). -/
def execAlignDone (t : Nat) (s : State) : Res :=
  awake t (fun s => s.alignDone) s

end Sys2Proof.Machine
end

