-- ==== Sys2Proof/Machine/Network.lean ====
section
/-! DEFINITION. Meanings of the commands of network lanes and data landing (chapter 12). -/

namespace Sys2Proof.Machine

/-- LINK_CHANGE: what a lane's PCS and auto-negotiation show; lanes 8 and 9 are CORD0 and CORD1 (R285). -/
def execLinkChange (t : Nat) (l : Fin 10) (pcs anDone half : Bool) (speed : Nat) (s : State) : Res :=
  awake t (fun s => if l.val < 8 then s.laneChange l pcs anDone half speed else s.cordLink (l - 8) pcs) s

/-- EQ_LOCK: no equaliser tap has moved for 1 ms (R286). -/
def execEqLock (t : Nat) (l : Fin 8) (s : State) : Res :=
  awake t (fun s => s.eqLock l) s

/-- PAUSE_FRAME_RX: a MAC control frame (R287). -/
def execPauseFrameRx (t : Nat) (l : Fin 8) (bytes : Nat) (s : State) : Res :=
  awake t (fun s => s.rxPause l bytes) s

/-- ARP_REQUEST: an ARP request (R288). -/
def execArpRequest (t : Nat) (l : Fin 8) (target mac ip : Nat) (s : State) : Res :=
  awake t (fun s => s.arpRequest l target mac ip) s

/-- NEIGHBOR_SOLICITATION: a neighbour solicitation (R288). -/
def execNeighborSolicitation (t : Nat) (l : Fin 8) (target mac ip : Nat) (s : State) : Res :=
  awake t (fun s => s.neighbourSolicit l target mac ip) s

/-- ICMP_ECHO_REQUEST: an echo request (R288). -/
def execIcmpEchoRequest (t : Nat) (l : Fin 8) (v6 : Bool) (dst mac ip bytes : Nat) (s : State) : Res :=
  awake t (fun s => s.icmpEcho l v6 dst mac ip bytes) s

/-- RX_DISCARD: any other received frame (R288). -/
def execRxDiscard (t : Nat) (l : Fin 8) (bytes : Nat) (s : State) : Res :=
  awake t (fun s => s.rxDiscard l bytes) s

/-- FLUSH_TIMEOUT: FLUSH_US since the first item of an open datagram (R295). -/
def execFlushTimeout (t : Nat) (n : Fin 16) (s : State) : Res :=
  awake t (fun s => s.flushTimeout n) s

/-- ECHO_FRAME_RELEASE: the hold time of frame `k` ends (R294). -/
def execEchoFrameRelease (t : Nat) (n : Fin 16) (k : Nat) (s : State) : Res :=
  awake t (fun s => s.echoRelease n k) s

/-- GRANT: a port may be granted (R303). -/
def execGrant (t : Nat) (p : Fin 8) (s : State) : Res :=
  awake t (fun s => s.grant p) s

/-- FRAME_TX_END: a frame finishes transmission; port 8 is CORD0 (R303, R357). -/
def execFrameTxEnd (t : Nat) (p : Fin 9) (s : State) : Res :=
  awake t (fun s => s.txEnd p) s

/-- EGRESS_WDT_BITE: no frame completes under a grant for EGRESS_WDT_MS (R306). -/
def execEgressWdtBite (t : Nat) (p : Fin 8) (s : State) : Res :=
  awake t (fun s => s.wdtBite p) s

/-- STARVE: a requester has waited for STARVE_LIMIT_US (R305). -/
def execStarve (t : Nat) (p : Fin 8) (req : Fin 6) (s : State) : Res :=
  awake t (fun s => s.starve p req) s

/-- PORT_FREEZE: a write of LAND_PORT_CTRL.FREEZE (R304). -/
def execPortFreeze (t : Nat) (p : Fin 8) (x : RegReq) (s : State) : Res :=
  run t (fun s => s.request Op.regWrite (x.write (A.LAND_PORT_CTRL p) 0)) s

/-- REGION_WRITE: a write of LAND_REGION (R301). -/
def execRegionWrite (t : Nat) (n : Fin 16) (x : RegReq) (s : State) : Res :=
  run t (fun s => s.request Op.regWrite (x.write (A.LAND_REGION n) 0)) s

/-- RELAY_DATAGRAM: a datagram on CORD1: its 64-bit words, then camera octets (R300, R357). -/
def execRelayDatagram (t : Nat) (words octets : List Nat) (s : State) : Res :=
  awake t (fun s => s.relayDatagram words octets) s

/-- CORD_RELAY_TIMEOUT: relayed bytes have stopped for LINK_TIMEOUT_US (R310). -/
def execCordRelayTimeout (t : Nat) (p : Fin 8) (s : State) : Res :=
  awake t (fun s => s.relayTimeout p) s

end Sys2Proof.Machine
end

