-- ==== Sys2Proof/Machine/Receive.lean ====
section
/-! DEFINITION. Meanings of the commands of converters, receiver, windows and injectors (chapters 3, 4 and 6). -/

namespace Sys2Proof.Machine

/-- TDC_EDGE: an edge at coarse count `c` and fine code `fine` on latch input `n`; `sat`: the amplifier has saturated
(R61 to R67, R90). -/
def execTdcEdge (t : Nat) (f : Fin 264) (n : Fin 8) (c : Nat) (fine : Fin 128) (sat : Bool) (s : State) : Res :=
  awake t (fun s => s.tdcEdge f n c fine sat) s

/-- TDC_MODE_WRITE: a write of TDC_CTRL (R77). -/
def execTdcModeWrite (t : Nat) (x : RegReq) (s : State) : Res :=
  run t (fun s => s.request Op.regWrite (x.write (A.TDC_CTRL) 0)) s

/-- DLL_LOCK: a delay-locked loop locks (R79). -/
def execDllLock (t : Nat) (f : Fin 264) (s : State) : Res :=
  awake t (fun s => s.dllLock f) s

/-- STAT_START: a write of TDC_STAT_CTRL.START (R85). -/
def execStatStart (t : Nat) (h : Half) (x : RegReq) (s : State) : Res :=
  run t (fun s => s.request Op.regWrite (x.write (A.TDC_STAT_CTRL h.num) (2 ^ 31))) s

/-- STAT_ABORT: a write of TDC_STAT_CTRL.ABORT (R84). -/
def execStatAbort (t : Nat) (h : Half) (x : RegReq) (s : State) : Res :=
  run t (fun s => s.request Op.regWrite (x.write (A.TDC_STAT_CTRL h.num) (2 ^ 30))) s

/-- STAT_TIMEOUT: TIMEOUT_MS has elapsed (R84). -/
def execStatTimeout (t : Nat) (h : Half) (s : State) : Res :=
  awake t (fun s => s.statTimeout h.num) s

/-- TDC_LAST_LATCH: a read of TDC_FE_LAST_FLAGS (R482). -/
def execTdcLastLatch (t : Nat) (f : Fin 264) (x : RegReq) (s : State) : Res :=
  run t (fun s => s.request Op.regRead (x.read (A.TDC_FE_LAST_FLAGS f))) s

/-- WINDOW_CLOSE: the emitter's oldest window closes (R90, R149). -/
def execWindowClose (t : Nat) (x : WindowEnd) (s : State) : Res :=
  awake t (fun s => (s.windowClose x.em x.sat).calPoll) s

/-- INJ_WINDOW_CLOSE: an injector window closes (R90, R116). -/
def execInjWindowClose (t : Nat) (x : InjWindowEnd) (s : State) : Res :=
  awake t (fun s => (s.injWindowClose x.fe x.sat).calPoll) s

/-- RX_FE_CFG_WRITE: a write of RX_FE_CFG (R93). -/
def execRxFeCfgWrite (t : Nat) (f : Fin 264) (x : RegReq) (s : State) : Res :=
  run t (fun s => s.request Op.regWrite (x.write (A.RX_FE_CFG f) 0)) s

/-- RX_THRESHOLD_WRITE: a write of RX_FE_THR_A, and with `b` of RX_FE_THR_B (R97). -/
def execRxThresholdWrite (t : Nat) (f : Fin 264) (x : RegReq) (b : Nat) (s : State) : Res :=
  run t (fun s => s.request Op.regWrite (x.writeTwo (A.RX_FE_THR_A f) b)) s

/-- GAIN_STALL: a pending change has waited too long (R94). -/
def execGainStall (t : Nat) (f : Fin 264) (s : State) : Res :=
  awake t (fun s => s.gainStall f) s

/-- DC_UPDATE: the DC restorer's estimate, 10 nA (R91). -/
def execDcUpdate (t : Nat) (f : Fin 264) (est : Nat) (s : State) : Res :=
  awake t (fun s => s.dcUpdate f est) s

/-- BACKGROUND_EVENT: a T0 crossing in a gap (R98). -/
def execBackgroundEvent (t : Nat) (f : Fin 264) (s : State) : Res :=
  awake t (fun s => s.background f) s

/-- ADAPT_PERIOD: a loop period ends (R99 to R103). -/
def execAdaptPeriod (t : Nat) (f : Fin 264) (s : State) : Res :=
  awake t (fun s => s.adaptPeriod f) s

/-- BIAS_RAMP_STEP: 100 µs of the bias ramp (R105). -/
def execBiasRampStep (t : Nat) (g : Fin 8) (s : State) : Res :=
  awake t (fun s => s.biasStep g) s

/-- XBAR_SUBST: a write of RX_OCT_XBAR (R109). -/
def execXbarSubst (t : Nat) (g : Fin 8) (x : RegReq) (s : State) : Res :=
  run t (fun s => s.request Op.regWrite (x.write (A.RX_OCT_XBAR g) 0)) s

/-- XBAR_SWITCH_TIMEOUT: 1 ms after a switch request without a window (R111). -/
def execXbarSwitchTimeout (t : Nat) (g : Fin 8) (s : State) : Res :=
  awake t (fun s => (s.xbarTimeout g).calPoll) s

/-- INJ_GO: a write of RX_OCT_INJ_CTRL.GO (R117). -/
def execInjGo (t : Nat) (g : Fin 8) (x : RegReq) (s : State) : Res :=
  run t (fun s => s.request Op.regWrite (x.write (A.RX_OCT_INJ_CTRL g) (2 ^ 31))) s

/-- INJ_STOP: a write of RX_OCT_INJ_CTRL.STOP (R117). -/
def execInjStop (t : Nat) (g : Fin 8) (x : RegReq) (s : State) : Res :=
  run t (fun s => s.request Op.regWrite (x.write (A.RX_OCT_INJ_CTRL g) (2 ^ 30))) s

/-- INJ_PULSE: the injector period elapses (R115, R116). -/
def execInjPulse (t : Nat) (g : Fin 8) (s : State) : Res :=
  awake t (fun s => s.injPulse g) s

end Sys2Proof.Machine
end

