-- ==== Sys2Proof/Machine/Scene.lean ====
section
/-! DEFINITION. Meanings of the commands of geometry and cameras (chapters 10 and 11). -/

namespace Sys2Proof.Machine

/-- POSE_LOAD: a write of GEOM_POSE_CTRL.LOAD (R252). -/
def execPoseLoad (t : Nat) (x : RegReq) (s : State) : Res :=
  run t (fun s => s.request Op.regWrite (x.write (A.GEOM_POSE_CTRL) (2 ^ 31))) s

/-- POSE_MATRIX_DONE: the pose matrix is computed (R252). -/
def execPoseMatrixDone (t : Nat) (s : State) : Res :=
  awake t (fun s => s.poseMatrixDone) s

/-- ENV_APPLY: a write of GEOM_ENV_CTRL.APPLY (R255). -/
def execEnvApply (t : Nat) (x : RegReq) (s : State) : Res :=
  run t (fun s => s.request Op.regWrite (x.write (A.GEOM_ENV_CTRL) 0)) s

/-- KAPPA_WRITE: a write of GEOM_CURV.KAPPA (R257). -/
def execKappaWrite (t : Nat) (x : RegReq) (s : State) : Res :=
  run t (fun s => s.request Op.regWrite (x.write (A.GEOM_CURV) 0)) s

/-- SECTOR_CLOSE: the oldest sector closes (R258). -/
def execSectorClose (t : Nat) (s : State) : Res :=
  awake t (fun s => s.sectorClose) s

/-- ENVELOPE_REPORT: the reports of the oldest closed sector (R261). -/
def execEnvelopeReport (t : Nat) (s : State) : Res :=
  awake t (fun s => s.envelopeReport) s

/-- CSI_FRAME_START: a frame start packet (R270). -/
def execCsiFrameStart (t : Nat) (p : Fin 2) (fn : Nat) (vc : Fin 4) (s : State) : Res :=
  awake t (fun s => s.csiFrameStart p fn vc) s

/-- CSI_LINE: a long packet; `used`: lines that the pipeline has consumed since the last event (R273). -/
def execCsiLine (t : Nat) (p : Fin 2) (vc : Fin 4) (dt : Nat) (pixels : List Nat) (crcOk : Bool) (used : Nat)
    (s : State) : Res :=
  awake t (fun s => s.csiLine p vc dt pixels crcOk used) s

/-- CSI_FRAME_END: a frame end packet (R270). -/
def execCsiFrameEnd (t : Nat) (p : Fin 2) (vc : Fin 4) (s : State) : Res :=
  awake t (fun s => s.csiFrameEnd p vc) s

/-- CSI_SHORT_PACKET_IGNORED: a packet of another type or virtual channel (R266). -/
def execCsiShortPacketIgnored (t : Nat) (p : Fin 2) (s : State) : Res :=
  awake t (fun s => s.csiIgnored p) s

/-- SOT_ERROR: a start-of-transmission error (R267). -/
def execSotError (t : Nat) (p : Fin 2) (s : State) : Res :=
  awake t (fun s => s.sotError p) s

/-- FE_TIMEOUT: no packet for FE_TIMEOUT_US (R270). -/
def execFeTimeout (t : Nat) (p : Fin 2) (s : State) : Res :=
  awake t (fun s => s.feTimeout p) s

/-- PIPELINE_TURN: a turn of the pipeline ends (R272). -/
def execPipelineTurn (t : Nat) (s : State) : Res :=
  awake t (fun s => s.pipelineTurn) s

/-- CAM_PORT_ENABLE: a write of CAM_PORT_CFG (R269). -/
def execCamPortEnable (t : Nat) (p : Fin 2) (x : RegReq) (s : State) : Res :=
  run t (fun s => s.request Op.regWrite (x.write (A.CAM_PORT_CFG p) 0)) s

/-- CCI_GO: a write of CAM_CCI_CTRL.GO (R279). -/
def execCciGo (t : Nat) (p : Fin 2) (x : RegReq) (s : State) : Res :=
  run t (fun s => s.request Op.regWrite (x.write (A.CAM_CCI_CTRL p) (2 ^ 31))) s

/-- CCI_WRITE_DONE: an I2C write of the relay completes (R280, R281). -/
def execCciWriteDone (t : Nat) (p : Fin 2) (ack : Bool) (s : State) : Res :=
  awake t (fun s => s.cciWriteDone p ack) s

/-- CSI_HDR_ECC_ERROR: a packet header with an uncorrectable ECC error (R267). -/
def execCsiHdrEccError (t : Nat) (p : Fin 2) (s : State) : Res :=
  awake t (fun s => s.hdrEcc p) s

end Sys2Proof.Machine
end

