-- ==== Sys2Proof/Machine/Store.lean ====
section
/-! DEFINITION. Meanings of the commands of non-volatile store, life log and tally (chapters 17 and 18). -/

namespace Sys2Proof.Machine

/-- JOURNAL_WRITE_DONE: the entry in progress is written and verify-read (R409, R415). -/
def execJournalWriteDone (t : Nat) (ok : Bool) (s : State) : Res :=
  live t (fun s => s.writeDone ok) s

/-- COMPACTION_FLIP: compaction completes (R412). -/
def execCompactionFlip (t : Nat) (s : State) : Res :=
  live t (fun s => s.compactFlip.settleAll) s

/-- LIFE_FLUSH: FLUSH_S seconds have passed (R422, R424). -/
def execLifeFlush (t : Nat) (s : State) : Res :=
  live t (fun s => s.lifeFlush.forecast) s

/-- LIFE_SECOND: a powered second (R421). -/
def execLifeSecond (t : Nat) (s : State) : Res :=
  live t (fun s => s.lifeSecond) s

/-- SERVICE_MARK: a write of LIFE_EVENT.GO (R423). -/
def execServiceMark (t : Nat) (x : RegReq) (s : State) : Res :=
  run t (fun s => s.request Op.regWrite (x.write (A.LIFE_EVENT) (2 ^ 31))) s

/-- TRIAL_TIMEOUT: 600 s since the start of a trial (R419). -/
def execTrialTimeout (t : Nat) (s : State) : Res :=
  live t (fun s => s.trialTimeout) s

/-- TALLY_SNAP: a write of TALLY_SNAP.SNAP (R430). -/
def execTallySnap (t : Nat) (x : RegReq) (s : State) : Res :=
  run t (fun s => s.request Op.regWrite (x.write (A.TALLY_SNAP) (2 ^ 31))) s

/-- DUMP_NOW: a write of TALLY_DUMP_CFG.DUMP_NOW (R431). -/
def execDumpNow (t : Nat) (x : RegReq) (s : State) : Res :=
  run t (fun s => s.request Op.regWrite (x.write (A.TALLY_DUMP_CFG) (2 ^ 31))) s

/-- DUMP_PERIOD: PERIOD_MS elapses (R431). -/
def execDumpPeriod (t : Nat) (s : State) : Res :=
  awake t (fun s => s.dumpPeriod) s

/-- DUMP_DONE: the last record of a dump is admitted or discarded (R433). -/
def execDumpDone (t : Nat) (s : State) : Res :=
  awake t (fun s => s.dumpDone) s

/-- BW_WINDOW: a meter window ends (R434). -/
def execBwWindow (t : Nat) (s : State) : Res :=
  awake t (fun s => s.bwWindow) s

/-- SAMPLE_TICK: the sampling interrupt (R435). -/
def execSampleTick (t : Nat) (s : State) : Res :=
  awake t (fun s => s.sampleTick) s

end Sys2Proof.Machine
end

