-- ==== Sys2Proof/Machine/Supervise.lean ====
section
/-! DEFINITION. Meanings of the commands of power, resets, modes and watchdogs (chapters 1 and 19). -/

namespace Sys2Proof.Machine

/-- AVS_LOOP_PERIOD: a loop period ends with the rate measured, MHz (R21, R22). -/
def execAvsLoopPeriod (t measured : Nat) (s : State) : Res :=
  awake t (fun s => s.avsLoopPeriod measured) s

/-- PMBUS_COMMAND_DONE: the VOUT_COMMAND on the bus completes (R466). -/
def execPmbusCommandDone (t : Nat) (ack : Bool) (s : State) : Res :=
  live t (fun s => s.pmbusCommandDone ack) s

/-- PMBUS_STATUS_POLL: STATUS_WORD has been read (R466). -/
def execPmbusStatusPoll (t status : Nat) (s : State) : Res :=
  live t (fun s => s.pmbusStatus status) s

/-- PMB_ALERT: PMB_ALERT_N goes low; STATUS_WORD is read (R466). -/
def execPmbAlert (t status : Nat) (s : State) : Res :=
  run t (fun s => s.pmbAlert status) s

/-- PMB_ALERT_TIMEOUT: PMB_ALERT_N has stayed low for more than 1 ms (R466). -/
def execPmbAlertTimeout (t : Nat) (s : State) : Res :=
  live t (fun s => s.pmbAlertTimeout) s

/-- SUPPLY_OUT_OF_RANGE: a supply is out of its range (R436). -/
def execSupplyOutOfRange (t : Nat) (s : State) : Res :=
  run t (fun s => s.supplyBad) s

/-- RESET_N_FALL: RESET_N falls; `resets`: the pulse resets the device (R438). -/
def execResetNFall (t : Nat) (resets : Bool) (s : State) : Res :=
  run t (fun s => s.resetFall resets) s

/-- RESET_RELEASE: the internal reset is released, with the levels of the straps and which slots cannot be read (R436,
R439). -/
def execResetRelease (t : Nat) (role : Bool) (id : Fin 8) (bad0 bad1 : Bool) (s : State) : Res :=
  run t (fun s => s.resetRelease role id bad0 bad1) s

/-- SELFTEST_DONE: the self-tests finish: the failed ones, each with its first failing unit (R442 to R444). -/
def execSelftestDone (t : Nat) (fails : List (Nat × Nat)) (s : State) : Res :=
  live t (fun s => s.selftestDone fails) s

/-- MODE_TRANSITION_DONE: a mode transition completes (R446). -/
def execModeTransitionDone (t : Nat) (s : State) : Res :=
  awake t (fun s => s.transitionDone) s

/-- COMMAND_RESET: the command reset is taken (R334). -/
def execCommandReset (t : Nat) (s : State) : Res :=
  live t (fun s => s.commandReset) s

/-- WATCHDOG_BITE: a core's watchdog expires (R456). -/
def execWatchdogBite (t : Nat) (h : Half) (s : State) : Res :=
  live t (fun s => s.watchdogBite h) s

/-- WDT_KICK: a core's firmware writes DEV_WDT.KICK (R456). -/
def execWdtKick (t : Nat) (h : Half) (s : State) : Res :=
  live t (fun s => s.wdtKick h) s

/-- WAKE: a way of waking from PARK (R453). -/
def execWake (t : Nat) (how : Wake) (s : State) : Res :=
  live t (fun s => s.wake how) s

/-- WAKE_COMPLETE: the regulator has acknowledged and the PLL is in lock (R453). -/
def execWakeComplete (t : Nat) (s : State) : Res :=
  live t (fun s => s.wakeComplete) s

/-- RESET_N_RISE: RESET_N rises, with the levels of the straps (R438, R345). -/
def execResetNRise (t : Nat) (role : Bool) (id : Fin 8) (s : State) : Res :=
  run t (fun s => s.resetRise role id) s

end Sys2Proof.Machine
end

