-- ==== Sys2Proof/Machine/Time.lean ====
section
/-! DEFINITION. Meanings of the commands of timebase and device time (chapter 2). -/

namespace Sys2Proof.Machine

/-- REF_LOST: no edge of REF_IN for 2 µs (R35, R36). -/
def execRefLost (t : Nat) (s : State) : Res :=
  live t (fun s => s.refLost) s

/-- REF_FREQ_WINDOW: a 100 µs window has counted REF_IN at `hz` (R32, R35). -/
def execRefFreqWindow (t hz : Nat) (s : State) : Res :=
  live t (fun s => s.refWindow hz) s

/-- REF_WARM_CHANGE: a level of REF_WARM has held for 1 ms (R37). -/
def execRefWarmChange (t : Nat) (level : Bool) (s : State) : Res :=
  live t (fun s => s.refWarm level) s

/-- PLL_LOCK: the PLL is in lock (R36, R40). -/
def execPllLock (t : Nat) (s : State) : Res :=
  live t (fun s => s.pllLock) s

/-- REF_RETURN: RETURN_HOLD has passed (R38). -/
def execRefReturn (t : Nat) (s : State) : Res :=
  awake t (fun s => s.refReturn) s

/-- XTAL_FAULT: XTAL is declared absent (R40). -/
def execXtalFault (t : Nat) (s : State) : Res :=
  live t (fun s => s.xtalFault) s

/-- XTAL_RETURN: XTAL is no longer declared absent (R40). -/
def execXtalReturn (t : Nat) (s : State) : Res :=
  live t (fun s => s.xtalReturn) s

/-- TIME_STEP_GO: a write of TIME_STEP_CTRL.GO (R48). -/
def execTimeStepGo (t : Nat) (x : RegReq) (s : State) : Res :=
  run t (fun s => s.request Op.regWrite (x.write (A.TIME_STEP_CTRL) 1)) s

/-- TIME_STEP_APPLY: the coarse period in which a pending step is applied outside the firing modes (R48). -/
def execTimeStepApply (t : Nat) (s : State) : Res :=
  live t (fun s => s.stepNow) s

/-- TIME_NOW_LATCH: a read of TIME_NOW_SEC_HI (R49). -/
def execTimeNowLatch (t : Nat) (x : RegReq) (s : State) : Res :=
  run t (fun s => s.request Op.regRead (x.read (A.TIME_NOW_SEC_HI))) s

/-- SYNC_SRC_CHANGE: a write of TIME_SYNC_CTRL (R42). -/
def execSyncSrcChange (t : Nat) (x : RegReq) (s : State) : Res :=
  run t (fun s => s.request Op.regWrite (x.write (A.TIME_SYNC_CTRL) 0)) s

/-- PTP_SYNC: a Sync (R50, R53). -/
def execPtpSync (t : Nat) (l : Fin 8) (m : PtpMsg) (s : State) : Res :=
  awake t (fun s => s.ptpSync l m) s

/-- PTP_FOLLOW_UP: a Follow_Up (R50). -/
def execPtpFollowUp (t : Nat) (l : Fin 8) (m : PtpMsg) (s : State) : Res :=
  awake t (fun s => s.ptpFollowUp l m) s

/-- PTP_DELAY_RESP: a Delay_Resp (R50). -/
def execPtpDelayResp (t : Nat) (l : Fin 8) (m : PtpMsg) (s : State) : Res :=
  awake t (fun s => s.ptpDelayResp l m) s

/-- PTP_PDELAY_REQ: a Pdelay_Req (R50). -/
def execPtpPdelayReq (t : Nat) (l : Fin 8) (m : PtpMsg) (s : State) : Res :=
  awake t (fun s => s.ptpPdelayReq l m) s

/-- PTP_PDELAY_RESP: a Pdelay_Resp (R50). -/
def execPtpPdelayResp (t : Nat) (l : Fin 8) (m : PtpMsg) (s : State) : Res :=
  awake t (fun s => s.ptpPdelayResp l m) s

/-- PTP_ANNOUNCE: an Announce (R50). -/
def execPtpAnnounce (t : Nat) (l : Fin 8) (m : PtpMsg) (s : State) : Res :=
  awake t (fun s => s.ptpAnnounce l m) s

/-- ANNOUNCE_TIMEOUT: three Announce intervals without an Announce (R53). -/
def execAnnounceTimeout (t : Nat) (s : State) : Res :=
  awake t (fun s => s.announceTimeout) s

/-- SYNC_HOLD_EXPIRE: SYNC_HOLD_S has passed without lock (R53). -/
def execSyncHoldExpire (t : Nat) (s : State) : Res :=
  awake t (fun s => s.syncExpire) s

/-- PPS_EDGE: an edge of PPS_IN, `eighth` × 125 ps into its coarse period (R54, R55). -/
def execPpsEdge (t : Nat) (rising : Bool) (eighth : Nat) (s : State) : Res :=
  awake t (fun s => s.ppsEdge rising eighth) s

/-- PPS_MISSING: an expected pulse does not arrive (R55). -/
def execPpsMissing (t : Nat) (s : State) : Res :=
  awake t (fun s => s.ppsMissing) s

/-- XTAL_BIN_MEASURE: the measurement of XTAL against REF_IN (R58). -/
def execXtalBinMeasure (t : Nat) (ppb : Int) (s : State) : Res :=
  awake t (fun s => s.xtalMeasure ppb) s

/-- XTAL_BIN_JOURNAL: learned bins are journalled (R58). -/
def execXtalBinJournal (t : Nat) (s : State) : Res :=
  awake t (fun s => s.xtalJournal) s

/-- REF_TUNE_STEP: a 10 ms step of REF_TUNE (R57). -/
def execRefTuneStep (t : Nat) (s : State) : Res :=
  awake t (fun s => s.tuneStep) s

end Sys2Proof.Machine
end

