-- ==== Sys2Proof/Machine/Upkeep.lean ====
section
/-! DEFINITION. Meanings of the commands of housekeeping, thermal control and calibration (chapters 15 and 16). -/

namespace Sys2Proof.Machine

/-- HK_ROUND_START: ROUND_US since the previous round start (R368). -/
def execHkRoundStart (t : Nat) (s : State) : Res :=
  awake t (fun s => s.hkRoundStart) s

/-- HK_SETTLE_DONE: the SETTLE delay ends (R368). -/
def execHkSettleDone (t : Nat) (s : State) : Res :=
  awake t (fun s => s.hkSettleDone) s

/-- HK_CONVERSION_DONE: a conversion completes (R370). -/
def execHkConversionDone (t code : Nat) (s : State) : Res :=
  awake t (fun s => s.hkConversionDone code) s

/-- HK_INJECT_GO: a write of HK_INJECT.GO (R371). -/
def execHkInjectGo (t : Nat) (x : RegReq) (s : State) : Res :=
  run t (fun s => s.request Op.regWrite (x.write (A.HK_INJECT) (2 ^ 31))) s

/-- THERM_WINDOW: a 100 ms window ends (R376). -/
def execThermWindow (t : Nat) (s : State) : Res :=
  awake t (fun s => s.thermWindow) s

/-- THERMAL_TRIP: a trip comparator reaches 140 °C (R383). -/
def execThermalTrip (t : Nat) (s : State) : Res :=
  run t (fun s => s.thermalTrip) s

/-- TRIP_RELEASE: every trip comparator is below 125 °C (R383). -/
def execTripRelease (t : Nat) (s : State) : Res :=
  run t (fun s => s.tripRelease) s

/-- SENSOR_READMIT: a write of THERM_SENS_FAIL (R373). -/
def execSensorReadmit (t : Nat) (x : RegReq) (s : State) : Res :=
  run t (fun s => s.request Op.regWrite (x.write (A.THERM_SENS_FAIL) 0)) s

/-- CAL_RUN_START: a pending octant run may start (R389, R390). -/
def execCalRunStart (t : Nat) (g : Fin 8) (s : State) : Res :=
  awake t (fun s => (s.runStart g).hkKick) s

/-- CAL_TDC_STEP_DONE: a TDC step completes (R393). -/
def execCalTdcStepDone (t : Nat) (g : Fin 8) (res : CdResult) (s : State) : Res :=
  awake t (fun s => s.tdcStepDone g res) s

/-- CAL_INJ_STEP_DONE: the INJ step on a front end completes (R394). -/
def execCalInjStepDone (t : Nat) (g : Fin 8) (f : Fin 264) (s : State) : Res :=
  awake t (fun s => s.injStepDone g f) s

/-- CAL_TIMING_STEP_DONE: the TIMING step of a front end completes (R395). -/
def execCalTimingStepDone (t : Nat) (g : Fin 8) (f : Fin 264) (s : State) : Res :=
  awake t (fun s => s.timingStepDone g f) s

/-- PKO_RUN_DONE: a measurement of a pickoff trim run completes, the first or the second (R397, R401). -/
def execPkoRunDone (t : Nat) (second : Bool) (s : State) : Res :=
  awake t (fun s => s.pkoDone second) s

end Sys2Proof.Machine
end

