-- ==== Sys2Proof/Machine/Dispatch.lean ====
section
/-! DEFINITION. One arm for each command. -/

namespace Sys2Proof.Machine

def exec (i : Instr) (s : State) : Host.Outcome State Fault Refusal :=
  match i with
  | .regRead t q => Sys2Proof.Machine.execRegRead t q s
  | .regWrite t q => Sys2Proof.Machine.execRegWrite t q s
  | .regModify t q => Sys2Proof.Machine.execRegModify t q s
  | .unitRead t q => Sys2Proof.Machine.execUnitRead t q s
  | .unitWrite t q => Sys2Proof.Machine.execUnitWrite t q s
  | .tableRead t q => Sys2Proof.Machine.execTableRead t q s
  | .tableWrite t q => Sys2Proof.Machine.execTableWrite t q s
  | .tableSwap t q => Sys2Proof.Machine.execTableSwap t q s
  | .modeSet t q => Sys2Proof.Machine.execModeSet t q s
  | .modeGet t q => Sys2Proof.Machine.execModeGet t q s
  | .reset t q => Sys2Proof.Machine.execReset t q s
  | .commit t q => Sys2Proof.Machine.execCommit t q s
  | .calRun t q => Sys2Proof.Machine.execCalRun t q s
  | .calStatus t q => Sys2Proof.Machine.execCalStatus t q s
  | .calStarter t q => Sys2Proof.Machine.execCalStarter t q s
  | .nvsImageWrite t q => Sys2Proof.Machine.execNvsImageWrite t q s
  | .nvsImageActivate t q => Sys2Proof.Machine.execNvsImageActivate t q s
  | .nvsLifeRead t q => Sys2Proof.Machine.execNvsLifeRead t q s
  | .nvsCompact t q => Sys2Proof.Machine.execNvsCompact t q s
  | .tallySnapshot t q => Sys2Proof.Machine.execTallySnapshot t q s
  | .tallyRead t q => Sys2Proof.Machine.execTallyRead t q s
  | .tallyDump t q => Sys2Proof.Machine.execTallyDump t q s
  | .cordStatus t q => Sys2Proof.Machine.execCordStatus t q s
  | .cordReset t q => Sys2Proof.Machine.execCordReset t q s
  | .recipeStore t q => Sys2Proof.Machine.execRecipeStore t q s
  | .recipeRead t q => Sys2Proof.Machine.execRecipeRead t q s
  | .recipeEnable t q => Sys2Proof.Machine.execRecipeEnable t q s
  | .recipeDelete t q => Sys2Proof.Machine.execRecipeDelete t q s
  | .recipeRun t q => Sys2Proof.Machine.execRecipeRun t q s
  | .selftestReport t q => Sys2Proof.Machine.execSelftestReport t q s
  | .faultLogRead t q => Sys2Proof.Machine.execFaultLogRead t q s
  | .faultLogClear t q => Sys2Proof.Machine.execFaultLogClear t q s
  | .ident t q => Sys2Proof.Machine.execIdent t q s
  | .timeGet t q => Sys2Proof.Machine.execTimeGet t q s
  | .timeOfDay t q => Sys2Proof.Machine.execTimeOfDay t q s
  | .acquire t => Sys2Proof.Machine.execAcquire t s
  | .acquireTimeout t => Sys2Proof.Machine.execAcquireTimeout t s
  | .release t => Sys2Proof.Machine.execRelease t s
  | .wait t => Sys2Proof.Machine.execWait t s
  | .waitExpire t => Sys2Proof.Machine.execWaitExpire t s
  | .recipeStart t => Sys2Proof.Machine.execRecipeStart t s
  | .recipeStep t => Sys2Proof.Machine.execRecipeStep t s
  | .hspiRead t x => Sys2Proof.Machine.execHspiRead t x s
  | .uartFrameError t => Sys2Proof.Machine.execUartFrameError t s
  | .uartGapTimeout t => Sys2Proof.Machine.execUartGapTimeout t s
  | .refLost t => Sys2Proof.Machine.execRefLost t s
  | .refFreqWindow t hz => Sys2Proof.Machine.execRefFreqWindow t hz s
  | .refWarmChange t level => Sys2Proof.Machine.execRefWarmChange t level s
  | .pllLock t => Sys2Proof.Machine.execPllLock t s
  | .refReturn t => Sys2Proof.Machine.execRefReturn t s
  | .xtalFault t => Sys2Proof.Machine.execXtalFault t s
  | .xtalReturn t => Sys2Proof.Machine.execXtalReturn t s
  | .timeStepGo t x => Sys2Proof.Machine.execTimeStepGo t x s
  | .timeStepApply t => Sys2Proof.Machine.execTimeStepApply t s
  | .timeNowLatch t x => Sys2Proof.Machine.execTimeNowLatch t x s
  | .syncSrcChange t x => Sys2Proof.Machine.execSyncSrcChange t x s
  | .ptpSync t l m => Sys2Proof.Machine.execPtpSync t l m s
  | .ptpFollowUp t l m => Sys2Proof.Machine.execPtpFollowUp t l m s
  | .ptpDelayResp t l m => Sys2Proof.Machine.execPtpDelayResp t l m s
  | .ptpPdelayReq t l m => Sys2Proof.Machine.execPtpPdelayReq t l m s
  | .ptpPdelayResp t l m => Sys2Proof.Machine.execPtpPdelayResp t l m s
  | .ptpAnnounce t l m => Sys2Proof.Machine.execPtpAnnounce t l m s
  | .announceTimeout t => Sys2Proof.Machine.execAnnounceTimeout t s
  | .syncHoldExpire t => Sys2Proof.Machine.execSyncHoldExpire t s
  | .ppsEdge t rising eighth => Sys2Proof.Machine.execPpsEdge t rising eighth s
  | .ppsMissing t => Sys2Proof.Machine.execPpsMissing t s
  | .xtalBinMeasure t ppb => Sys2Proof.Machine.execXtalBinMeasure t ppb s
  | .xtalBinJournal t => Sys2Proof.Machine.execXtalBinJournal t s
  | .refTuneStep t => Sys2Proof.Machine.execRefTuneStep t s
  | .tdcEdge t f n c fine sat => Sys2Proof.Machine.execTdcEdge t f n c fine sat s
  | .tdcModeWrite t x => Sys2Proof.Machine.execTdcModeWrite t x s
  | .dllLock t f => Sys2Proof.Machine.execDllLock t f s
  | .statStart t h x => Sys2Proof.Machine.execStatStart t h x s
  | .statAbort t h x => Sys2Proof.Machine.execStatAbort t h x s
  | .statTimeout t h => Sys2Proof.Machine.execStatTimeout t h s
  | .tdcLastLatch t f x => Sys2Proof.Machine.execTdcLastLatch t f x s
  | .windowClose t x => Sys2Proof.Machine.execWindowClose t x s
  | .injWindowClose t x => Sys2Proof.Machine.execInjWindowClose t x s
  | .rxFeCfgWrite t f x => Sys2Proof.Machine.execRxFeCfgWrite t f x s
  | .rxThresholdWrite t f x b => Sys2Proof.Machine.execRxThresholdWrite t f x b s
  | .gainStall t f => Sys2Proof.Machine.execGainStall t f s
  | .dcUpdate t f est => Sys2Proof.Machine.execDcUpdate t f est s
  | .backgroundEvent t f => Sys2Proof.Machine.execBackgroundEvent t f s
  | .adaptPeriod t f => Sys2Proof.Machine.execAdaptPeriod t f s
  | .biasRampStep t g => Sys2Proof.Machine.execBiasRampStep t g s
  | .xbarSubst t g x => Sys2Proof.Machine.execXbarSubst t g x s
  | .xbarSwitchTimeout t g => Sys2Proof.Machine.execXbarSwitchTimeout t g s
  | .injGo t g x => Sys2Proof.Machine.execInjGo t g x s
  | .injStop t g x => Sys2Proof.Machine.execInjStop t g x s
  | .injPulse t g => Sys2Proof.Machine.execInjPulse t g s
  | .laserPermitLow t => Sys2Proof.Machine.execLaserPermitLow t s
  | .laserPermitHigh t => Sys2Proof.Machine.execLaserPermitHigh t s
  | .permitHoldExpire t => Sys2Proof.Machine.execPermitHoldExpire t s
  | .frameBoundary t => Sys2Proof.Machine.execFrameBoundary t s
  | .restoreHoldExpire t => Sys2Proof.Machine.execRestoreHoldExpire t s
  | .slotExecute t late pre => Sys2Proof.Machine.execSlotExecute t late pre s
  | .csEvaluate t e peak rise => Sys2Proof.Machine.execCsEvaluate t e peak rise s
  | .eyeWindowEnd t => Sys2Proof.Machine.execEyeWindowEnd t s
  | .diagIntervalEnd t => Sys2Proof.Machine.execDiagIntervalEnd t s
  | .kerfStart t => Sys2Proof.Machine.execKerfStart t s
  | .kerfEnd t => Sys2Proof.Machine.execKerfEnd t s
  | .proofShot t pre => Sys2Proof.Machine.execProofShot t pre s
  | .schedSwap t x => Sys2Proof.Machine.execSchedSwap t x s
  | .emitterClear t e x => Sys2Proof.Machine.execEmitterClear t e x s
  | .sweep t x => Sys2Proof.Machine.execSweep t x s
  | .peakListDone t ch => Sys2Proof.Machine.execPeakListDone t ch s
  | .extTrigEdge t level => Sys2Proof.Machine.execExtTrigEdge t level s
  | .trigTimeout t => Sys2Proof.Machine.execTrigTimeout t s
  | .spyLatch t x => Sys2Proof.Machine.execSpyLatch t x s
  | .staveShotUnit t e => Sys2Proof.Machine.execStaveShotUnit t e s
  | .pickoffOutput t samples => Sys2Proof.Machine.execPickoffOutput t samples s
  | .demodPeriodBoundary t peak => Sys2Proof.Machine.execDemodPeriodBoundary t peak s
  | .clipResetRequest t => Sys2Proof.Machine.execClipResetRequest t s
  | .caResetTimer t => Sys2Proof.Machine.execCaResetTimer t s
  | .resetNow t x => Sys2Proof.Machine.execResetNow t x s
  | .angleRun t x => Sys2Proof.Machine.execAngleRun t x s
  | .excWrite t x => Sys2Proof.Machine.execExcWrite t x s
  | .elecFault t pin => Sys2Proof.Machine.execElecFault t pin s
  | .elecRecover t pin => Sys2Proof.Machine.execElecRecover t pin s
  | .servoPeriodStart t ax => Sys2Proof.Machine.execServoPeriodStart t ax s
  | .outputInstant t ax finished => Sys2Proof.Machine.execOutputInstant t ax finished s
  | .servoParkCmd t ax x => Sys2Proof.Machine.execServoParkCmd t ax x s
  | .unpark t ax x => Sys2Proof.Machine.execUnpark t ax x s
  | .servoSwap t ax x => Sys2Proof.Machine.execServoSwap t ax x s
  | .servoEnWrite t ax x => Sys2Proof.Machine.execServoEnWrite t ax x s
  | .parkSlewStep t => Sys2Proof.Machine.execParkSlewStep t s
  | .acqTimeout t ax => Sys2Proof.Machine.execAcqTimeout t ax s
  | .rasterStart t => Sys2Proof.Machine.execRasterStart t s
  | .encEdge t a b => Sys2Proof.Machine.execEncEdge t a b s
  | .encIndex t => Sys2Proof.Machine.execEncIndex t s
  | .pwmUpdate t => Sys2Proof.Machine.execPwmUpdate t s
  | .vbusStale t => Sys2Proof.Machine.execVbusStale t s
  | .gateFault t level => Sys2Proof.Machine.execGateFault t level s
  | .alignDone t => Sys2Proof.Machine.execAlignDone t s
  | .poseLoad t x => Sys2Proof.Machine.execPoseLoad t x s
  | .poseMatrixDone t => Sys2Proof.Machine.execPoseMatrixDone t s
  | .envApply t x => Sys2Proof.Machine.execEnvApply t x s
  | .kappaWrite t x => Sys2Proof.Machine.execKappaWrite t x s
  | .sectorClose t => Sys2Proof.Machine.execSectorClose t s
  | .envelopeReport t => Sys2Proof.Machine.execEnvelopeReport t s
  | .csiFrameStart t p fn vc => Sys2Proof.Machine.execCsiFrameStart t p fn vc s
  | .csiLine t p vc dt pixels crcOk used => Sys2Proof.Machine.execCsiLine t p vc dt pixels crcOk used s
  | .csiFrameEnd t p vc => Sys2Proof.Machine.execCsiFrameEnd t p vc s
  | .csiShortPacketIgnored t p => Sys2Proof.Machine.execCsiShortPacketIgnored t p s
  | .sotError t p => Sys2Proof.Machine.execSotError t p s
  | .feTimeout t p => Sys2Proof.Machine.execFeTimeout t p s
  | .pipelineTurn t => Sys2Proof.Machine.execPipelineTurn t s
  | .camPortEnable t p x => Sys2Proof.Machine.execCamPortEnable t p x s
  | .cciGo t p x => Sys2Proof.Machine.execCciGo t p x s
  | .cciWriteDone t p ack => Sys2Proof.Machine.execCciWriteDone t p ack s
  | .linkChange t l pcs anDone half speed => Sys2Proof.Machine.execLinkChange t l pcs anDone half speed s
  | .eqLock t l => Sys2Proof.Machine.execEqLock t l s
  | .pauseFrameRx t l bytes => Sys2Proof.Machine.execPauseFrameRx t l bytes s
  | .arpRequest t l target mac ip => Sys2Proof.Machine.execArpRequest t l target mac ip s
  | .neighborSolicitation t l target mac ip => Sys2Proof.Machine.execNeighborSolicitation t l target mac ip s
  | .icmpEchoRequest t l v6 dst mac ip bytes => Sys2Proof.Machine.execIcmpEchoRequest t l v6 dst mac ip bytes s
  | .rxDiscard t l bytes => Sys2Proof.Machine.execRxDiscard t l bytes s
  | .flushTimeout t n => Sys2Proof.Machine.execFlushTimeout t n s
  | .echoFrameRelease t n k => Sys2Proof.Machine.execEchoFrameRelease t n k s
  | .grant t p => Sys2Proof.Machine.execGrant t p s
  | .frameTxEnd t p => Sys2Proof.Machine.execFrameTxEnd t p s
  | .egressWdtBite t p => Sys2Proof.Machine.execEgressWdtBite t p s
  | .starve t p req => Sys2Proof.Machine.execStarve t p req s
  | .portFreeze t p x => Sys2Proof.Machine.execPortFreeze t p x s
  | .regionWrite t n x => Sys2Proof.Machine.execRegionWrite t n x s
  | .relayDatagram t words octets => Sys2Proof.Machine.execRelayDatagram t words octets s
  | .cordRelayTimeout t p => Sys2Proof.Machine.execCordRelayTimeout t p s
  | .rollCall t => Sys2Proof.Machine.execRollCall t s
  | .rollCallRx t ms => Sys2Proof.Machine.execRollCallRx t ms s
  | .rollCallReturn t x seeds => Sys2Proof.Machine.execRollCallReturn t x seeds s
  | .cordRequest t op q => Sys2Proof.Machine.execCordRequest t op q s
  | .cordTimeout t => Sys2Proof.Machine.execCordTimeout t s
  | .cordCheck t op q => Sys2Proof.Machine.execCordCheck t op q s
  | .cordApply t => Sys2Proof.Machine.execCordApply t s
  | .cordAbort t => Sys2Proof.Machine.execCordAbort t s
  | .cordApplyTimeout t => Sys2Proof.Machine.execCordApplyTimeout t s
  | .syncMarkerSend t => Sys2Proof.Machine.execSyncMarkerSend t s
  | .syncMarker t width => Sys2Proof.Machine.execSyncMarker t width s
  | .syncMiss t => Sys2Proof.Machine.execSyncMiss t s
  | .cordResetMarker t => Sys2Proof.Machine.execCordResetMarker t s
  | .epochAnnounce t epoch event => Sys2Proof.Machine.execEpochAnnounce t epoch event s
  | .cordHeartbeatSend t => Sys2Proof.Machine.execCordHeartbeatSend t s
  | .cordHeartbeat t mac member epoch => Sys2Proof.Machine.execCordHeartbeat t mac member epoch s
  | .cordHeartbeatTimeout t => Sys2Proof.Machine.execCordHeartbeatTimeout t s
  | .halfHeartbeatSend t h => Sys2Proof.Machine.execHalfHeartbeatSend t h s
  | .halfHeartbeat t h claim => Sys2Proof.Machine.execHalfHeartbeat t h claim s
  | .halfHeartbeatTimeout t h => Sys2Proof.Machine.execHalfHeartbeatTimeout t h s
  | .hkRoundStart t => Sys2Proof.Machine.execHkRoundStart t s
  | .hkSettleDone t => Sys2Proof.Machine.execHkSettleDone t s
  | .hkConversionDone t code => Sys2Proof.Machine.execHkConversionDone t code s
  | .hkInjectGo t x => Sys2Proof.Machine.execHkInjectGo t x s
  | .thermWindow t => Sys2Proof.Machine.execThermWindow t s
  | .thermalTrip t => Sys2Proof.Machine.execThermalTrip t s
  | .tripRelease t => Sys2Proof.Machine.execTripRelease t s
  | .sensorReadmit t x => Sys2Proof.Machine.execSensorReadmit t x s
  | .calRunStart t g => Sys2Proof.Machine.execCalRunStart t g s
  | .calTdcStepDone t g res => Sys2Proof.Machine.execCalTdcStepDone t g res s
  | .calInjStepDone t g f => Sys2Proof.Machine.execCalInjStepDone t g f s
  | .calTimingStepDone t g f => Sys2Proof.Machine.execCalTimingStepDone t g f s
  | .pkoRunDone t second => Sys2Proof.Machine.execPkoRunDone t second s
  | .journalWriteDone t ok => Sys2Proof.Machine.execJournalWriteDone t ok s
  | .compactionFlip t => Sys2Proof.Machine.execCompactionFlip t s
  | .lifeFlush t => Sys2Proof.Machine.execLifeFlush t s
  | .lifeSecond t => Sys2Proof.Machine.execLifeSecond t s
  | .serviceMark t x => Sys2Proof.Machine.execServiceMark t x s
  | .trialTimeout t => Sys2Proof.Machine.execTrialTimeout t s
  | .tallySnap t x => Sys2Proof.Machine.execTallySnap t x s
  | .dumpNow t x => Sys2Proof.Machine.execDumpNow t x s
  | .dumpPeriod t => Sys2Proof.Machine.execDumpPeriod t s
  | .dumpDone t => Sys2Proof.Machine.execDumpDone t s
  | .bwWindow t => Sys2Proof.Machine.execBwWindow t s
  | .sampleTick t => Sys2Proof.Machine.execSampleTick t s
  | .avsLoopPeriod t measured => Sys2Proof.Machine.execAvsLoopPeriod t measured s
  | .pmbusCommandDone t ack => Sys2Proof.Machine.execPmbusCommandDone t ack s
  | .pmbusStatusPoll t status => Sys2Proof.Machine.execPmbusStatusPoll t status s
  | .pmbAlert t status => Sys2Proof.Machine.execPmbAlert t status s
  | .pmbAlertTimeout t => Sys2Proof.Machine.execPmbAlertTimeout t s
  | .supplyOutOfRange t => Sys2Proof.Machine.execSupplyOutOfRange t s
  | .resetNFall t resets => Sys2Proof.Machine.execResetNFall t resets s
  | .resetRelease t role id bad0 bad1 => Sys2Proof.Machine.execResetRelease t role id bad0 bad1 s
  | .selftestDone t fails => Sys2Proof.Machine.execSelftestDone t fails s
  | .modeTransitionDone t => Sys2Proof.Machine.execModeTransitionDone t s
  | .commandReset t => Sys2Proof.Machine.execCommandReset t s
  | .watchdogBite t h => Sys2Proof.Machine.execWatchdogBite t h s
  | .wdtKick t h => Sys2Proof.Machine.execWdtKick t h s
  | .wake t how => Sys2Proof.Machine.execWake t how s
  | .wakeComplete t => Sys2Proof.Machine.execWakeComplete t s
  | .malformedPacket t src bytes => Sys2Proof.Machine.execMalformedPacket t src bytes s
  | .cordMemberAnswer t member status payload address => Sys2Proof.Machine.execCordMemberAnswer t member status payload address s
  | .resetNRise t role id => Sys2Proof.Machine.execResetNRise t role id s
  | .csiHdrEccError t p => Sys2Proof.Machine.execCsiHdrEccError t p s

end Sys2Proof.Machine
end

