-- ==== Sys2Proof/WellFormed.lean ====
section
/-! DEFINITION. Which commands a link, a pin or a converter of the part can bring: each operand within the width
that its field of the spec has. The part itself judges nothing here; a command outside these bounds cannot arrive. -/

namespace Sys2Proof

/-- A value of `n` bits. -/
def below (n x : Nat) : Bool := decide (x < 2 ^ n)

/-- Values of `n` bits. -/
def allBelow (n : Nat) (l : List Nat) : Bool := l.all (below n)

/-- A signed value of `n` bits. -/
def inside (n : Nat) (x : Int) : Bool := decide (-(2 ^ (n - 1)) ≤ x ∧ x < 2 ^ (n - 1))

/-- Addresses of the version it says, port numbers, a MAC address, a PCP and a VID. -/
def Endpoint.wellFormed (e : Endpoint) : Bool :=
  below (if e.ipv6 then 128 else 32) e.ip && below 16 e.port && below 48 e.mac &&
  below (if e.ipv6 then 128 else 32) e.dst && below 16 e.dport &&
  e.tag.all (fun p => below 3 p.1 && below 12 p.2)

/-- Only a lane's source has an endpoint. -/
def Source.wellFormed : Source → Bool
  | .lane _ ep => ep.wellFormed
  | .spi | .uart | .recipe | .device | .cordLink => true

/-- Header fields and payload words of their widths (Table 13-1). -/
def Req.wellFormed (q : Req) : Bool :=
  q.src.wellFormed && below 8 q.version && below 8 q.flags && below 16 q.status && below 32 q.seq && below 32 q.path &&
  allBelow 32 q.payload

/-- The same of a packet for one register. -/
def RegReq.wellFormed (x : RegReq) : Bool :=
  x.src.wellFormed && below 32 x.seq && below 32 x.path && below 32 x.word

/-- The data set of an Announce. -/
def PtpData.wellFormed (d : PtpData) : Bool :=
  below 8 d.priority1 && below 8 d.class0 && below 8 d.accuracy && below 16 d.variance && below 8 d.priority2 &&
  below 64 d.identity && below 16 d.steps

/-- Fields of a PTP message: domain, transport, port identities, sequence number, timestamps and data set. -/
def PtpMsg.wellFormed (m : PtpMsg) : Bool :=
  below 8 m.domain && decide (m.transport < 3) && below 80 m.sender && below 16 m.seq && below 96 m.origin &&
  below 96 m.turnaround && inside 64 m.correction && below 80 m.asked && m.data.wellFormed

/-- A code-density run has at most eight attempts, 128 counts and seven skews (R70). -/
def CdResult.wellFormed (x : CdResult) : Bool :=
  decide (x.occ.length ≤ 8) && allBelow 8 x.occ && decide (x.counts.length = 128) && decide (x.skews.length = 7)

/-- Every operand within its bounds. DESIGN CHOICE: log entry 6. -/
def Instr.wellFormed (i : Instr) : Bool :=
  match i with
  | .regRead _ q => q.wellFormed
  | .regWrite _ q => q.wellFormed
  | .regModify _ q => q.wellFormed
  | .unitRead _ q => q.wellFormed
  | .unitWrite _ q => q.wellFormed
  | .tableRead _ q => q.wellFormed
  | .tableWrite _ q => q.wellFormed
  | .tableSwap _ q => q.wellFormed
  | .modeSet _ q => q.wellFormed
  | .modeGet _ q => q.wellFormed
  | .reset _ q => q.wellFormed
  | .commit _ q => q.wellFormed
  | .calRun _ q => q.wellFormed
  | .calStatus _ q => q.wellFormed
  | .calStarter _ q => q.wellFormed
  | .nvsImageWrite _ q => q.wellFormed
  | .nvsImageActivate _ q => q.wellFormed
  | .nvsLifeRead _ q => q.wellFormed
  | .nvsCompact _ q => q.wellFormed
  | .tallySnapshot _ q => q.wellFormed
  | .tallyRead _ q => q.wellFormed
  | .tallyDump _ q => q.wellFormed
  | .cordStatus _ q => q.wellFormed
  | .cordReset _ q => q.wellFormed
  | .recipeStore _ q => q.wellFormed
  | .recipeRead _ q => q.wellFormed
  | .recipeEnable _ q => q.wellFormed
  | .recipeDelete _ q => q.wellFormed
  | .recipeRun _ q => q.wellFormed
  | .selftestReport _ q => q.wellFormed
  | .faultLogRead _ q => q.wellFormed
  | .faultLogClear _ q => q.wellFormed
  | .ident _ q => q.wellFormed
  | .timeGet _ q => q.wellFormed
  | .timeOfDay _ q => q.wellFormed
  | .acquire _ => true
  | .acquireTimeout _ => true
  | .release _ => true
  | .wait _ => true
  | .waitExpire _ => true
  | .recipeStart _ => true
  | .recipeStep _ => true
  | .hspiRead _ x => below 8 x.command
  | .uartFrameError _ => true
  | .uartGapTimeout _ => true
  | .refLost _ => true
  | .refFreqWindow _ hz => decide (hz % 10000 = 0)
  | .refWarmChange _ _ => true
  | .pllLock _ => true
  | .refReturn _ => true
  | .xtalFault _ => true
  | .xtalReturn _ => true
  | .timeStepGo _ x => x.wellFormed
  | .timeStepApply _ => true
  | .timeNowLatch _ x => x.wellFormed
  | .syncSrcChange _ x => x.wellFormed
  | .ptpSync _ _ m => m.wellFormed
  | .ptpFollowUp _ _ m => m.wellFormed
  | .ptpDelayResp _ _ m => m.wellFormed
  | .ptpPdelayReq _ _ m => m.wellFormed
  | .ptpPdelayResp _ _ m => m.wellFormed
  | .ptpAnnounce _ _ m => m.wellFormed
  | .announceTimeout _ => true
  | .syncHoldExpire _ => true
  | .ppsEdge _ _ eighth => below 3 eighth
  | .ppsMissing _ => true
  | .xtalBinMeasure _ _ => true
  | .xtalBinJournal _ => true
  | .refTuneStep _ => true
  | .tdcEdge _ _ _ _ _ _ => true
  | .tdcModeWrite _ x => x.wellFormed
  | .dllLock _ _ => true
  | .statStart _ _ x => x.wellFormed
  | .statAbort _ _ x => x.wellFormed
  | .statTimeout _ _ => true
  | .tdcLastLatch _ _ x => x.wellFormed
  | .windowClose _ _ => true
  | .injWindowClose _ _ => true
  | .rxFeCfgWrite _ _ x => x.wellFormed
  | .rxThresholdWrite _ _ x b => x.wellFormed && below 32 b
  | .gainStall _ _ => true
  | .dcUpdate _ _ est => below 16 est
  | .backgroundEvent _ _ => true
  | .adaptPeriod _ _ => true
  | .biasRampStep _ _ => true
  | .xbarSubst _ _ x => x.wellFormed
  | .xbarSwitchTimeout _ _ => true
  | .injGo _ _ x => x.wellFormed
  | .injStop _ _ x => x.wellFormed
  | .injPulse _ _ => true
  | .laserPermitLow _ => true
  | .laserPermitHigh _ => true
  | .permitHoldExpire _ => true
  | .frameBoundary _ => true
  | .restoreHoldExpire _ => true
  | .slotExecute _ _ _ => true
  | .csEvaluate _ _ peak rise => below 16 peak && below 16 rise
  | .eyeWindowEnd _ => true
  | .diagIntervalEnd _ => true
  | .kerfStart _ => true
  | .kerfEnd _ => true
  | .proofShot _ _ => true
  | .schedSwap _ x => x.wellFormed
  | .emitterClear _ _ x => x.wellFormed
  | .sweep _ x => x.wellFormed
  | .peakListDone _ _ => true
  | .extTrigEdge _ _ => true
  | .trigTimeout _ => true
  | .spyLatch _ x => x.wellFormed
  | .staveShotUnit _ _ => true
  | .pickoffOutput _ samples => samples.all (fun p => inside 14 p.1)
  | .demodPeriodBoundary _ peak => decide (peak ≤ 8192)
  | .clipResetRequest _ => true
  | .caResetTimer _ => true
  | .resetNow _ x => x.wellFormed
  | .angleRun _ x => x.wellFormed
  | .excWrite _ x => x.wellFormed
  | .elecFault _ _ => true
  | .elecRecover _ _ => true
  | .servoPeriodStart _ _ => true
  | .outputInstant _ _ _ => true
  | .servoParkCmd _ _ x => x.wellFormed
  | .unpark _ _ x => x.wellFormed
  | .servoSwap _ _ x => x.wellFormed
  | .servoEnWrite _ _ x => x.wellFormed
  | .parkSlewStep _ => true
  | .acqTimeout _ _ => true
  | .rasterStart _ => true
  | .encEdge _ _ _ => true
  | .encIndex _ => true
  | .pwmUpdate _ => true
  | .vbusStale _ => true
  | .gateFault _ _ => true
  | .alignDone _ => true
  | .poseLoad _ x => x.wellFormed
  | .poseMatrixDone _ => true
  | .envApply _ x => x.wellFormed
  | .kappaWrite _ x => x.wellFormed
  | .sectorClose _ => true
  | .envelopeReport _ => true
  | .csiFrameStart _ _ fn _ => below 16 fn
  | .csiLine _ _ _ dt pixels _ _ => below 6 dt && allBelow 12 pixels
  | .csiFrameEnd _ _ _ => true
  | .csiShortPacketIgnored _ _ => true
  | .sotError _ _ => true
  | .feTimeout _ _ => true
  | .pipelineTurn _ => true
  | .camPortEnable _ _ x => x.wellFormed
  | .cciGo _ _ x => x.wellFormed
  | .cciWriteDone _ _ _ => true
  | .linkChange _ _ _ _ _ speed => below 2 speed
  | .eqLock _ _ => true
  | .pauseFrameRx _ _ _ => true
  | .arpRequest _ _ target mac ip => below 32 target && below 48 mac && below 32 ip
  | .neighborSolicitation _ _ target mac ip => below 128 target && below 48 mac && below 128 ip
  | .icmpEchoRequest _ _ _ dst mac ip _ => below 128 dst && below 48 mac && below 128 ip
  | .rxDiscard _ _ _ => true
  | .flushTimeout _ _ => true
  | .echoFrameRelease _ _ k => below 32 k
  | .grant _ _ => true
  | .frameTxEnd _ _ => true
  | .egressWdtBite _ _ => true
  | .starve _ _ _ => true
  | .portFreeze _ _ x => x.wellFormed
  | .regionWrite _ _ x => x.wellFormed
  | .relayDatagram _ words octets => allBelow 64 words && allBelow 8 octets
  | .cordRelayTimeout _ _ => true
  | .rollCall _ => true
  | .rollCallRx _ ms => allBelow 3 ms
  | .rollCallReturn _ x seeds => below 8 x.lead && x.members.all (fun e => below 3 e.1 && below 8 e.2.1) && allBelow 32 seeds
  | .cordRequest _ op q => below 16 op && q.wellFormed
  | .cordTimeout _ => true
  | .cordCheck _ op q => below 16 op && q.wellFormed
  | .cordApply _ => true
  | .cordAbort _ => true
  | .cordApplyTimeout _ => true
  | .syncMarkerSend _ => true
  | .syncMarker _ _ => true
  | .syncMiss _ => true
  | .cordResetMarker _ => true
  | .epochAnnounce _ epoch event => below 32 epoch && below 4 event
  | .cordHeartbeatSend _ => true
  | .cordHeartbeat _ mac member epoch => below 48 mac && below 3 member && below 32 epoch
  | .cordHeartbeatTimeout _ => true
  | .halfHeartbeatSend _ _ => true
  | .halfHeartbeat _ _ _ => true
  | .halfHeartbeatTimeout _ _ => true
  | .hkRoundStart _ => true
  | .hkSettleDone _ => true
  | .hkConversionDone _ code => below 14 code
  | .hkInjectGo _ x => x.wellFormed
  | .thermWindow _ => true
  | .thermalTrip _ => true
  | .tripRelease _ => true
  | .sensorReadmit _ x => x.wellFormed
  | .calRunStart _ _ => true
  | .calTdcStepDone _ _ res => res.wellFormed
  | .calInjStepDone _ _ _ => true
  | .calTimingStepDone _ _ _ => true
  | .pkoRunDone _ _ => true
  | .journalWriteDone _ _ => true
  | .compactionFlip _ => true
  | .lifeFlush _ => true
  | .lifeSecond _ => true
  | .serviceMark _ x => x.wellFormed
  | .trialTimeout _ => true
  | .tallySnap _ x => x.wellFormed
  | .dumpNow _ x => x.wellFormed
  | .dumpPeriod _ => true
  | .dumpDone _ => true
  | .bwWindow _ => true
  | .sampleTick _ => true
  | .avsLoopPeriod _ _ => true
  | .pmbusCommandDone _ _ => true
  | .pmbusStatusPoll _ status => below 16 status
  | .pmbAlert _ status => below 16 status
  | .pmbAlertTimeout _ => true
  | .supplyOutOfRange _ => true
  | .resetNFall _ _ => true
  | .resetRelease _ _ _ _ _ => true
  | .selftestDone _ fails => fails.all (fun p => below 5 p.1 && below 9 p.2)
  | .modeTransitionDone _ => true
  | .commandReset _ => true
  | .watchdogBite _ _ => true
  | .wdtKick _ _ => true
  | .wake _ _ => true
  | .wakeComplete _ => true
  | .malformedPacket _ src bytes => src.wellFormed && allBelow 8 bytes
  | .cordMemberAnswer _ member status payload address =>
    below 3 member && below 16 status && allBelow 32 payload && below 32 address
  | .resetNRise _ _ _ => true
  | .csiHdrEccError _ _ => true

end Sys2Proof
end

