-- ==== Sys2Proof/Safety.lean ====
section
/-! DEFINITION. The words in which claims about the block are stated: what a command answers, when a command is heard
and a packet accepted, and what a safe state is. -/

namespace Sys2Proof.Machine

/-- The next state of a command that arrives at coarse count `t` in the state `s` and whose effect leaves `r`: the
queue is that of `s`, and the clock stands at the later of the two counts. -/
def gives (t : Nat) (s r : State) : Res :=
  .next { r with
          pending := s.pending
          now := max s.now t }

/-- A command completes in a state of which `P` holds. -/
def answers (o : Res) (P : State → Prop) : Prop := ∃ r, o = .next r ∧ P r

namespace State

/-- The internal reset is not held (R436). -/
def Live (s : State) : Prop := s.boot.phase ≠ BootPhase.held

/-- The part's blocks run: the internal reset is not held, and the part is not in PARK (R452). -/
def Awake (s : State) : Prop := s.Live ∧ s.mode ≠ Mode.park

/-- `a` is `s` at the arrival of a command at coarse count `t`, and its internal reset is not held. -/
def LiveAt (t : Nat) (s a : State) : Prop := a = s.arrive t ∧ a.Live

/-- The same of a state whose blocks run. -/
def AwakeAt (t : Nat) (s a : State) : Prop := a = s.arrive t ∧ a.Awake

/-- The same at the arrival of a command that acts before the fire edges of its own instant. -/
def AwakeFirstAt (t : Nat) (s a : State) : Prop := a = s.arriveFirst t ∧ a.Awake

/-! ### Requests -/

/-- A request that a transport receives at `a` and that steps 4 to 12 of Table 13-3 let through, to be executed by
this device. -/
def accepts (a : State) (sp : OpSpec) (q : Req) : Bool :=
  let b := a.countPacket q
  a.receives q.src && a.addressed q.src && !b.coreBusy q.src.core && q.flags % 2 == 0 && (b.duplicateOf q).isNone &&
  (q.version == 1 || q.version == 2) && q.flags / 4 == 0 && q.status == 0 && b.route sp.opcode q == .here && (b.checks8to12 sp q).isNone

/-- `b` is the state in which an accepted request, arriving in `s` at coarse count `t`, is executed. -/
def Runs (t : Nat) (s : State) (sp : OpSpec) (q : Req) (b : State) : Prop :=
  (s.arrive t).accepts sp q = true ∧ b = ((s.arrive t).countPacket q).commandBegins

/-- What follows the execution of an accepted request in the state `b`: its reply and fault-log entry, the
announcement that it may owe the cord, and the recipe that may have waited. -/
def concluded (b : State) (sp : OpSpec) (q : Req) (r : OpResult) : State :=
  ((b.finish q sp.opcode { r with state := r.state.commandEnds }).announce b).recipeResume

end State

/-- The rows of Table 13-5: the opcode and the packet that a command brings. -/
def requestOf (i : Instr) : Option (OpSpec × Req) :=
  match i with
  | .regRead _ q => some (Op.regRead, q)
  | .regWrite _ q => some (Op.regWrite, q)
  | .regModify _ q => some (Op.regModify, q)
  | .unitRead _ q => some (Op.unitRead, q)
  | .unitWrite _ q => some (Op.unitWrite, q)
  | .tableRead _ q => some (Op.tableRead, q)
  | .tableWrite _ q => some (Op.tableWrite, q)
  | .tableSwap _ q => some (Op.tableSwap, q)
  | .modeSet _ q => some (Op.modeSet, q)
  | .modeGet _ q => some (Op.modeGet, q)
  | .reset _ q => some (Op.reset, q)
  | .commit _ q => some (Op.commit, q)
  | .calRun _ q => some (Op.calRun, q)
  | .calStatus _ q => some (Op.calStatus, q)
  | .calStarter _ q => some (Op.calStarter, q)
  | .nvsImageWrite _ q => some (Op.imageWrite, q)
  | .nvsImageActivate _ q => some (Op.imageActivate, q)
  | .nvsLifeRead _ q => some (Op.lifeRead, q)
  | .nvsCompact _ q => some (Op.compact, q)
  | .tallySnapshot _ q => some (Op.tallySnapshot, q)
  | .tallyRead _ q => some (Op.tallyRead, q)
  | .tallyDump _ q => some (Op.tallyDump, q)
  | .cordStatus _ q => some (Op.cordStatus, q)
  | .cordReset _ q => some (Op.cordReset, q)
  | .recipeStore _ q => some (Op.recipeStore, q)
  | .recipeRead _ q => some (Op.recipeRead, q)
  | .recipeEnable _ q => some (Op.recipeEnable, q)
  | .recipeDelete _ q => some (Op.recipeDelete, q)
  | .recipeRun _ q => some (Op.recipeRun, q)
  | .selftestReport _ q => some (Op.selftestReport, q)
  | .faultLogRead _ q => some (Op.faultRead, q)
  | .faultLogClear _ q => some (Op.faultClear, q)
  | .ident _ q => some (Op.ident, q)
  | .timeGet _ q => some (Op.timeGet, q)
  | .timeOfDay _ q => some (Op.timeOfDay, q)
  | _ => none

/-- The rows that are a write of one register: the packet, the register's address and the row's action bit. -/
def writeOf (i : Instr) : Option (RegReq × Nat × Nat) :=
  match i with
  | .timeStepGo _ x => some (x, A.TIME_STEP_CTRL, 1)
  | .syncSrcChange _ x => some (x, A.TIME_SYNC_CTRL, 0)
  | .tdcModeWrite _ x => some (x, A.TDC_CTRL, 0)
  | .statStart _ h x => some (x, A.TDC_STAT_CTRL h.num, (2 ^ 31))
  | .statAbort _ h x => some (x, A.TDC_STAT_CTRL h.num, (2 ^ 30))
  | .rxFeCfgWrite _ f x => some (x, A.RX_FE_CFG f, 0)
  | .xbarSubst _ g x => some (x, A.RX_OCT_XBAR g, 0)
  | .injGo _ g x => some (x, A.RX_OCT_INJ_CTRL g, (2 ^ 31))
  | .injStop _ g x => some (x, A.RX_OCT_INJ_CTRL g, (2 ^ 30))
  | .schedSwap _ x => some (x, A.FIRE_SCHED, (2 ^ 31))
  | .emitterClear _ e x => some (x, A.FIRE_EM_STATUS e, (2 ^ 31))
  | .sweep _ x => some (x, A.FIRE_DIAG_CTRL, (2 ^ 31))
  | .resetNow _ x => some (x, A.ANGLE_CTRL, (2 ^ 31))
  | .angleRun _ x => some (x, A.ANGLE_CTRL, 0)
  | .excWrite _ x => some (x, A.ANGLE_EXC, 0)
  | .servoParkCmd _ ax x => some (x, A.SERVO_AXIS_CTRL ax.num, (2 ^ 30))
  | .unpark _ ax x => some (x, A.SERVO_AXIS_CTRL ax.num, (2 ^ 31))
  | .servoSwap _ ax x => some (x, A.SERVO_AXIS_CTRL ax.num, (2 ^ 29))
  | .servoEnWrite _ ax x => some (x, A.SERVO_AXIS_CTRL ax.num, 0)
  | .poseLoad _ x => some (x, A.GEOM_POSE_CTRL, (2 ^ 31))
  | .envApply _ x => some (x, A.GEOM_ENV_CTRL, 0)
  | .kappaWrite _ x => some (x, A.GEOM_CURV, 0)
  | .camPortEnable _ p x => some (x, A.CAM_PORT_CFG p, 0)
  | .cciGo _ p x => some (x, A.CAM_CCI_CTRL p, (2 ^ 31))
  | .portFreeze _ p x => some (x, A.LAND_PORT_CTRL p, 0)
  | .regionWrite _ n x => some (x, A.LAND_REGION n, 0)
  | .hkInjectGo _ x => some (x, A.HK_INJECT, (2 ^ 31))
  | .sensorReadmit _ x => some (x, A.THERM_SENS_FAIL, 0)
  | .serviceMark _ x => some (x, A.LIFE_EVENT, (2 ^ 31))
  | .tallySnap _ x => some (x, A.TALLY_SNAP, (2 ^ 31))
  | .dumpNow _ x => some (x, A.TALLY_DUMP_CFG, (2 ^ 31))
  | _ => none

/-- The rows that are a read of one register: the packet and the register's address. -/
def readOf (i : Instr) : Option (RegReq × Nat) :=
  match i with
  | .timeNowLatch _ x => some (x, A.TIME_NOW_SEC_HI)
  | .tdcLastLatch _ f x => some (x, A.TDC_FE_LAST_FLAGS f)
  | .spyLatch _ x => some (x, A.ACQ_SPY_INFO)
  | _ => none

/-- The commands that act while the internal reset is held: the laser permit, the supplies, RESET_N, the trip, the
release itself, and the levels of PMB_ALERT_N and GATE_FAULT_N (R119, R244, R383, R436, R438, R466). -/
def actsInReset (i : Instr) : Bool :=
  match i with
  | .laserPermitLow _ => true
  | .laserPermitHigh _ => true
  | .permitHoldExpire _ => true
  | .thermalTrip _ => true
  | .tripRelease _ => true
  | .supplyOutOfRange _ => true
  | .resetNFall _ _ => true
  | .resetRelease _ _ _ _ _ => true
  | .resetNRise _ _ _ => true
  | .pmbAlert _ _ => true
  | .gateFault _ _ => true
  | _ => false

/-- The commands of the blocks that stop in PARK (R452). -/
def stopsInPark (i : Instr) : Bool :=
  match i with
  | .acquire _ => true
  | .acquireTimeout _ => true
  | .release _ => true
  | .wait _ => true
  | .waitExpire _ => true
  | .recipeStart _ => true
  | .recipeStep _ => true
  | .refReturn _ => true
  | .ptpSync _ _ _ => true
  | .ptpFollowUp _ _ _ => true
  | .ptpDelayResp _ _ _ => true
  | .ptpPdelayReq _ _ _ => true
  | .ptpPdelayResp _ _ _ => true
  | .ptpAnnounce _ _ _ => true
  | .announceTimeout _ => true
  | .syncHoldExpire _ => true
  | .ppsEdge _ _ _ => true
  | .ppsMissing _ => true
  | .xtalBinMeasure _ _ => true
  | .xtalBinJournal _ => true
  | .refTuneStep _ => true
  | .tdcEdge _ _ _ _ _ _ => true
  | .dllLock _ _ => true
  | .statTimeout _ _ => true
  | .windowClose _ _ => true
  | .injWindowClose _ _ => true
  | .gainStall _ _ => true
  | .dcUpdate _ _ _ => true
  | .backgroundEvent _ _ => true
  | .adaptPeriod _ _ => true
  | .biasRampStep _ _ => true
  | .xbarSwitchTimeout _ _ => true
  | .injPulse _ _ => true
  | .frameBoundary _ => true
  | .restoreHoldExpire _ => true
  | .slotExecute _ _ _ => true
  | .csEvaluate _ _ _ _ => true
  | .diagIntervalEnd _ => true
  | .kerfStart _ => true
  | .kerfEnd _ => true
  | .proofShot _ _ => true
  | .peakListDone _ _ => true
  | .extTrigEdge _ _ => true
  | .trigTimeout _ => true
  | .staveShotUnit _ _ => true
  | .pickoffOutput _ _ => true
  | .demodPeriodBoundary _ _ => true
  | .clipResetRequest _ => true
  | .caResetTimer _ => true
  | .elecFault _ _ => true
  | .elecRecover _ _ => true
  | .servoPeriodStart _ _ => true
  | .outputInstant _ _ _ => true
  | .parkSlewStep _ => true
  | .acqTimeout _ _ => true
  | .rasterStart _ => true
  | .encEdge _ _ _ => true
  | .encIndex _ => true
  | .pwmUpdate _ => true
  | .vbusStale _ => true
  | .alignDone _ => true
  | .poseMatrixDone _ => true
  | .sectorClose _ => true
  | .envelopeReport _ => true
  | .csiFrameStart _ _ _ _ => true
  | .csiLine _ _ _ _ _ _ _ => true
  | .csiFrameEnd _ _ _ => true
  | .csiShortPacketIgnored _ _ => true
  | .sotError _ _ => true
  | .feTimeout _ _ => true
  | .pipelineTurn _ => true
  | .cciWriteDone _ _ _ => true
  | .linkChange _ _ _ _ _ _ => true
  | .eqLock _ _ => true
  | .pauseFrameRx _ _ _ => true
  | .arpRequest _ _ _ _ _ => true
  | .neighborSolicitation _ _ _ _ _ => true
  | .icmpEchoRequest _ _ _ _ _ _ _ => true
  | .rxDiscard _ _ _ => true
  | .flushTimeout _ _ => true
  | .echoFrameRelease _ _ _ => true
  | .grant _ _ => true
  | .frameTxEnd _ _ => true
  | .egressWdtBite _ _ => true
  | .starve _ _ _ => true
  | .relayDatagram _ _ _ => true
  | .cordRelayTimeout _ _ => true
  | .rollCall _ => true
  | .rollCallRx _ _ => true
  | .rollCallReturn _ _ _ => true
  | .cordRequest _ _ _ => true
  | .cordTimeout _ => true
  | .cordCheck _ _ _ => true
  | .cordApply _ => true
  | .cordAbort _ => true
  | .cordApplyTimeout _ => true
  | .syncMarkerSend _ => true
  | .syncMarker _ _ => true
  | .syncMiss _ => true
  | .cordResetMarker _ => true
  | .epochAnnounce _ _ _ => true
  | .cordHeartbeatSend _ => true
  | .cordHeartbeat _ _ _ _ => true
  | .cordHeartbeatTimeout _ => true
  | .halfHeartbeatSend _ _ => true
  | .halfHeartbeat _ _ _ => true
  | .halfHeartbeatTimeout _ _ => true
  | .hkRoundStart _ => true
  | .hkSettleDone _ => true
  | .hkConversionDone _ _ => true
  | .thermWindow _ => true
  | .calRunStart _ _ => true
  | .calTdcStepDone _ _ _ => true
  | .calInjStepDone _ _ _ => true
  | .calTimingStepDone _ _ _ => true
  | .pkoRunDone _ _ => true
  | .dumpPeriod _ => true
  | .dumpDone _ => true
  | .bwWindow _ => true
  | .sampleTick _ => true
  | .avsLoopPeriod _ _ => true
  | .modeTransitionDone _ => true
  | .cordMemberAnswer _ _ _ _ _ => true
  | .csiHdrEccError _ _ => true
  | _ => false

/-- The commands that act before the fire edges of their own instant (R120, R218, R481; log entry 39). -/
def actsFirst (i : Instr) : Bool :=
  match i with
  | .frameBoundary _ => true
  | .pickoffOutput _ _ => true
  | _ => false

/-- A release of the internal reset. -/
def isRelease (i : Instr) : Bool :=
  match i with
  | .resetRelease _ _ _ _ _ => true
  | _ => false

/-- The internal reset is held, FIRE_ALLOW is low, no shot is on its way to its edge, and no release waits. DEDUCED:
log entry 125. -/
def State.darkReset (s : State) : Bool :=
  s.boot.phase == BootPhase.held && !s.permits.allow && s.fire.queue.isEmpty && !s.pending.any isRelease

/-- The register file, the tables and the control counters have their canonical form; the fault log holds at most 16
entries (R328), a core's kept replies 8 (R319), a core's input queue 8 and the SPI reply queue 4 (R320), the recipe
queue 8 (R340); MODE and TARGET are codes of Table 19-2. -/
def State.sound (s : State) : Bool :=
  Sparse.wf resetWord s.regs && Sparse.wf tabReset s.tabs && Sparse.wf (fun _ => 0) s.tally.live &&
  decide (s.cmd.faults.length ≤ 16) && decide (s.cmd.keptN.length ≤ 8) && decide (s.cmd.keptS.length ≤ 8) &&
  decide (s.cmd.inN.length ≤ 8) && decide (s.cmd.inS.length ≤ 8) && decide (s.cmd.spiQ.length ≤ 4) &&
  decide (s.cmd.queue.length ≤ 8) && decide (s.mode ≤ 7) && decide (s.rd F.DEV_MODE_TARGET ≤ 7)

/-- FIRE_ALLOW is low while LASER_PERMIT is low (R119). -/
def State.permitHeeded (s : State) : Bool := s.permits.laser || !s.permits.allow

end Sys2Proof.Machine
end

