-- ==== Sys2Proof/Certificates/Slice0/Obligations.lean ====
section
/-! DEFINITION. The statements about the block: what its step does, what reset leaves, how each command completes, and
what the state keeps whatever is commanded. -/

open Sys2Proof Sys2Proof.Machine

/-! ### The step and reset -/

/-- A step with a command at the front of the queue is `exec` of that command on the state with the queue's rest; on
an empty queue the block idles (a design choice, log entry 1). -/
def Obligations.StepRunsTheFrontCommand : Prop :=
  (∀ (c : Instr) (rest : List Instr) (s : State),
     step { s with pending := c :: rest } = exec c { s with pending := rest }) ∧
  (∀ s : State, s.pending = [] → step s = .next s)

/-- R436, Table 19-4: after power-on the internal reset is held, FIRE_ALLOW, LASER_PERMIT and both halves' permits are
low, no shot waits or is driven, the queue is empty, every register reads the reset value of its register table, and
the register file, the tables and the tally are in their canonical form. The model's choices: the strap, factory and
journal fields at 0 or at a value of Config (log entry 3), the state outside the registers at 0 or empty (log entry
2), and the permits low at reset (log entry 37). -/
def Obligations.ResetLeavesEveryRegisterAtItsResetValue : Prop :=
  State.reset.boot.phase = BootPhase.held ∧ State.reset.pending = [] ∧
  (∀ a, State.reset.word a = (resetWord a).toNat) ∧
  (∀ t u o, State.reset.tab t u o = (tabReset (State.tabKey t u o)).toNat) ∧
  State.reset.permits.allow = false ∧ State.reset.flag F.FIRE_STATUS_FIRE_ALLOW = false ∧ State.reset.allowNow = false ∧
  State.reset.flag F.FIRE_STATUS_PERMIT_N = false ∧ State.reset.flag F.FIRE_STATUS_PERMIT_S = false ∧
  State.reset.permits.north = false ∧ State.reset.permits.south = false ∧ State.reset.permits.laser = false ∧
  State.reset.fire.queue = [] ∧ State.reset.fire.shots = [] ∧ State.reset.fire.running = false ∧
  State.reset.mode = Mode.selftest ∧
  Sparse.wf resetWord State.reset.regs = true ∧ Sparse.wf tabReset State.reset.tabs = true ∧
  Sparse.wf (fun _ => 0) State.reset.tally.live = true

/-! ### Whatever is commanded -/

/-- Every command completes: it answers a next state, which keeps the queue and whose clock is the later of the two
coarse counts. The model's choice (log entry 5): a command stands for its own instant, answers a next state whatever
the state, and changes nothing where its condition fails. -/
def Obligations.EveryCommandCompletes : Prop :=
  ∀ (i : Instr) (s : State), answers (exec i s) (fun r => r.pending = s.pending ∧ r.now = max s.now i.time)

/-- A step takes the front command alone from the queue and moves the clock to the later of the two coarse counts; as
many steps as commands wait empty the queue, and leave the clock at the latest of their coarse counts. The model's
choices: time passes by commands alone (log entry 1), each at its own instant (log entry 5). -/
def Obligations.QueueDrains : Prop :=
  (∀ (s : State) (c : Instr) (rest : List Instr), s.pending = c :: rest →
    answers (step s) (fun r => r.pending = rest ∧ r.now = max s.now c.time)) ∧
  (∀ s : State, ∃ r, core.run s.pending.length s = .next r ∧ r.pending = [] ∧
    r.now = s.pending.foldl (fun n c => max n c.time) s.now)

/-- R436: while the internal reset is held, a command other than a pin's level, a supply, the trip or the release has
no effect beyond its arrival. R452: in PARK, a command of a block that stops there has no effect beyond its arrival.
The model's reading: which commands have no effect while the reset is held and in PARK (log entry 78), and that the
fire edges of a frame boundary's and a pickoff output's own instant come after it (log entry 39). -/
def Obligations.HeldResetAndParkIgnoreCommands : Prop :=
  ((∀ (i : Instr) (s a : State), a = s.arrive i.time → a.boot.phase = BootPhase.held → actsInReset i = false →
     actsFirst i = false → exec i s = gives i.time s a) ∧
   (∀ (i : Instr) (s a : State), a = s.arriveFirst i.time → a.boot.phase = BootPhase.held → actsFirst i = true →
     exec i s = gives i.time s (a.launchDue i.time))) ∧
  ((∀ (i : Instr) (s a : State), a = s.arrive i.time → a.mode = Mode.park → stopsInPark i = true → actsFirst i = false →
     exec i s = gives i.time s a) ∧
   (∀ (i : Instr) (s a : State), a = s.arriveFirst i.time → a.mode = Mode.park → actsFirst i = true →
     exec i s = gives i.time s (a.launchDue i.time)))

/-- R119, R436, R438: a state whose internal reset is held, whose FIRE_ALLOW is low, in which no shot is on its way
and whose queue holds no release is left by every step as a state of the same kind. The model's choices: the empty
queue idles (log entry 1), and what is heard while the reset is held (log entry 78). -/
def Obligations.HeldResetStaysDark : Prop :=
  ∀ s r : State, s.darkReset = true → step s = .next r → r.darkReset = true

/-- R319, R320, R322, R328, R340, R445: every step keeps the canonical form of the register file, of the tables and of
the control counters, the bound of every queue and of the fault log, and a mode code of 0 to 7 in MODE and TARGET. The
form of the stores, and that the commands wait in State, are the model's (log entries 1, 2 and 77). -/
def Obligations.EveryStepKeepsTheForms : Prop :=
  ∀ s r : State, s.sound = true → step s = .next r → r.sound = true

/-- R119, R120: whatever is commanded, FIRE_ALLOW is low where LASER_PERMIT is. FIRE_ALLOW is refreshed at each change
of its conditions (log entries 37 and 39, the model's reading). -/
def Obligations.EveryStepHeedsLaserPermit : Prop :=
  ∀ s r : State, s.permitHeeded = true → step s = .next r → r.permitHeeded = true

/-- The state after power-on is dark, its stores have their canonical form, its queues their bounds and MODE a code of
0 to 7, and FIRE_ALLOW is low with LASER_PERMIT: what every step keeps holds at power-on. That the permits are low at
reset is the model's choice (log entry 37). -/
def Obligations.PowerOnIsDark : Prop :=
  State.reset.darkReset = true ∧ State.reset.sound = true ∧ State.reset.permitHeeded = true

/-! ### Requests -/

/-- Table 13-3: a request that steps 4 to 12 let through is executed by its opcode's own rules, on the state in which
the packet has been counted, and then answered. The model's choices: a request is executed in no time of its own (log
entry 77), at its command's instant (log entry 5). -/
def Obligations.AcceptedRequestsRunTheirOpcode : Prop :=
  ∀ (i : Instr) (sp : OpSpec) (q : Req) (s b : State), requestOf i = some (sp, q) → State.Runs i.time s sp q b →
    exec i s = gives i.time s (b.concluded sp q (sp.core (asLocal q b) b))

/-- R330: the rows that are a write of one register: where the packet is accepted and the word passes the checks, the
word is written, with what the write starts, and answered OK. R97, R330: RX_THRESHOLD_WRITE writes both threshold
words of a front end in one command. The model's choices: these rows stand for whole packets (log entry 83), and a
multi-word write takes effect whole or not at all (log entry 8). -/
def Obligations.RegisterWriteRows : Prop :=
  (∀ (i : Instr) (x : RegReq) (address bit : Nat) (s b c : State), writeOf i = some (x, address, bit) →
     State.Runs i.time s Op.regWrite (x.write address bit) b →
     b.hostWrite [(address, x.word ||| bit)] = (c, none) →
     exec i s = gives i.time s (b.concluded Op.regWrite (x.write address bit) (OpResult.ok c))) ∧
  (∀ (t : Nat) (f : Fin 264) (x : RegReq) (w : Nat) (s b c : State),
     State.Runs t s Op.regWrite (x.writeTwo (A.RX_FE_THR_A f) w) b →
     b.hostWrite [(A.RX_FE_THR_A f, x.word), (A.RX_FE_THR_B f, w)] = (c, none) →
     exec (.rxThresholdWrite t f x w) s = gives t s (b.concluded Op.regWrite (x.writeTwo (A.RX_FE_THR_A f) w) (OpResult.ok c)))

/-- R49, R169, R461, R482: the rows that are a read of one register: where the packet is accepted, the register is
latched, read and returned. That these rows stand for whole packets is the model's choice (log entry 83). -/
def Obligations.RegisterReadRows : Prop :=
  ∀ (i : Instr) (x : RegReq) (address : Nat) (s b : State), readOf i = some (x, address) →
    State.Runs i.time s Op.regRead (x.read address) b →
    exec i s = gives i.time s (b.concluded Op.regRead (x.read address)
      (OpResult.reply [(b.hostRead address).2] (b.hostRead address).1))

/-- REG_READ returns the words of mapped registers in ascending address; REG_WRITE writes them whole and REG_MODIFY
returns the word before it writes the merged one (R330); UNIT_READ returns the words of every unit addressed in
ascending global number, and UNIT_WRITE writes the same words to each (R10, R11, R331). The model's reading: the order
of the tests of a written word (log entries 7 and 124), the words of one command together (log entry 8), and unit
requests (log entry 10). -/
def Obligations.RegisterOpcodesComplete : Prop :=
  ∀ (t : Nat) (q : Req) (s b c : State) (l : List Nat) (v : Nat) (r : RegAt) (u : UnitSet),
    (State.Runs t s Op.regRead q b → 1 ≤ q.arg 1 → q.arg 1 ≤ 2048 → (q.version = 1 → q.arg 1 = 1) →
      firstUnmapped (addrRun (q.arg 0) 4 (q.arg 1)) = none →
      exec (.regRead t q) s = gives t s (b.concluded Op.regRead q
        (OpResult.reply (b.hostReads (addrRun (q.arg 0) 4 (q.arg 1))).2 (b.hostReads (addrRun (q.arg 0) 4 (q.arg 1))).1))) ∧
    (State.Runs t s Op.regWrite q b → b.hostWrite (addrWords (q.arg 0) (q.payload.drop 1)) = (c, none) →
      exec (.regWrite t q) s = gives t s (b.concluded Op.regWrite q (OpResult.ok c))) ∧
    (State.Runs t s Op.regModify q b → findReg (q.arg 0) = some r →
      v = State.modifyWord r.reg (b.word (q.arg 0)) (q.arg 1) (q.arg 2) → b.checkWords [(q.arg 0, v)] = (c, none) →
      exec (.regModify t q) s = gives t s (b.concluded Op.regModify q
        (OpResult.reply [(c.hostRead (q.arg 0)).2] ((c.hostRead (q.arg 0)).1.putWords [(q.arg 0, v)])))) ∧
    (State.Runs t s Op.unitRead q b → q.version = 2 → 1 ≤ q.arg 1 → q.arg 1 ≤ 64 → unitRefusal (q.arg 0) (q.arg 1) = none →
      unitSetOf (q.arg 0) = some u →
      l = (unitsOf u.kind (UPath.ofNat q.path)).flatMap (fun i => addrRun (q.arg 0 + u.stride * i) 4 (q.arg 1)) →
      exec (.unitRead t q) s = gives t s (b.concluded Op.unitRead q (OpResult.reply (b.hostReads l).2 (b.hostReads l).1))) ∧
    (State.Runs t s Op.unitWrite q b → q.version = 2 → unitRefusal (q.arg 0) (q.payload.drop 1).length = none →
      unitSetOf (q.arg 0) = some u →
      (unitsOf u.kind (UPath.ofNat q.path)).foldl
        (State.checkUnit (b.viewAfter ((unitsOf u.kind (UPath.ofNat q.path)).flatMap
          (fun i => addrWords (q.arg 0 + u.stride * i) (q.payload.drop 1)))) (q.arg 0) u.stride (q.payload.drop 1))
        (b, none) = (c, none) →
      (((unitsOf u.kind (UPath.ofNat q.path)).flatMap
          (fun i => addrWords (q.arg 0 + u.stride * i) (q.payload.drop 1))).any c.makesGroup = true → c.journalFull = false) →
      exec (.unitWrite t q) s = gives t s (b.concluded Op.unitWrite q (OpResult.ok
        (c.putWords ((unitsOf u.kind (UPath.ofNat q.path)).flatMap
          (fun i => addrWords (q.arg 0 + u.stride * i) (q.payload.drop 1)))))))

/-- TABLE_READ returns the words of every unit addressed; TABLE_WRITE writes words that the range and the table's own
rule let through; TABLE_SWAP exchanges the schedule's copies (R131), the envelopes named (R255) or an axis's banks
(R230). The model's reading: the mode rules of tables judged whole (log entry 126), the results of the budget check
kept where it refuses (log entry 70), and the two items of table 0x09 (log entry 31). -/
def Obligations.TableOpcodesComplete : Prop :=
  ∀ (t : Nat) (q : Req) (s b v : State),
    (State.Runs t s Op.tableRead q b → tabRange q (q.arg 1) (q.arg 2) = none →
      exec (.tableRead t q) s = gives t s (b.concluded Op.tableRead q (OpResult.reply
        ((tabUnits (asLocal q b)).flatMap (fun u => b.tabWords (q.arg 0) u (q.arg 1) (q.arg 2))) b))) ∧
    (State.Runs t s Op.tableWrite q b → q.version = 2 → tabRange q (q.arg 1) (q.payload.drop 2).length = none →
      b.tabRefusal q (q.arg 1) (q.payload.drop 2) = none →
      (State.tabJournalled (q.arg 0) = true → b.journalFull = false) →
      exec (.tableWrite t q) s = gives t s (b.concluded Op.tableWrite q (OpResult.ok (b.tabPut q (q.arg 1) (q.payload.drop 2))))) ∧
    (State.Runs t s Op.tableSwap q b → q.arg 0 = 1 → q.arg 1 = 0 → b.swapRefusal = none → b.firing = false →
      exec (.tableSwap t q) s = gives t s (b.concluded Op.tableSwap q (OpResult.ok b.swapDo))) ∧
    (State.Runs t s Op.tableSwap q b → q.arg 0 = 1 → q.arg 1 = 0 → b.swapRefusal = none → b.firing = true →
      b.budgetCheck (1 - b.activeCopy) = (v, false) →
      exec (.tableSwap t q) s = gives t s (b.concluded Op.tableSwap q (OpResult.ok (b.takeBudget v).swapDo))) ∧
    (State.Runs t s Op.tableSwap q b → q.version = 2 → q.arg 0 = 3 → 1 ≤ q.arg 1 → q.arg 1 ≤ 15 →
      q.arg 1 &&& b.rd F.GEOM_ENV_STATUS_APPLY_PEND = 0 → b.sectorsRun = true →
      exec (.tableSwap t q) s = gives t s (b.concluded Op.tableSwap q (OpResult.ok
        (b.wr F.GEOM_ENV_STATUS_APPLY_PEND (b.rd F.GEOM_ENV_STATUS_APPLY_PEND ||| q.arg 1))))) ∧
    (State.Runs t s Op.tableSwap q b → q.version = 2 → q.arg 0 = 3 → 1 ≤ q.arg 1 → q.arg 1 ≤ 15 →
      q.arg 1 &&& b.rd F.GEOM_ENV_STATUS_APPLY_PEND = 0 → b.sectorsRun = false → b.journalFull = false →
      exec (.tableSwap t q) s = gives t s (b.concluded Op.tableSwap q (OpResult.ok (b.envExchange (q.arg 1))))) ∧
    (State.Runs t s Op.tableSwap q b → q.version = 2 → q.arg 0 = 6 → q.arg 1 ≤ 1 →
      b.flag (F.SERVO_AXIS_STATUS_SWAP_PEND (State.bankAxis (2 * q.arg 1)).num) = false →
      exec (.tableSwap t q) s = gives t s (b.concluded Op.tableSwap q (OpResult.ok (b.swapBanks (State.bankAxis (2 * q.arg 1))))))

/-- MODE_SET starts a listed transition that nothing refuses (R446); MODE_GET returns TRANS, TARGET and the mode;
RESET owes a command reset, not before 1 ms after its reply has left (R334); COMMIT sets COMMITTED, ends a trial and
journals what has changed (R335, R419). CAL_RUN makes the octants addressed pending (R388); CAL_STATUS returns their
status words; CAL_STARTER puts the starter set into force (R402). The model's reading: REQUIRED (log entry 13), the
ADDRESS and order of COMMIT's checks (log entry 85), what a first COMMIT journals (log entry 86), pending runs (log
entry 105), BUSY before the check of the transition (log entry 122), and a trial that APPLY ends (log entry 114). -/
def Obligations.ModeAndCalibrationOpcodesComplete : Prop :=
  (∀ (t : Nat) (q : Req) (s b c : State),
     (State.Runs t s Op.modeSet q b → q.version = 2 → q.arg 0 ≤ 7 → b.flag F.DEV_MODE_TRANS = false →
       State.transitionListed b.mode (q.arg 0) = true → (b.mode = Mode.safe → q.arg 0 ≠ Mode.safe → b.exitRefused (q.arg 0) = false) →
       (State.firingMode (q.arg 0) = true → b.flag F.DEV_STATUS_COMMITTED = true ∧
         b.entryRefused (q.arg 0) (decide (q.path / 2 ^ 28 = 15)) = false) →
       exec (.modeSet t q) s = gives t s (b.concluded Op.modeSet q (OpResult.ok (b.startTransition (q.arg 0))))) ∧
     (State.Runs t s Op.modeGet q b →
       exec (.modeGet t q) s = gives t s (b.concluded Op.modeGet q (OpResult.reply
         [b.rd F.DEV_MODE_TRANS * 2 ^ 16 + b.rd F.DEV_MODE_TARGET * 2 ^ 8 + b.mode] b))) ∧
     (State.Runs t s Op.reset q b → q.arg 0 = 0xA5A5 →
       exec (.reset t q) s = gives t s (b.concluded Op.reset q (OpResult.ok
         { b with boot := { b.boot with resetDue := .command, replyEnd := b.now } }))) ∧
     (State.Runs t s Op.commit q b → b.mode = Mode.config → b.commitCheck = (c, none) →
       (c.commitItems ≠ [] → c.journalFull = false) →
       exec (.commit t q) s = gives t s (b.concluded Op.commit q (OpResult.ok
         ((c.wr F.DEV_STATUS_COMMITTED 1).trialDone.commitRate.journal c.commitItems))))) ∧
  (∀ (t : Nat) (q : Req) (s b c : State),
     (State.Runs t s Op.calRun q b → q.version = 2 → 1 ≤ q.arg 0 → q.arg 0 < 8 →
       (UPath.ofNat q.path).octants.all (fun g => (b.calRefusal g).isNone) = true →
       exec (.calRun t q) s = gives t s (b.concluded Op.calRun q (OpResult.ok
         ((UPath.ofNat q.path).octants.foldl (fun s g => s.addPend g (q.arg 0)) b).refreshWait))) ∧
     (State.Runs t s Op.calRun q b → q.version = 2 → 8 ≤ q.arg 0 → State.kindsOk (q.arg 0) (UPath.ofNat q.path) = true →
       (UPath.ofNat q.path).octants.all (fun g => (b.calRefusal g).isNone) = true →
       c = (if q.arg 0 = 8 then b else (UPath.ofNat q.path).octants.foldl (fun s g => s.addPend g (q.arg 0 - 8)) b) →
       exec (.calRun t q) s = gives t s (b.concluded Op.calRun q (OpResult.ok
         (c.wr F.CAL_DEV_PKO_PEND 1).pkoPoll.refreshWait))) ∧
     (State.Runs t s Op.calStatus q b → q.version = 2 →
       exec (.calStatus t q) s = gives t s (b.concluded Op.calStatus q (OpResult.reply
         ((UPath.ofNat q.path).octants.map (fun g => b.refreshWait.word (A.CAL_OCT_STATUS g))) b.refreshWait))) ∧
     (State.Runs t s Op.calStarter q b → q.version = 2 → State.kindsOk (q.arg 0) (UPath.ofNat q.path) = true →
       b.quiet = true ∨ b.mode = Mode.service → b.journalFull = false →
       exec (.calStarter t q) s = gives t s (b.concluded Op.calStarter q (OpResult.ok
         (b.calStarter (UPath.ofNat q.path).octants (q.arg 0))))))

/-- NVS_IMAGE_WRITE stores words into the slot not in use, and cancels a pending activation of it (R417);
NVS_IMAGE_ACTIVATE of an image whose CRC matches journals the selection (R418); NVS_LIFE_READ returns words of the
life log (R420); NVS_COMPACT starts a compaction (R412). The model's reading: the order of an image write's checks and
unwritten words at 0 (log entry 112), and calendar event 2 at the activation (log entry 114). -/
def Obligations.StoreOpcodesComplete : Prop :=
  ∀ (t : Nat) (q : Req) (s b : State),
    (State.Runs t s Op.imageWrite q b → q.arg 0 ≤ 1 → q.arg 1 % 4 = 0 → q.arg 1 + 4 * (q.payload.drop 2).length ≤ 2097152 →
      b.slotInUse (q.arg 0) = false → b.quiet = true ∨ b.mode = Mode.service ∨ b.boot.phase = BootPhase.romSafe →
      (b.nvs.pendingSel.map (fun x => x.slot) ≠ some (q.arg 0)) →
      exec (.nvsImageWrite t q) s = gives t s (b.concluded Op.imageWrite q (OpResult.ok
        { b with nvs := { b.nvs with slots := State.putImage (q.arg 0) (q.arg 1 / 4) (q.payload.drop 2) b.nvs.slots } }))) ∧
    (State.Runs t s Op.imageWrite q b → q.arg 0 ≤ 1 → q.arg 1 % 4 = 0 → q.arg 1 + 4 * (q.payload.drop 2).length ≤ 2097152 →
      b.slotInUse (q.arg 0) = false → b.quiet = true ∨ b.mode = Mode.service ∨ b.boot.phase = BootPhase.romSafe →
      b.nvs.pendingSel.map (fun x => x.slot) = some (q.arg 0) →
      exec (.nvsImageWrite t q) s = gives t s (b.concluded Op.imageWrite q (OpResult.ok
        (State.wr F.NVS_BOOT_NEXT_SLOT (b.rd F.NVS_BOOT_SLOT)
          { b with nvs := { b.nvs with
            slots := State.putImage (q.arg 0) (q.arg 1 / 4) (q.payload.drop 2) b.nvs.slots
            pendingSel := none } })))) ∧
    (State.Runs t s Op.imageActivate q b → q.arg 0 ≤ 1 → q.arg 1 % 4 = 0 → 1 ≤ q.arg 1 → q.arg 1 ≤ 2097152 →
      b.slotInUse (q.arg 0) = false → slotCrc b.nvs.slots (q.arg 0) (q.arg 1) = q.arg 2 → b.journalFull = false →
      exec (.nvsImageActivate t q) s = gives t s (b.concluded Op.imageActivate q (OpResult.ok
        (((State.wr F.NVS_BOOT_NEXT_SLOT (q.arg 0)
            { b with nvs := { b.nvs with pendingSel := some ⟨q.arg 0, q.arg 1, q.arg 2⟩ } }).calendarAdd 2 (q.arg 0)).journal
          [⟨6, 0, [q.arg 0, q.arg 1, q.arg 2]⟩])))) ∧
    (State.Runs t s Op.lifeRead q b → 1 ≤ q.arg 1 → q.arg 1 ≤ 2048 → q.arg 0 + q.arg 1 ≤ 262144 →
      exec (.nvsLifeRead t q) s = gives t s (b.concluded Op.lifeRead q (OpResult.reply
        ((List.range (q.arg 1)).map (fun i => b.lifeWord (q.arg 0 + i))) b))) ∧
    (State.Runs t s Op.compact q b → b.flag F.NVS_STATUS_COMPACTING = false →
      exec (.nvsCompact t q) s = gives t s (b.concluded Op.compact q (OpResult.ok b.startCompaction)))

/-- TALLY_SNAPSHOT latches the control counters (R430); TALLY_READ returns counters in their sequence (R429);
TALLY_DUMP makes a dump due (R431). CORD_STATUS of a member returns its word (R352); CORD_RESET makes the master owe
the marker (R358). SELFTEST_REPORT returns its four words (R443); FAULT_LOG_READ the count and the entries from oldest
to newest, with the ring unchanged, and FAULT_LOG_CLEAR empties it (R328); IDENT the part and the image; TIME_GET
device time and quality; TIME_OF_DAY gives the second of the next pulse (R336). The model's choices: the version that
IDENT returns is Config.imageVersion of the slot in use (log entry 113), the silicon step is Config.siliconStep (log
entry 3), and the counts of the commands before a snapshot or a dump in the same coarse count are in it (log entry
116). -/
def Obligations.ReportOpcodesComplete : Prop :=
  (∀ (t : Nat) (q : Req) (s b : State) (l : List (Nat × Nat)),
     (State.Runs t s Op.tallySnapshot q b →
       exec (.tallySnapshot t q) s = gives t s (b.concluded Op.tallySnapshot q (OpResult.ok b.snapshot))) ∧
     (State.Runs t s Op.tallyRead q b → 1 ≤ q.arg 1 → q.arg 1 ≤ 1024 → q.arg 0 / 16 % 16 = 0 →
       q.arg 0 / 2 ^ 8 % 2 ^ 16 < tallyInst (q.arg 0 / 2 ^ 24) →
       q.arg 0 % 16 < tallyCount (q.arg 0 / 2 ^ 24) (q.arg 0 / 2 ^ 8 % 2 ^ 16) →
       counterSeq (q.arg 0 / 2 ^ 24) (q.arg 0 / 2 ^ 8 % 2 ^ 16) (q.arg 0 % 16) (q.arg 1) = some l →
       exec (.tallyRead t q) s = gives t s (b.concluded Op.tallyRead q (OpResult.reply
         (l.flatMap (fun p => split64 (counterWord
           (if tallyClassC (q.arg 0 / 2 ^ 24) then b.tally.snap else b.tally.live)
           (q.arg 0 / 2 ^ 24) p.1 p.2 (tallyClassC (q.arg 0 / 2 ^ 24))))) b))) ∧
     (State.Runs t s Op.tallyDump q b →
       exec (.tallyDump t q) s = gives t s (b.concluded Op.tallyDump q (OpResult.ok b.dumpDue)))) ∧
  (∀ (t : Nat) (q : Req) (s b : State),
     (State.Runs t s Op.cordStatus q b → b.flag F.CORD_STRAPS_ROLE = true →
       exec (.cordStatus t q) s = gives t s (b.concluded Op.cordStatus q (OpResult.reply [b.cordWord] b))) ∧
     (State.Runs t s Op.cordReset q b → q.arg 0 = 0xA5A5 → b.isMaster = true →
       exec (.cordReset t q) s = gives t s (b.concluded Op.cordReset q (OpResult.ok
         { b with boot := { b.boot with replyEnd := b.now }, cord := { b.cord with resetOwed := true } })))) ∧
  (∀ (t : Nat) (q : Req) (s b : State),
     (State.Runs t s Op.selftestReport q b →
       exec (.selftestReport t q) s = gives t s (b.concluded Op.selftestReport q (OpResult.reply
         [b.rd F.DEV_ST_RESULT_FAIL * 2 ^ 16 + b.rd F.DEV_ST_RESULT_RUN,
           b.rd F.DEV_ST_DETAIL_FIRST_TEST * 2 ^ 24 + b.rd F.DEV_ST_DETAIL_UNIT, b.word A.DEV_RESET_CAUSE,
           b.boot.stMs % 2 ^ 16] b))) ∧
     (State.Runs t s Op.faultRead q b →
       exec (.faultLogRead t q) s = gives t s (b.concluded Op.faultRead q (OpResult.reply
         (b.cmd.faults.length :: b.cmd.faults.flatMap State.faultWords) b))) ∧
     (State.Runs t s Op.faultClear q b →
       exec (.faultLogClear t q) s = gives t s (b.concluded Op.faultClear q (OpResult.ok
         (State.wr F.CMD_STATUS_FAULT_ENTRIES 0 { b with cmd := { b.cmd with faults := [] } })))) ∧
     (State.Runs t s Op.ident q b →
       exec (.ident t q) s = gives t s (b.concluded Op.ident q (OpResult.reply
         [0x2564, Config.siliconStep % 2 ^ 32,
           Config.imageVersion (b.rd F.NVS_BOOT_SLOT)
             (if b.nvs.sel.slot = b.rd F.NVS_BOOT_SLOT then b.nvs.sel.crc else b.nvs.prevSel.crc) % 2 ^ 32,
           b.rd F.NVS_BOOT_SLOT] b))) ∧
     (State.Runs t s Op.timeGet q b →
       exec (.timeGet t q) s = gives t s (b.concluded Op.timeGet q (OpResult.reply
         [b.sec / 2 ^ 32 % 2 ^ 16, b.sec % 2 ^ 32, b.nsec, b.frac * 2 ^ 16 + b.rd F.TIME_STATUS_QUALITY] b))) ∧
     (State.Runs t s Op.timeOfDay q b → b.rd F.TIME_SYNC_CTRL_SYNC_SRC = 2 → q.arg 0 < 2 ^ 16 →
       exec (.timeOfDay t q) s = gives t s (b.concluded Op.timeOfDay q (OpResult.ok
         { b with time := { b.time with todSec := some (q.arg 0 * 2 ^ 32 + q.arg 1) } }))))

/-- RECIPE_STORE stores, enables or disables and journals a recipe of the right form (R337); RECIPE_READ returns its
words; RECIPE_ENABLE writes its enable bit (R338); RECIPE_DELETE takes it from the store and from the queue;
RECIPE_RUN queues it (R340). The model's reading: what RECIPE_STORE checks and which numbers are BAD_PARAM (log entry
87). -/
def Obligations.RecipeOpcodesComplete : Prop :=
  ∀ (t : Nat) (q : Req) (s b c : State) (r : Recipe),
    (State.Runs t s Op.recipeStore q b → parseRecipe q.payload = some r → b.ranksOk [] r.steps = true →
      b.recipeBusy r.number = false → b.journalFull = false →
      exec (.recipeStore t q) s = gives t s (b.concluded Op.recipeStore q (OpResult.ok
        ((if bitOf (q.arg 2) 0 then ((b.putRecipe r.number (some r)).setEnabled r.number true).recipeEnabledNow r.number
          else (b.putRecipe r.number (some r)).setEnabled r.number false).journal (State.recipeItems r.number r.words))))) ∧
    (State.Runs t s Op.recipeRead q b → b.recipe? (q.arg 0) = some r →
      exec (.recipeRead t q) s = gives t s (b.concluded Op.recipeRead q (OpResult.reply r.words b))) ∧
    (State.Runs t s Op.recipeEnable q b → q.arg 0 < 64 → q.arg 1 < 2 → (q.arg 1 = 1 → b.recipe? (q.arg 0) = some r) →
      exec (.recipeEnable t q) s = gives t s (b.concluded Op.recipeEnable q (OpResult.ok
        (b.setEnabled (q.arg 0) (q.arg 1 == 1))))) ∧
    (State.Runs t s Op.recipeDelete q b → b.recipe? (q.arg 0) = some r → b.journalFull = false →
      c = (b.setEnabled (q.arg 0) false).putRecipe (q.arg 0) none →
      exec (.recipeDelete t q) s = gives t s (b.concluded Op.recipeDelete q (OpResult.ok
        ((State.wr F.CMD_RECIPE_QUEUED (c.cmd.queue.filter (fun x => x != q.arg 0)).length
          { c with cmd := { c.cmd with queue := c.cmd.queue.filter (fun x => x != q.arg 0) } }).journal
            [⟨4, q.arg 0, [0]⟩])))) ∧
    (State.Runs t s Op.recipeRun q b → b.recipe? (q.arg 0) = some r →
      exec (.recipeRun t q) s = gives t s (b.concluded Op.recipeRun q (OpResult.ok (b.queueRecipe (q.arg 0)))))

/-! ### Recipes and the serial transports -/

/-- R337, R341: ACQUIRE takes a free resource and ends its step, or waits for one that is held; RELEASE gives a
resource back; WAIT waits for its delay. R337, R341, R342: the end of a WAIT goes on to the next step, or ends the
recipe after its last; an ACQUIRE that has waited 100 ms ends the recipe with BUSY. R340: the recipe at the head of
the queue starts at its first step; a step of an opcode of Table 13-5 is carried out as a request with SOURCE recipe,
a step of the recipe's own opcodes as the row of that opcode. The model's reading: RELEASE of a resource that is not
held is accepted (log entry 87), a step is counted at its start (log entry 88), which engines hold a resource (log
entry 89), and what is logged of a recipe that ends (log entry 90). -/
def Obligations.RecipesComplete : Prop :=
  (∀ (t w : Nat) (s a d : State) (r : RecipeRun) (p : RecipeStep), State.AwakeAt t s a → a.presentStep = some (r, p) →
     p.payload = [w] → d = a.countStep r → d.pathValid p.path = true →
     (p.opcode = Op.acquire → resourceOk w = true → d.resourceBusy (resourceOf w).1 (resourceOf w).2 = false →
       exec (.acquire t) s = gives t s ((d.putRecipeRun { r with held := r.held ++ [resourceOf w] }).stepDone St.ok)) ∧
     (p.opcode = Op.acquire → resourceOk w = true → d.resourceBusy (resourceOf w).1 (resourceOf w).2 = true →
       r.wait = .ready →
       exec (.acquire t) s = gives t s (d.putRecipeRun { r with wait := .acquire (resourceOf w).1 (resourceOf w).2 d.now })) ∧
     (p.opcode = Op.release → resourceOk w = true →
       exec (.release t) s = gives t s
         ((d.putRecipeRun { r with held := r.held.filter (fun h => h != resourceOf w) }).stepDone St.ok)) ∧
     (p.opcode = Op.wait → 1 ≤ w → w ≤ 1000000 →
       exec (.wait t) s = gives t s (d.putRecipeRun { r with wait := .delay (d.now + 1000 * w) }))) ∧
  (∀ (t n k since : Nat) (s a : State) (r : RecipeRun), State.AwakeAt t s a → a.cmd.run = some r →
     (r.wait = .delay n → r.step + 1 < r.steps.length →
       exec (.waitExpire t) s = gives t s
         ((a.putRecipeRun { r with step := r.step + 1, wait := .ready }).wr F.CMD_RECIPE_STEP (r.step + 1))) ∧
     (r.wait = .delay n → r.steps.length ≤ r.step + 1 → exec (.waitExpire t) s = gives t s a.recipeGone) ∧
     (r.wait = .acquire n k since → exec (.acquireTimeout t) s = gives t s (a.recipeFail St.busy))) ∧
  (∀ (t n : Nat) (rest : List Nat) (s a b c d : State) (x : Recipe) (r : RecipeRun) (p : RecipeStep) (sp : OpSpec),
     State.AwakeAt t s a →
     (a.cmd.run = none → a.cmd.queue = n :: rest → a.recipesRun = true → a.recipe? n = some x →
       b = State.wr F.CMD_RECIPE_QUEUED rest.length { a with cmd := { a.cmd with queue := rest } } →
       c = { b with cmd := { b.cmd with run := some ⟨n, 0, x.steps, [], .ready⟩ } } →
       exec (.recipeStart t) s = gives t s
         ((((c.wr F.CMD_RECIPE_RUNNING 1).wr F.CMD_RECIPE_NUMBER n).wr F.CMD_RECIPE_STEP 0).recipeEnabledNow n)) ∧
     (a.presentStep = some (r, p) → opSpec p.opcode = some sp → d = a.countStep r →
       exec (.recipeStep t) s = gives t s
         (((d.putRecipeRun { r with wait := .reply }).carryOut sp ⟨.recipe, 2, 0, 0, 0, p.path, p.payload⟩).recipeResume).drain) ∧
     (a.presentStep = some (r, p) → p.opcode = Op.acquire → exec (.recipeStep t) s = exec (.acquire t) s) ∧
     (a.presentStep = some (r, p) → p.opcode = Op.release → exec (.recipeStep t) s = exec (.release t) s) ∧
     (a.presentStep = some (r, p) → p.opcode = Op.wait → exec (.recipeStep t) s = exec (.wait t) s))

/-- R322, R323: a read clocks a reply's length and bytes, and a queued reply leaves the SPI once all its bytes have
been clocked, after which a reset that waits for it may follow (R334); a read of the empty queue returns the length 0,
and an unknown command byte does nothing; a broken UART frame is discarded and counted. Table 13-3, steps 1 to 3: a
packet shorter than its frame is dropped and counted; one whose LENGTH does not fit it is answered BAD_LENGTH, one
whose CRC is wrong CRC, and neither is executed. The model's reading: the bytes 16 to 19 of a header, echoed in the
replies of steps 2 and 3 (log entry 76), MALFORMED_PACKET as a packet that arrives with what it holds and its reply on
the packet's own transport (log entry 82), the packet counters (log entry 80), and the reset that follows a reply's
last byte (log entry 99). -/
def Obligations.TransportCommandsComplete : Prop :=
  (∀ (t k : Nat) (s a : State) (r : Reply) (rest : List Reply) (bs : List Nat), State.LiveAt t s a →
     (k ≠ 0xA5 → exec (.hspiRead t ⟨k, bs.length⟩) s = gives t s a) ∧
     (a.cmd.spiQ = [] →
       exec (.hspiRead t ⟨0xA5, k⟩) s = gives t s { a with cmd := { a.cmd with miso := [0, 0] } }) ∧
     (a.cmd.spiQ = r :: rest → bs = State.replyOctets r → k < bs.length →
       exec (.hspiRead t ⟨0xA5, k⟩) s = gives t s { a with cmd := { a.cmd with miso := octets 2 bs.length ++ bs.take k } }) ∧
     (a.cmd.spiQ = r :: rest → bs = State.replyOctets r → bs.length ≤ k → a.boot.resetReply = false ∨ State.toReset r = false →
       exec (.hspiRead t ⟨0xA5, k⟩) s = gives t s { a with cmd := { a.cmd with
         miso := octets 2 bs.length ++ bs
         spiQ := rest } }) ∧
     (a.cmd.spiQ = r :: rest → bs = State.replyOctets r → bs.length ≤ k → a.boot.resetReply = true →
       State.toReset r = true →
       exec (.hspiRead t ⟨0xA5, k⟩) s = gives t s (State.replyGone { a with cmd := { a.cmd with
         miso := octets 2 bs.length ++ bs
         spiQ := rest } })) ∧
     (a.receives .uart = true → exec (.uartFrameError t) s = gives t s (a.count ⟨0x0D, 5⟩ 1)) ∧
     (a.receives .uart = true → exec (.uartGapTimeout t) s = gives t s (a.count ⟨0x0D, 5⟩ 1))) ∧
  (∀ (t len crc : Nat) (src : Source) (bs : List Nat) (s a b : State) (q : Req) (r : Reply),
     a = s.arrive t → a.receives src = true → src.isHost = true → a.addressed src = true →
     (bs.length < 24 →
       exec (.malformedPacket t src bs) s = gives t s ((a.countBytes src bs.length).count ⟨0x0D, 2⟩ src.core)) ∧
     (24 ≤ bs.length → len = beNat ((bs.drop 12).take 2) →
       q = ⟨src, beNat ((bs.drop 0).take 1), beNat ((bs.drop 1).take 1), beNat ((bs.drop 14).take 2),
         beNat ((bs.drop 4).take 4), beNat ((bs.drop 8).take 4), bytesWords ((bs.drop 20).take (bs.length - 24))⟩ →
       b = a.countBytes src bs.length →
       (len % 4 ≠ 0 ∨ 8192 < len ∨ len ≠ bs.length - 24 →
         r = ⟨q.version, q.flags ||| 1, beNat ((bs.drop 2).take 2), q.seq, q.path, St.badLength,
           beNat ((bs.drop 16).take 4), []⟩ →
         exec (.malformedPacket t src bs) s = gives t s (b.echoReply src r len)) ∧
       (len % 4 = 0 → len ≤ 8192 → len = bs.length - 24 → crc = beNat ((bs.drop (bs.length - 4)).take 4) →
         crc32c (bs.take (bs.length - 4)) ≠ crc →
         r = ⟨q.version, q.flags ||| 1, beNat ((bs.drop 2).take 2), q.seq, q.path, St.crc,
           beNat ((bs.drop 16).take 4), []⟩ →
         exec (.malformedPacket t src bs) s = gives t s (b.echoReply src r crc))))

/-! ### Time -/

/-- R32, R35 to R40: the loss, the warm level and the return of REF_IN, and the lock of the PLL; a window of 100 µs
whose count lies within 100 ppm of the frequency selected, classified or to be classified makes REF_IN valid, and one
outside makes it absent with REF_FREQ_FAULT. R40: XTAL fails: the PLL stays on REF_IN, moves to it at once, or has
lost both inputs; and XTAL returns. The model's reading: REF_FREQ_DET at 0 with REF_SEL fixed and kept when REF_IN's
edges stop, the switch that completes at PLL_LOCK, the measured frequency as operand (log entry 18), and XTAL taken as
present after a reset (log entry 119). -/
def Obligations.OscillatorCommandsComplete : Prop :=
  (∀ (t hz n f : Nat) (level : Bool) (s a b : State), State.LiveAt t s a →
     (a.flag F.TIME_STATUS_REF_PRESENT = true →
       b = { a.wr F.TIME_STATUS_REF_PRESENT 0 with time := { a.time with refOkSince := none } } →
       (a.time.src ≠ .ref → exec (.refLost t) s = gives t s b) ∧
       (a.time.src = .ref → a.time.xtalOk = true →
         exec (.refLost t) s = gives t s (((b.pllSwitch .xtal).wr F.TIME_STATUS_REF_LOST 1).raise Irq.refLost)) ∧
       (a.time.src = .ref → a.time.xtalOk = false →
         exec (.refLost t) s = gives t s ((b.wr F.TIME_STATUS_REF_LOST 1).raise Irq.refLost).timebaseLost)) ∧
     (a.rd F.TIME_REF_CTRL_REF_SEL = 0 → a.rd F.TIME_STATUS_REF_FREQ_DET = 0 →
       (9999000 ≤ hz → hz ≤ 10001000 →
         exec (.refFreqWindow t hz) s = gives t s (a.wr F.TIME_STATUS_REF_FREQ_DET 1).refValid) ∧
       (99990000 ≤ hz → hz ≤ 100010000 →
         exec (.refFreqWindow t hz) s = gives t s (a.wr F.TIME_STATUS_REF_FREQ_DET 2).refValid) ∧
       (hz < 9999000 ∨ 10001000 < hz → hz < 99990000 ∨ 100010000 < hz →
         exec (.refFreqWindow t hz) s = gives t s (a.wr F.TIME_STATUS_REF_FREQ_FAULT 1).refAbsent)) ∧
     (a.rd F.TIME_REF_CTRL_REF_SEL = 0 → a.rd F.TIME_STATUS_REF_FREQ_DET = n → n = 1 ∧ f = 10000000 ∨ n = 2 ∧ f = 100000000 →
       (f - f / 10000 ≤ hz → hz ≤ f + f / 10000 → exec (.refFreqWindow t hz) s = gives t s a.refValid) ∧
       (hz < f - f / 10000 ∨ f + f / 10000 < hz →
         exec (.refFreqWindow t hz) s = gives t s ((a.wr F.TIME_STATUS_REF_FREQ_DET 0).wr F.TIME_STATUS_REF_FREQ_FAULT 1).refAbsent)) ∧
     (a.rd F.TIME_REF_CTRL_REF_SEL = n → n = 1 ∧ f = 10000000 ∨ n = 2 ∧ f = 100000000 →
       (f - f / 10000 ≤ hz → hz ≤ f + f / 10000 →
         exec (.refFreqWindow t hz) s = gives t s (a.wr F.TIME_STATUS_REF_FREQ_DET 0).refValid) ∧
       (hz < f - f / 10000 ∨ f + f / 10000 < hz →
         exec (.refFreqWindow t hz) s = gives t s ((a.wr F.TIME_STATUS_REF_FREQ_DET 0).wr F.TIME_STATUS_REF_FREQ_FAULT 1).refAbsent)) ∧
     (a.flag F.TIME_STATUS_REF_WARM ≠ level → a.time.src = .xtal → a.time.everRef = true →
       exec (.refWarmChange t level) s = gives t s { a.wrB F.TIME_STATUS_REF_WARM level with
         time := { a.time with
           refOkSince := if level = true ∧ a.flag F.TIME_STATUS_REF_PRESENT = true then some a.now else none } }) ∧
     (a.time.src ≠ .none → a.rd F.TIME_STATUS_FREQ_STATE ≠ Freq.none → a.time.everRef = true →
       exec (.pllLock t) s = gives t s { a with time := { a.time with locked := true } }) ∧
     (a.mode ≠ Mode.park → a.time.src = .xtal → a.time.refOkSince ≠ none →
       exec (.refReturn t) s = gives t s (a.pllSwitch .ref))) ∧
  (∀ (t : Nat) (s a b : State), State.LiveAt t s a →
     b = { a.wr F.TIME_STATUS_XTAL_FAULT 1 with time := { a.time with xtalOk := false } } →
     (a.time.src ≠ .xtal → exec (.xtalFault t) s = gives t s b) ∧
     (a.time.src = .xtal → b.flag F.TIME_STATUS_REF_PRESENT = true → exec (.xtalFault t) s = gives t s (b.pllSwitch .ref)) ∧
     (a.time.src = .xtal → b.flag F.TIME_STATUS_REF_PRESENT = false → exec (.xtalFault t) s = gives t s b.timebaseLost) ∧
     (a.time.src ≠ .none → exec (.xtalReturn t) s = gives t s { a with time := { a.time with xtalOk := true } }) ∧
     (a.time.src = .none → a.mode ≠ Mode.park →
       exec (.xtalReturn t) s = gives t s { a with time := { a.time with xtalOk := true, src := .xtal } }))

/-- R50, R53: what a lane's PTP port does with each message of its transmitter; an Announce of a better transmitter,
of the present one, or of a level one with the smaller identity replaces the parent, and one of clockClass 255 never
does. R53 to R55: the timeouts of the sync sources, the pulse whose second the host has given, a pulse without one,
which is accepted within WIN_US of a second of device time and else counted as rejected, and a missing pulse. The
model's reading: the choice of the parent and its comparison, clockClass 255, the path delay rounded half to even, the
instants of the delay requests (log entry 20), the second that a pulse belongs to and the return after 8 pulses (log
entry 21), delays rounded down (log entry 131), and the clock identity (log entry 129). -/
def Obligations.SyncCommandsComplete : Prop :=
  (∀ (t : Nat) (l : Fin 8) (m : PtpMsg) (s a b : State) (p : PtpParent) (at0 : Nat) (d t1 : Int), State.AwakeAt t s a →
     a.ptpTakes l m = true → b = a.rxFrame l m.bytes →
     ((b.count ⟨0x01, 2⟩ 0).time.parent = some p → p.identity = m.sender → m.twoStep = true →
       exec (.ptpSync t l m) s = gives t s { b.count ⟨0x01, 2⟩ 0 with
         time := { (b.count ⟨0x01, 2⟩ 0).time with
           syncWait := some (m.seq, ((b.count ⟨0x01, 2⟩ 0).rxTime l - m.correction).toNat) } }) ∧
     ((b.count ⟨0x01, 2⟩ 0).time.parent = some p → p.identity = m.sender → m.twoStep = false →
       exec (.ptpSync t l m) s = gives t s
         ((b.count ⟨0x01, 2⟩ 0).syncComplete l ((b.count ⟨0x01, 2⟩ 0).rxTime l - m.correction - m.origin))) ∧
     (b.time.parent = some p → p.identity = m.sender → b.time.syncWait = some (m.seq, at0) →
       exec (.ptpFollowUp t l m) s = gives t s (b.syncComplete l ((at0 : Int) - m.origin - m.correction))) ∧
     (b.time.parent = some p → p.identity = m.sender → b.time.lastDiff = some d → a.profileAs = false →
       b.time.reqSent = some (m.seq, t1) → m.asked = State.ownIdentity l →
       exec (.ptpDelayResp t l m) s = gives t s { b with time := { b.time with
         pathDelay := roundEven (d + (m.origin - t1 - m.correction)) 2
         reqSent := none } }) ∧
     (a.profileAs = true →
       exec (.ptpPdelayReq t l m) s = gives t s
         (b.ptpSend l ⟨.pdelayResp, m.seq, State.ownIdentity l, m.sender, b.rxTime l⟩)) ∧
     (a.profileAs = true → b.time.reqSent = some (m.seq, t1) → m.asked = State.ownIdentity l →
       exec (.ptpPdelayResp t l m) s = gives t s { b with time := { b.time with
         pathDelay := roundEven (b.rxTime l - t1 - m.turnaround - m.correction) 2
         reqSent := none } }) ∧
     (b.time.parent = none → m.data.class0 ≠ 255 →
       exec (.ptpAnnounce t l m) s = gives t s { b with time := { b.time with parent := some ⟨m.data, m.sender⟩ } }) ∧
     (b.time.parent = some p → m.data.better p.data = true ∨ p.identity = m.sender → m.data.class0 ≠ 255 →
       exec (.ptpAnnounce t l m) s = gives t s { b with time := { b.time with parent := some ⟨m.data, m.sender⟩ } }) ∧
     (b.time.parent = some p → m.data.level p.data = true → m.sender < p.identity → m.data.class0 ≠ 255 →
       exec (.ptpAnnounce t l m) s = gives t s { b with time := { b.time with parent := some ⟨m.data, m.sender⟩ } }) ∧
     (b.time.parent = some p → m.data.better p.data = false → m.data.level p.data = false → p.identity ≠ m.sender →
       exec (.ptpAnnounce t l m) s = gives t s b) ∧
     (m.data.class0 = 255 → exec (.ptpAnnounce t l m) s = gives t s b)) ∧
  (∀ (t k e : Nat) (c o : Int) (rising : Bool) (s a : State), State.AwakeAt t s a →
     (a.rd F.TIME_SYNC_CTRL_SYNC_SRC = 1 →
       exec (.announceTimeout t) s = gives t s
         (State.syncLost { a with time := { a.time with parent := none, syncWait := none } })) ∧
     (a.rd F.TIME_STATUS_SYNC_STATE = Sync.hold → exec (.syncHoldExpire t) s = gives t s (a.setSync Sync.free)) ∧
     (a.rd F.TIME_SYNC_CTRL_SYNC_SRC = 2 → a.flag F.TIME_PPS_CTRL_EDGE = !rising → a.time.todSec = some k →
       exec (.ppsEdge t rising e) s = gives t s (a.ppsAccept
         (a.dev16 + e % 8 * 8192 - a.rd F.TIME_PPS_CTRL_CABLE_NS * 65536 - k * (1000000000 * 65536)))) ∧
     (a.rd F.TIME_SYNC_CTRL_SYNC_SRC = 2 → a.flag F.TIME_PPS_CTRL_EDGE = !rising → a.time.todSec = none →
       a.time.ppsKnown = true → c = a.dev16 + e % 8 * 8192 - a.rd F.TIME_PPS_CTRL_CABLE_NS * 65536 →
       o = c - roundEven c (1000000000 * 65536) * (1000000000 * 65536) →
       (o.natAbs ≤ a.rd F.TIME_PPS_CTRL_WIN_US * 65536000 → exec (.ppsEdge t rising e) s = gives t s (a.ppsAccept o)) ∧
       (a.rd F.TIME_PPS_CTRL_WIN_US * 65536000 < o.natAbs →
         exec (.ppsEdge t rising e) s = gives t s (a.count ⟨0x01, 1⟩ 0))) ∧
     (a.rd F.TIME_SYNC_CTRL_SYNC_SRC = 2 → a.flag F.TIME_PPS_CTRL_EDGE = !rising → a.time.todSec = none →
       a.time.ppsKnown = false → exec (.ppsEdge t rising e) s = gives t s a) ∧
     (a.rd F.TIME_SYNC_CTRL_SYNC_SRC = 2 → a.time.ppsKnown = true → exec (.ppsMissing t) s = gives t s a.ppsMiss))

/-- R48, R57, R58: outside the firing modes a pending step is applied, flagged, counted and reported; REF_TUNE moves
by one code towards its target in TEMP and DISCIPLINE, whose integrator runs while SYNC_STATE is LOCKED, and holds its
code in HOLD; XTAL is measured into the bin of the present temperature, which is learned and to be journalled from its
60th measurement on, and learned bins are journalled. The model's reading: the running sum and count of a bin, the
sign of the correction and the journal item's payload (log entry 24), the integrator by Config.tuneIntegrator, kept
outside DISCIPLINE (log entry 22), and the instant and the wrap of a step (log entry 25). -/
def Obligations.TimebaseTimersComplete : Prop :=
  ∀ (t : Nat) (ppb d : Int) (s a b : State), State.AwakeAt t s a →
    (a.firing = false → a.time.stepDue = some d →
      b = { a with time := { a.time with
        dev := (((a.time.dev : Int) + d) % ((2 ^ 48 * State.secUnits : Nat) : Int)).toNat
        stepDue := none } } →
      exec (.timeStepApply t) s = gives t s
        (((((b.wr F.TIME_STEP_CTRL_PENDING 0).wr F.TIME_STATUS_STEPPED 1).count ⟨0x01, 0⟩ 0)).telemetry
          [State.recHeader 2 5, a.sec * 2 ^ 16, a.nsec * 2 ^ 32,
            (((b.wr F.TIME_STEP_CTRL_PENDING 0).wr F.TIME_STATUS_STEPPED 1).count ⟨0x01, 0⟩ 0).sec * 2 ^ 16,
            (((b.wr F.TIME_STEP_CTRL_PENDING 0).wr F.TIME_STATUS_STEPPED 1).count ⟨0x01, 0⟩ 0).nsec * 2 ^ 32])) ∧
    (a.rd F.TIME_TUNE_MODE = 1 → a.rd F.TIME_STATUS_FREQ_STATE = Freq.ref → a.healthy 28 = true → a.time.tune < a.tuneTarget →
      exec (.refTuneStep t) s = gives t s { a with time := { a.time with tune := a.time.tune + 1 } }) ∧
    (a.rd F.TIME_TUNE_MODE = 1 → a.rd F.TIME_STATUS_FREQ_STATE = Freq.ref → a.healthy 28 = true → a.tuneTarget < a.time.tune →
      exec (.refTuneStep t) s = gives t s { a with time := { a.time with tune := a.time.tune - 1 } }) ∧
    (a.rd F.TIME_TUNE_MODE = 0 ∨ a.rd F.TIME_STATUS_FREQ_STATE ≠ Freq.ref ∨ a.healthy 28 = false →
      exec (.refTuneStep t) s = gives t s a) ∧
    (a.rd F.TIME_TUNE_MODE = 2 → a.rd F.TIME_STATUS_FREQ_STATE = Freq.ref → a.healthy 28 = true →
      b = { a with time := { a.time with
        tuneInteg := if a.rd F.TIME_STATUS_SYNC_STATE = Sync.locked then
            Config.tuneIntegrator (a.rdS F.TIME_RATE_ADJ_ADJ) a.time.tuneInteg
          else a.time.tuneInteg } } →
      (b.time.tune < b.tuneTarget →
        exec (.refTuneStep t) s = gives t s { b with time := { b.time with tune := b.time.tune + 1 } }) ∧
      (b.tuneTarget < b.time.tune →
        exec (.refTuneStep t) s = gives t s { b with time := { b.time with tune := b.time.tune - 1 } }) ∧
      (b.time.tune = b.tuneTarget → exec (.refTuneStep t) s = gives t s b)) ∧
    (a.time.src = .ref → a.flag F.TIME_STATUS_REF_WARM = true →
      (a.xtalBin (xtalBinOf a.dieMean)).count < 59 →
      exec (.xtalBinMeasure t ppb) s = gives t s (State.refreshXtal { a with time := { a.time with
        bins := a.time.bins.set (xtalBinOf a.dieMean)
          ⟨(a.xtalBin (xtalBinOf a.dieMean)).sum + ppb, (a.xtalBin (xtalBinOf a.dieMean)).count + 1⟩ } })) ∧
    (a.time.src = .ref → a.flag F.TIME_STATUS_REF_WARM = true →
      59 ≤ (a.xtalBin (xtalBinOf a.dieMean)).count →
      exec (.xtalBinMeasure t ppb) s = gives t s (State.refreshXtal { a with time := { a.time with
        bins := a.time.bins.set (xtalBinOf a.dieMean)
          ⟨(a.xtalBin (xtalBinOf a.dieMean)).sum + ppb, (a.xtalBin (xtalBinOf a.dieMean)).count + 1⟩
        binsDirty := if a.time.binsDirty.contains (xtalBinOf a.dieMean) then a.time.binsDirty
          else a.time.binsDirty ++ [xtalBinOf a.dieMean] } })) ∧
    (∀ n, a.time.binsDirty = [n] → a.time.binsAt = none → a.journalFull = false →
      exec (.xtalBinJournal t) s = gives t s (State.journal
        [⟨5, 6 * 2 ^ 24 + n, [ofS 64 (a.xtalBin n).sum / 2 ^ 32, ofS 64 (a.xtalBin n).sum % 2 ^ 32, (a.xtalBin n).count % 2 ^ 32]⟩]
        { a with time := { a.time with binsDirty := [], binsAt := some a.now } }))

/-! ### Converters, receiver and injectors -/

/-- R61 to R67, R90: an edge outside every window, on an input that is disabled or on a front end that is off, is not
captured; one within 2 ns of the edge before it on its bank is counted and lost; a T0 edge completes the open group
and opens one; a falling T0 edge completes its group; an edge of a higher threshold joins the open group or is
counted. Saturation marks the group that is open at the edge. The model's reading: the fine code as an operand (log
entry 26), and the window that an edge belongs to (log entry 27). -/
def Obligations.EdgeCaptureCompletes : Prop :=
  ∀ (t c : Nat) (f : Fin 264) (n : Fin 8) (fine : Fin 128) (sat : Bool) (s a b d : State) (time : Nat), State.AwakeAt t s a →
    ((a.rx.powered = false ∨ (a.fe f).off = true ∨ bitOf (a.rd (F.TDC_FE_CFG_EDGE_EN f)) n = false) →
      exec (.tdcEdge t f n c fine sat) s = gives t s a) ∧
    (a.windowsAt f c = [] → (∀ w, (a.fe f).inj = some w → ¬(w.origin ≤ c ∧ c < w.origin + 2048)) → exec (.tdcEdge t f n c fine sat) s = gives t s a) ∧
    (a.rx.powered = true → (a.fe f).off = false → bitOf (a.rd (F.TDC_FE_CFG_EDGE_EN f)) n = true →
      (a.windowsAt f c ≠ [] ∨ ∃ w, (a.fe f).inj = some w ∧ w.origin ≤ c ∧ c < w.origin + 2048) →
      d = (if sat = true then a.markSat f else a) →
      time = 512 * c + fineTime d.dll (d.calNow f).widths fine →
      (∀ p, (a.fe f).banks.getD n none = some p → time < p + 1024 →
        exec (.tdcEdge t f n c fine sat) s = gives t s (d.count ⟨0x02, 1⟩ f)) ∧
      ((∀ p, (a.fe f).banks.getD n none = some p → p + 1024 ≤ time) →
        b = (d.updFe f (fun x => { x with banks := x.banks.set n (some time) })).count ⟨0x02, 3⟩ f →
        (b.dll = true → b.flag (F.TDC_FE_STATUS_DLL_LOCK f) = false →
          exec (.tdcEdge t f n c fine sat) s = gives t s (b.count ⟨0x02, 2⟩ f)) ∧
        ((b.dll = false ∨ b.flag (F.TDC_FE_STATUS_DLL_LOCK f) = true) →
          (n.val = 0 → exec (.tdcEdge t f n c fine sat) s = gives t s
            ((b.completeGroup f true).openGroup f ⟨c, fine⟩ (a.windowsAt f c))) ∧
          (n.val ≠ 0 → (b.fe f).group = none →
            exec (.tdcEdge t f n c fine sat) s = gives t s (b.count ⟨0x02, 0⟩ f)) ∧
          (n.val = 1 → (b.fe f).group ≠ none →
            exec (.tdcEdge t f n c fine sat) s = gives t s
              ((b.updOpen f (fun g => { g with edges := g.edges.set 1 (some ⟨c, fine⟩) })).completeGroup f false)) ∧
          (1 < n.val → n.val % 2 = 1 → (b.fe f).group ≠ none →
            exec (.tdcEdge t f n c fine sat) s = gives t s
              (b.updOpen f (fun g => { g with edges := g.edges.set n (some ⟨c, fine⟩) }))) ∧
          (1 < n.val → n.val % 2 = 0 → (b.fe f).group ≠ none →
            exec (.tdcEdge t f n c fine sat) s = gives t s (b.updOpen f (fun g =>
              if (g.edges.getD n none).isNone then { g with edges := g.edges.set n (some ⟨c, fine⟩) }
              else { g with multi := true }))))))

/-- R79, R84, R94, R149, R116: a loop locks, a statistics run times out, a gain change that has been pending for
longer than PEND_LIMIT_MS stalls, a shot window and an injector window close, the latter with the group that it left
open. R105, R108, R111, R115 to R117: the bias output moves one LSB towards its target; a waiting crossbar switch
takes place 1 ms after its request unless a window has opened; an injector pulse goes to its targets and ends the run
after the last. The model's reading: DLL_LOCK that changes nothing in the native mode (log entry 28), the crossbar's
gap on the front end that carries the windows (log entry 33), the bias's first step (log entry 35), and the injector's
windows (log entry 36). -/
def Obligations.ReceiverTimersComplete : Prop :=
  (∀ (t since : Nat) (f : Fin 264) (h : Half) (e : Fin 64) (k : Fin 16) (sat : Bool) (x : Shot) (w : InjWin) (g : OpenGroup)
     (s a b : State), State.AwakeAt t s a →
     (a.dll = true → exec (.dllLock t f) s = gives t s (a.wr (F.TDC_FE_STATUS_DLL_LOCK f) 1).showDll) ∧
     (a.dll = false → exec (.dllLock t f) s = gives t s a) ∧
     (a.statRunning h.num = true →
       exec (.statTimeout t h) s = gives t s
         (((a.wr (F.TDC_STAT_STATUS_TIMEOUT h.num) 1).statResults h.num).raise (Irq.statDone h))) ∧
     ((a.fe f).pendCfg = some since ∨ (a.fe f).pendThr = some since → since + a.rd F.RX_CTRL_PEND_LIMIT_MS * 1000000 < a.now →
       exec (.gainStall t f) s = gives t s ((a.setIn F.RX_STATUS_GAIN_STALL_OCT (octOfFe f)).raise Irq.rxGainStall)) ∧
     (a.nextToClose e = some x → exec (.windowClose t ⟨e, k⟩) s = gives t s (a.closeShot false k x).calPoll) ∧
     ((a.fe f).inj = some w → (a.fe f).group = none →
       exec (.injWindowClose t ⟨f, sat⟩) s = gives t s ((a.updFe f (fun y => { y with inj := none })).windowGap f none).calPoll) ∧
     ((a.fe f).inj = some w → (a.fe f).group = some g → g.carrier = .injector →
       b = (if sat = true then a.markSat f else a).completeGroup f true →
       exec (.injWindowClose t ⟨f, sat⟩) s = gives t s ((b.updFe f (fun y => { y with inj := none })).windowGap f none).calPoll)) ∧
  (∀ (t : Nat) (g : Fin 8) (s a b : State), State.AwakeAt t s a →
     (a.rx.powered = true → a.rd (F.RX_OCT_BIAS_STATUS_CODE g) < (a.rxOct g).target →
       exec (.biasRampStep t g) s = gives t s
         ((a.wr (F.RX_OCT_BIAS_STATUS_CODE g) (a.rd (F.RX_OCT_BIAS_STATUS_CODE g) + 1)).wrB (F.RX_OCT_BIAS_STATUS_RAMP g)
           (decide (a.rd (F.RX_OCT_BIAS_STATUS_CODE g) + 2 < (a.rxOct g).target)))) ∧
     (a.rx.powered = true → (a.rxOct g).target < a.rd (F.RX_OCT_BIAS_STATUS_CODE g) →
       exec (.biasRampStep t g) s = gives t s
         ((a.wr (F.RX_OCT_BIAS_STATUS_CODE g) (a.rd (F.RX_OCT_BIAS_STATUS_CODE g) - 1)).wrB (F.RX_OCT_BIAS_STATUS_RAMP g)
           (decide ((a.rxOct g).target + 2 < a.rd (F.RX_OCT_BIAS_STATUS_CODE g))))) ∧
     (∀ ch, (a.rxOct g).switch = some (.toSpare ch) → (a.rxOct g).opened = false → a.inGap (a.physical ch) = true →
       exec (.xbarSwitchTimeout t g) s = gives t s ((a.dropSwitch g).switchTo g ch).calPoll) ∧
     ((a.rxOct g).switch = some .back → (a.rxOct g).opened = false → a.inGap (256 + g) = true →
       exec (.xbarSwitchTimeout t g) s = gives t s ((a.dropSwitch g).switchBack g).calPoll) ∧
     ((a.rxOct g).opened = true → exec (.xbarSwitchTimeout t g) s = gives t s a.calPoll) ∧
     (a.flag (F.RX_OCT_INJ_CTRL_RUN g) = true → (∀ r, a.calRun (g / 4) = some r → r.oct ≠ g) →
       b = a.injFire g (State.injTargets g (a.rd (F.RX_OCT_INJ_CTRL_TARGET g)))
         { ampl := a.rd (F.RX_OCT_INJ_CTRL_AMPL g)
           width := a.rd (F.RX_OCT_INJ_CTRL_WIDTH g)
           at0 := a.now + a.rd (F.RX_OCT_INJ_TIME_DELAY_NS g)
           fine := a.rd (F.RX_OCT_INJ_TIME_DELAY_FINE g) } →
       (b.flag (F.RX_OCT_INJ_CTRL_CONT g) = true → exec (.injPulse t g) s = gives t s b) ∧
       (b.flag (F.RX_OCT_INJ_CTRL_CONT g) = false → 1 < (b.rxOct g).injLeft →
         exec (.injPulse t g) s = gives t s (b.putRxOct g { b.rxOct g with injLeft := (b.rxOct g).injLeft - 1 })) ∧
       (b.flag (F.RX_OCT_INJ_CTRL_CONT g) = false → (b.rxOct g).injLeft ≤ 1 →
         exec (.injPulse t g) s = gives t s (b.injEnd g))))

/-- R91, R98, R112: DC_OVER rises above 400 µA and falls below 380 µA; a background event outside a kerf is counted in
the loop's period and in the tally; the own front end of a routed channel shows and counts nothing. R99 to R103: a
loop period outside a kerf measures the rate over 16 periods; with the loop valid, enabled and not starved it moves
DELTA by Table 4-2 within its limits, and the thresholds change; inside a kerf, and on a routed channel's own front
end, the loop is frozen. The model's choices: the cleared ring and the gap time with its kerfs left out, and
Config.gaplessRate where there is no gap time (log entry 34). -/
def Obligations.AdaptiveLoopCompletes : Prop :=
  (∀ (t est : Nat) (f : Fin 264) (s a b : State), State.AwakeAt t s a →
     (a.standsBy f = true → exec (.dcUpdate t f est) s = gives t s (a.updFe f (fun x => { x with dcEst := est })) ∧
       exec (.backgroundEvent t f) s = gives t s a) ∧
     (a.standsBy f = false → b = ((a.updFe f (fun x => { x with dcEst := est })).wr (F.RX_FE_DC_DC_10NA (a.logical f)) (min est 40000)).wrB
         (F.RX_FE_STATUS_DC_OVER (a.logical f)) (if est > 40000 then true else if est < 38000 then false else
           ((a.updFe f (fun x => { x with dcEst := est })).wr (F.RX_FE_DC_DC_10NA (a.logical f)) (min est 40000)).flag
             (F.RX_FE_STATUS_DC_OVER (a.logical f))) →
       ((∃ k, k < 32 ∧ b.flag (F.RX_FE_STATUS_DC_OVER (32 * octOfFe f + k)) = true) ∨
           b.flag (F.RX_FE_STATUS_DC_OVER (256 + octOfFe f)) = true →
         exec (.dcUpdate t f est) s = gives t s (b.setIn F.RX_STATUS_DC_OVER_OCT (octOfFe f))) ∧
       ((∀ k, k < 32 → b.flag (F.RX_FE_STATUS_DC_OVER (32 * octOfFe f + k)) = false) →
           b.flag (F.RX_FE_STATUS_DC_OVER (256 + octOfFe f)) = false →
         exec (.dcUpdate t f est) s = gives t s (b.clearIn F.RX_STATUS_DC_OVER_OCT (octOfFe f)))) ∧
     (a.rx.powered = true → (a.fe f).off = false → a.inGap f = true → a.rx.kerfAt = none → a.standsBy f = false →
       exec (.backgroundEvent t f) s = gives t s ((a.updFe f (fun x => { x with count := x.count + 1 })).count ⟨0x03, 0⟩ f)) ∧
     (∀ k, a.rx.kerfAt = some k → exec (.backgroundEvent t f) s = gives t s a)) ∧
  (∀ (t : Nat) (f : Fin 264) (s a b c : State) (l n gap : Nat) (ring : List (Nat × Nat)) (step lo hi d d' : Int),
     State.AwakeAt t s a →
     (∀ k, a.rx.kerfAt = some k → exec (.adaptPeriod t f) s = gives t s a) ∧
     (a.standsBy f = true → exec (.adaptPeriod t f) s = gives t s a) ∧
     (a.rx.kerfAt = none → a.standsBy f = false → l = a.logical f → ring = (((a.fe f).count, a.gapSoFar f) :: (a.fe f).ring).take 16 →
       n = (ring.map Prod.fst).sum → gap = (ring.map Prod.snd).sum →
       b = ((a.putFe f { a.fe f with ring := ring, count := 0, gap := 0, gapFrom := a.offKerf }).wr (F.RX_FE_BG_BG_RATE l)
         (if gap = 0 then (Config.gaplessRate f a.now).toNat else min (n * 1000000000 / (gap * 100)) (2 ^ 23 - 1))).wrB (F.RX_FE_BG_VALID l) (ring.length == 16) →
       (ring.length ≠ 16 → exec (.adaptPeriod t f) s = gives t s ((b.wrB (F.RX_FE_STATUS_ADAPT_STARVED l) false).showHeld l false false)) ∧
       (ring.length = 16 → gap < b.rd (F.RX_FE_ADAPT_TAU l) * 1000 →
         exec (.adaptPeriod t f) s = gives t s ((b.wrB (F.RX_FE_STATUS_ADAPT_STARVED l) true).showHeld l false false)) ∧
       (ring.length = 16 → b.rd (F.RX_FE_ADAPT_TAU l) * 1000 ≤ gap →
         c = b.wrB (F.RX_FE_STATUS_ADAPT_STARVED l) false →
         (c.flag (F.RX_FE_CFG_ADAPT_EN l) = false → exec (.adaptPeriod t f) s = gives t s (c.showHeld l false false)) ∧
         (c.flag (F.RX_FE_CFG_ADAPT_EN l) = true → step = State.loopStep n gap (c.rd (F.RX_FE_ADAPT_TARGET l)) →
           d = c.rdS (F.RX_FE_ADAPT_STATE_DELTA l) → lo = c.rd (F.RX_FE_ADAPT_LIM_T0_MIN l) - c.rd (F.RX_FE_THR_A_T0 l) →
           hi = min ((c.rd (F.RX_FE_ADAPT_LIM_T0_MAX l) : Int) - c.rd (F.RX_FE_THR_A_T0 l)) (1023 - c.rd (F.RX_FE_THR_B_T3 l)) →
           d' = clampI lo hi (d + step) →
           (d' = d → exec (.adaptPeriod t f) s = gives t s
             (c.showHeld l (decide (0 < step ∧ d' ≤ d)) (decide (step < 0 ∧ d ≤ d')))) ∧
           (d' ≠ d → exec (.adaptPeriod t f) s = gives t s
             (((c.showHeld l (decide (0 < step ∧ d' ≤ d)) (decide (step < 0 ∧ d ≤ d'))).wrS (F.RX_FE_ADAPT_STATE_DELTA l) d').changeThr f))))))

/-! ### Firing, frames and triggers -/

/-- R119, R120, R140: each edge of LASER_PERMIT and the end of its 10 ms changes the permit and refreshes FIRE_ALLOW;
while the permit is low its hold time's end changes nothing; in every mode a budget window's end clears the emitters'
accumulators. A refresh shows the permits and the AND of the conditions; where FIRE_ALLOW falls, firing is held and
every shot still driven is cut. The model's choices: what sets and clears the permits (log entry 37), and the cut of a
shot whose pulse is still driven (log entry 39). -/
def Obligations.LaserPermitCommandsComplete : Prop :=
  ∀ (t : Nat) (s a c d z : State), a = s.arrive t →
    exec (.laserPermitLow t) s =
      gives t s ({ a with permits := { a.permits with laser := false, held := false } } : State).refreshAllow.calPoll ∧
    exec (.laserPermitHigh t) s = gives t s ({ a with permits := { a.permits with laser := true } } : State).refreshAllow ∧
    (a.permits.laser = true →
      exec (.permitHoldExpire t) s = gives t s ({ a with permits := { a.permits with held := true } } : State).refreshAllow) ∧
    (a.permits.laser = false → exec (.permitHoldExpire t) s = gives t s a) ∧
    (a.Live → exec (.eyeWindowEnd t) s = gives t s ((List.range 64).foldl (fun s e =>
      (s.updEm e (fun x => { x with acc := 0, eyeHit := false })).wr (F.FIRE_EM_EYE_ACC_ACC e) 0) a)) ∧
    (z = (((((c.wrB F.FIRE_STATUS_LASER_PERMIT c.permits.laser).wrB F.FIRE_STATUS_PERMIT_WAIT
        (c.permits.laser && !c.permits.held)).wrB F.FIRE_STATUS_PERMIT_N c.permits.north).wrB F.FIRE_STATUS_PERMIT_S
        c.permits.south)).wrB F.FIRE_STATUS_FIRE_ALLOW c.allowNow →
      d = { z with permits := { c.permits with allow := c.allowNow } } →
      (c.allowNow = true ∨ c.permits.allow = false → c.refreshAllow = d) ∧
      (c.allowNow = false → c.permits.allow = true →
        c.refreshAllow = d.fire.shots.foldl State.cutShot { d with fire := { d.fire with hold := true } }))

/-- R24, R103, R128, R146, R147, R446, R481: the frame boundary starts the next frame, or ends the last one of a mode
that is left unless the next one has begun to fire, before the fire edges of its own instant; a kerf's start is a gap
start of every front end and places its proof shots; a kerf's end, a diagnostic interval's end and the restore hold.
Table 5-3, R133, R135, R136, R138, R141, R144: the next slot is decided: it takes its code position and waits in the
fire queue for its edge, 20 ns behind the latest of its domain; one deferred by more than 60 ns, a late one and a
first shot before its frame are marked. At its instant the first of the conditions that holds turns it away: the
emitter off or in fault, firing held, inhibition by temperature, its mark, the energy budget, current before the edge;
else it fires. With no slot of the frame left, those of the next frame that fire before its start are executed. The
model's reading: the conditions tested at the edge and the slots behind a turned-away shot placed anew (log entry 39),
the slots decided ahead of a boundary and what the boundary changes (log entry 42), the places of proof shots (log
entry 41), the code groups (log entry 43), which emitter is shed (log entry 15), the restore hold (log entry 14), and
the kerf's part of the gap time (log entry 34). -/
def Obligations.SlotsAndFramesComplete : Prop :=
  (∀ (t c k len e : Nat) (rest : List (Nat × Nat)) (more : List Nat) (s a b z : State), State.AwakeAt t s a →
     (State.AwakeFirstAt t s z → z.firing = true → z.fire.running = true → z.boot.exiting = true → z.fire.early = none →
       exec (.frameBoundary t) s = gives t s (State.launchDue t
         { z with
           fire := { z.fire with running := false, kerfs := [] }
           acq := { z.acq with due := none, forced := false }
           cord := { z.cord with later := none } })) ∧
     (State.AwakeFirstAt t s z → z.firing = true → z.fire.running = true → z.boot.exiting = false ∨ z.fire.early ≠ none →
       z.frameMayStart = true → exec (.frameBoundary t) s = gives t s ((z.frameStart z.fire.nextFrame).launchDue t)) ∧
     (a.fire.kerfs = (c, len) :: rest →
       b = (List.range 264).foldl State.kerfGap { a with fire := { a.fire with kerfs := rest } } →
       exec (.kerfStart t) s = gives t s (State.calPoll
         { b with
           rx := { b.rx with kerfAt := some b.now }
           fire := { b.fire with
             proofs := State.placeProofs { b with rx := { b.rx with kerfAt := some b.now } } (State.proofTimes c len)
               (State.proofDue { b with rx := { b.rx with kerfAt := some b.now } })
             kerfEnd := c + len } })) ∧
     (a.rx.kerfAt = some k → exec (.kerfEnd t) s = gives t s
       { a with
         rx := { a.rx with kerfAt := none, kerfSum := a.rx.kerfSum + (a.now - k) }
         fire := { a.fire with proofs := [] } }) ∧
     (a.firing = true → exec (.diagIntervalEnd t) s = gives t s ((List.range 64).foldl State.diagOne a)) ∧
     (a.shedList = e :: more → exec (.restoreHoldExpire t) s =
       gives t s (if a.restoreHolds e then { a with fire := { a.fire with restoreOk := true } } else a))) ∧
  (∀ (t em position group dom : Nat) (late pre : Bool) (j : SlotJob) (r : List SlotJob) (raw due : Int) (q : QueuedShot)
     (s a b c : State), State.AwakeAt t s a →
     (a.fire.slots = [] → a.firing = true → a.fire.running = true → a.boot.exiting = false →
       exec (.slotExecute t late pre) s = gives t s (a.earlyExecute late pre)) ∧
     (a.fire.slots = j :: r → em = j.em →
       b = State.enterGroup em j.frame (a.wMaxOf em) { a with fire := { a.fire with slots := r } } →
       position = (b.em em).position → group = (b.em em).nextGroup - 1 → dom = b.rd (F.FIRE_EM_CFG_DOMAIN em) →
       raw = j.nominal + dither (b.tab 0x04 0 (slotCode j.word1)) b.memberNo em (b.rd F.FIRE_CTRL_DITHER_MAX) position →
       c = (b.updGroup em group (fun g => { g with shots := g.shots + 1, opened := g.opened + 1 })).updEm em
         (fun y => { y with position := y.position + 1 }) →
       due = (match c.domainEdge dom with
         | some (k : Nat) => max ((k : Int) + 20 - j.frameC) raw
         | none => raw) →
       q = ⟨j, none, none, dom, raw, ((j.frameC : Int) + due).toNat, due, decide (raw < due), pre, position, group, none⟩ →
       (j.first = true ∧ raw < 0 → exec (.slotExecute t late pre) s = gives t s ((c.enqueue
         { q with barred := some 5, edge := j.frameC + j.nominal, offset := raw, deferred := false }).launchDue c.now)) ∧
       ((j.first = true → 0 ≤ raw) →
         exec (.slotExecute t true pre) s = gives t s ((c.enqueue
           { q with barred := some 4, edge := j.frameC + j.nominal, offset := raw, deferred := false }).launchDue c.now) ∧
         (60 < due - raw → exec (.slotExecute t false pre) s = gives t s ((c.enqueue
           { q with barred := some 2, edge := j.frameC + j.nominal, offset := raw, deferred := true }).launchDue c.now)) ∧
         (due - raw ≤ 60 → exec (.slotExecute t false pre) s = gives t s ((c.enqueue q).launchDue c.now)))) ∧
     (∀ (z : State) (p : QueuedShot) (e : Nat), p.turned = none → e = p.job.em →
       (z.emOff e = true → z.launch p = z.turnAway p 7) ∧
       (z.emOff e = false →
         (z.permits.allow = false ∨ z.fire.hold = true ∨ p.barred = some 5 → z.launch p = z.turnAway p 5) ∧
         (z.permits.allow = true → z.fire.hold = false → p.barred ≠ some 5 →
           (z.staveInhibited e = true → z.launch p = z.turnAway p 6) ∧
           (z.staveInhibited e = false →
             (∀ k, p.barred = some k → z.launch p = z.turnAway p k) ∧
             (p.barred = none →
               (z.eyeFits e (p.job.width * z.rd (F.FIRE_OCT_LEVEL_STATUS_CODE (e / 8))) = false →
                 z.launch p = (z.eyeSuppress e).turnAway p 3) ∧
               (z.eyeFits e (p.job.width * z.rd (F.FIRE_OCT_LEVEL_STATUS_CODE (e / 8))) = true →
                 z.launch p = if p.pre = true then (z.preShort e).turnAway p 7 else z.fired p)))))))

/-- R146: the next proof shot of a kerf fires under the same conditions as a shot, and otherwise is dropped. R143,
R145, R146: a pulse's evaluation shows its result, its peak and its rise; a good result ends a run of bad ones, a bad
one counts in it; a proof shot's evaluation also ends the emitter's unverified run. The model's reading: a proof
shot's conditions tested at its instant (log entry 39), and a result judged against the registers at its evaluation
(log entry 41). -/
def Obligations.ProofShotsAndCurrentSenseComplete : Prop :=
  (∀ (t c em energy : Nat) (pre : Bool) (r : List (Nat × Nat)) (s a b : State),
     State.AwakeAt t s a → a.fire.proofs = (c, em) :: r →
     b = { a with fire := { a.fire with proofs := r, sweep := a.fire.sweep.filter (fun k => k != em) } } →
     energy = 20 * b.rd (F.FIRE_OCT_LEVEL_STATUS_CODE (em / 8)) →
     (b.emRemoved em = true ∨ b.emOff em = true ∨ b.permits.allow = false ∨ b.fire.hold = true ∨ b.staveInhibited em = true →
       exec (.proofShot t pre) s = gives t s b.sweepCheck) ∧
     (b.emRemoved em = false → b.emOff em = false → b.permits.allow = true → b.fire.hold = false →
       b.staveInhibited em = false →
       (b.eyeFits em energy = false → exec (.proofShot t pre) s = gives t s (b.eyeSuppress em).sweepCheck) ∧
       (b.eyeFits em energy = true →
         exec (.proofShot t true) s = gives t s (b.preShort em).sweepCheck ∧
         exec (.proofShot t false) s = gives t s (((b.charge em energy).noteEdge em c).updEm em
           (fun x => { x with proofFired := true, evals := x.evals ++ [true] }))))) ∧
  (∀ (t : Nat) (e : Fin 64) (peak rise : Nat) (proof : Bool) (r : List Bool) (s a b c : State),
     State.AwakeAt t s a → (a.em e).evals = proof :: r →
     b = (((a.updEm e (fun x => { x with evals := r })).wr (F.FIRE_EM_STATUS_LAST_RESULT e) (a.csResult e peak rise)).wr
       (F.FIRE_EM_CS_LAST_PEAK e) (min peak 1023)).wr (F.FIRE_EM_CS_LAST_RISE e) (min rise 63) →
     (a.csResult e peak rise = 1 → c = b.updEm e (fun x => { x with badRun := 0 })) →
     (a.csResult e peak rise ≠ 1 → c = b.badResult e (a.csResult e peak rise - 1)) →
     (proof = false → exec (.csEvaluate t e peak rise) s = gives t s c) ∧
     (proof = true → exec (.csEvaluate t e peak rise) s = gives t s
       (((c.updEm e (fun x => { x with proofDone := true })).wr (F.FIRE_EM_STATUS_UNVER_RUN e) 0).wr
         (F.FIRE_EM_STATUS_UNVERIFIED e) 0).sweepCheck))

/-- R157, R158, R163, R164: the peak finder completes the oldest bank of a channel; an active edge of EXT_TRIG, or the
timeout, with the trigger armed makes the next frame due after DELAY_NS; an edge with it unarmed is counted; and the
opposite edge only shows the level. R17, R167, R168, R185, R192: a shot that may give no more is formed into a unit,
channel by channel, from the values in force as its window closed; the emitter's oldest such unit is presented to its
landing region, which takes it in, and the shot is then gone. The model's reading: the instant a unit is formed and
the values then in force (log entries 45 and 47), EXT_TRIG_EDGE as an edge that has passed the filter (log entry 46),
the lists around an early or a lost group (log entry 43), and the sectors that wait for their units (log entry 60). -/
def Obligations.ShotAcquisitionCompletes : Prop :=
  (∀ (t : Nat) (ch : Fin 256) (level : Bool) (j : PeakJob) (s a b c : State), State.AwakeAt t s a →
     (a.acq.jobs.find? (fun j => j.ch == ch.val) = some j →
       b = State.clearBank ch j.bank { a with acq := { a.acq with jobs := a.acq.jobs.erase j } } →
       (j.build = true → (b.em j.em).minGroup ≤ j.group → (b.em j.em).listFrom.getD (ch % 4) 0 ≤ j.group →
         exec (.peakListDone t ch) s = gives t s { b with acq := { b.acq with lists := (Sparse.put b.acq.lists none ch
           (some ⟨j.group, findPeaks (a.bankBins ch j.bank) j.wMax (a.rd F.ACQ_PEAK_MIN_COUNT) (a.rd F.ACQ_PEAK_FACTOR)⟩)) } }) ∧
       (j.build = false ∨ j.group < (b.em j.em).minGroup ∨ j.group < (b.em j.em).listFrom.getD (ch % 4) 0 → exec (.peakListDone t ch) s = gives t s b)) ∧
     (b = a.armCheck.wrB F.ACQ_STATUS_EXT_TRIG_LEVEL level →
       (b.isFollower = true ∨ b.extTrig = false ∨ b.flag F.ACQ_TRIG_EDGE = level →
         exec (.extTrigEdge t level) s = gives t s b) ∧
       (b.isFollower = false → b.extTrig = true → b.flag F.ACQ_TRIG_EDGE = !level →
         (b.flag F.ACQ_STATUS_TRIG_ARMED = true →
           c = b.wr F.ACQ_STATUS_TRIG_ARMED 0 →
           exec (.extTrigEdge t level) s = gives t s { c with acq := { c.acq with
             due := some (b.now - b.rd F.ACQ_TRIG_FILTER * 10 + b.rd F.ACQ_TRIG_DELAY_NS)
             forced := false } }) ∧
         (b.flag F.ACQ_STATUS_TRIG_ARMED = false → exec (.extTrigEdge t level) s = gives t s (b.count ⟨0x05, 2⟩ 0)))) ∧
     (b = a.armCheck → b.extTrig = true → b.flag F.ACQ_STATUS_TRIG_ARMED = true → b.isFollower = false →
       c = b.wr F.ACQ_STATUS_TRIG_ARMED 0 →
       exec (.trigTimeout t) s = gives t s { c with acq := { c.acq with
         due := some (b.now + b.rd F.ACQ_TRIG_DELAY_NS)
         forced := true } })) ∧
  (∀ (t id : Nat) (e : Fin 64) (x : Shot) (v : EchoVals) (wins : List ChanWin) (rs : List ChanRecs) (s a b c z : State) (u : EchoUnit),
     State.AwakeAt t s a →
     (a.nextUnit e = some x → b = (if x.unit.isSome = true then a else a.formUnit x.id) →
       (b.shot? x.id).bind Shot.unit = some u →
       c = { b with fire := { b.fire with shots := b.fire.shots.filter (fun y => y.id != x.id) } } →
       (∀ n, c.regionFor 0 (c.echoPort e) = some n → exec (.staveShotUnit t e) s = gives t s (c.admitUnit n u).flushIdle) ∧
       (c.regionFor 0 (c.echoPort e) = none → exec (.staveShotUnit t e) s = gives t s c.flushIdle)) ∧
     (z.shot? id = some x → v = x.vals.getD (z.echoVals x.em) → wins = (if x.cut then [] else x.chans) →
       (b, rs) = wins.foldl (fun acc w => ((acc.1.formChannel v x w).1, acc.2 ++ [(acc.1.formChannel v x w).2])) (z, []) →
       u = ⟨x.frame, x.frameSec, x.frameNs, State.headerWords v x rs wins,
         State.unitRecords v.form (rs.flatMap ChanRecs.words), false⟩ →
       z.formUnit id = b.updShot id (fun y => { y with unit := some u })))

/-! ### Motion -/

/-- R203 to R215: with the chain running, 2^S samples give one output: each sample is demodulated or replaced, the
stages decimate them, INV_LEFT counts down, and the output is the linearised signal, or the prediction where it is
invalid; invalid and filled outputs are counted, and a pickoff run in progress takes the samples. The fire edges of
the output's instant follow it (R218). With the chain stopped nothing happens. The model's reading: the raw samples as
operands and the settings in force at each sample (log entry 50), the proof shots ahead (log entry 41), the output
that acts before the fire edges of its own instant (log entry 39), the estimate (log entry 52), and, for the samples
that a pickoff run takes by R401, the period with a blanked pair left out of its means (log entry 108). -/
def Obligations.PickoffOutputsComplete : Prop :=
  ∀ (t n blank inv : Nat) (samples : List (Int × Bool)) (ds out : List Int) (hist : List (List Int)) (bad : Bool) (v : Int)
    (l : List (Nat × Nat × Int × Bool)) (s a b c d e f : State), State.AwakeFirstAt t s a →
    (a.flag F.ANGLE_STATUS_RUNNING = false → exec (.pickoffOutput t samples) s = gives t s (a.launchDue t)) ∧
    (a.flag F.ANGLE_STATUS_RUNNING = true → n = 2 ^ a.rd F.ANGLE_DEC_STAGES → samples.length = n →
      l = ((List.range n).zip samples).map (fun p => (p.1, a.now - 150 - 25 * (n - 1 - p.1), p.2.1, p.2.2)) →
      (b, ds, blank) = l.foldl (State.takeSample a.proofsAhead) (a.pkoGather a.proofsAhead l, [], 0) →
      (out, hist) = chainRun b.chainTaps b.angle.stages ds.reverse →
      c = { b with angle := { b.angle with stages := hist, segs := b.angle.segs.take 8, resets := b.angle.resets.take 8 } } →
      inv = c.rd F.ANGLE_STATUS_INV_LEFT → d = c.wr F.ANGLE_STATUS_INV_LEFT (inv - 1) →
      bad = (decide (0 < inv) || (d.flag F.ANGLE_STATUS_ELEC_FAULT_P || d.flag F.ANGLE_STATUS_ELEC_FAULT_N) ||
        decide (d.rd F.ANGLE_BLANK_FILL_PCT * n < 100 * blank)) →
      v = (if bad then d.predicted .v (a.now - groupDelay (d.rd F.ANGLE_DEC_STAGES) : Int) else d.linearise (out.getLastD 0)) →
      e = (((State.wrB F.ANGLE_OUT_INVALID bad { d with angle := { d.angle with
        outs := (⟨a.now, v, bad⟩ : PkoOut) :: d.angle.outs.take 15 } }).wrB F.ANGLE_OUT_FILLED (decide (0 < blank)))).wrS
        F.ANGLE_OUT_VALUE v →
      f = (if bad = true then e.count ⟨0x07, 2⟩ 0 else e) →
      (0 < blank → exec (.pickoffOutput t samples) s = gives t s ((State.updAxis .v (fun x => { x with outs := x.outs + 1 })
        (f.count ⟨0x07, 3⟩ 0)).launchDue t)) ∧
      (blank = 0 → exec (.pickoffOutput t samples) s = gives t s
        ((State.updAxis .v (fun x => { x with outs := x.outs + 1 }) f).launchDue t)))

/-- R198, R201, R202, R204, R212, Table 8-3: a demodulator period's end takes the pending excitation and trim into
force, makes the reset that is due, chooses the range and sets INV_LEFT; resets are requested by timer and by
clipping. R216, R217: an electrode's fault is shown, raised and logged with the electrodes in fault; its recovery
clears it and leaves at least six invalid outputs. The model's reading: the reset that belongs to the start of the
chain adds nothing to INV_LEFT (log entry 49). -/
def Obligations.ElectrodeCommandsComplete : Prop :=
  (∀ (t peak r inv : Nat) (exc : Bool) (g : ExcSeg) (rest : List ExcSeg) (s a b c : State), State.AwakeAt t s a →
     (a.flag F.ANGLE_STATUS_RUNNING = false →
       exec (.demodPeriodBoundary t peak) s = gives t s a ∧ exec (.caResetTimer t) s = gives t s a ∧
       exec (.clipResetRequest t) s = gives t s a) ∧
     (a.flag F.ANGLE_STATUS_RUNNING = true →
       exec (.caResetTimer t) s = gives t s { a with angle := { a.angle with resetDue := true } } ∧
       exec (.clipResetRequest t) s =
         gives t s (State.count ⟨0x07, 1⟩ 0 { a with angle := { a.angle with resetDue := true } }) ∧
       (a.angle.segs = g :: rest → exc = (a.flag F.ANGLE_STATUS_EXC_PEND && a.excChanged) →
         (exc = true ∨ g.gain ≠ a.rdS F.ANGLE_TRIM_GAIN ∨ g.offset ≠ a.rdS F.ANGLE_TRIM_OFFSET →
           b = { a.wr F.ANGLE_STATUS_EXC_PEND 0 with angle := { a.angle with
             segs := a.excRegs a.now :: a.angle.segs, amp := a.rd F.ANGLE_EXC_AMP } }) →
         (exc = false → g.gain = a.rdS F.ANGLE_TRIM_GAIN → g.offset = a.rdS F.ANGLE_TRIM_OFFSET →
           b = a.wr F.ANGLE_STATUS_EXC_PEND 0) →
         r = (if a.angle.resetDue then b.nextRange peak else b.rd F.ANGLE_STATUS_RANGE_NOW) →
         inv = State.invAfter (b.rd F.ANGLE_STATUS_INV_LEFT) exc a.angle.resetDue (r != b.rd F.ANGLE_STATUS_RANGE_NOW)
           a.angle.startDue →
         c = (b.wr F.ANGLE_STATUS_RANGE_NOW r).wr F.ANGLE_STATUS_INV_LEFT inv →
         (a.angle.resetDue = false → exec (.demodPeriodBoundary t peak) s = gives t s c) ∧
         (a.angle.resetDue = true → exec (.demodPeriodBoundary t peak) s = gives t s (State.count ⟨0x07, 0⟩ 0
           { c with angle := { c.angle with
             resets := c.now :: c.angle.resets
             resetDue := false
             startDue := false } }))))) ∧
  (∀ (t : Nat) (s a b c : State), State.AwakeAt t s a →
     (b = a.wr F.ANGLE_STATUS_ELEC_FAULT_P 1 →
       exec (.elecFault t 0) s = gives t s (((b.wr F.ANGLE_STATUS_ELEC_FAULT 1).raise Irq.angleElecFault).logEvent
         Ev.angleElecFault (b.rd F.ANGLE_STATUS_ELEC_FAULT_P + 2 * b.rd F.ANGLE_STATUS_ELEC_FAULT_N))) ∧
     (c = a.wr F.ANGLE_STATUS_ELEC_FAULT_N 1 →
       exec (.elecFault t 1) s = gives t s (((c.wr F.ANGLE_STATUS_ELEC_FAULT 1).raise Irq.angleElecFault).logEvent
         Ev.angleElecFault (c.rd F.ANGLE_STATUS_ELEC_FAULT_P + 2 * c.rd F.ANGLE_STATUS_ELEC_FAULT_N))) ∧
     (a.flag F.ANGLE_STATUS_ELEC_FAULT_P = true → exec (.elecRecover t 0) s = gives t s
       ((a.wr F.ANGLE_STATUS_ELEC_FAULT_P 0).wr F.ANGLE_STATUS_INV_LEFT
         (max (a.rd F.ANGLE_STATUS_INV_LEFT) 6))) ∧
     (a.flag F.ANGLE_STATUS_ELEC_FAULT_N = true → exec (.elecRecover t 1) s = gives t s
       ((a.wr F.ANGLE_STATUS_ELEC_FAULT_N 0).wr F.ANGLE_STATUS_INV_LEFT
         (max (a.rd F.ANGLE_STATUS_INV_LEFT) 6))))

/-- R222, R230 to R232: a servo period's start counts, swaps a pending bank, lets an axis that may run leave OFF or
PARKED for ACQUIRE, takes the measurement and starts the program of a closed loop. Axis V's comes only once V_DIV
pickoff outputs have completed since the last. R223, R227: at its output instant a finished program's results are
committed; an unfinished one is an overrun, and the third in a row parks the axis; an axis without a program does
nothing. R231, R233, R237, R238: ACQ_MS in ACQUIRE ends in FAULT; a stopped axis V's drive moves towards CENTRE_CODE
by at most PARK_SLEW; the raster restarts on its own timer. The model's reading: the device's own reference time takes
hold at the next period start or output instant, and what PARK takes back (log entry 55), the estimate (log entry 52),
and no fault by coasting in ACQUIRE (log entry 53). -/
def Obligations.ServoPeriodsComplete : Prop :=
  (∀ (t : Nat) (ax : Axis) (s a b c d e f : State), State.AwakeAt t s a →
     (a.servo.v.outs < a.rd F.SERVO_V_CFG_V_DIV → exec (.servoPeriodStart t .v) s = gives t s a) ∧
     ((ax = .v → a.rd F.SERVO_V_CFG_V_DIV ≤ a.servo.v.outs) →
     (ax = .v → b = (a.countN ⟨0x08, 1⟩ ax.num 1).updAxis .v (fun x => { x with outs := 0 })) →
     (ax = .h → b = (a.countN ⟨0x08, 1⟩ ax.num 1).hPeriodStart) →
     c = (if b.flag (F.SERVO_AXIS_STATUS_SWAP_PEND ax.num) then b.bankSwap ax else b) →
     e = ((c.axAcquire ax).wr (F.SERVO_AXIS_STATUS_COAST_RUN ax.num) 0).wr (F.SERVO_AXIS_STATUS_OVR_RUN ax.num) 0 →
     d = (if c.axMayRun ax && (c.axState ax == AxOff || (c.axis ax).unpark) then
       (if ax = .h ∧ e.flag F.SERVO_H_BUS_GATE_FAULT then e.axFault .h 5 else e) else c) →
     (d.axClosed ax = false → exec (.servoPeriodStart t ax) s = gives t s d) ∧
     (d.axClosed ax = true → f = d.coast ax (d.measure ax).isSome →
       (f.axClosed ax = false → exec (.servoPeriodStart t ax) s = gives t s f) ∧
       (f.axClosed ax = true → exec (.servoPeriodStart t ax) s = gives t s (f.updAxis ax (fun x => { x with
         prog := some f.now
         meas := d.measure ax
         phase := f.rd (F.SERVO_AXIS_CTRL_OUT_PHASE ax.num) })))))) ∧
  (∀ (t t0 k : Nat) (ax : Axis) (fin : Bool) (s a b c : State), State.AwakeAt t s a →
     ((a.axis ax).prog = none → exec (.outputInstant t ax fin) s = gives t s a) ∧
     ((a.axis ax).prog = some t0 → (ax = .v → b = a) → (ax = .h → b = a.refTimer) →
       exec (.outputInstant t ax true) s = gives t s
         ((b.commitProgram ax (t0 + (a.axis ax).phase * a.axPeriod ax / 256)).updAxis ax
           (fun x => { x with prog := none, meas := none })) ∧
       (k = min (b.rd (F.SERVO_AXIS_STATUS_OVR_RUN ax.num) + 1) 3 →
         c = ((b.wr (F.SERVO_AXIS_STATUS_OVR_RUN ax.num) k).bump (F.SERVO_AXIS_OVR_OVERRUNS ax.num)).count ⟨0x08, 0⟩ ax.num →
         (k < 3 → exec (.outputInstant t ax false) s = gives t s
           (c.updAxis ax (fun x => { x with prog := none, meas := none }))) ∧
         (k = 3 → exec (.outputInstant t ax false) s = gives t s
           ((c.axPark ax 1).updAxis ax (fun x => { x with prog := none, meas := none })))))) ∧
  (∀ (t : Nat) (ax : Axis) (s a : State), State.AwakeAt t s a →
     (a.axState ax = AxAcquire → (ax = .h → a.servo.aligning = false) →
       exec (.acqTimeout t ax) s = gives t s (a.axFault ax 4)) ∧
     (a.axClosed .v = false → a.rd F.SERVO_V_STATUS_DAC_CODE < a.rd F.SERVO_V_DRIVE_CENTRE_CODE →
       exec (.parkSlewStep t) s = gives t s (a.wr F.SERVO_V_STATUS_DAC_CODE (min (a.rd F.SERVO_V_DRIVE_CENTRE_CODE)
         (a.rd F.SERVO_V_STATUS_DAC_CODE + a.rd F.SERVO_V_DRIVE_PARK_SLEW)))) ∧
     (a.axClosed .v = false → a.rd F.SERVO_V_DRIVE_CENTRE_CODE ≤ a.rd F.SERVO_V_STATUS_DAC_CODE →
       exec (.parkSlewStep t) s = gives t s (a.wr F.SERVO_V_STATUS_DAC_CODE (max (a.rd F.SERVO_V_DRIVE_CENTRE_CODE)
         (a.rd F.SERVO_V_STATUS_DAC_CODE - a.rd F.SERVO_V_DRIVE_PARK_SLEW)))) ∧
     (a.servo.profile.mode = true → a.rasterBySchedule = false → a.mode = Mode.config ∨ a.firing = true →
       exec (.rasterStart t) s = gives t s
         (a.rasterStart (if a.servo.raster then a.servo.rasterAt + a.servo.rasterP else a.now))))

/-- R239: one step of the encoder counts up or down by DIR, modulo CPR; no step changes nothing; a double step is a
fault; the first index sets the count to 0, a later one only checks it, and one too far away is a fault. R242 to R244:
the phase duties, and the two outputs of each phase with the dead time, are recomputed while the loop is closed, from
the predicted angle in COAST; a stale bridge voltage falls back to VBUS_NOM; GATE_FAULT_N shows, and at a low level
every state but OFF goes to FAULT; alignment ends with the count at an electrical angle of 0. The model's reading: the
count nearest to an electrical angle of 0 (log entry 54), the rounding of on-times, the side of the dead time and the
level operand of GATE_FAULT (log entry 56), and the estimate (log entry 52). -/
def Obligations.EncoderAndBridgeCommandsComplete : Prop :=
  (∀ (t d : Nat) (p q : Bool) (s a b : State), State.AwakeAt t s a →
     d = (State.quadPhase p q + 4 - State.quadPhase a.servo.encA a.servo.encB) % 4 →
     b = { a with servo := { a.servo with encA := p, encB := q } } →
     (d = 0 → exec (.encEdge t p q) s = gives t s b) ∧
     (d = 2 → exec (.encEdge t p q) s = gives t s
       { b.wr F.SERVO_H_POS_ENC_ERR 1 with servo := { b.servo with errNow := true } }) ∧
     ((d = 1 ∧ b.flag F.SERVO_H_ENC_DIR = false ∨ d = 3 ∧ b.flag F.SERVO_H_ENC_DIR = true) →
       exec (.encEdge t p q) s = gives t s
         (b.wr F.SERVO_H_POS_COUNT ((b.rd F.SERVO_H_POS_COUNT + 1) % b.rd F.SERVO_H_ENC_CPR))) ∧
     ((d = 1 ∧ b.flag F.SERVO_H_ENC_DIR = true ∨ d = 3 ∧ b.flag F.SERVO_H_ENC_DIR = false) →
       exec (.encEdge t p q) s = gives t s (b.wr F.SERVO_H_POS_COUNT
         ((b.rd F.SERVO_H_POS_COUNT + b.rd F.SERVO_H_ENC_CPR - 1) % b.rd F.SERVO_H_ENC_CPR))) ∧
     (a.flag F.SERVO_H_POS_ENC_REF = false →
       exec (.encIndex t) s = gives t s ((a.wr F.SERVO_H_POS_COUNT 0).wr F.SERVO_H_POS_ENC_REF 1)) ∧
     (a.flag F.SERVO_H_POS_ENC_REF = true →
       (min (a.rd F.SERVO_H_POS_COUNT) (a.rd F.SERVO_H_ENC_CPR - a.rd F.SERVO_H_POS_COUNT) ≤ a.rd F.SERVO_H_ENC_ENC_TOL →
         exec (.encIndex t) s = gives t s a) ∧
       (a.rd F.SERVO_H_ENC_ENC_TOL < min (a.rd F.SERVO_H_POS_COUNT) (a.rd F.SERVO_H_ENC_CPR - a.rd F.SERVO_H_POS_COUNT) →
         exec (.encIndex t) s = gives t s (a.encFault.wr F.SERVO_H_POS_COUNT 0)))) ∧
  (∀ (t per : Nat) (ds : List Nat) (th : Int) (s a : State), State.AwakeAt t s a →
     (per = 1000000 / a.rd F.SERVO_H_PWM_PWM_KHZ →
       (a.axClosed .h = true → a.servo.aligning = false →
         (a.axState .h = AxCoast → th = a.predicted .h a.now) →
         (a.axState .h ≠ AxCoast → th = a.encAngle (a.rd F.SERVO_H_POS_COUNT)) →
         ds = [0, 1, 2].map (State.dutyNs per
           (ratClamp (-1) 1 (mkRat (a.rdS (F.SERVO_AXIS_OUT_OUT 1)) (a.rd F.SERVO_H_BUS_VBUS)))
           ((a.rd F.SERVO_H_COMM_POLES : Int) * th + a.rd F.SERVO_H_COMM_COMM_OFS * 16) (2 ^ 20)) →
         exec (.pwmUpdate t) s = gives t s { a with servo := { a.servo with
           duties := ds
           phases := ds.map (State.phaseOut per (a.rd F.SERVO_H_PWM_DEAD_NS)) } }) ∧
       (a.axClosed .h = true → a.servo.aligning = true →
         ds = [0, 1, 2].map (State.dutyNs per
           (ratClamp (-1) 1 (mkRat (a.rd F.SERVO_H_ALIGN_ALIGN_MV) (a.rd F.SERVO_H_BUS_VBUS))) 0 (2 ^ 20)) →
         exec (.pwmUpdate t) s = gives t s { a with servo := { a.servo with
           duties := ds
           phases := ds.map (State.phaseOut per (a.rd F.SERVO_H_PWM_DEAD_NS)) } })) ∧
     (a.axClosed .h = false → exec (.pwmUpdate t) s = gives t s a) ∧
     exec (.vbusStale t) s = gives t s
       ((a.wr F.SERVO_H_BUS_VBUS (a.rd F.SERVO_H_BRIDGE_VBUS_NOM)).wr F.SERVO_H_BUS_BRIDGE_STALE 1) ∧
     (∀ z : State, z = s.arrive t →
       exec (.gateFault t true) s = gives t s (z.wrB F.SERVO_H_BUS_GATE_FAULT false) ∧
       ((z.wrB F.SERVO_H_BUS_GATE_FAULT true).axState .h = AxOff →
         exec (.gateFault t false) s = gives t s (z.wrB F.SERVO_H_BUS_GATE_FAULT true)) ∧
       ((z.wrB F.SERVO_H_BUS_GATE_FAULT true).axState .h ≠ AxOff →
         exec (.gateFault t false) s = gives t s ((z.wrB F.SERVO_H_BUS_GATE_FAULT true).axFault .h 5))) ∧
     (a.axState .h = AxAcquire → a.servo.aligning = true →
       exec (.alignDone t) s = gives t s { a.wr F.SERVO_H_POS_COUNT ((List.range (a.rd F.SERVO_H_ENC_CPR)).foldl
         (fun b c => if a.elecDistance c < a.elecDistance b then c else b) 0) with
         servo := { a.servo with aligning := false } }))

/-! ### The scene: geometry and cameras -/

/-- R252, R258, R260 to R263: the pose matrix computed from the quaternion; the oldest ended sector closes, stamped,
once its last window has; its reports are formed once its units are, enter their region, and its bank is free again
unless another sector still uses it. The model's reading: a sector's reports wait for all its units to be formed (log
entry 60). -/
def Obligations.GeometryCommandsComplete : Prop :=
  ∀ (t : Nat) (x : Sector) (es : List Nat) (others : List Sector) (s a b c : State), State.AwakeAt t s a →
    (a.flag F.GEOM_POSE_CTRL_BUSY = true → exec (.poseMatrixDone t) s = gives t s (((List.range 9).foldl
      (fun c n => c.wrS (F.GEOM_MATRIX_M n) (State.matrixElem a.geom.pose (n / 3) (n % 3))) a).wr F.GEOM_POSE_CTRL_BUSY 0)) ∧
    (a.geom.sectors.find? (fun x => a.sectorOver x && !x.closed) = some x →
      (a.sectorShots x).all (fun z => z.closed) = true → a.sectorOwes x = false →
      exec (.sectorClose t) s = gives t s
        (a.updSector x.number (fun x => { x with closed := true, sec := a.sec, ns := a.nsec }))) ∧
    (a.geom.sectors.find? (fun x => x.closed) = some x → a.sectorShots x = [] →
      es = (List.range 4).filter (fun e => envEn (x.envs.getD e [])) →
      b = es.foldl (State.noteReport x) a →
      others = b.geom.sectors.filter (fun y => y.number != x.number) →
      c = { b with geom := { b.geom with
        sectors := others
        busy := (if x.lost || others.any (fun y => y.bank == x.bank && !y.lost) then b.geom.busy
          else b.geom.busy.set x.bank false) } } →
      (∀ n, c.regionOfStream 3 = some n → exec (.envelopeReport t) s =
        gives t s (c.admitReports n x.number (es.map (reportWords a.memberNo x)))) ∧
      (c.regionOfStream 3 = none → exec (.envelopeReport t) s = gives t s c))

/-- R266 to R268, R270: a port that does not receive ignores every packet; one that does counts the packets it
ignores, records errors, and marks or closes its open frame at a header error and at FE_TIMEOUT. R270, R275, R277,
R278, R280: a frame start closes a frame left open, counts, and opens a frame with the next number, the settings in
force, the device time, and the context of the port, which a table write has renewed. The model's reading: CAM_FRAMES
counts opened frames (log entry 66), irregular packets (log entry 61), and the region that carries the output (log
entry 65). -/
def Obligations.CameraFramesStart : Prop :=
  (∀ (t fn : Nat) (p : Fin 2) (vc : Fin 4) (s a b : State), State.AwakeAt t s a →
     (a.camReceives p = false →
       exec (.csiFrameStart t p fn vc) s = gives t s a ∧ exec (.csiFrameEnd t p vc) s = gives t s a ∧
       exec (.csiShortPacketIgnored t p) s = gives t s a ∧ exec (.sotError t p) s = gives t s a ∧
       exec (.csiHdrEccError t p) s = gives t s a ∧ exec (.feTimeout t p) s = gives t s a) ∧
     (a.camReceives p = true →
       exec (.csiShortPacketIgnored t p) s = gives t s (a.count ⟨0x0A, 1⟩ p) ∧
       exec (.sotError t p) s = gives t s (a.wr (F.CAM_PORT_STATUS_SOT_ERR p) 1) ∧
       (b = a.count ⟨0x0A, 2⟩ p →
         (State.camOpen (b.camPort p) = none → exec (.csiHdrEccError t p) s = gives t s b) ∧
         (State.camOpen (b.camPort p) ≠ none → exec (.csiHdrEccError t p) s =
           gives t s (b.updLastFrame p (fun f => { f with flags := f.flags ||| 2 ^ 7 })))) ∧
       (State.camOpen (a.camPort p) = none → exec (.feTimeout t p) s = gives t s a) ∧
       (State.camOpen (a.camPort p) ≠ none → exec (.feTimeout t p) s =
         gives t s ((a.updLastFrame p (fun f => { f with flags := f.flags ||| 2 ^ 5 })).closeFrame p false)) ∧
       (vc.val ≠ a.rd (F.CAM_PORT_CFG_VC p) →
         exec (.csiFrameStart t p fn vc) s = gives t s (a.count ⟨0x0A, 1⟩ p) ∧
         exec (.csiFrameEnd t p vc) s = gives t s (a.count ⟨0x0A, 1⟩ p)))) ∧
  (∀ (t fn : Nat) (p : Fin 2) (vc : Fin 4) (x : CamPort) (ctx : List Nat) (keep : List CamSettings) (f : CamFrame)
     (s a b c : State), State.AwakeAt t s a → a.camReceives p = true → vc.val = a.rd (F.CAM_PORT_CFG_VC p) →
     b = a.closeMissing p → x = b.camPort p →
     (∀ n, x.lastFs = some n → (b.now - n) * b.rd (F.CAM_PORT_CFG_FPS_MAX p) < 1000000000 →
       c = (b.count ⟨0x0A, 6⟩ p).count ⟨0x0A, 0⟩ p) →
     ((∀ n, x.lastFs = some n → 1000000000 ≤ (b.now - n) * b.rd (F.CAM_PORT_CFG_FPS_MAX p)) → c = b.count ⟨0x0A, 0⟩ p) →
     ctx = (if x.ctxNew then c.camTable p else x.ctx) →
     f = { seq := x.nextSeq % 2 ^ 32
           settings := (State.settingsFor x x.nextSeq).id
           exp := (State.settingsFor x x.nextSeq).exp
           flags := b2n (State.settingsFor x x.nextSeq).nacked * 2 ^ 8 + b2n x.ctxNew * 2 ^ 9 +
             c.rd F.TIME_STATUS_QUALITY * 2 ^ 10
           fn := fn, tFs := c.sec * 1000000000 + c.nsec, ctx := ctx, got := 0, lines := [], used := 0, closed := false
           cut := false, luma := [] } →
     (∀ i, x.settings.reverse.find? (fun i => decide (i.from0 ≤ x.nextSeq)) = some i →
       keep = x.settings.dropWhile (fun j => j != i)) →
     (x.settings.reverse.find? (fun i => decide (i.from0 ≤ x.nextSeq)) = none → keep = x.settings) →
     exec (.csiFrameStart t p fn vc) s = gives t s (((c.putCam p { x with
       nextSeq := x.nextSeq + 1
       opened := true
       frames := x.frames ++ [f]
       ctx := ctx
       ctxNew := false
       lastFs := some c.now
       settings := keep }).wr (F.CAM_PORT_SEQ_SEQ p) f.seq).wr (F.CAM_PORT_STATUS_ID_NOW p)
         (State.settingsFor x x.nextSeq).id))

/-- R266, R267, R273, Table 11-2: a line's packet, after the lines that the pipeline has taken: ignored, stray,
cutting the frame where the stripe buffer is full, beyond HEIGHT, or kept, fitted to WIDTH. R270, R272, R280, R281: a
frame's end closes the open frame, or is stray; the turn in progress ends and the next is chosen; a relayed write that
is acknowledged counts and is followed by the next of the list or, after the last, completes the relay, one that is
not acknowledged fails it. The model's reading: irregular lines and frame ends (log entry 61), what is counted and
when (log entry 66), the pipeline's own speed (log entry 62), and a cut frame's image (log entry 65). -/
def Obligations.CameraLinesAndFrameEndsComplete : Prop :=
  (∀ (t dt used : Nat) (p : Fin 2) (vc : Fin 4) (pixels ctx : List Nat) (crcOk : Bool) (f : CamFrame) (x : CamPort)
     (s a b : State), State.AwakeAt t s a →
     (a.cam.turn = none → b = a) → (∀ q, a.cam.turn = some q → b = a.camConsume q used) → x = b.camPort p →
     (b.camReceives p = false → exec (.csiLine t p vc dt pixels crcOk used) s = gives t s b) ∧
     (b.camReceives p = true → (∀ f, State.camOpen x = some f → ctx = f.ctx) → (State.camOpen x = none → ctx = x.ctx) →
       (vc.val ≠ b.rd (F.CAM_PORT_CFG_VC p) ∨ dt ≠ (if ctxRaw12 ctx then 0x2C else 0x2B) →
         exec (.csiLine t p vc dt pixels crcOk used) s = gives t s (b.count ⟨0x0A, 1⟩ p)) ∧
       (vc.val = b.rd (F.CAM_PORT_CFG_VC p) → dt = (if ctxRaw12 ctx then 0x2C else 0x2B) →
         (State.camOpen x = none → exec (.csiLine t p vc dt pixels crcOk used) s = gives t s (b.count ⟨0x0A, 3⟩ p)) ∧
         (State.camOpen x = some f → 64 ≤ State.camBuffered x →
           exec (.csiLine t p vc dt pixels crcOk used) s = gives t s (b.closeFrame p true)) ∧
         (State.camOpen x = some f → State.camBuffered x < 64 → ctxHeight ctx ≤ f.got →
           exec (.csiLine t p vc dt pixels crcOk used) s = gives t s
             (b.updLastFrame p (fun g => { g with got := g.got + 1, flags := g.flags |||
               (b2n (decide (pixels.length < ctxWidth ctx)) * 2 + b2n (decide (ctxWidth ctx < pixels.length)) * 4 +
                 b2n (!crcOk) * 2 ^ 6) ||| 2 ^ 4 }))) ∧
         (State.camOpen x = some f → State.camBuffered x < 64 → f.got < ctxHeight ctx →
           exec (.csiLine t p vc dt pixels crcOk used) s = gives t s (b.updLastFrame p (fun g => { g with
             got := g.got + 1
             lines := g.lines ++ [State.fitLine ctx f.got
               (pixels.map (fun v => if ctxRaw12 ctx then v % 4096 else v % 1024 * 4))]
             flags := g.flags ||| (b2n (decide (pixels.length < ctxWidth ctx)) * 2 +
               b2n (decide (ctxWidth ctx < pixels.length)) * 4 + b2n (!crcOk) * 2 ^ 6) })).camStart)))) ∧
  (∀ (t : Nat) (p q : Fin 2) (vc : Fin 4) (f : CamFrame) (s a b c : State), State.AwakeAt t s a →
     (a.camReceives p = true → vc.val = a.rd (F.CAM_PORT_CFG_VC p) →
       (State.camOpen (a.camPort p) ≠ none → exec (.csiFrameEnd t p vc) s = gives t s (a.closeFrame p false)) ∧
       (State.camOpen (a.camPort p) = none → (a.camPort p).opened = true →
         exec (.csiFrameEnd t p vc) s = gives t s (a.count ⟨0x0A, 3⟩ p)) ∧
       (State.camOpen (a.camPort p) = none → (a.camPort p).opened = false →
         exec (.csiFrameEnd t p vc) s = gives t s a)) ∧
     (a.cam.turn = some q.val →
       (a.flag F.CAM_CTRL_MUX = true → (a.camPort q).frames.head? = some f → f.closed = false →
         exec (.pipelineTurn t) s = gives t s a) ∧
       (a.flag F.CAM_CTRL_MUX = false ∨ (a.camPort q).frames = [] ∨ ((a.camPort q).frames.head? = some f ∧ f.closed = true) →
         exec (.pipelineTurn t) s = gives t s ((a.camConsume q 4096).camNext (1 - q.val)))) ∧
     (a.flag (F.CAM_CCI_CTRL_BUSY p) = true →
       (b = a.bump (F.CAM_CCI_STATUS_DONE p) →
         ((b.camPort p).cciLeft ≤ 1 → exec (.cciWriteDone t p true) s = gives t s (b.cciComplete p false)) ∧
         (1 < (b.camPort p).cciLeft → exec (.cciWriteDone t p true) s =
           gives t s ((b.updCam p (fun x => { x with cciLeft := (b.camPort p).cciLeft - 1 })).cciIssue p))) ∧
       (c = (a.wr (F.CAM_CCI_STATUS_NACK p) 1).raise Irq.camCciFail →
         exec (.cciWriteDone t p false) s = gives t s ((c.logEvent Ev.camCciFail
           (p * 2 ^ 8 + c.rd (F.CAM_CCI_STATUS_DONE p))).cciComplete p true))))

/-! ### Network lanes and the landing -/

/-- R285, R286: what a lane shows after a change of its PCS or auto-negotiation, its speed once it is up, the change
of LINK itself with its interrupt, its count and, at a loss, the frame cut; a loss of PCS lock returns the equaliser
to its mid-range settings and ends its lock, unless EQ_FREEZE holds it; and the equaliser's lock. R287: pause frames
and any other MAC control frame are discarded and counted, and change nothing else; with the link down nothing is
received. R288: ARP, neighbour solicitation and ICMP echo are answered for the lane's own address, an echo up to 100
times in a second; every other frame is discarded and counted. The model's choices: the taps at mid-range, at
Config.eqTap at the lock, and what EQ_FREEZE holds (log entry 74), the discard beyond the echo limit and the time at
which a control frame leaves (log entry 71), the layouts of the frames (log entry 129), and the cord's lanes in SAFE
(log entry 97). -/
def Obligations.LaneCommandsComplete : Prop :=
  (∀ (t speed : Nat) (l : Fin 10) (k : Fin 8) (pcs anDone half up : Bool) (s a b c d e : State), State.AwakeAt t s a →
     (l.val < 8 → up = a.linkNow l pcs anDone half →
       e = a.pcsLock l (pcs && a.laneMayUp l) →
       b = (e.wrB (F.NET_LANE_STATUS_AN_DONE l) ((a.flag (F.NET_LANE_CFG_AN_EN l) && a.rd (F.NET_LANE_CFG_MODE l) != 0) &&
         anDone && pcs)).wrB (F.NET_LANE_STATUS_HALF_DUP l) (e.sgmiiAn l && half && pcs) →
       (up = false → c = b) →
       (up = true → d = b.wr (F.NET_LANE_STATUS_SPEED l) (if a.rd (F.NET_LANE_CFG_MODE l) = 0 then 3
           else if b.sgmiiAn l then min speed 2 else 2) ∧
         c = (if d.sgmiiAn l then d.putLane l { d.laneSt l with speed := some (min speed 2) } else d)) →
       (c.flag (F.NET_LANE_STATUS_LINK l) = up → exec (.linkChange t l pcs anDone half speed) s = gives t s c) ∧
       (c.flag (F.NET_LANE_STATUS_LINK l) ≠ up → up = true →
         exec (.linkChange t l pcs anDone half speed) s = gives t s
           (((c.wrB (F.NET_LANE_STATUS_LINK l) true).raise Irq.netLink).count ⟨0x0B, 4⟩ l)) ∧
       (c.flag (F.NET_LANE_STATUS_LINK l) ≠ up → up = false →
         exec (.linkChange t l pcs anDone half speed) s = gives t s
           ((((c.wrB (F.NET_LANE_STATUS_LINK l) false).raise Irq.netLink).count ⟨0x0B, 4⟩ l).abortTx l))) ∧
     ((a.laneSt k).pcs = true → a.flag (F.NET_LANE_CFG_EQ_FREEZE k) = false →
       a.pcsLock k false = (a.putLane k { a.laneSt k with pcs := false, taps := [0, 0, 0, 0, 0, 0] }).wr
         (F.NET_LANE_STATUS_EQ_LOCK k) 0) ∧
     (a.flag (F.NET_LANE_CFG_EQ_FREEZE k) = true → a.pcsLock k pcs = a.putLane k { a.laneSt k with pcs := pcs }) ∧
     (8 ≤ l.val → exec (.linkChange t l pcs anDone half speed) s = gives t s
       (a.wrB (F.CORD_LINK_LINK (l - 8)) (pcs && a.flag F.CORD_STRAPS_ROLE && a.cordRuns)).orderBack) ∧
     (a.laneMayUp k = true → a.flag (F.NET_LANE_CFG_EQ_FREEZE k) = true →
       exec (.eqLock t k) s = gives t s (a.wr (F.NET_LANE_STATUS_EQ_LOCK k) 1)) ∧
     (a.laneMayUp k = true → a.flag (F.NET_LANE_CFG_EQ_FREEZE k) = false → exec (.eqLock t k) s = gives t s
       ((a.putLane k { a.laneSt k with taps := (List.range 6).map (fun i => Config.eqTap i a.free) }).tick.wr
         (F.NET_LANE_STATUS_EQ_LOCK k) 1)) ∧
     (a.laneMayUp k = false → exec (.eqLock t k) s = gives t s a)) ∧
  (∀ (t bytes : Nat) (l : Fin 8) (s a : State), State.AwakeAt t s a →
     (a.flag (F.NET_LANE_STATUS_LINK l) = true →
       exec (.pauseFrameRx t l bytes) s = gives t s ((a.countN ⟨0x0B, 2⟩ l bytes).count ⟨0x0B, 5⟩ l)) ∧
     (a.flag (F.NET_LANE_STATUS_LINK l) = false → exec (.pauseFrameRx t l bytes) s = gives t s a)) ∧
  (∀ (t target mac ip bytes : Nat) (l : Fin 8) (v6 : Bool) (x : LaneSt) (s a b : State), State.AwakeAt t s a →
     a.flag (F.NET_LANE_STATUS_LINK l) = true → b = (a.countN ⟨0x0B, 2⟩ l bytes).count ⟨0x0B, 6⟩ l →
     exec (.rxDiscard t l bytes) s = gives t s b ∧
     (a.laneIp4 l ≠ 0 → target = a.laneIp4 l → exec (.arpRequest t l target mac ip) s =
       gives t s ((a.rxFrame l 64).sendControl l ⟨.arp, mac, ip, none, 64⟩)) ∧
     (a.laneIp4 l = 0 ∨ target ≠ a.laneIp4 l → exec (.arpRequest t l target mac ip) s = gives t s (a.rxDiscard l 64)) ∧
     (target = a.laneIp6 l → exec (.neighborSolicitation t l target mac ip) s =
       gives t s ((a.rxFrame l 90).sendControl l ⟨.neighbour, mac, ip, none, 90⟩)) ∧
     (target ≠ a.laneIp6 l → exec (.neighborSolicitation t l target mac ip) s = gives t s (a.rxDiscard l 90)) ∧
     ((v6 = true ∧ target = a.laneIp6 l ∨ v6 = false ∧ a.laneIp4 l ≠ 0 ∧ target = a.laneIp4 l) → x = a.laneSt l →
       (a.now < x.icmpAt + 1000000000 → 0 < x.icmpN → x.icmpN < 100 →
         exec (.icmpEchoRequest t l v6 target mac ip bytes) s = gives t s
           (((a.putLane l { x with icmpN := x.icmpN + 1 }).rxFrame l bytes).sendControl l
             ⟨.echoReply, mac, ip, none, max 64 bytes⟩)) ∧
       (a.now < x.icmpAt + 1000000000 → 100 ≤ x.icmpN →
         exec (.icmpEchoRequest t l v6 target mac ip bytes) s = gives t s b) ∧
       (x.icmpAt + 1000000000 ≤ a.now ∨ x.icmpN = 0 →
         exec (.icmpEchoRequest t l v6 target mac ip bytes) s = gives t s
           (((a.putLane l { x with icmpAt := a.now, icmpN := 1 }).rxFrame l bytes).sendControl l
             ⟨.echoReply, mac, ip, none, max 64 bytes⟩))) ∧
     ((v6 = true ∧ target ≠ a.laneIp6 l ∨ v6 = false ∧ (a.laneIp4 l = 0 ∨ target ≠ a.laneIp4 l)) →
       exec (.icmpEchoRequest t l v6 target mac ip bytes) s = gives t s b))

/-- R294 to R298, R303: a region's open datagram closes; the units of a frame, and late units before them, are packed
in frame order; a free port that is neither frozen nor down is granted to the first requester after its last owner.
R301, R303, R357: a frame's end on a lane counts it, frees its datagram's space, resets SEQ and the counters of its
region where that has been written meanwhile, sends the control frames that wait, and the grant goes on to the next
datagram or ends; on CORD0 the next relayed datagram leaves, this member's own first. R305, R306: the port watchdog
drops the datagram in progress and all that its owner has waiting, ends the grant and reports the bite; a requester
that has waited too long is reported. The model's reading: a bite counts lost replies in NET_REPLY_DROP, and port 8 is
CORD0 (log entry 72), the fill counts the bytes of items alone (log entry 67), the reset of a region after the
datagram in transmission (log entry 9), late units in a block of their own (log entry 48), and a control frame after
the frame in progress (log entry 71). -/
def Obligations.LandingCommandsComplete : Prop :=
  (∀ (t k req : Nat) (n : Fin 16) (p : Fin 8) (d : OpenDg) (s a b : State), State.AwakeAt t s a →
     ((a.region n).openDg = some d → exec (.flushTimeout t n) s = gives t s
       (a.updRegion n (fun r => { r with openDg := none, closed := r.closed ++ [a.closedDg n d true] }))) ∧
     ((a.region n).openDg = none → exec (.flushTimeout t n) s = gives t s a) ∧
     (a.flag (F.LAND_REGION_EN n) = true → a.rd (F.LAND_REGION_STREAM n) = 0 →
       exec (.echoFrameRelease t n k) s = gives t s
         ((sortBy (fun u => u.frame) ((a.region n).held.filter (fun u => u.frame ≤ k))).foldl (State.packUnit n)
           (a.putRegion n { a.region n with
             held := (a.region n).held.filter (fun u => k < u.frame)
             released := max (a.region n).released (k + 1) }))) ∧
     (a.flag (F.LAND_PORT_STATUS_GRANTED p) = false → a.flag (F.LAND_PORT_CTRL_FREEZE p) = false →
       a.flag (F.NET_LANE_STATUS_LINK p) = true →
       ((State.grantOrder (a.rd (F.LAND_PORT_STATUS_OWNER p))).find? (a.requests p) = none →
         exec (.grant t p) s = gives t s a) ∧
       ((State.grantOrder (a.rd (F.LAND_PORT_STATUS_OWNER p))).find? (a.requests p) = some req →
         b = (a.wr (F.LAND_PORT_STATUS_GRANTED p) 1).wr (F.LAND_PORT_STATUS_OWNER p) req →
         exec (.grant t p) s = gives t s
           ((b.putPort p { b.port p with sent := 0, burst := b.rd (F.LAND_BURST_BURST req) }).startTx p req))) ∧
     (a.flag (F.LAND_PORT_STATUS_GRANTED p) = true ∨ a.flag (F.LAND_PORT_CTRL_FREEZE p) = true ∨
       a.flag (F.NET_LANE_STATUS_LINK p) = false → exec (.grant t p) s = gives t s a)) ∧
  (∀ (t n : Nat) (p : Fin 9) (x : PortSt) (f : TxFrame) (dg : Datagram) (rest : List Datagram) (s a b c d e g : State),
     State.AwakeAt t s a →
     (p.val < 8 → x = a.port p →
       (x.tx = none → exec (.frameTxEnd t p) s = gives t s a.orderBack) ∧
       (x.tx = some f →
         b = (a.countTx p f.frameBytes).countN ⟨0x0C, 2⟩ (16 + p) 1 →
         e = (if f.reset = true then b.replyGone else b) →
         (f.dg.region < 16 → g = e.updRegion f.dg.region (fun r => { r with fill := r.fill - f.dg.bytes })) →
         (16 ≤ f.dg.region → g = e) →
         (f.resets = false → c = g) →
         (f.resets = true → c = (g.clearRegionCounters f.dg.region).updRegion f.dg.region (fun r => { r with seq := 0 })) →
         d = (c.putPort p { c.port p with tx := none, sent := x.sent + ceilDiv f.frameBytes 64 }).sendCtrl p →
         (d.requests p f.requester = true → x.sent + ceilDiv f.frameBytes 64 < x.burst →
           exec (.frameTxEnd t p) s = gives t s (d.startTx p f.requester).orderBack) ∧
         (d.requests p f.requester = false ∨ x.burst ≤ x.sent + ceilDiv f.frameBytes 64 →
           exec (.frameTxEnd t p) s = gives t s (d.endGrant p).orderBack))) ∧
     (p.val = 8 → a.isFollower = true → a.flag (F.CORD_LINK_LINK 0) = true →
       (a.relaySource = some n → (a.region n).closed = dg :: rest →
         exec (.frameTxEnd t p) s = gives t s ((a.putRegion n { a.region n with
           closed := rest
           fill := (a.region n).fill - dg.bytes
           seq := ((a.region n).seq + 1) % 2 ^ 32 }).cordSend (.relay { dg with words := State.withSeq dg (a.region n).seq }))) ∧
       (a.relaySource = none → a.cord.through = dg :: rest →
         exec (.frameTxEnd t p) s = gives t s
           (State.cordSend (.relay dg) { a with cord := { a.cord with through := rest } }))) ∧
     (p.val = 8 → a.isFollower = false ∨ a.flag (F.CORD_LINK_LINK 0) = false → exec (.frameTxEnd t p) s = gives t s a)) ∧
  (∀ (t k0 k1 owner : Nat) (p : Fin 8) (req : Fin 6) (s a b c d e g : State), State.AwakeAt t s a →
     a.flag (F.NET_LANE_STATUS_LINK p) = true →
     (a.flag (F.LAND_PORT_STATUS_GRANTED p) = true → owner = a.rd (F.LAND_PORT_STATUS_OWNER p) →
       (∀ x, (a.port p).tx = some x → g = (if x.reset = true then a.replyGone else a) ∧
         k0 = x.dg.items ∧ b = (g.dropDg x.dg).regionFollows x) →
       ((a.port p).tx = none → k0 = 0 ∧ b = a) →
       (owner = 4 → k1 = (a.port p).replies.length ∧ c = (b.countN ⟨0x0B, 8⟩ p k1).repliesGone (a.port p).replies) →
       (owner ≠ 4 → (c, k1) = (b.regionsOf p owner).foldl State.dropDatagrams (b, 0)) →
       d = (if owner = 4 then c.putPort p { c.port p with replies := [] } else c) →
       e = (((d.endGrant p).wr (F.LAND_PORT_STATUS_WDT_BITE p) 1).wr (F.LAND_PORT_STATUS_WDT_REQ p) owner).raise Irq.landWdt →
       exec (.egressWdtBite t p) s = gives t s (((e.logEvent Ev.landWdt (p * 2 ^ 8 + owner)).arbiterEvent 1 p owner
         (k0 + k1)).count ⟨0x0C, 0⟩ (16 + p))) ∧
     (a.requests p req = true → a.flag (F.LAND_PORT_CTRL_FREEZE p) = false →
       (a.flag (F.LAND_PORT_STATUS_GRANTED p) = false ∨ a.rd (F.LAND_PORT_STATUS_OWNER p) ≠ req) →
       exec (.starve t p req) s = gives t s ((((a.setIn (F.LAND_PORT_STATUS_STARVE p) req).raise Irq.landStarve).arbiterEvent
         2 p req 0).count ⟨0x0C, 1⟩ (16 + p))))

/-- R302, R310, R357: on the master a relayed datagram enters its member's relay region as one item, or is discarded
there; a follower passes it through; the link timeout ends a partial relayed frame and its grant, unordered. The
model's reading: CORD_RELAY_FRAMES at admission and pass-through, the UNORDERED mark in word 0 and the stall on
CORD_LINK_1 (log entry 98), and the fill that counts items alone (log entry 67). -/
def Obligations.RelayCommandsComplete : Prop :=
  ∀ (t n : Nat) (p : Fin 8) (words octets : List Nat) (d : Datagram) (f : TxFrame) (s a b : State), State.AwakeAt t s a →
    (a.cordRuns = true → a.isMaster = true → a.relayRegion (words.headD 0 / 2 ^ 53 % 8) = some n →
      d = State.relayedDg n (State.markRelayed words) octets →
      (a.hasRoom n d.bytes = true → exec (.relayDatagram t words octets) s = gives t s
        (((a.countN ⟨0x0C, 6⟩ n d.bytes).count ⟨0x0E, 2⟩ 0).updRegion n
          (fun r => { r with closed := r.closed ++ [d], fill := r.fill + d.bytes }))) ∧
      (a.hasRoom n d.bytes = false → exec (.relayDatagram t words octets) s = gives t s (a.countDrop n 0 0 1 d.bytes))) ∧
    (a.cordRuns = true → a.isMaster = false → a.isFollower = true →
      exec (.relayDatagram t words octets) s = gives t s
        (State.count ⟨0x0E, 2⟩ 0 { a with cord := { a.cord with
          through := a.cord.through ++ [State.relayedDg 16 words octets] } })) ∧
    ((a.port p).tx = some f → f.requester = 5 → b = ((a.dropDg f.dg).regionFollows f).endGrant p →
      exec (.cordRelayTimeout t p) s = gives t s (((b.arbiterEvent 3 p 5 f.dg.items).bump (F.CORD_LINK_TIMEOUTS 1)).wr
        (F.CORD_LINK_UNORDERED 1) 1))

/-! ### Cords -/

/-- R347, R356: the master sends a roll call and counts it; a follower adds its number and passes the call on, or,
with no lane beyond it, returns it upstream; the returned roll call shows who is present (up to the first lane that is
down), tells the followers, raises CORD_MEMBERS where the set has changed, forms a cord not yet formed, and drops a
follower that is not present. R348, R349, R352: on a member a forwarded request is executed and answered, a check is
answered and remembered, an apply executes it, an abort and the apply timeout forget it; on the coordinator an answer
of a member that has not answered resolves what it can, and the timeout ends the transaction; then the requests that
waited in the cores' input queues go on (`State.drain`). The model's reading: the course of forwarded, checked and
applied requests (log entries 93 and 94), the frame lengths before the budget (log entry 95), the roll call up to the
first lane that is down and the follower that leaves (log entry 97), and the announcement of a formed cord (log entry
96). -/
def Obligations.CordRequestsComplete : Prop :=
  (∀ (t lead mask : Nat) (ms : List Nat) (rs l : List RollEntry) (seeds : List Nat) (s a b d c : State),
     State.AwakeAt t s a →
     (a.isMaster = true → a.cordRuns = true →
       exec (.rollCall t) s = gives t s ((a.cordSend (.rollCall [a.memberNo])).count ⟨0x0E, 0⟩ 0)) ∧
     (a.isFollower = true → a.cordRuns = true → a.flag (F.CORD_LINK_LINK 0) = true →
       (a.flag (F.CORD_LINK_LINK 1) = true →
         exec (.rollCallRx t ms) s = gives t s (a.cordSend (.rollCall (ms ++ [a.memberNo])))) ∧
       (a.flag (F.CORD_LINK_LINK 1) = false →
         exec (.rollCallRx t ms) s = gives t s (a.cordSend (.rollReturn (ms ++ [a.memberNo]))))) ∧
     (a.flag F.CORD_STRAPS_ROLE = true → a.cordRuns = true → l = a.beforeDown (rollPrefix 0 rs) →
       (a.isMaster = false → l.any (fun e => e.1 == a.memberNo) = false →
         exec (.rollCallReturn t ⟨lead, rs⟩ seeds) s = gives t s (a.leaveCord.autoEntry rs)) ∧
       (a.isMaster = true ∨ l.any (fun e => e.1 == a.memberNo) = true →
         mask = l.foldl (fun w e => setBit w e.1) 1 →
         b = (a.wr F.CORD_STATUS_PRESENT mask).wr F.CORD_STATUS_SIZE (l.length + 1) →
         d = (if b.isMaster then b.cordSend (.formed mask) else b) →
         c = { d with cord := { d.cord with
           modes := (((0, lead, false) :: l).filter (fun e => e.1 != d.memberNo)).map (fun e => (e.1, e.2.1)) } } →
         (a.formed = false →
           exec (.rollCallReturn t ⟨lead, rs⟩ seeds) s = gives t s ((c.cordForms seeds).autoEntry rs)) ∧
         (a.formed = true → a.rd F.CORD_STATUS_PRESENT = mask →
           exec (.rollCallReturn t ⟨lead, rs⟩ seeds) s = gives t s (c.autoEntry rs)) ∧
         (a.formed = true → a.rd F.CORD_STATUS_PRESENT ≠ mask →
           exec (.rollCallReturn t ⟨lead, rs⟩ seeds) s = gives t s ((c.raise Irq.cordMembers).autoEntry rs))))) ∧
  (∀ (t op member status address mask : Nat) (payload : List Nat) (q u : Req) (sp : OpSpec) (x : CordTxn) (w : CordAnswer) (s a b c : State),
     State.AwakeAt t s a →
     (a.inFormed = true → opSpec op = some sp →
       exec (.cordRequest t op q) s = gives t s (((a.finish (State.inCord q) op (a.runHere sp (State.inCord q)))).announce a)) ∧
     (a.inFormed = true → op ≠ 0x0800 → opSpec op = some sp → (b, w) = a.checkAnswer sp (State.inCord q) →
       exec (.cordCheck t op q) s = gives t s (State.cordSend (.answer w)
         { b with cord := { b.cord with checked := some (op, State.inCord q) } })) ∧
     (a.inFormed = true →
       exec (.cordCheck t 0x0800 q) s = gives t s (a.cordSend (.answer ⟨a.memberNo, St.ok, [a.cordWord], 0⟩))) ∧
     (a.cord.checked = some (op, u) → opSpec op = some sp → b = { a with cord := { a.cord with checked := none } } →
       exec (.cordApply t) s = gives t s ((b.finish u op (b.runHere sp u)).announce b)) ∧
     exec (.cordAbort t) s = gives t s { a with cord := { a.cord with checked := none } } ∧
     exec (.cordApplyTimeout t) s = gives t s { a with cord := { a.cord with checked := none } } ∧
     (a.cord.txn = some x → x.members.contains member = true → x.answers.any (fun b => b.member == member) = false →
       exec (.cordMemberAnswer t member status payload address) s = gives t s
         (((a.putTxn (some { x with answers := x.answers ++ [⟨member, status, payload, address⟩] })).resolve).announce a).drain) ∧
     (a.cord.txn = some x →
       c = { a with nvs := { a.nvs with await := a.nvs.await.filter (fun w => w.2.1 != Source.device) } } →
       mask = x.answers.foldl (fun w a => setBit w a.member) 0 →
       (∀ m, x.phase = .forward m → exec (.cordTimeout t) s = gives t s (c.answerTo x true St.cordTimeout 0 []).recipeResume.drain) ∧
       (x.phase = .check → exec (.cordTimeout t) s =
         gives t s (((c.cordSend .abort).count ⟨0x0E, 1⟩ 0).answerTo x true St.cordTimeout 0 []).recipeResume.drain) ∧
       (x.phase = .apply → exec (.cordTimeout t) s = gives t s
         (c.answerTo x true St.cordTimeout 0 (if readOpcodes.contains x.opcode then [] else [mask])).recipeResume.drain) ∧
       (x.phase = .status → exec (.cordTimeout t) s = gives t s (c.statusResolved x).recipeResume.drain)))

/-- R353 to R355, R358: the master sends the cord-reset marker once the reply has left, else the marker of the next
frame start, or, with frames shorter than 1,500 ns, of the one after; a follower takes a marker in time by its width,
for the next frame or for the one after, misses one off its time, and at the second miss in a row loses the master;
the cord-reset marker resets; an epoch is announced. R359 to R361: the checkers' heartbeats and the cord's heartbeat:
each agreement or fault, its sender's and receiver's view, and SPLIT_AUTHORITY with the cause of each fault. The
model's reading: a marker off its time counts as a miss and the follower's own start, and the start that a marker
names with short frames (log entry 96), TWO_MASTERS before BAD_MASTER, the mute time and SPLIT at each event (log
entry 97), the MAC that is Config.baseMac (log entry 3), and the reset after the reply (log entry 99). -/
def Obligations.CordSyncCommandsComplete : Prop :=
  (∀ (t width n ev due : Nat) (epoch forced : Bool) (s a b c d : State), State.AwakeAt t s a →
     (a.isMaster = true → a.cord.resetOwed = true → a.replyOwed = false →
       exec (.syncMarkerSend t) s = gives t s (a.cordSend (.marker 24))) ∧
     (a.cord.resetOwed = false ∨ a.replyOwed = true → a.frameComing = true →
       n = (if a.entering = true then a.cord.marked else max a.cord.marked a.fire.nextFrame) →
       b = a.cordSend (.marker a.markerWidth) →
       exec (.syncMarkerSend t) s = gives t s { b with cord := { b.cord with marked := n + 1 } }) ∧
     (a.isFollower = true → a.formed = true ∨ a.firing = true → a.cordRuns = true →
       a.acq.due = none ∨ a.cord.later = none ∧ a.rd F.FIRE_FRAME_ACTIVE_ACTIVE_NS < 1500 →
       (markerKind width = none → exec (.syncMarker t width) s = gives t s a) ∧
       (markerKind width = some (epoch, forced) →
         (a.markerOff = false → exec (.syncMarker t width) s = gives t s (a.markerTaken epoch forced)) ∧
         (a.markerOff = true → a.byMarkers = true → exec (.syncMarker t width) s = gives t s a.markerMissed))) ∧
     (a.byMarkers = true → c = a.bump F.CORD_EPOCH_SYNC_MISS →
       (a.acq.due = none → 0 < a.fire.nextFrame → due = a.fire.frameC + a.rd F.FIRE_FRAME_ACTIVE_ACTIVE_NS →
         d = { c with
           cord := { c.cord with epochDue := false, missRun := a.cord.missRun + 1 }
           acq := { c.acq with due := some due, forced := false } } →
         (a.cord.missRun = 0 → exec (.syncMiss t) s = gives t s d) ∧
         (0 < a.cord.missRun → exec (.syncMiss t) s = gives t s (d.cordFault.splitAuthority 6 0))) ∧
       (a.acq.due = some n → a.cord.later = none → a.rd F.FIRE_FRAME_ACTIVE_ACTIVE_NS < 1500 →
         d = { c with
           cord := { c.cord with
             later := some (n + a.rd F.FIRE_FRAME_ACTIVE_ACTIVE_NS, false, false)
             missRun := a.cord.missRun + 1 } } →
         (a.cord.missRun = 0 → exec (.syncMiss t) s = gives t s d) ∧
         (0 < a.cord.missRun → exec (.syncMiss t) s = gives t s (d.cordFault.splitAuthority 6 0)))) ∧
     (a.cordRuns = true → (a.isFollower = true ∧ a.formed = true ∨ a.isMaster = true ∧ a.cord.resetOwed = true) →
       exec (.cordResetMarker t) s = gives t s (State.cordResetTaken { a with
         boot := { a.boot with resetDue := .cord }
         cord := { a.cord with resetOwed := false } })) ∧
     (a.isFollower = true → a.formed = true → a.cordRuns = true →
       exec (.epochAnnounce t n ev) s = gives t s { a with cord := { a.cord with announced := some (n % 2 ^ 16, ev) } })) ∧
  (∀ (t mac member epoch : Nat) (h : Half) (claim : Fin 2) (s a b c : State), State.AwakeAt t s a → a.cordRuns = true →
     (a.cord.muteN ≤ a.now → exec (.halfHeartbeatSend t .north) s = gives t s { a with
       cord := { a.cord with
         hbSeqN := a.cord.hbSeqN + 1
         beatN := some ⟨a.rd F.CORD_AUTH_HOLDER, a.cord.hbSeqN⟩ } }) ∧
     (a.cord.muteS ≤ a.now → exec (.halfHeartbeatSend t .south) s = gives t s { a with
       cord := { a.cord with
         hbSeqS := a.cord.hbSeqS + 1
         beatS := some ⟨a.rd F.CORD_AUTH_HOLDER, a.cord.hbSeqS⟩ } }) ∧
     (a.now < a.muteTill h → exec (.halfHeartbeatSend t h) s = gives t s a) ∧
     (b = a.wr (State.hbOk (State.otherHalf h)) 1 →
       (claim.val = b.rd F.CORD_AUTH_HOLDER → exec (.halfHeartbeat t h claim) s = gives t s b.halfOk) ∧
       (claim.val ≠ b.rd F.CORD_AUTH_HOLDER →
         exec (.halfHeartbeat t h claim) s = gives t s ((b.halfFault h).splitAuthority 1 0))) ∧
     exec (.halfHeartbeatTimeout t h) s =
       gives t s (((a.wr (State.hbOk (State.otherHalf h)) 0).halfFault h).splitAuthority 2 (State.otherHalf h).num) ∧
     (a.isMaster = true → a.formed = true → exec (.cordHeartbeatSend t) s =
       gives t s (a.cordSend (.heartbeat (State.baseMac) a.memberNo (a.rd F.CORD_EPOCH_EPOCH)))) ∧
     (a.isFollower = true → a.formed = true ∨ a.firing = true →
       exec (.cordHeartbeatTimeout t) s = gives t s (a.cordFault.splitAuthority 3 0)) ∧
     (a.flag F.CORD_STRAPS_ROLE = true → b = a.cordSend (.heartbeat mac member epoch) →
       (b.isMaster = true → mac = State.baseMac → member = b.memberNo →
         exec (.cordHeartbeat t mac member epoch) s = gives t s b) ∧
       (b.isMaster = true → mac ≠ State.baseMac ∨ member ≠ b.memberNo →
         exec (.cordHeartbeat t mac member epoch) s = gives t s (b.cordFault.splitAuthority 4 0)) ∧
       (b.isMaster = false → c = { b with cord := { b.cord with lastHb := some (mac, b.now) } } →
         (b.twoMasters mac = true → exec (.cordHeartbeat t mac member epoch) s = gives t s (c.cordFault.splitAuthority 4 0)) ∧
         (b.twoMasters mac = false → member ≠ 0 →
           exec (.cordHeartbeat t mac member epoch) s = gives t s (c.cordFault.splitAuthority 5 0)) ∧
         (b.twoMasters mac = false → member = 0 → exec (.cordHeartbeat t mac member epoch) s = gives t s
           { c with cord := { c.cord with cordOkSince := some (c.cord.cordOkSince.getD c.now) } }))))

/-! ### Housekeeping, temperature and calibration -/

/-- R366, R368 to R371: a round starts with the enabled entries or is late; a settled visit converts; a conversion
counts in its entry, gives its result, or its sum at the entry's last, and the converter goes on; the host's injected
conversion gives its result and its code. The model's reading: the order of injected conversions and what the
converter does next (log entries 100 and 105), the free value of a code without a temperature (log entry 101), and
which test of a sensor comes first (log entry 102). -/
def Obligations.HousekeepingCommandsComplete : Prop :=
  ∀ (t code left sum first : Nat) (same : Bool) (j : HkJob) (e : HkEntry) (rest : List HkEntry) (s a b c d : State),
    State.AwakeAt t s a →
    (a.hk.on = true → a.hk.todo = [] → a.hk.phase = .idle → exec (.hkRoundStart t) s = gives t s
      (State.hkVisit { a with hk := { a.hk with todo := a.hkEntries, left := 0, lateRound := false } })) ∧
    (a.hk.on = true → a.hk.todo ≠ [] → exec (.hkRoundStart t) s =
      gives t s (State.count ⟨0x0F, 2⟩ 0 { a with hk := { a.hk with lateRound := true } })) ∧
    (a.hk.phase = .settling j → exec (.hkSettleDone t) s = gives t s { a with hk := { a.hk with phase := .converting j } }) ∧
    (a.hk.phase = .converting .entry → a.hk.todo = e :: rest →
      first = (a.count ⟨0x0F, 0⟩ 0).hk.firstCode.getD code →
      same = ((a.count ⟨0x0F, 0⟩ 0).hk.allSame && first == code) →
      left = (a.count ⟨0x0F, 0⟩ 0).hk.left - 1 → sum = (a.count ⟨0x0F, 0⟩ 0).hk.sum + code →
      b = { a.count ⟨0x0F, 0⟩ 0 with hk := { (a.count ⟨0x0F, 0⟩ 0).hk with
        todo := (if left = 0 then rest else e :: rest)
        left := left
        sum := sum
        firstCode := some first
        allSame := same } } →
      (e.avg = false → c = b.hkResult e.tag code) →
      (e.avg = true → left = 0 → c = b.hkResult e.tag (roundEven sum e.count).toNat) →
      (e.avg = true → left ≠ 0 → c = b) →
      d = (if left = 0 ∧ 0xE0 ≤ e.tag ∧ e.tag < 0xE0 + 29 then
        ((c.sensorVisit (e.tag - 0xE0) first same).refreshTemps).shutTest else c) →
      exec (.hkConversionDone t code) s = gives t s (d.hkNext false)) ∧
    (a.hk.phase = .converting .host →
      b = (((a.count ⟨0x0F, 4⟩ 0).wr F.HK_STATUS_INJ_PEND 0).wr F.HK_INJECT_RESULT_CODE code).wr F.HK_INJECT_RESULT_DONE 1 →
      c = ((b.hkResult (b.rd F.HK_INJECT_TAG) code).runRelease 0).runRelease 1 →
      exec (.hkConversionDone t code) s = gives t s ((c.wrB F.HK_STATUS_INJ_PEND c.calOwed).hkNext true))

/-- R376 to R378, R383: a window's end takes every octant's mean and, in a mode that does not fire, moves the levels;
the trip holds every block in reset whatever the state, and its release ends the hold. The model's reading: the
windows, the rate and when the levels move (log entry 103), the kept cause of a reset (log entry 119), and the TRIP
recorded at the next start-up (log entry 115). -/
def Obligations.ThermalCommandsComplete : Prop :=
  ∀ (t : Nat) (s a b : State),
    (State.AwakeAt t s a → a.hk.on = true → b = (List.range 8).foldl State.windowOct a →
      (b.firing = true → exec (.thermWindow t) s = gives t s { b with therm := { b.therm with windows := b.therm.windows + 1 } }) ∧
      (b.firing = false → exec (.thermWindow t) s = gives t s ((List.range 8).foldl State.levelStep
        { b with therm := { b.therm with windows := b.therm.windows + 1 } }))) ∧
    (a = s.arrive t →
      exec (.thermalTrip t) s = gives t s (State.enterReset 0 { a with boot := { a.boot with tripped := true } }) ∧
      exec (.tripRelease t) s = gives t s { a with boot := { a.boot with tripped := false } })

/-- R389, R390: a pending run that nothing holds back, and that no earlier pending run of its half precedes, starts,
with the conversions of its die sensors owed, or waiting where the host's conversion comes first; the converter takes
the first of them at once unless a conversion is in progress. R395, Table 16-2: a TIMING step's offset, widths and
walk, from the means of its statistics runs, are judged against the limits in order, the first that fails rejecting
them; with every limit met they are taken, or, where results are repeated, measured a second time, and then taken by
their means or rejected as the two agree. R397, R399, R401: a pickoff run is judged once its 2²⁰ pairs of samples are
summed: its gain and offset by Table 16-4; with every limit met the trim is taken and journalled, where results are
repeated by the means of two runs that agree, after the first of which the sums begin again; a result that fails is
rejected; both end the run. The model's choices: pending order, capture and start (log entry 105), the order of the
limits and the comparison of a repeat (log entry 106), the factory values by Config.starter (log entry 107), and the
sums of a pickoff run and the ADDRESS 0x1FF (log entry 108). -/
def Obligations.CalibrationRunsComplete : Prop :=
  (∀ (t : Nat) (g : Fin 8) (kinds : Nat) (host : Bool) (s a b : State), State.AwakeAt t s a → b = a.refreshWait →
     b.calPend g = some kinds → b.calWait g = 0 →
     (∀ p ∈ b.cal.pend.takeWhile (fun p => p.1 != g.val), p.1 / 4 = g.val / 4 → b.calWait p.1 ≠ 0) →
     b.calRun (g / 4) = none → host = (b.flag F.HK_STATUS_INJ_PEND && !b.calOwed) →
     (host = true → exec (.calRunStart t g) s = gives t s (State.hkKick (b.putRun (g / 4) (some
       { oct := g, kinds := kinds, mode := b.mode, waits := true, owed := 0, start := 0, todo := [], began := false
         temp := 0, delayNs := 0, delayFine := 0, ref := 0, ofsStep := 0, walkStep := 0, nativeTdc := true, cdLog2 := 0
         meas := none, first := none })))) ∧
     (host = false → exec (.calRunStart t g) s = gives t s (State.hkKick ((b.putRun (g / 4) (some
       { oct := g, kinds := kinds, mode := b.mode, waits := false, owed := 3, start := 0, todo := [], began := false
         temp := 0, delayNs := 0, delayFine := 0, ref := 0, ofsStep := 0, walkStep := 0, nativeTdc := true, cdLog2 := 0
         meas := none, first := none })).wr F.HK_STATUS_INJ_PEND 1)))) ∧
  (∀ (t : Nat) (g : Fin 8) (f : Fin 264) (r : CalRun) (m : CalMeas) (late : Bool) (w k : List Int) (o : Int) (s a : State),
     State.AwakeAt t s a → a.stepOn g 1 f = some r → r.meas = some m →
     w = (List.range 8).map (fun n => roundEven (State.partMean m (2 * n + 1) : Nat) 256) →
     k = (List.range 8).map (fun n => roundEven ((State.partMean m (2 * n) : Int) - (State.partMean m 14 : Int)) 256) →
     o = Config.starter 3 f 0 + roundEven ((State.partMean m 14 : Int) - 256 * (r.ref + Config.starter 4 f 0)) 256 →
     (State.measEnded a.now 1 m = (false, late) → exec (.calTimingStepDone t g f) s = gives t s a) ∧
     (State.measEnded a.now 1 m = (true, late) →
       (late = true → exec (.calTimingStepDone t g f) s = gives t s ((a.calReject 1 1 f).stepEnd r.oct)) ∧
       (late = false → 4096 < State.partSd m 14 →
         exec (.calTimingStepDone t g f) s = gives t s ((a.calReject 2 1 f).stepEnd r.oct)) ∧
       (late = false → State.partSd m 14 ≤ 4096 → strictUp w = false →
         exec (.calTimingStepDone t g f) s = gives t s ((a.calReject 3 1 f).stepEnd r.oct)) ∧
       (late = false → State.partSd m 14 ≤ 4096 → strictUp w = true → (∃ v ∈ k, v < -4096 ∨ 4096 < v) →
         exec (.calTimingStepDone t g f) s = gives t s ((a.calReject 4 1 f).stepEnd r.oct)) ∧
       (late = false → State.partSd m 14 ≤ 4096 → strictUp w = true → (∀ v ∈ k, -4096 ≤ v ∧ v ≤ 4096) →
         listNear r.ofsStep [o] [a.rdS (F.ECHO_FE_OFFSET_OFFSET f)] = false →
         exec (.calTimingStepDone t g f) s = gives t s ((a.calReject 5 1 f).stepEnd r.oct)) ∧
       (late = false → State.partSd m 14 ≤ 4096 → strictUp w = true → (∀ v ∈ k, -4096 ≤ v ∧ v ≤ 4096) →
         listNear r.ofsStep [o] [a.rdS (F.ECHO_FE_OFFSET_OFFSET f)] = true → a.walkAtReset f = false →
         listNear r.walkStep k ((List.range 8).map (fun n => a.rdS (F.ECHO_FE_WALK_WALK f n))) = false →
         exec (.calTimingStepDone t g f) s = gives t s ((a.calReject 6 1 f).stepEnd r.oct)) ∧
       (late = false → State.partSd m 14 ≤ 4096 → strictUp w = true → (∀ v ∈ k, -4096 ≤ v ∧ v ≤ 4096) →
         listNear r.ofsStep [o] [a.rdS (F.ECHO_FE_OFFSET_OFFSET f)] = true →
         (a.walkAtReset f = true ∨
           listNear r.walkStep k ((List.range 8).map (fun n => a.rdS (F.ECHO_FE_WALK_WALK f n))) = true) →
         (a.calRepeats = false →
           exec (.calTimingStepDone t g f) s = gives t s ((a.calTake f r (.timing o w k)).stepEnd r.oct)) ∧
         (a.calRepeats = true → r.first = none →
           exec (.calTimingStepDone t g f) s = gives t s (a.putRun (r.oct / 4) (some { r with
             first := some (.timing o w k)
             meas := some (State.measAgain a.now m) }))) ∧
         (∀ v, a.calRepeats = true → r.first = some v →
           (State.agree v (.timing o w k) = true → exec (.calTimingStepDone t g f) s = gives t s
             ((a.calTake f r (State.meanOf v (.timing o w k))).stepEnd r.oct)) ∧
           (State.agree v (.timing o w k) = false → exec (.calTimingStepDone t g f) s = gives t s
             ((a.calReject 0xFF 1 f).stepEnd r.oct)))))) ∧
  (∀ (t : Nat) (second : Bool) (x : PkoSums) (gain ofs g0 o0 : Int) (order : Nat) (s a b c : State),
     State.AwakeAt t s a → x = a.cal.pko →
     (a.flag F.CAL_DEV_PKO_BUSY = false ∨ x.pairs < 2 ^ 20 ∨ a.cal.pkoFirst.isSome ≠ second → exec (.pkoRunDone t second) s = gives t s a) ∧
     (a.flag F.CAL_DEV_PKO_BUSY = true → 2 ^ 20 ≤ x.pairs → a.cal.pkoFirst.isSome = second →
       gain = (roundSqrt (65536 * 65536 * x.sqA) (max x.sqB 1) : Int) - 65536 →
       ofs = roundEven (x.sumA - x.sumB) (max x.whole 1) →
       ((x.sqB < 1000000 * 2 ^ 20 ∧ order = 1) ∨
         (1000000 * 2 ^ 20 ≤ x.sqB ∧ (listNear 1311 [gain] [0] = false ∨ listNear 64 [ofs] [0] = false) ∧ order = 2) ∨
         (1000000 * 2 ^ 20 ≤ x.sqB ∧ listNear 1311 [gain] [0] = true ∧ listNear 64 [ofs] [0] = true ∧
           (listNear 328 [gain] [a.rdS F.ANGLE_TRIM_GAIN] = false ∨ listNear 16 [ofs] [a.rdS F.ANGLE_TRIM_OFFSET] = false) ∧
           order = 3) →
         b = a.calReject order 3 0x1FF →
         exec (.pkoRunDone t second) s = gives t s ((((b.wr F.CAL_DEV_PKO_BUSY 0).wrS F.CAL_DEV_PKO_T_LAST b.dieMean).journal
           [⟨5, 5 * 2 ^ 24, [ofS 32 b.dieMean]⟩]).pkoPoll)) ∧
       (1000000 * 2 ^ 20 ≤ x.sqB → listNear 1311 [gain] [0] = true → listNear 64 [ofs] [0] = true →
         listNear 328 [gain] [a.rdS F.ANGLE_TRIM_GAIN] = true → listNear 16 [ofs] [a.rdS F.ANGLE_TRIM_OFFSET] = true →
         (∀ g1 o1, a.cal.pkoFirst = some (g1, o1) → a.calRepeats = true →
           listNear 33 [gain] [g1] = false ∨ listNear 2 [ofs] [o1] = false → b = a.calReject 0xFF 3 0x1FF →
           exec (.pkoRunDone t second) s = gives t s ((((b.wr F.CAL_DEV_PKO_BUSY 0).wrS F.CAL_DEV_PKO_T_LAST b.dieMean).journal
             [⟨5, 5 * 2 ^ 24, [ofS 32 b.dieMean]⟩]).pkoPoll)) ∧
         (a.calRepeats = true → a.cal.pkoFirst = none →
           exec (.pkoRunDone t second) s = gives t s
             { a with cal := { a.cal with pko := PkoSums.init, pkoFirst := some (gain, ofs) } }) ∧
         (a.calRepeats = false ∧ g0 = gain ∧ o0 = ofs ∨
           a.calRepeats = true ∧ (∃ g1 o1, a.cal.pkoFirst = some (g1, o1) ∧ listNear 33 [gain] [g1] = true ∧
             listNear 2 [ofs] [o1] = true ∧ g0 = mean2 gain g1 ∧ o0 = mean2 ofs o1) →
           b = ((a.count ⟨0x11, 0⟩ 0).wrS F.ANGLE_TRIM_GAIN g0).wrS F.ANGLE_TRIM_OFFSET o0 →
           c = b.journal [⟨1, A.ANGLE_TRIM, [b.word A.ANGLE_TRIM]⟩] →
           exec (.pkoRunDone t second) s = gives t s ((((c.wr F.CAL_DEV_PKO_BUSY 0).wrS F.CAL_DEV_PKO_T_LAST
             c.dieMean).journal [⟨5, 5 * 2 ^ 24, [ofS 32 c.dieMean]⟩]).pkoPoll)))))

/-- R70, R80, R393 to R399: the measurement of a step is judged, by the limits of its table and by the first
measurement where results are repeated: it is rejected, kept for a second one, or accepted, put into force and
journalled. A TDC step takes TRIM from its trim search and, in the compatibility mode, skews alone; an INJ step waits
for its statistics run. The model's choices: the trim search, the first repeat that fails and rejects at once, the
repeat compared by its skews alone, and the MODE at the step's start (log entry 106), the end of TRIM's range (log
entry 26), LOOP_PS and the starter set (log entry 107), the table's use at once (log entry 128), and the limit on
widths of 0 (log entry 108). -/
def Obligations.CalibrationStepsComplete : Prop :=
  ∀ (t fails order : Nat) (g : Fin 8) (f : Nat) (e : Fin 264) (r : CalRun) (m : CalMeas) (x : CdResult) (p : Int) (late : Bool)
    (v w : CalFirst) (s a : State), State.AwakeAt t s a →
    (a.stepFor g 0 = some (r, f) → fails = a.cdFails f r x →
      (r.nativeTdc = true → v = .tdc (trimSearch 8 (a.rd (F.TDC_FE_STATUS_TRIM f)) x.occ) (cdWidths (2 ^ r.cdLog2) x.counts)
        (cdSkews x.skews)) →
      (r.nativeTdc = false → v = .tdc (trimSearch 8 (a.rd (F.TDC_FE_STATUS_TRIM f)) x.occ) [] (cdSkews x.skews)) →
      (a.verdict r.first fails v = .reject order →
        exec (.calTdcStepDone t g x) s = gives t s ((a.calReject order 0 f).stepEnd r.oct)) ∧
      (a.verdict r.first fails v = .again w → exec (.calTdcStepDone t g x) s = gives t s (a.putRun (r.oct / 4) (some { r with
        first := some w
        meas := r.meas.map (State.measAgain a.now) }))) ∧
      (a.verdict r.first fails v = .accept w →
        exec (.calTdcStepDone t g x) s = gives t s ((a.calTake f r w).stepEnd r.oct))) ∧
    (a.stepOn g 2 e = none → exec (.calInjStepDone t g e) s = gives t s a) ∧
    (a.stepOn g 2 e = some r → r.meas = some m →
      p = roundEven (((State.partMean m 0 : Int) - 256 * r.ref) * 1000) (256 * 512) - Config.loopPs g →
      (State.measEnded a.now 2 m = (false, late) → exec (.calInjStepDone t g e) s = gives t s a) ∧
      (State.measEnded a.now 2 m = (true, late) →
        (late = true → fails = 1) → (late = false → listNear 500 [p] [Config.starter 11 g 0] = false → fails = 2) →
        (late = false → listNear 500 [p] [Config.starter 11 g 0] = true → fails = 0) →
        (a.verdict r.first fails (.inj p) = .reject order →
          exec (.calInjStepDone t g e) s = gives t s ((a.calReject order 2 e).stepEnd r.oct)) ∧
        (a.verdict r.first fails (.inj p) = .again w → exec (.calInjStepDone t g e) s = gives t s (a.putRun (r.oct / 4) (some { r with
          first := some w
          meas := r.meas.map (State.measAgain a.now) }))) ∧
        (a.verdict r.first fails (.inj p) = .accept w →
          exec (.calInjStepDone t g e) s = gives t s ((a.calTake e r w).stepEnd r.oct))))

/-! ### The store, the life log and the tally -/

/-- R409, R412, R415, R419: an entry written well takes its place, its sequence number and a write of the life log,
and the group goes on or gives way to the next; one that failed occupies its place and is written again, the third
failure in a row abandons its group; then what waited for the journal goes on. R411, R412, Table 17-2: the flip writes
the superblock of the new generation, makes the other half active with the image of the latest valid values and,
behind it, the good entries written since the snapshot, with SEQUENCE and GROUP numbered anew, GROUP of the group in
writing included; it counts, and the next group is taken. Without a compaction in progress nothing changes but what
waits for the journal. The model's reading: the group in writing is not in QUEUE (log entry 109), a failed entry keeps
its place, and what a compaction copies and how it numbers it (log entry 110), JOURNAL_EMPTY (log entry 111), replies
held for the journal (log entry 79), and the order of an entry to SAFE (log entries 73 and 122). -/
def Obligations.JournalCommandsComplete : Prop :=
  (∀ (t : Nat) (w : JWrite) (j : JItem) (rest : List JItem) (s a b c d : State), State.LiveAt t s a →
     a.nvs.writing = some w → w.todo = j :: rest → b = a.firstSuper →
     (c = b.putHalf (b.half ++ [⟨j.typ, rest.isEmpty, j.key, b.nvs.nextSeq, w.first, j.payload, true⟩]) →
       d = (State.settleAll (State.takeGroup (State.autoCompact { (c.count ⟨0x12, 2⟩ 0).lifeAdd 164 1 with
         nvs := { ((c.count ⟨0x12, 2⟩ 0).lifeAdd 164 1).nvs with
           nextSeq := ((c.count ⟨0x12, 2⟩ 0).lifeAdd 164 1).nvs.nextSeq + 1
           writing := (if rest.isEmpty then none else some { w with todo := rest, attempts := 0 }) } }))) →
       (d.nvs.safeWait = false → exec (.journalWriteDone t true) s = gives t s d.cordResetTaken) ∧
       (d.nvs.safeWait = true → exec (.journalWriteDone t true) s =
         gives t s (State.cordResetTaken (State.safeEnter 3 { d with nvs := { d.nvs with safeWait := false } })))) ∧
     (c = b.putHalf (b.half ++ [⟨j.typ, rest.isEmpty, j.key, b.nvs.nextSeq, w.first, j.payload, false⟩]) →
       (w.attempts + 1 < 3 →
         d = State.settleAll { c with nvs := { c.nvs with writing := some { w with attempts := w.attempts + 1 } } }) →
       (3 ≤ w.attempts + 1 →
         d = ((State.abandonGroup w.group { c with nvs := { c.nvs with writing := none } }).takeGroup).settleAll) →
       (d.nvs.safeWait = false → exec (.journalWriteDone t false) s = gives t s d.cordResetTaken) ∧
       (d.nvs.safeWait = true → exec (.journalWriteDone t false) s =
         gives t s (State.cordResetTaken (State.safeEnter 3 { d with nvs := { d.nvs with safeWait := false } }))))) ∧
  (∀ (t gen other : Nat) (image kept l : List JEntry) (s a b c d z : State), State.LiveAt t s a →
     (a.flag F.NVS_STATUS_COMPACTING = false → exec (.compactionFlip t) s = gives t s a.settleAll) ∧
     (a.flag F.NVS_STATUS_COMPACTING = true → z = a.firstSuper → image = asEntries 1 1 (latest (z.half.take z.nvs.snapLen)).image →
       kept = (z.half.drop z.nvs.snapLen).filter (fun e => e.ok) →
       l = image ++ kept.mapIdx (fun i e =>
         { e with seq := image.length + 1 + i,
                  group := image.length + 1 + kept.findIdx (fun z => z.group == e.group) }) →
       gen = z.rd F.NVS_GEN_GENERATION + 1 → other = 1 - z.rd F.NVS_STATUS_HALF →
       b = ((((z.writeSuper ⟨gen, other, halfBytes image, image.length⟩).wr F.NVS_GEN_GENERATION gen).wr F.NVS_STATUS_HALF
         other).putHalf l).wr F.NVS_STATUS_COMPACTING 0 →
       c = State.lifeAdd 166 1 (State.count ⟨0x12, 0⟩ 0
         { b with nvs := { b.nvs with
           nextSeq := l.length + 1
           snapLen := 0
           writing := b.nvs.writing.map (fun (w : JWrite) =>
             { w with first := image.length + 1 + kept.findIdx (fun z => z.group == w.first) }) } }) →
       d = (c.calendarAdd 7 (gen % 2 ^ 16)).wrB F.NVS_STATUS_FULL (halfBytes l ≥ compactAt) →
       exec (.compactionFlip t) s = gives t s d.takeGroup.settleAll))

/-- R419, R421, R422, R424: the older copy of the counter block is written and the forecasts recomputed; a powered
second counts, in its temperature band, and a fall of CYCLE_C after a rise of CYCLE_C is a thermal cycle; a trial
ends. R431, R433 to R435: a dump falls due and latches the counters that MASK selects, joins one of the same coarse
count, or is counted as lost while the one before it is sent; a latched dump is sent; a meter window's end shows each
port's bytes and peak; a sample notes the recipe and its step, which may lie up to three steps beyond the one
executing (a free value, log entry 4). The model's choices: the powered second's extremes and the flush (log entry
115), the end of a trial (log entry 114), the latch's own coarse count and the first dump's number (log entry 116),
and the step of a sample as a free value (log entries 4 and 117). -/
def Obligations.LifeAndTallyCommandsComplete : Prop :=
  (∀ (t n : Nat) (low high c : Int) (s a b : State), State.LiveAt t s a →
     (a.nvs.copyA.seq ≤ a.nvs.copyB.seq → exec (.lifeFlush t) s = gives t s
       (State.forecast { a with nvs := { a.nvs with copyA := ⟨max a.nvs.copyA.seq a.nvs.copyB.seq + 1, a.nvs.life, true⟩ } })) ∧
     (a.nvs.copyB.seq < a.nvs.copyA.seq → exec (.lifeFlush t) s = gives t s
       (State.forecast { a with nvs := { a.nvs with copyB := ⟨max a.nvs.copyA.seq a.nvs.copyB.seq + 1, a.nvs.life, true⟩ } })) ∧
     (b = (a.lifeAdd 0 1).lifeAdd (130 + 2 * State.bandOf a.maxDie) 1 → c = b.rd F.LIFE_CTRL_CYCLE_C * 16 →
       low = min b.nvs.cycLow a.maxDie → high = (if b.nvs.cycRose then max b.nvs.cycHigh a.maxDie else a.maxDie) →
       ((b.nvs.cycRose = true ∨ low + c ≤ a.maxDie) → a.maxDie ≤ high - c → exec (.lifeSecond t) s = gives t s
         (State.lifeAdd 162 1 { b with nvs := { b.nvs with cycLow := a.maxDie, cycHigh := a.maxDie, cycRose := false } })) ∧
       ((b.nvs.cycRose = true ∨ low + c ≤ a.maxDie) → high - c < a.maxDie → exec (.lifeSecond t) s = gives t s
         { b with nvs := { b.nvs with cycLow := low, cycHigh := high, cycRose := true } }) ∧
       (b.nvs.cycRose = false → a.maxDie < low + c → exec (.lifeSecond t) s = gives t s
         { b with nvs := { b.nvs with cycLow := low, cycHigh := high, cycRose := false } })) ∧
     (a.nvs.trialAt = some n → exec (.trialTimeout t) s = gives t s
       (State.wr F.NVS_BOOT_TRIAL 0 { a with nvs := { a.nvs with trialAt := none } })) ∧
     (a.nvs.trialAt = none → exec (.trialTimeout t) s = gives t s a)) ∧
  (∀ (t n run rec step : Nat) (r : RecipeRun) (dump : DumpLatch) (s a b c : State), State.AwakeAt t s a →
     (a.rd F.TALLY_DUMP_CFG_PERIOD_MS = 0 → exec (.dumpPeriod t) s = gives t s a) ∧
     (a.tally.dumpAt = some a.now → exec (.dumpPeriod t) s = gives t s a) ∧
     (a.rd F.TALLY_DUMP_CFG_PERIOD_MS ≠ 0 → a.tally.dumpAt ≠ some a.now →
       (a.flag F.TALLY_DUMP_STATUS_BUSY = true → exec (.dumpPeriod t) s = gives t s (a.count ⟨0x13, 1⟩ 0)) ∧
       (a.flag F.TALLY_DUMP_STATUS_BUSY = false →
         dump = ⟨a.tally.dumpNo, a.sec, a.nsec, a.rd F.TALLY_DUMP_MASK_MASK,
           a.tally.live.filter (fun p => bitOf (a.rd F.TALLY_DUMP_MASK_MASK) (p.1 / 2 ^ 24))⟩ →
         b = { a with tally := { a.tally with
           dump := some dump, dumpNo := (a.tally.dumpNo + 1) % 2 ^ 32, dumpAt := some a.now } } →
         exec (.dumpPeriod t) s = gives t s (((b.wr F.TALLY_DUMP_STATUS_BUSY 1).wr F.TALLY_DUMP_STATUS_NUMBER
           a.tally.dumpNo).count ⟨0x13, 0⟩ 0))) ∧
     (a.tally.dump = some dump → b = (dumpRecords dump).foldl (fun s r => s.telemetry r) a →
       exec (.dumpDone t) s = gives t s
         (State.wr F.TALLY_DUMP_STATUS_BUSY 0 { b with tally := { b.tally with dump := none } })) ∧
     (b = (List.range 8).foldl State.bwPort a →
       exec (.bwWindow t) s = gives t s { b with tally := { b.tally with bwCount := List.replicate 8 0 } }) ∧
     (a.flag F.TALLY_SAMPLE_CFG_EN = false → exec (.sampleTick t) s = gives t s a) ∧
     (a.flag F.TALLY_SAMPLE_CFG_EN = true → n = a.rd F.TALLY_SAMPLE_STATUS_NEXT →
       (a.cmd.run = some r → run = 1 ∧ rec = r.number ∧ step = min (r.step + a.fresh % 4) (r.steps.length - 1)) →
       (a.cmd.run = none → run = 0 ∧ rec = a.rd F.CMD_RECIPE_NUMBER ∧ step = a.rd F.CMD_RECIPE_STEP) →
       c = (((((State.wr (F.TALLY_SAMPLE_VALID n) 1 { a with free := a.free + 1 }).wr (F.TALLY_SAMPLE_RUNNING n) run).wr
         (F.TALLY_SAMPLE_RECIPE n) rec).wr (F.TALLY_SAMPLE_STEP n) step).wr (F.TALLY_SAMPLE_SAMPLE n)
         (a.counter ⟨0x13, 3⟩ 0 % 2 ^ 16)) →
       exec (.sampleTick t) s = gives t s ((c.wr F.TALLY_SAMPLE_STATUS_NEXT ((n + 1) % 16)).count ⟨0x13, 3⟩ 0)))

/-! ### Supply, resets, modes and watchdogs -/

/-- R21, R22: a loop period shows the measured rate, counts the periods in which the supply cannot follow, the third
of which sets RATE_FLOOR, and steps the voltage up below 1.15 and down above 1.2075 times the required rate, within
550 and 850 mV, unless a change is owed or the regulator is in fault, counting each step (Table 18-1); with the loop
off the command is 850 mV. R466: a change is one command, which goes to the regulator behind those before it; an
acknowledged command becomes the voltage in force, and the next one is owed; a command not acknowledged, which is
counted, a non-zero STATUS_WORD and an alert that lasts are regulator faults, and an alert's level is noted while the
internal reset is held. (That every non-zero STATUS_WORD is a fault is log entry 38.) The model's reading: the three
periods judged with the loop off as well, STEP_MV at the next period, and the count of steps sent (log entry 14), the
queue of VOUT_COMMANDs (log entry 16), and every non-zero STATUS_WORD as a fault (log entry 38). -/
def Obligations.SupplyCommandsComplete : Prop :=
  (∀ (t measured m r v st n : Nat) (low : Bool) (s a b c : State), State.AwakeAt t s a →
     n = a.rd F.PWR_AVS_CTRL_STEP_MV →
     (a.mode = Mode.selftest ∨ a.pwr.noLoop = true →
       exec (.avsLoopPeriod t measured) s = gives t s (a.periodBegins n)) ∧
     (a.mode ≠ Mode.selftest → a.pwr.noLoop = false → b = State.restoreLapse (a.wr F.PWR_AVS_RATE_MEASURED (min measured 65535)) →
       low = (b.flag F.PWR_AVS_STATUS_REG_FAULT || (b.rd F.PWR_AVS_STATUS_VDD_MV == 850 &&
         decide (100 * b.rd F.PWR_AVS_RATE_MEASURED < 115 * b.rd F.PWR_AVS_RATE_REQUIRED))) →
       (low = false → c = { b with pwr := { b.pwr with floorRun := 0 } }) →
       (low = true → b.pwr.floorRun + 1 < 3 ∨ b.flag F.PWR_AVS_STATUS_RATE_FLOOR = true →
         c = { b with pwr := { b.pwr with floorRun := b.pwr.floorRun + 1 } }) →
       (low = true → 3 ≤ b.pwr.floorRun + 1 → b.flag F.PWR_AVS_STATUS_RATE_FLOOR = false →
         c = ((State.wr F.PWR_AVS_STATUS_RATE_FLOOR 1 { b with pwr := { b.pwr with floorRun := b.pwr.floorRun + 1 } }).raise
           Irq.rateFloor).logEvent Ev.rateFloor 0) →
       m = c.rd F.PWR_AVS_RATE_MEASURED → r = c.rd F.PWR_AVS_RATE_REQUIRED → v = c.rd F.PWR_AVS_STATUS_VDD_MV →
       st = c.pwr.step →
       (c.flag F.PWR_AVS_CTRL_LOOP_EN = false → v = 850 ∨ c.pwr.owed ≠ none →
         exec (.avsLoopPeriod t measured) s = gives t s (c.periodBegins n)) ∧
       (c.flag F.PWR_AVS_CTRL_LOOP_EN = false → v ≠ 850 → c.pwr.owed = none →
         exec (.avsLoopPeriod t measured) s = gives t s ((c.cmdVdd 850).periodBegins n)) ∧
       (c.flag F.PWR_AVS_CTRL_LOOP_EN = true → c.pwr.owed ≠ none →
         exec (.avsLoopPeriod t measured) s = gives t s (c.periodBegins n)) ∧
       (c.flag F.PWR_AVS_CTRL_LOOP_EN = true → c.pwr.owed = none →
         (c.flag F.PWR_AVS_STATUS_REG_FAULT = true → exec (.avsLoopPeriod t measured) s = gives t s (c.periodBegins n)) ∧
         (c.flag F.PWR_AVS_STATUS_REG_FAULT = false → 100 * m < 115 * r → v < 850 →
           exec (.avsLoopPeriod t measured) s =
             gives t s (((c.cmdVdd (min 850 (v + st))).count ⟨0x14, 2⟩ 0).periodBegins n)) ∧
         (100 * m < 115 * r → 850 ≤ v → exec (.avsLoopPeriod t measured) s = gives t s (c.periodBegins n)) ∧
         (c.flag F.PWR_AVS_STATUS_REG_FAULT = false → 115 * r ≤ 100 * m → 12075 * r < 10000 * m → 550 < v →
           exec (.avsLoopPeriod t measured) s =
             gives t s (((c.cmdVdd (max 550 (v - st))).count ⟨0x14, 3⟩ 0).periodBegins n)) ∧
         (115 * r ≤ 100 * m → 10000 * m ≤ 12075 * r ∨ v ≤ 550 →
           exec (.avsLoopPeriod t measured) s = gives t s (c.periodBegins n))))) ∧
  (∀ (t mv status : Nat) (s a b c : State), State.LiveAt t s a →
     (c.flag F.PWR_AVS_STATUS_REG_FAULT = false →
       b = (c.wr F.PWR_AVS_STATUS_VDD_MV mv).wrB F.PWR_AVS_STATUS_AT_CEILING (mv == 850) →
       (b.pwr.owed = none → c.cmdVdd mv = { b with pwr := { b.pwr with owed := some mv } }) ∧
       (b.pwr.owed ≠ none → c.cmdVdd mv = { b with pwr := { b.pwr with later := b.pwr.later ++ [mv] } })) ∧
     (a.pwr.owed = some mv →
       exec (.pmbusCommandDone t true) s = gives t s { a with pwr := { a.pwr with
         acked := mv
         owed := a.pwr.later.head?
         later := a.pwr.later.tail } } ∧
       exec (.pmbusCommandDone t false) s = gives t s (a.count ⟨0x14, 1⟩ 0).regFault) ∧
     (a.pwr.owed = none → ∀ ack, exec (.pmbusCommandDone t ack) s = gives t s a) ∧
     ((s.arrive t).boot.phase = BootPhase.held → exec (.pmbAlert t status) s =
       gives t s { s.arrive t with pwr := { (s.arrive t).pwr with alert := true } }) ∧
     (status % 2 ^ 16 = 0 →
       exec (.pmbusStatusPoll t status) s = gives t s a ∧
       exec (.pmbAlert t status) s = gives t s { a with pwr := { a.pwr with alert := true } }) ∧
     (status % 2 ^ 16 ≠ 0 →
       exec (.pmbusStatusPoll t status) s = gives t s a.regFault ∧
       exec (.pmbAlert t status) s = gives t s (State.regFault { a with pwr := { a.pwr with alert := true } })) ∧
     (a.pwr.alert = true → exec (.pmbAlertTimeout t) s = gives t s (State.regFault { a with pwr := { a.pwr with alert := false } })) ∧
     (a.pwr.alert = false → exec (.pmbAlertTimeout t) s = gives t s a))

/-- R436, R438, R345: a supply out of range resets with kind 0, and TRIP shows whether the trip holds; RESET_N's fall
refreshes FIRE_ALLOW and, past its filter, resets with kind 1; its rise samples the straps while the internal reset is
held. R436, R439, R441: a release with RESET_N high and no trip samples the straps after kinds 0 and 4, opens the
journal, chooses the slot, and runs steps 1 to 5 of Table 19-1, or stays in the boot ROM's SAFE where no slot passes.
R334, Table 19-4: a command reset is taken when its reply has left, 1 ms has passed since and the journal's queue is
empty; a watchdog that nobody has restarted clears the permits, logs, completes the entry in progress, flushes the
life log and resets with kind 3; a kick restarts it. The model's reading: steps 1 to 5 of the start-up at one instant
(log entry 118), the straps by RESET_N_RISE or the release (log entry 3), a supply's return told by the release (log
entry 120), what a reset keeps (log entry 119), the choice of slot and the trial (log entries 112 and 114), the boot
ROM's SAFE (log entry 121), device time from 0 (log entry 17), sync after the replay (log entry 21), the life log (log
entry 115), and the watchdog's entry without a core (log entry 81). -/
def Obligations.ResetCommandsComplete : Prop :=
  (∀ (t : Nat) (role : Bool) (id : Fin 8) (s a b : State), a = s.arrive t →
     (exec (.supplyOutOfRange t) s = gives t s
       ((State.enterReset 0 { a with boot := { a.boot with supplyOk := false } }).wr F.DEV_RESET_CAUSE_TRIP
         (b2n a.boot.tripped))) ∧
     (b = State.refreshAllow { a with boot := { a.boot with resetN := false } } →
       exec (.resetNFall t false) s = gives t s b.calPoll ∧ exec (.resetNFall t true) s = gives t s (b.enterReset 1)) ∧
     (a.boot.phase = BootPhase.held → exec (.resetNRise t role id) s = gives t s
       (State.sampleStraps role id { a with boot := { a.boot with resetN := true } })) ∧
     (a.boot.phase ≠ BootPhase.held → exec (.resetNRise t role id) s = gives t s
       (State.refreshAllow { a with boot := { a.boot with resetN := true } }))) ∧
  (∀ (t slot : Nat) (role fell : Bool) (id : Fin 8) (bad0 bad1 : Bool) (s a b c d e : State), a = s.arrive t →
     (a.boot.phase ≠ BootPhase.held ∨ a.boot.resetN = false ∨ a.boot.tripped = true →
       exec (.resetRelease t role id bad0 bad1) s = gives t s a) ∧
     (a.boot.phase = BootPhase.held → a.boot.resetN = true → a.boot.tripped = false →
       b = { a with boot := { a.boot with supplyOk := true } } →
       c = (if a.boot.kind = 0 ∨ a.boot.kind = 4 then b.sampleStraps role id else b) →
       d = (if a.boot.kind < 2 then { c with time := { c.time with dev := 0, locked := true } } else c) →
       e = d.openJournal.bootSelect (replay d.openJournal.half).boot →
       ((e.bootSlot bad0 bad1).2 = none →
         exec (.resetRelease t role id bad0 bad1) s = gives t s (e.bootSlot bad0 bad1).1.romSafe) ∧
       ((e.bootSlot bad0 bad1).2 = some (slot, fell) →
         ∃ f g : State,
           f = State.replayAll (State.wdtRestart .south (State.wdtRestart .north
             { (e.bootSlot bad0 bad1).1 with boot := { (e.bootSlot bad0 bad1).1.boot with phase := .starting } })) ∧
           g = (if a.boot.kind < 2 then f.syncSource else f) ∧
           exec (.resetRelease t role id bad0 bad1) s = gives t s
             ((g.lifeLoad.slotRecord slot fell (decide (a.boot.kind = 3) && e.nvs.trialAt.isSome)).freqFollow.hkStart.selftestEntry)))) ∧
  (∀ (t : Nat) (h : Half) (s a b c : State), State.LiveAt t s a →
     (a.boot.resetDue = .command → a.nvsIdle = true → a.replyOwed = false → a.boot.replyEnd + 1000000 ≤ a.now →
       exec (.commandReset t) s = gives t s (a.lifeFlush.enterReset 2)) ∧
     (a.boot.resetDue ≠ .command ∨ a.nvsIdle = false ∨ a.replyOwed = true ∨ a.now < a.boot.replyEnd + 1000000 →
       exec (.commandReset t) s = gives t s a) ∧
     (a.wdtRuns = true →
       exec (.wdtKick t h) s = gives t s (a.wdtRestart h) ∧
       (a.now < a.wdtAt h + a.rd F.DEV_WDT_TIMEOUT_MS * 1000000 → exec (.watchdogBite t h) s = gives t s a) ∧
       (a.wdtAt h + a.rd F.DEV_WDT_TIMEOUT_MS * 1000000 ≤ a.now →
         b = (a.setPermits false).logEntry h.num Ev.watchdogReset 0x0B h.num 0 0 →
         c = (if b.nvs.writing.isSome then b.entryDone true else b) →
         exec (.watchdogBite t h) s = gives t s (c.lifeFlush.enterReset 3))) ∧
     (a.wdtRuns = false →
       exec (.wdtKick t h) s = gives t s a ∧ exec (.watchdogBite t h) s = gives t s a))

/-- R442 to R444, R448: self-test's end shows its results; after a start-up step 7 follows; a failed test leads to
SAFE, and otherwise the device enters STANDBY, and after a start-up goes on as AUTO_MODE says. R446: a transition that
is ready completes: the mode is TARGET, what the mode left still holds is flushed, each mode has its entry, and
MODE_DONE is raised; one that is not ready waits. R453, R34, R456: in PARK a wake that is allowed commands 850 mV;
once the regulator has acknowledged, and an input stands at the PLL, its completion locks the PLL to XTAL, or to
REF_IN without it, starts the watchdogs and the converter, enters STANDBY, and compacts the journal above 736 KiB
(R412); with neither input the wake goes on. The model's reading: self-test's end and step 7 (log entry 118), an entry
to SAFE in the start-up (log entry 121), MODE_DONE and the entries' recipes (log entry 122), what an entry to a firing
mode begins (log entries 37 and 44), a pending step of device time (log entry 25), a wake that waits for the
acknowledgement and for an input (log entry 16), and the recipes that a mode's end ends (log entry 90). -/
def Obligations.ModeCommandsComplete : Prop :=
  (∀ (t : Nat) (fails : List (Nat × Nat)) (s a b : State), State.LiveAt t s a →
     (a.boot.phase = BootPhase.starting → b = (a.testResults fails).stepSeven →
       (fails ≠ [] → exec (.selftestDone t fails) s = gives t s (b.safeEnter 0)) ∧
       (fails = [] → b.mode = Mode.selftest →
         exec (.selftestDone t fails) s = gives t s (b.enterQuiet Mode.standby).autoMode)) ∧
     (a.boot.phase = BootPhase.up → a.mode = Mode.selftest → b = a.testResults fails →
       (fails ≠ [] → exec (.selftestDone t fails) s = gives t s (b.safeEnter 0)) ∧
       (fails = [] → b.mode = Mode.selftest → exec (.selftestDone t fails) s = gives t s (b.enterQuiet Mode.standby))) ∧
     (a.boot.phase = BootPhase.up → a.mode ≠ Mode.selftest → exec (.selftestDone t fails) s = gives t s a)) ∧
  (∀ (t m : Nat) (s a b c d e f g : State), State.AwakeAt t s a →
     (a.transitionReady = false → exec (.modeTransitionDone t) s = gives t s a) ∧
     (a.transitionReady = true → m = a.rd F.DEV_MODE_TARGET →
       b = (if m = Mode.selftest then a.recipesEnd St.busy else if m = Mode.park then a.recipesEnd St.mode else a) →
       c = (if a.firing then (b.setMode m 2).flushAll else b.setMode m 2) →
       d = (if m = Mode.park then c.parkEntry else c) →
       e = (if m = Mode.selftest then d.selftestEntry else d) →
       f = (if m = Mode.config then e.servoModeEntry else e) →
       g = (if State.firingMode m then f.firingEntry else f) →
       exec (.modeTransitionDone t) s = gives t s (((g.raise Irq.modeDone).entryRecipes m).calPoll))) ∧
  (∀ (t : Nat) (how : Wake) (src : PllSource) (s a b c : State), State.LiveAt t s a →
     (a.mode = Mode.park → a.boot.waking = false →
       wakeAllowed how (a.flag F.PWR_PARK_WAKE_SPI) (a.flag F.PWR_PARK_WAKE_UART) = true →
       exec (.wake t how) s = gives t s (State.cmdVdd 850 { a with boot := { a.boot with waking := true } })) ∧
     (a.mode ≠ Mode.park ∨ a.boot.waking = true ∨
       wakeAllowed how (a.flag F.PWR_PARK_WAKE_SPI) (a.flag F.PWR_PARK_WAKE_UART) = false →
       exec (.wake t how) s = gives t s a) ∧
     (a.boot.waking = true → a.pwr.owed = none →
       a.time.xtalOk = true ∧ src = .xtal ∨ a.time.xtalOk = false ∧ a.flag F.TIME_STATUS_REF_PRESENT = true ∧ src = .ref →
       b = { a with time := { a.time with src := src, locked := true, everRef := src == PllSource.ref } } →
       c = ((b.wdtRestart .north).wdtRestart .south).freqFollow.syncSource.refreshXtal.hkStart.enterQuiet Mode.standby →
       (736 < c.rd F.NVS_STATUS_FILL_KIB → c.flag F.NVS_STATUS_COMPACTING = false → c.flag F.NVS_STATUS_FULL = false →
         exec (.wakeComplete t) s = gives t s c.startCompaction) ∧
       (c.rd F.NVS_STATUS_FILL_KIB ≤ 736 ∨ c.flag F.NVS_STATUS_COMPACTING = true ∨ c.flag F.NVS_STATUS_FULL = true →
         exec (.wakeComplete t) s = gives t s c)) ∧
     (a.boot.waking = false ∨ a.pwr.owed ≠ none ∨ a.time.xtalOk = false ∧ a.flag F.TIME_STATUS_REF_PRESENT = false →
       exec (.wakeComplete t) s = gives t s a))

/-! ### Rules of the part -/

/-- R7, R9: channel 0x8 stands with stave 0 and addresses the spare of each octant addressed and no front end of a
stave; channel 0xF addresses channels 0 to 3 of each stave addressed and never a spare; all of one member are its 256
receive channels, in order. -/
def Obligations.UnitPathsAddressTheirUnits : Prop :=
  ∀ p : UPath, p.listed = true →
    (p.chan = 8 → p.stave = 0 ∧ p.frontEnds = p.octants.map (fun g => 256 + g) ∧ ∀ f ∈ p.frontEnds, 256 ≤ f ∧ f < 264) ∧
    (p.chan = 15 → p.frontEnds = p.emitters.flatMap (fun e => [4 * e, 4 * e + 1, 4 * e + 2, 4 * e + 3]) ∧
      ∀ f ∈ p.frontEnds, f < 256) ∧
    (p.chan = 15 → p.half = 3 → p.octant = 15 → p.stave = 31 → p.frontEnds = List.range 256)

/-- R49: a read of TIME_NOW_SEC_HI returns the high word of the second and latches device time into the three other
registers; a read of one of those returns what it holds, at any later time, and changes nothing. -/
def Obligations.TimeNowIsLatched : Prop :=
  (∀ s : State, bitsOf (s.hostRead A.TIME_NOW_SEC_HI).2 15 0 = s.sec / 2 ^ 32 % 2 ^ 16 ∧
    (s.hostRead A.TIME_NOW_SEC_HI).1.word A.TIME_NOW_SEC_LO = s.sec % 2 ^ 32 ∧
    (s.hostRead A.TIME_NOW_SEC_HI).1.word A.TIME_NOW_NS = s.nsec % 2 ^ 32 ∧
    bitsOf ((s.hostRead A.TIME_NOW_SEC_HI).1.word A.TIME_NOW_FRAC) 15 0 = s.frac % 2 ^ 16) ∧
  ∀ (a t : Nat) (s : State), a = A.TIME_NOW_SEC_LO ∨ a = A.TIME_NOW_NS ∨ a = A.TIME_NOW_FRAC →
    (s.arrive t).hostRead a = (s.arrive t, s.word a)

/-- R426, R429: one event of a counter of a chained pair steps its low part, which returns to 0 past 2^48 − 1 as the high
part steps, and its word never shows SAT; any other counter stops at 2^48 − 1, where its word shows SAT and
TALLY_STATUS.SAT_ANY is set. No other counter changes. -/
def Obligations.CountersChainOrStop : Prop :=
  ∀ (c : Ctr) (inst : Nat) (s : State),
    (∀ k, k ≠ ctrId c inst → Sparse.get (s.count c inst).tally.live 0 k = Sparse.get s.tally.live 0 k) ∧
    ((tallyChained c.block inst).contains c.index = true →
      counterWord (s.count c inst).tally.live c.block inst c.index false =
        (counterWord s.tally.live c.block inst c.index false + 1) % 2 ^ 48 ∧
      Sparse.get (s.count c inst).tally.live 0 (ctrId c inst) / 2 ^ 48 % 2 ^ 48 =
        (Sparse.get s.tally.live 0 (ctrId c inst) / 2 ^ 48 +
          b2n (counterWord s.tally.live c.block inst c.index false == 2 ^ 48 - 1)) % 2 ^ 48) ∧
    ((tallyChained c.block inst).contains c.index = false →
      Sparse.get (s.count c inst).tally.live 0 (ctrId c inst) =
        min (Sparse.get s.tally.live 0 (ctrId c inst) + 1) (2 ^ 48 - 1) ∧
      (2 ^ 48 - 1 ≤ Sparse.get s.tally.live 0 (ctrId c inst) + 1 →
        (s.count c inst).flag F.TALLY_STATUS_SAT_ANY = true) ∧
      (c.index = 0 ∨ (tallyChained c.block inst).contains (c.index - 1) = false →
        ∀ snap, counterWord (s.count c inst).tally.live c.block inst c.index snap =
          b2n (decide (2 ^ 48 - 1 ≤ Sparse.get s.tally.live 0 (ctrId c inst) + 1)) * 2 ^ 63 + b2n snap * 2 ^ 61 +
            min (Sparse.get s.tally.live 0 (ctrId c inst) + 1) (2 ^ 48 - 1)))

/-- R458: raising an interrupt sets its bit and keeps every other; INT_N is low while a set bit is enabled. That INT_N
is a function of the registers, not held in State, is log entry 125. -/
def Obligations.RaisingAnInterruptSetsItsBit : Prop :=
  ∀ (n : Nat) (s : State), n < 21 →
    bitOf ((s.raise n).word A.DEV_INT_STATUS) n = true ∧
    (∀ m, m < 21 → m ≠ n →
      bitOf ((s.raise n).word A.DEV_INT_STATUS) m = bitOf (s.word A.DEV_INT_STATUS) m) ∧
    (s.intN = true ↔ ∀ m, m < 21 → bitOf (s.word A.DEV_INT_STATUS) m = true → bitOf (s.word A.DEV_INT_EN) m = false)

/-- R326, R328: a fault-log entry becomes the newest, stamped with device time; a ring of 16 loses its oldest for it. -/
def Obligations.FaultLogKeepsTheNewestSixteen : Prop :=
  ∀ (address code source core seq opcode : Nat) (s r : State) (e : FaultEntry), s.cmd.faults.length ≤ 16 →
    r = s.logEntry address code source core seq opcode →
    e = ⟨address % 2 ^ 32, code, source, core, seq, opcode, s.sec, s.nsec, s.frac⟩ →
    r.cmd.faults.length ≤ 16 ∧
    (s.cmd.faults.length < 16 → r.cmd.faults = s.cmd.faults ++ [e] ∧
      r.rd F.CMD_STATUS_FAULT_ENTRIES = s.cmd.faults.length + 1) ∧
    (s.cmd.faults.length = 16 → r.cmd.faults = s.cmd.faults.tail ++ [e])

/-- R319: a request that repeats a kept reply's source and SEQUENCE within 2 s of it is not executed: it is counted,
and the kept reply is sent again, unless it is OK and the repetition carries QUIET. The model's reading: a core at
work keeps packets in its queue (log entry 77), and what CMD_PACKETS counts (log entry 80). -/
def Obligations.RepeatedRequestsAreNotExecuted : Prop :=
  ∀ (i : Instr) (sp : OpSpec) (q : Req) (s b : State) (k : KeptReply), requestOf i = some (sp, q) →
    (s.arrive i.time).receives q.src = true → (s.arrive i.time).addressed q.src = true →
    (s.arrive i.time).coreBusy q.src.core = false → q.flags % 2 = 0 → b = (s.arrive i.time).countPacket q →
    b.duplicateOf q = some k →
    State.sameSource k.src q.src = true ∧ k.seq = q.seq ∧ b.now ≤ k.formedAt + 2000000000 ∧
    (k.reply.status = St.ok → q.flags / 2 % 2 = 1 → exec i s = gives i.time s (b.count ⟨0x0D, 3⟩ q.src.core)) ∧
    (k.reply.status ≠ St.ok ∨ q.flags / 2 % 2 = 0 →
      exec i s = gives i.time s ((b.count ⟨0x0D, 3⟩ q.src.core).deliver q.src k.reply))

/-- R440; Table 13-3, step 8: for this device, every request is answered with BUSY from step 3 of the start-up until
the self-test of step 6 has ended and in SELFTEST, and SAFE answers every opcode that Table 13-5 does not mark SAFE
with SAFE; nothing is executed. The model's reading: a packet that a core at work queues is tested later (log entry
77), and where a request is answered in a cord (log entry 93). -/
def Obligations.SelfTestAndSafeRefuse : Prop :=
  ∀ (i : Instr) (sp : OpSpec) (q : Req) (s b : State), requestOf i = some (sp, q) →
    (s.arrive i.time).receives q.src = true → (s.arrive i.time).addressed q.src = true →
    (s.arrive i.time).coreBusy q.src.core = false → q.flags = 0 → q.status = 0 → q.version = 1 ∨ q.version = 2 →
    b = (s.arrive i.time).countPacket q → b.duplicateOf q = none →
    (b.boot.phase = BootPhase.starting ∨ b.mode = Mode.selftest →
      exec i s = gives i.time s (b.concluded sp q (OpResult.refuse St.busy 0 b))) ∧
    (b.mode = Mode.safe → sp.safe = false → b.boot.phase = BootPhase.up → b.route sp.opcode q = .here →
      exec i s = gives i.time s (b.concluded sp q (OpResult.refuse St.safe 0 b)))

/-- R3, R330: a write of a word that sets a reserved bit is refused with BAD_PARAM, and a read or write of an address
that is not in the register map with ACCESS_VIOLATION; neither changes a register. R446: with no transition in
progress, a MODE_SET to a mode that Table 19-3 does not list from the present one is refused with MODE; during a
transition every MODE_SET is answered BUSY. The model's reading: the order of the tests of a written word (log entries
7 and 124), and BUSY before the check of the transition (log entry 122). -/
def Obligations.BadCommandsAreRefused : Prop :=
  (∀ (t a w : Nat) (q : Req) (s b : State) (r : RegAt),
     (State.Runs t s Op.regWrite q b → q.arg 0 = a → q.payload = [a, w] → State.kicks (a, w) = false → findReg a = some r →
       w &&& r.reg.reserved ≠ 0 →
       exec (.regWrite t q) s = gives t s (b.concluded Op.regWrite q (OpResult.refuse St.badParam a b))) ∧
     (State.Runs t s Op.regWrite q b → q.arg 0 = a → q.payload = [a, w] → findReg a = none →
       exec (.regWrite t q) s = gives t s (b.concluded Op.regWrite q (OpResult.refuse St.access a b))) ∧
     (State.Runs t s Op.regRead q b → q.arg 0 = a → q.arg 1 = 1 → findReg a = none →
       exec (.regRead t q) s = gives t s (b.concluded Op.regRead q (OpResult.refuse St.access a b)))) ∧
  (∀ (t : Nat) (q : Req) (s b : State), State.Runs t s Op.modeSet q b → q.version = 2 → q.arg 0 ≤ 7 →
     (b.flag F.DEV_MODE_TRANS = false → State.transitionListed b.mode (q.arg 0) = false →
       exec (.modeSet t q) s = gives t s (b.concluded Op.modeSet q (OpResult.refuse St.mode 0 b))) ∧
     (b.flag F.DEV_MODE_TRANS = true →
       exec (.modeSet t q) s = gives t s (b.concluded Op.modeSet q (OpResult.refuse St.busy 0 b))))

/-- R119, R138, R146: while FIRE_ALLOW is low, neither a slot nor a proof shot makes a fire edge. The model's reading:
the conditions are tested at the edge (log entry 39), and slots are decided ahead of a boundary (log entry 42). -/
def Obligations.NothingFiresWithoutFireAllow : Prop :=
  ∀ (i : Instr) (s r : State), s.permits.allow = false → exec i s = .next r →
    (∃ t late pre, i = .slotExecute t late pre) ∨ (∃ t pre, i = .proofShot t pre) →
    r.fire.edges = s.fire.edges ∧ ∀ e, (r.em e).lastFire = (s.em e).lastFire
end

