-- ==== Sys2Proof/Laws/Sparse.lean ====
section
/-! SUPPORT. What the sparse stores do: a read after a write, and the canonical form that every write keeps. -/

namespace Sys2Proof.Machine

variable {α : Type}

theorem Sparse.find?_insert_same (k : Nat) (v : α) (m : Sparse α) : Sparse.find? k (Sparse.insert k v m) = some v := by
  induction m with
  | nil => simp [Sparse.insert, Sparse.find?]
  | cons p r ih =>
    obtain ⟨k', v'⟩ := p
    unfold Sparse.insert
    split
    · simp [Sparse.find?]
    · split
      · simp [Sparse.find?]
      · rename_i h1 h2
        simp [Sparse.find?, Ne.symm h2, ih]

theorem Sparse.find?_insert_ne {k j : Nat} (h : j ≠ k) (v : α) (m : Sparse α) :
    Sparse.find? j (Sparse.insert k v m) = Sparse.find? j m := by
  induction m with
  | nil => simp [Sparse.insert, Sparse.find?, Ne.symm h]
  | cons p r ih =>
    obtain ⟨k', v'⟩ := p
    unfold Sparse.insert
    split
    · simp [Sparse.find?, Ne.symm h]
    · split
      · rename_i h2
        subst h2
        simp [Sparse.find?, Ne.symm h]
      · simp [Sparse.find?, ih]

theorem Sparse.find?_erase_same (k : Nat) (m : Sparse α) : Sparse.find? k (Sparse.erase m k) = none := by
  induction m with
  | nil => rfl
  | cons p r ih =>
    by_cases h : p.1 = k
    · simpa [Sparse.erase, h] using ih
    · have hb : (p.1 != k) = true := by simpa using h
      simp only [Sparse.erase, List.filter_cons, hb, if_true] at ih ⊢
      simpa [Sparse.find?, h] using ih

theorem Sparse.find?_erase_ne {k j : Nat} (h : j ≠ k) (m : Sparse α) :
    Sparse.find? j (Sparse.erase m k) = Sparse.find? j m := by
  induction m with
  | nil => rfl
  | cons p r ih =>
    by_cases hp : p.1 = k
    · have hb : (p.1 != k) = false := by simp [hp]
      simp only [Sparse.erase, List.filter_cons, hb] at ih ⊢
      have hj : ¬ p.1 = j := fun e => h (e.symm.trans hp)
      simpa [Sparse.find?, hj] using ih
    · have hb : (p.1 != k) = true := by simpa using hp
      simp only [Sparse.erase, List.filter_cons, hb, if_true] at ih ⊢
      simp only [Sparse.find?, ih]

theorem Sparse.mem_insert {p : Nat × α} {k : Nat} {v : α} {m : Sparse α} (h : p ∈ Sparse.insert k v m) :
    p = (k, v) ∨ p ∈ m := by
  induction m with
  | nil => simpa [Sparse.insert] using h
  | cons q r ih =>
    obtain ⟨k', v'⟩ := q
    unfold Sparse.insert at h
    split at h
    · simpa using h
    · split at h
      · rcases List.mem_cons.mp h with e | e
        · exact .inl e
        · exact .inr (List.mem_cons_of_mem _ e)
      · rcases List.mem_cons.mp h with e | e
        · exact .inr (e ▸ List.mem_cons_self)
        · rcases ih e with e | e
          · exact .inl e
          · exact .inr (List.mem_cons_of_mem _ e)

variable [DecidableEq α]

/-- A write inserts, or erases where it writes what an unlisted key reads as. -/
theorem Sparse.put_eq (m : Sparse α) (d : α) (k : Nat) (v : α) :
    m.put d k v = if v = d then m.erase k else Sparse.insert k v m := by
  cases m <;> rfl

/-- A read after a write to the same key gives the value written. -/
@[simp] theorem Sparse.get_put_same (m : Sparse α) (d : α) (k : Nat) (v : α) : (m.put d k v).get d k = v := by
  rw [Sparse.put_eq]
  unfold Sparse.get
  split
  · rename_i h
    simp [Sparse.find?_erase_same, h]
  · simp [Sparse.find?_insert_same]

/-- A write leaves every other key alone. -/
theorem Sparse.get_put_ne {k j : Nat} (h : j ≠ k) (m : Sparse α) (d d' v : α) : (m.put d k v).get d' j = m.get d' j := by
  rw [Sparse.put_eq]
  unfold Sparse.get
  split
  · rw [Sparse.find?_erase_ne h]
  · rw [Sparse.find?_insert_ne h]

/-- The keys of the canonical form rise strictly, and no entry equals what its key reads as when unlisted. -/
theorem Sparse.wf_cons (d : Nat → α) (k : Nat) (v : α) (r : Sparse α) :
    Sparse.wf d ((k, v) :: r) = true ↔ v ≠ d k ∧ (∀ p ∈ r, k < p.1) ∧ Sparse.wf d r = true := by
  simp [Sparse.wf, and_assoc]

theorem Sparse.wf_insert {d : Nat → α} {k : Nat} {v : α} {m : Sparse α} (hv : v ≠ d k) (h : Sparse.wf d m = true) :
    Sparse.wf d (Sparse.insert k v m) = true := by
  induction m with
  | nil => simp [Sparse.insert, Sparse.wf, hv]
  | cons q r ih =>
    obtain ⟨k', v'⟩ := q
    have hc := (Sparse.wf_cons d k' v' r).mp h
    unfold Sparse.insert
    split
    · rename_i hlt
      refine (Sparse.wf_cons d k v _).mpr ⟨hv, ?_, h⟩
      intro p hp
      rcases List.mem_cons.mp hp with e | e
      · simpa [e] using hlt
      · exact lt_trans hlt (hc.2.1 p e)
    · split
      · rename_i _ he
        subst he
        exact (Sparse.wf_cons d k v r).mpr ⟨hv, hc.2.1, hc.2.2⟩
      · rename_i h1 h2
        refine (Sparse.wf_cons d k' v' _).mpr ⟨hc.1, ?_, ih hc.2.2⟩
        intro p hp
        rcases Sparse.mem_insert hp with e | e
        · subst e
          exact lt_of_le_of_ne (Nat.le_of_not_lt h1) (Ne.symm h2)
        · exact hc.2.1 p e

theorem Sparse.wf_filter {d : Nat → α} (f : Nat × α → Bool) {m : Sparse α} (h : Sparse.wf d m = true) :
    Sparse.wf d (m.filter f) = true := by
  induction m with
  | nil => rfl
  | cons q r ih =>
    obtain ⟨k', v'⟩ := q
    have hc := (Sparse.wf_cons d k' v' r).mp h
    cases hf : f (k', v') with
    | false => simpa [List.filter_cons, hf] using ih hc.2.2
    | true =>
      simp only [List.filter_cons, hf, if_true]
      refine (Sparse.wf_cons d k' v' _).mpr ⟨hc.1, ?_, ih hc.2.2⟩
      intro p hp
      exact hc.2.1 p (List.mem_filter.mp hp).1

/-- Every write keeps the canonical form. -/
theorem Sparse.wf_put {d : Nat → α} {k : Nat} (v : α) {m : Sparse α} (h : Sparse.wf d m = true) :
    Sparse.wf d (m.put (d k) k v) = true := by
  rw [Sparse.put_eq]
  split
  · exact Sparse.wf_filter _ h
  · rename_i hv
    exact Sparse.wf_insert hv h

omit [DecidableEq α] in
/-- In an empty store every key reads as unlisted. -/
@[simp] theorem Sparse.get_nil (d : α) (k : Nat) : Sparse.get ([] : Sparse α) d k = d := rfl

/-- An empty store is canonical. -/
theorem Sparse.wf_nil (d : Nat → α) : Sparse.wf d ([] : Sparse α) = true := rfl

end Sys2Proof.Machine
end

