-- ==== Sys2Proof/Laws/State.lean ====
section
/-! SUPPORT. One lemma for each field of State and each plain update of it: what the update leaves is what stood. -/

namespace Sys2Proof.Machine.State

/-! `putWord` changes `regs` alone. -/

@[simp] theorem putWord_pending (a v : Nat) (s : State) : (s.putWord a v).pending = s.pending := rfl
@[simp] theorem putWord_now (a v : Nat) (s : State) : (s.putWord a v).now = s.now := rfl
@[simp] theorem putWord_free (a v : Nat) (s : State) : (s.putWord a v).free = s.free := rfl
@[simp] theorem putWord_tabs (a v : Nat) (s : State) : (s.putWord a v).tabs = s.tabs := rfl
@[simp] theorem putWord_boot (a v : Nat) (s : State) : (s.putWord a v).boot = s.boot := rfl
@[simp] theorem putWord_permits (a v : Nat) (s : State) : (s.putWord a v).permits = s.permits := rfl
@[simp] theorem putWord_time (a v : Nat) (s : State) : (s.putWord a v).time = s.time := rfl
@[simp] theorem putWord_tally (a v : Nat) (s : State) : (s.putWord a v).tally = s.tally := rfl
@[simp] theorem putWord_regions (a v : Nat) (s : State) : (s.putWord a v).regions = s.regions := rfl
@[simp] theorem putWord_ports (a v : Nat) (s : State) : (s.putWord a v).ports = s.ports := rfl
@[simp] theorem putWord_lanes (a v : Nat) (s : State) : (s.putWord a v).lanes = s.lanes := rfl
@[simp] theorem putWord_cmd (a v : Nat) (s : State) : (s.putWord a v).cmd = s.cmd := rfl
@[simp] theorem putWord_cord (a v : Nat) (s : State) : (s.putWord a v).cord = s.cord := rfl
@[simp] theorem putWord_nvs (a v : Nat) (s : State) : (s.putWord a v).nvs = s.nvs := rfl
@[simp] theorem putWord_hk (a v : Nat) (s : State) : (s.putWord a v).hk = s.hk := rfl
@[simp] theorem putWord_therm (a v : Nat) (s : State) : (s.putWord a v).therm = s.therm := rfl
@[simp] theorem putWord_rx (a v : Nat) (s : State) : (s.putWord a v).rx = s.rx := rfl
@[simp] theorem putWord_stats (a v : Nat) (s : State) : (s.putWord a v).stats = s.stats := rfl
@[simp] theorem putWord_fire (a v : Nat) (s : State) : (s.putWord a v).fire = s.fire := rfl
@[simp] theorem putWord_acq (a v : Nat) (s : State) : (s.putWord a v).acq = s.acq := rfl
@[simp] theorem putWord_angle (a v : Nat) (s : State) : (s.putWord a v).angle = s.angle := rfl
@[simp] theorem putWord_servo (a v : Nat) (s : State) : (s.putWord a v).servo = s.servo := rfl
@[simp] theorem putWord_geom (a v : Nat) (s : State) : (s.putWord a v).geom = s.geom := rfl
@[simp] theorem putWord_cam (a v : Nat) (s : State) : (s.putWord a v).cam = s.cam := rfl
@[simp] theorem putWord_cal (a v : Nat) (s : State) : (s.putWord a v).cal = s.cal := rfl
@[simp] theorem putWord_pwr (a v : Nat) (s : State) : (s.putWord a v).pwr = s.pwr := rfl

/-! `wr` changes `regs` alone. -/

@[simp] theorem wr_pending (f : Fld) (v : Nat) (s : State) : (s.wr f v).pending = s.pending := rfl
@[simp] theorem wr_now (f : Fld) (v : Nat) (s : State) : (s.wr f v).now = s.now := rfl
@[simp] theorem wr_free (f : Fld) (v : Nat) (s : State) : (s.wr f v).free = s.free := rfl
@[simp] theorem wr_tabs (f : Fld) (v : Nat) (s : State) : (s.wr f v).tabs = s.tabs := rfl
@[simp] theorem wr_boot (f : Fld) (v : Nat) (s : State) : (s.wr f v).boot = s.boot := rfl
@[simp] theorem wr_permits (f : Fld) (v : Nat) (s : State) : (s.wr f v).permits = s.permits := rfl
@[simp] theorem wr_time (f : Fld) (v : Nat) (s : State) : (s.wr f v).time = s.time := rfl
@[simp] theorem wr_tally (f : Fld) (v : Nat) (s : State) : (s.wr f v).tally = s.tally := rfl
@[simp] theorem wr_regions (f : Fld) (v : Nat) (s : State) : (s.wr f v).regions = s.regions := rfl
@[simp] theorem wr_ports (f : Fld) (v : Nat) (s : State) : (s.wr f v).ports = s.ports := rfl
@[simp] theorem wr_lanes (f : Fld) (v : Nat) (s : State) : (s.wr f v).lanes = s.lanes := rfl
@[simp] theorem wr_cmd (f : Fld) (v : Nat) (s : State) : (s.wr f v).cmd = s.cmd := rfl
@[simp] theorem wr_cord (f : Fld) (v : Nat) (s : State) : (s.wr f v).cord = s.cord := rfl
@[simp] theorem wr_nvs (f : Fld) (v : Nat) (s : State) : (s.wr f v).nvs = s.nvs := rfl
@[simp] theorem wr_hk (f : Fld) (v : Nat) (s : State) : (s.wr f v).hk = s.hk := rfl
@[simp] theorem wr_therm (f : Fld) (v : Nat) (s : State) : (s.wr f v).therm = s.therm := rfl
@[simp] theorem wr_rx (f : Fld) (v : Nat) (s : State) : (s.wr f v).rx = s.rx := rfl
@[simp] theorem wr_stats (f : Fld) (v : Nat) (s : State) : (s.wr f v).stats = s.stats := rfl
@[simp] theorem wr_fire (f : Fld) (v : Nat) (s : State) : (s.wr f v).fire = s.fire := rfl
@[simp] theorem wr_acq (f : Fld) (v : Nat) (s : State) : (s.wr f v).acq = s.acq := rfl
@[simp] theorem wr_angle (f : Fld) (v : Nat) (s : State) : (s.wr f v).angle = s.angle := rfl
@[simp] theorem wr_servo (f : Fld) (v : Nat) (s : State) : (s.wr f v).servo = s.servo := rfl
@[simp] theorem wr_geom (f : Fld) (v : Nat) (s : State) : (s.wr f v).geom = s.geom := rfl
@[simp] theorem wr_cam (f : Fld) (v : Nat) (s : State) : (s.wr f v).cam = s.cam := rfl
@[simp] theorem wr_cal (f : Fld) (v : Nat) (s : State) : (s.wr f v).cal = s.cal := rfl
@[simp] theorem wr_pwr (f : Fld) (v : Nat) (s : State) : (s.wr f v).pwr = s.pwr := rfl

/-! `wrS` changes `regs` alone. -/

@[simp] theorem wrS_pending (f : Fld) (v : Int) (s : State) : (s.wrS f v).pending = s.pending := rfl
@[simp] theorem wrS_now (f : Fld) (v : Int) (s : State) : (s.wrS f v).now = s.now := rfl
@[simp] theorem wrS_free (f : Fld) (v : Int) (s : State) : (s.wrS f v).free = s.free := rfl
@[simp] theorem wrS_tabs (f : Fld) (v : Int) (s : State) : (s.wrS f v).tabs = s.tabs := rfl
@[simp] theorem wrS_boot (f : Fld) (v : Int) (s : State) : (s.wrS f v).boot = s.boot := rfl
@[simp] theorem wrS_permits (f : Fld) (v : Int) (s : State) : (s.wrS f v).permits = s.permits := rfl
@[simp] theorem wrS_time (f : Fld) (v : Int) (s : State) : (s.wrS f v).time = s.time := rfl
@[simp] theorem wrS_tally (f : Fld) (v : Int) (s : State) : (s.wrS f v).tally = s.tally := rfl
@[simp] theorem wrS_regions (f : Fld) (v : Int) (s : State) : (s.wrS f v).regions = s.regions := rfl
@[simp] theorem wrS_ports (f : Fld) (v : Int) (s : State) : (s.wrS f v).ports = s.ports := rfl
@[simp] theorem wrS_lanes (f : Fld) (v : Int) (s : State) : (s.wrS f v).lanes = s.lanes := rfl
@[simp] theorem wrS_cmd (f : Fld) (v : Int) (s : State) : (s.wrS f v).cmd = s.cmd := rfl
@[simp] theorem wrS_cord (f : Fld) (v : Int) (s : State) : (s.wrS f v).cord = s.cord := rfl
@[simp] theorem wrS_nvs (f : Fld) (v : Int) (s : State) : (s.wrS f v).nvs = s.nvs := rfl
@[simp] theorem wrS_hk (f : Fld) (v : Int) (s : State) : (s.wrS f v).hk = s.hk := rfl
@[simp] theorem wrS_therm (f : Fld) (v : Int) (s : State) : (s.wrS f v).therm = s.therm := rfl
@[simp] theorem wrS_rx (f : Fld) (v : Int) (s : State) : (s.wrS f v).rx = s.rx := rfl
@[simp] theorem wrS_stats (f : Fld) (v : Int) (s : State) : (s.wrS f v).stats = s.stats := rfl
@[simp] theorem wrS_fire (f : Fld) (v : Int) (s : State) : (s.wrS f v).fire = s.fire := rfl
@[simp] theorem wrS_acq (f : Fld) (v : Int) (s : State) : (s.wrS f v).acq = s.acq := rfl
@[simp] theorem wrS_angle (f : Fld) (v : Int) (s : State) : (s.wrS f v).angle = s.angle := rfl
@[simp] theorem wrS_servo (f : Fld) (v : Int) (s : State) : (s.wrS f v).servo = s.servo := rfl
@[simp] theorem wrS_geom (f : Fld) (v : Int) (s : State) : (s.wrS f v).geom = s.geom := rfl
@[simp] theorem wrS_cam (f : Fld) (v : Int) (s : State) : (s.wrS f v).cam = s.cam := rfl
@[simp] theorem wrS_cal (f : Fld) (v : Int) (s : State) : (s.wrS f v).cal = s.cal := rfl
@[simp] theorem wrS_pwr (f : Fld) (v : Int) (s : State) : (s.wrS f v).pwr = s.pwr := rfl

/-! `wrB` changes `regs` alone. -/

@[simp] theorem wrB_pending (f : Fld) (b : Bool) (s : State) : (s.wrB f b).pending = s.pending := rfl
@[simp] theorem wrB_now (f : Fld) (b : Bool) (s : State) : (s.wrB f b).now = s.now := rfl
@[simp] theorem wrB_free (f : Fld) (b : Bool) (s : State) : (s.wrB f b).free = s.free := rfl
@[simp] theorem wrB_tabs (f : Fld) (b : Bool) (s : State) : (s.wrB f b).tabs = s.tabs := rfl
@[simp] theorem wrB_boot (f : Fld) (b : Bool) (s : State) : (s.wrB f b).boot = s.boot := rfl
@[simp] theorem wrB_permits (f : Fld) (b : Bool) (s : State) : (s.wrB f b).permits = s.permits := rfl
@[simp] theorem wrB_time (f : Fld) (b : Bool) (s : State) : (s.wrB f b).time = s.time := rfl
@[simp] theorem wrB_tally (f : Fld) (b : Bool) (s : State) : (s.wrB f b).tally = s.tally := rfl
@[simp] theorem wrB_regions (f : Fld) (b : Bool) (s : State) : (s.wrB f b).regions = s.regions := rfl
@[simp] theorem wrB_ports (f : Fld) (b : Bool) (s : State) : (s.wrB f b).ports = s.ports := rfl
@[simp] theorem wrB_lanes (f : Fld) (b : Bool) (s : State) : (s.wrB f b).lanes = s.lanes := rfl
@[simp] theorem wrB_cmd (f : Fld) (b : Bool) (s : State) : (s.wrB f b).cmd = s.cmd := rfl
@[simp] theorem wrB_cord (f : Fld) (b : Bool) (s : State) : (s.wrB f b).cord = s.cord := rfl
@[simp] theorem wrB_nvs (f : Fld) (b : Bool) (s : State) : (s.wrB f b).nvs = s.nvs := rfl
@[simp] theorem wrB_hk (f : Fld) (b : Bool) (s : State) : (s.wrB f b).hk = s.hk := rfl
@[simp] theorem wrB_therm (f : Fld) (b : Bool) (s : State) : (s.wrB f b).therm = s.therm := rfl
@[simp] theorem wrB_rx (f : Fld) (b : Bool) (s : State) : (s.wrB f b).rx = s.rx := rfl
@[simp] theorem wrB_stats (f : Fld) (b : Bool) (s : State) : (s.wrB f b).stats = s.stats := rfl
@[simp] theorem wrB_fire (f : Fld) (b : Bool) (s : State) : (s.wrB f b).fire = s.fire := rfl
@[simp] theorem wrB_acq (f : Fld) (b : Bool) (s : State) : (s.wrB f b).acq = s.acq := rfl
@[simp] theorem wrB_angle (f : Fld) (b : Bool) (s : State) : (s.wrB f b).angle = s.angle := rfl
@[simp] theorem wrB_servo (f : Fld) (b : Bool) (s : State) : (s.wrB f b).servo = s.servo := rfl
@[simp] theorem wrB_geom (f : Fld) (b : Bool) (s : State) : (s.wrB f b).geom = s.geom := rfl
@[simp] theorem wrB_cam (f : Fld) (b : Bool) (s : State) : (s.wrB f b).cam = s.cam := rfl
@[simp] theorem wrB_cal (f : Fld) (b : Bool) (s : State) : (s.wrB f b).cal = s.cal := rfl
@[simp] theorem wrB_pwr (f : Fld) (b : Bool) (s : State) : (s.wrB f b).pwr = s.pwr := rfl

/-! `setIn` changes `regs` alone. -/

@[simp] theorem setIn_pending (f : Fld) (i : Nat) (s : State) : (s.setIn f i).pending = s.pending := rfl
@[simp] theorem setIn_now (f : Fld) (i : Nat) (s : State) : (s.setIn f i).now = s.now := rfl
@[simp] theorem setIn_free (f : Fld) (i : Nat) (s : State) : (s.setIn f i).free = s.free := rfl
@[simp] theorem setIn_tabs (f : Fld) (i : Nat) (s : State) : (s.setIn f i).tabs = s.tabs := rfl
@[simp] theorem setIn_boot (f : Fld) (i : Nat) (s : State) : (s.setIn f i).boot = s.boot := rfl
@[simp] theorem setIn_permits (f : Fld) (i : Nat) (s : State) : (s.setIn f i).permits = s.permits := rfl
@[simp] theorem setIn_time (f : Fld) (i : Nat) (s : State) : (s.setIn f i).time = s.time := rfl
@[simp] theorem setIn_tally (f : Fld) (i : Nat) (s : State) : (s.setIn f i).tally = s.tally := rfl
@[simp] theorem setIn_regions (f : Fld) (i : Nat) (s : State) : (s.setIn f i).regions = s.regions := rfl
@[simp] theorem setIn_ports (f : Fld) (i : Nat) (s : State) : (s.setIn f i).ports = s.ports := rfl
@[simp] theorem setIn_lanes (f : Fld) (i : Nat) (s : State) : (s.setIn f i).lanes = s.lanes := rfl
@[simp] theorem setIn_cmd (f : Fld) (i : Nat) (s : State) : (s.setIn f i).cmd = s.cmd := rfl
@[simp] theorem setIn_cord (f : Fld) (i : Nat) (s : State) : (s.setIn f i).cord = s.cord := rfl
@[simp] theorem setIn_nvs (f : Fld) (i : Nat) (s : State) : (s.setIn f i).nvs = s.nvs := rfl
@[simp] theorem setIn_hk (f : Fld) (i : Nat) (s : State) : (s.setIn f i).hk = s.hk := rfl
@[simp] theorem setIn_therm (f : Fld) (i : Nat) (s : State) : (s.setIn f i).therm = s.therm := rfl
@[simp] theorem setIn_rx (f : Fld) (i : Nat) (s : State) : (s.setIn f i).rx = s.rx := rfl
@[simp] theorem setIn_stats (f : Fld) (i : Nat) (s : State) : (s.setIn f i).stats = s.stats := rfl
@[simp] theorem setIn_fire (f : Fld) (i : Nat) (s : State) : (s.setIn f i).fire = s.fire := rfl
@[simp] theorem setIn_acq (f : Fld) (i : Nat) (s : State) : (s.setIn f i).acq = s.acq := rfl
@[simp] theorem setIn_angle (f : Fld) (i : Nat) (s : State) : (s.setIn f i).angle = s.angle := rfl
@[simp] theorem setIn_servo (f : Fld) (i : Nat) (s : State) : (s.setIn f i).servo = s.servo := rfl
@[simp] theorem setIn_geom (f : Fld) (i : Nat) (s : State) : (s.setIn f i).geom = s.geom := rfl
@[simp] theorem setIn_cam (f : Fld) (i : Nat) (s : State) : (s.setIn f i).cam = s.cam := rfl
@[simp] theorem setIn_cal (f : Fld) (i : Nat) (s : State) : (s.setIn f i).cal = s.cal := rfl
@[simp] theorem setIn_pwr (f : Fld) (i : Nat) (s : State) : (s.setIn f i).pwr = s.pwr := rfl

/-! `clearIn` changes `regs` alone. -/

@[simp] theorem clearIn_pending (f : Fld) (i : Nat) (s : State) : (s.clearIn f i).pending = s.pending := rfl
@[simp] theorem clearIn_now (f : Fld) (i : Nat) (s : State) : (s.clearIn f i).now = s.now := rfl
@[simp] theorem clearIn_free (f : Fld) (i : Nat) (s : State) : (s.clearIn f i).free = s.free := rfl
@[simp] theorem clearIn_tabs (f : Fld) (i : Nat) (s : State) : (s.clearIn f i).tabs = s.tabs := rfl
@[simp] theorem clearIn_boot (f : Fld) (i : Nat) (s : State) : (s.clearIn f i).boot = s.boot := rfl
@[simp] theorem clearIn_permits (f : Fld) (i : Nat) (s : State) : (s.clearIn f i).permits = s.permits := rfl
@[simp] theorem clearIn_time (f : Fld) (i : Nat) (s : State) : (s.clearIn f i).time = s.time := rfl
@[simp] theorem clearIn_tally (f : Fld) (i : Nat) (s : State) : (s.clearIn f i).tally = s.tally := rfl
@[simp] theorem clearIn_regions (f : Fld) (i : Nat) (s : State) : (s.clearIn f i).regions = s.regions := rfl
@[simp] theorem clearIn_ports (f : Fld) (i : Nat) (s : State) : (s.clearIn f i).ports = s.ports := rfl
@[simp] theorem clearIn_lanes (f : Fld) (i : Nat) (s : State) : (s.clearIn f i).lanes = s.lanes := rfl
@[simp] theorem clearIn_cmd (f : Fld) (i : Nat) (s : State) : (s.clearIn f i).cmd = s.cmd := rfl
@[simp] theorem clearIn_cord (f : Fld) (i : Nat) (s : State) : (s.clearIn f i).cord = s.cord := rfl
@[simp] theorem clearIn_nvs (f : Fld) (i : Nat) (s : State) : (s.clearIn f i).nvs = s.nvs := rfl
@[simp] theorem clearIn_hk (f : Fld) (i : Nat) (s : State) : (s.clearIn f i).hk = s.hk := rfl
@[simp] theorem clearIn_therm (f : Fld) (i : Nat) (s : State) : (s.clearIn f i).therm = s.therm := rfl
@[simp] theorem clearIn_rx (f : Fld) (i : Nat) (s : State) : (s.clearIn f i).rx = s.rx := rfl
@[simp] theorem clearIn_stats (f : Fld) (i : Nat) (s : State) : (s.clearIn f i).stats = s.stats := rfl
@[simp] theorem clearIn_fire (f : Fld) (i : Nat) (s : State) : (s.clearIn f i).fire = s.fire := rfl
@[simp] theorem clearIn_acq (f : Fld) (i : Nat) (s : State) : (s.clearIn f i).acq = s.acq := rfl
@[simp] theorem clearIn_angle (f : Fld) (i : Nat) (s : State) : (s.clearIn f i).angle = s.angle := rfl
@[simp] theorem clearIn_servo (f : Fld) (i : Nat) (s : State) : (s.clearIn f i).servo = s.servo := rfl
@[simp] theorem clearIn_geom (f : Fld) (i : Nat) (s : State) : (s.clearIn f i).geom = s.geom := rfl
@[simp] theorem clearIn_cam (f : Fld) (i : Nat) (s : State) : (s.clearIn f i).cam = s.cam := rfl
@[simp] theorem clearIn_cal (f : Fld) (i : Nat) (s : State) : (s.clearIn f i).cal = s.cal := rfl
@[simp] theorem clearIn_pwr (f : Fld) (i : Nat) (s : State) : (s.clearIn f i).pwr = s.pwr := rfl

/-! `putTab` changes `tabs` alone. -/

@[simp] theorem putTab_pending (t u o v : Nat) (s : State) : (s.putTab t u o v).pending = s.pending := rfl
@[simp] theorem putTab_now (t u o v : Nat) (s : State) : (s.putTab t u o v).now = s.now := rfl
@[simp] theorem putTab_free (t u o v : Nat) (s : State) : (s.putTab t u o v).free = s.free := rfl
@[simp] theorem putTab_regs (t u o v : Nat) (s : State) : (s.putTab t u o v).regs = s.regs := rfl
@[simp] theorem putTab_boot (t u o v : Nat) (s : State) : (s.putTab t u o v).boot = s.boot := rfl
@[simp] theorem putTab_permits (t u o v : Nat) (s : State) : (s.putTab t u o v).permits = s.permits := rfl
@[simp] theorem putTab_time (t u o v : Nat) (s : State) : (s.putTab t u o v).time = s.time := rfl
@[simp] theorem putTab_tally (t u o v : Nat) (s : State) : (s.putTab t u o v).tally = s.tally := rfl
@[simp] theorem putTab_regions (t u o v : Nat) (s : State) : (s.putTab t u o v).regions = s.regions := rfl
@[simp] theorem putTab_ports (t u o v : Nat) (s : State) : (s.putTab t u o v).ports = s.ports := rfl
@[simp] theorem putTab_lanes (t u o v : Nat) (s : State) : (s.putTab t u o v).lanes = s.lanes := rfl
@[simp] theorem putTab_cmd (t u o v : Nat) (s : State) : (s.putTab t u o v).cmd = s.cmd := rfl
@[simp] theorem putTab_cord (t u o v : Nat) (s : State) : (s.putTab t u o v).cord = s.cord := rfl
@[simp] theorem putTab_nvs (t u o v : Nat) (s : State) : (s.putTab t u o v).nvs = s.nvs := rfl
@[simp] theorem putTab_hk (t u o v : Nat) (s : State) : (s.putTab t u o v).hk = s.hk := rfl
@[simp] theorem putTab_therm (t u o v : Nat) (s : State) : (s.putTab t u o v).therm = s.therm := rfl
@[simp] theorem putTab_rx (t u o v : Nat) (s : State) : (s.putTab t u o v).rx = s.rx := rfl
@[simp] theorem putTab_stats (t u o v : Nat) (s : State) : (s.putTab t u o v).stats = s.stats := rfl
@[simp] theorem putTab_fire (t u o v : Nat) (s : State) : (s.putTab t u o v).fire = s.fire := rfl
@[simp] theorem putTab_acq (t u o v : Nat) (s : State) : (s.putTab t u o v).acq = s.acq := rfl
@[simp] theorem putTab_angle (t u o v : Nat) (s : State) : (s.putTab t u o v).angle = s.angle := rfl
@[simp] theorem putTab_servo (t u o v : Nat) (s : State) : (s.putTab t u o v).servo = s.servo := rfl
@[simp] theorem putTab_geom (t u o v : Nat) (s : State) : (s.putTab t u o v).geom = s.geom := rfl
@[simp] theorem putTab_cam (t u o v : Nat) (s : State) : (s.putTab t u o v).cam = s.cam := rfl
@[simp] theorem putTab_cal (t u o v : Nat) (s : State) : (s.putTab t u o v).cal = s.cal := rfl
@[simp] theorem putTab_pwr (t u o v : Nat) (s : State) : (s.putTab t u o v).pwr = s.pwr := rfl

/-! `tick` changes `free` alone. -/

@[simp] theorem tick_pending (s : State) : (s.tick).pending = s.pending := rfl
@[simp] theorem tick_now (s : State) : (s.tick).now = s.now := rfl
@[simp] theorem tick_regs (s : State) : (s.tick).regs = s.regs := rfl
@[simp] theorem tick_tabs (s : State) : (s.tick).tabs = s.tabs := rfl
@[simp] theorem tick_boot (s : State) : (s.tick).boot = s.boot := rfl
@[simp] theorem tick_permits (s : State) : (s.tick).permits = s.permits := rfl
@[simp] theorem tick_time (s : State) : (s.tick).time = s.time := rfl
@[simp] theorem tick_tally (s : State) : (s.tick).tally = s.tally := rfl
@[simp] theorem tick_regions (s : State) : (s.tick).regions = s.regions := rfl
@[simp] theorem tick_ports (s : State) : (s.tick).ports = s.ports := rfl
@[simp] theorem tick_lanes (s : State) : (s.tick).lanes = s.lanes := rfl
@[simp] theorem tick_cmd (s : State) : (s.tick).cmd = s.cmd := rfl
@[simp] theorem tick_cord (s : State) : (s.tick).cord = s.cord := rfl
@[simp] theorem tick_nvs (s : State) : (s.tick).nvs = s.nvs := rfl
@[simp] theorem tick_hk (s : State) : (s.tick).hk = s.hk := rfl
@[simp] theorem tick_therm (s : State) : (s.tick).therm = s.therm := rfl
@[simp] theorem tick_rx (s : State) : (s.tick).rx = s.rx := rfl
@[simp] theorem tick_stats (s : State) : (s.tick).stats = s.stats := rfl
@[simp] theorem tick_fire (s : State) : (s.tick).fire = s.fire := rfl
@[simp] theorem tick_acq (s : State) : (s.tick).acq = s.acq := rfl
@[simp] theorem tick_angle (s : State) : (s.tick).angle = s.angle := rfl
@[simp] theorem tick_servo (s : State) : (s.tick).servo = s.servo := rfl
@[simp] theorem tick_geom (s : State) : (s.tick).geom = s.geom := rfl
@[simp] theorem tick_cam (s : State) : (s.tick).cam = s.cam := rfl
@[simp] theorem tick_cal (s : State) : (s.tick).cal = s.cal := rfl
@[simp] theorem tick_pwr (s : State) : (s.tick).pwr = s.pwr := rfl

/-! The passing of time changes the clock and the timebase alone. -/

@[simp] theorem pass_pending (t : Nat) (s : State) : (s.pass t).pending = s.pending := by unfold pass; split <;> rfl
@[simp] theorem pass_free (t : Nat) (s : State) : (s.pass t).free = s.free := by unfold pass; split <;> rfl
@[simp] theorem pass_regs (t : Nat) (s : State) : (s.pass t).regs = s.regs := by unfold pass; split <;> rfl
@[simp] theorem pass_tabs (t : Nat) (s : State) : (s.pass t).tabs = s.tabs := by unfold pass; split <;> rfl
@[simp] theorem pass_boot (t : Nat) (s : State) : (s.pass t).boot = s.boot := by unfold pass; split <;> rfl
@[simp] theorem pass_permits (t : Nat) (s : State) : (s.pass t).permits = s.permits := by unfold pass; split <;> rfl
@[simp] theorem pass_tally (t : Nat) (s : State) : (s.pass t).tally = s.tally := by unfold pass; split <;> rfl
@[simp] theorem pass_regions (t : Nat) (s : State) : (s.pass t).regions = s.regions := by unfold pass; split <;> rfl
@[simp] theorem pass_ports (t : Nat) (s : State) : (s.pass t).ports = s.ports := by unfold pass; split <;> rfl
@[simp] theorem pass_lanes (t : Nat) (s : State) : (s.pass t).lanes = s.lanes := by unfold pass; split <;> rfl
@[simp] theorem pass_cmd (t : Nat) (s : State) : (s.pass t).cmd = s.cmd := by unfold pass; split <;> rfl
@[simp] theorem pass_cord (t : Nat) (s : State) : (s.pass t).cord = s.cord := by unfold pass; split <;> rfl
@[simp] theorem pass_nvs (t : Nat) (s : State) : (s.pass t).nvs = s.nvs := by unfold pass; split <;> rfl
@[simp] theorem pass_hk (t : Nat) (s : State) : (s.pass t).hk = s.hk := by unfold pass; split <;> rfl
@[simp] theorem pass_therm (t : Nat) (s : State) : (s.pass t).therm = s.therm := by unfold pass; split <;> rfl
@[simp] theorem pass_rx (t : Nat) (s : State) : (s.pass t).rx = s.rx := by unfold pass; split <;> rfl
@[simp] theorem pass_stats (t : Nat) (s : State) : (s.pass t).stats = s.stats := by unfold pass; split <;> rfl
@[simp] theorem pass_fire (t : Nat) (s : State) : (s.pass t).fire = s.fire := by unfold pass; split <;> rfl
@[simp] theorem pass_acq (t : Nat) (s : State) : (s.pass t).acq = s.acq := by unfold pass; split <;> rfl
@[simp] theorem pass_angle (t : Nat) (s : State) : (s.pass t).angle = s.angle := by unfold pass; split <;> rfl
@[simp] theorem pass_servo (t : Nat) (s : State) : (s.pass t).servo = s.servo := by unfold pass; split <;> rfl
@[simp] theorem pass_geom (t : Nat) (s : State) : (s.pass t).geom = s.geom := by unfold pass; split <;> rfl
@[simp] theorem pass_cam (t : Nat) (s : State) : (s.pass t).cam = s.cam := by unfold pass; split <;> rfl
@[simp] theorem pass_cal (t : Nat) (s : State) : (s.pass t).cal = s.cal := by unfold pass; split <;> rfl
@[simp] theorem pass_pwr (t : Nat) (s : State) : (s.pass t).pwr = s.pwr := by unfold pass; split <;> rfl

/-- The clock after time has passed stands at the later count. -/
@[simp] theorem pass_now (t : Nat) (s : State) : (s.pass t).now = max s.now t := by
  unfold pass
  split
  · simp only
    omega
  · omega

/-! A register field depends on the register file alone. -/

theorem word_congr {s r : State} (h : s.regs = r.regs) (a : Nat) : s.word a = r.word a := by simp only [word, h]
theorem rd_congr {s r : State} (h : s.regs = r.regs) (f : Fld) : s.rd f = r.rd f := by simp only [rd, word_congr h]
theorem flag_congr {s r : State} (h : s.regs = r.regs) (f : Fld) : s.flag f = r.flag f := by simp only [flag, rd_congr h]
theorem rdS_congr {s r : State} (h : s.regs = r.regs) (f : Fld) : s.rdS f = r.rdS f := by simp only [rdS, rd_congr h]

@[simp] theorem pass_word (t : Nat) (s : State) (a : Nat) : (s.pass t).word a = s.word a := word_congr (by simp) a
@[simp] theorem pass_rd (t : Nat) (s : State) (f : Fld) : (s.pass t).rd f = s.rd f := rd_congr (by simp) f
@[simp] theorem pass_rdS (t : Nat) (s : State) (f : Fld) : (s.pass t).rdS f = s.rdS f := rdS_congr (by simp) f
@[simp] theorem pass_flag (t : Nat) (s : State) (f : Fld) : (s.pass t).flag f = s.flag f := flag_congr (by simp) f
@[simp] theorem pass_mode (t : Nat) (s : State) : (s.pass t).mode = s.mode := pass_rd t s _

end Sys2Proof.Machine.State
end

