-- ==== Sys2Proof/Laws/Regs.lean ====
section
/-! SUPPORT. The register file and the tables: what a read gives after a write, and their canonical form. -/

namespace Sys2Proof.Machine

/-- A digit and a remainder below it. -/
theorem digit_lt {a b m n : Nat} (ha : a < m) (hb : b < n) : a * n + b < m * n := by
  calc a * n + b < a * n + n := by omega
    _ = (a + 1) * n := by ring
    _ ≤ m * n := Nat.mul_le_mul_right _ ha

theorem bitsOf_lt (w hi lo : Nat) : bitsOf w hi lo < 2 ^ (hi + 1 - lo) := Nat.mod_lt _ (by positivity)

/-- A field reads as the value put into it. -/
theorem bitsOf_setBits_same {hi lo v : Nat} (w : Nat) (h : lo ≤ hi) (hv : v < 2 ^ (hi + 1 - lo)) :
    bitsOf (setBits w hi lo v) hi lo = v := by
  unfold bitsOf setBits
  have e : 2 ^ (hi + 1) = 2 ^ (hi + 1 - lo) * 2 ^ lo := by
    rw [← pow_add]
    congr 1
    omega
  have hp : 0 < 2 ^ lo := by positivity
  rw [Nat.mod_eq_of_lt hv, e]
  have : w / (2 ^ (hi + 1 - lo) * 2 ^ lo) * (2 ^ (hi + 1 - lo) * 2 ^ lo) + v * 2 ^ lo + w % 2 ^ lo =
      w % 2 ^ lo + 2 ^ lo * (v + 2 ^ (hi + 1 - lo) * (w / (2 ^ (hi + 1 - lo) * 2 ^ lo))) := by ring
  rw [this, Nat.add_mul_div_left _ _ hp, Nat.div_eq_of_lt (Nat.mod_lt _ hp), Nat.zero_add, Nat.add_mul_mod_self_left,
    Nat.mod_eq_of_lt hv]

/-- A field below the one written keeps its value. -/
theorem bitsOf_setBits_below {hi lo hi' lo' : Nat} (w v : Nat) (h : hi' < lo) (h' : lo' ≤ hi') (hl : lo ≤ hi) :
    bitsOf (setBits w hi lo v) hi' lo' = bitsOf w hi' lo' := by
  unfold bitsOf setBits
  have e1 : 2 ^ (hi + 1) = 2 ^ lo * 2 ^ (hi + 1 - lo) := by rw [← pow_add]; congr 1; omega
  have e2 : 2 ^ lo = 2 ^ (hi' + 1) * 2 ^ (lo - (hi' + 1)) := by rw [← pow_add]; congr 1; omega
  have e3 : 2 ^ (hi' + 1) = 2 ^ lo' * 2 ^ (hi' + 1 - lo') := by rw [← pow_add]; congr 1; omega
  have key : ∀ x, x / 2 ^ lo' % 2 ^ (hi' + 1 - lo') = x % 2 ^ (hi' + 1) / 2 ^ lo' := by
    intro x
    rw [e3, Nat.mod_mul_right_div_self]
  rw [key, key]
  congr 1
  have : w / 2 ^ (hi + 1) * 2 ^ (hi + 1) + v % 2 ^ (hi + 1 - lo) * 2 ^ lo + w % 2 ^ lo =
      w % 2 ^ lo + 2 ^ (hi' + 1) * (2 ^ (lo - (hi' + 1)) * (w / 2 ^ (hi + 1) * 2 ^ (hi + 1 - lo) + v % 2 ^ (hi + 1 - lo))) := by
    rw [e1]
    rw [e2]
    ring
  rw [this, Nat.add_mul_mod_self_left, e2]
  exact Nat.mod_mul_right_mod _ _ _

/-- A field above the one written keeps its value. -/
theorem bitsOf_setBits_above {hi lo hi' lo' : Nat} (w v : Nat) (h : hi < lo') (hl : lo ≤ hi) :
    bitsOf (setBits w hi lo v) hi' lo' = bitsOf w hi' lo' := by
  unfold bitsOf setBits
  have e2 : 2 ^ lo' = 2 ^ (hi + 1) * 2 ^ (lo' - (hi + 1)) := by rw [← pow_add]; congr 1; omega
  have e1 : 2 ^ (hi + 1) = 2 ^ (hi + 1 - lo) * 2 ^ lo := by rw [← pow_add]; congr 1; omega
  have low : v % 2 ^ (hi + 1 - lo) * 2 ^ lo + w % 2 ^ lo < 2 ^ (hi + 1) := by
    have a := Nat.mod_lt v (show 0 < 2 ^ (hi + 1 - lo) by positivity)
    have b := Nat.mod_lt w (show 0 < 2 ^ lo by positivity)
    rw [e1]
    exact digit_lt a b
  have top : (w / 2 ^ (hi + 1) * 2 ^ (hi + 1) + v % 2 ^ (hi + 1 - lo) * 2 ^ lo + w % 2 ^ lo) / 2 ^ lo' = w / 2 ^ lo' := by
    rw [e2, ← Nat.div_div_eq_div_mul, ← Nat.div_div_eq_div_mul]
    congr 1
    have : w / 2 ^ (hi + 1) * 2 ^ (hi + 1) + v % 2 ^ (hi + 1 - lo) * 2 ^ lo + w % 2 ^ lo =
        (v % 2 ^ (hi + 1 - lo) * 2 ^ lo + w % 2 ^ lo) + 2 ^ (hi + 1) * (w / 2 ^ (hi + 1)) := by ring
    rw [this, Nat.add_mul_div_left _ _ (by positivity), Nat.div_eq_of_lt low, Nat.zero_add]
  rw [top]

/-- A word of 32 bits stays one when a field is replaced. -/
theorem setBits_lt {w hi lo v n : Nat} (hw : w < 2 ^ n) (h : hi < n) (hl : lo ≤ hi) : setBits w hi lo v < 2 ^ n := by
  unfold setBits
  have e1 : 2 ^ (hi + 1) = 2 ^ (hi + 1 - lo) * 2 ^ lo := by rw [← pow_add]; congr 1; omega
  have e2 : 2 ^ n = 2 ^ (hi + 1) * 2 ^ (n - (hi + 1)) := by rw [← pow_add]; congr 1; omega
  have a := Nat.mod_lt v (show 0 < 2 ^ (hi + 1 - lo) by positivity)
  have b := Nat.mod_lt w (show 0 < 2 ^ lo by positivity)
  have low : v % 2 ^ (hi + 1 - lo) * 2 ^ lo + w % 2 ^ lo < 2 ^ (hi + 1) := by
    rw [e1]
    exact digit_lt a b
  have q : w / 2 ^ (hi + 1) < 2 ^ (n - (hi + 1)) := by
    rw [Nat.div_lt_iff_lt_mul (by positivity), Nat.mul_comm, ← e2]
    exact hw
  rw [e2, Nat.add_assoc, Nat.mul_comm (2 ^ (hi + 1)) (2 ^ (n - (hi + 1)))]
  exact digit_lt q low

namespace State

/-- With nothing listed, a register and a table word read as their reset values. -/
theorem word_of_nil {s : State} (h : s.regs = []) (a : Nat) : s.word a = (resetWord a).toNat := by
  unfold word
  rw [h]
  exact congrArg BitVec.toNat (Sparse.get_nil _ _)
theorem tab_of_nil {s : State} (h : s.tabs = []) (t u o : Nat) : s.tab t u o = (tabReset (tabKey t u o)).toNat := by
  unfold tab
  rw [h]
  exact congrArg BitVec.toNat (Sparse.get_nil _ _)

/-- A register reads as the word written. -/
@[simp] theorem word_putWord_same (s : State) (a v : Nat) : (s.putWord a v).word a = v % 2 ^ 32 := by
  simp [word, putWord]

/-- A register write leaves every other register alone. -/
theorem word_putWord_ne {a b : Nat} (h : b ≠ a) (s : State) (v : Nat) : (s.putWord a v).word b = s.word b := by
  unfold word putWord
  simp only [Sparse.get_put_ne h]

theorem word_lt (s : State) (a : Nat) : s.word a < 2 ^ 32 := BitVec.isLt _

theorem rd_lt (s : State) (f : Fld) : s.rd f < 2 ^ (f.hi + 1 - f.lo) := bitsOf_lt _ _ _

/-- A field reads as the value written, where that fits it. -/
theorem rd_wr_same {f : Fld} {v : Nat} (s : State) (h : f.lo ≤ f.hi) (h' : f.hi < 32) (hv : v < 2 ^ (f.hi + 1 - f.lo)) :
    (s.wr f v).rd f = v := by
  unfold rd wr
  rw [word_putWord_same, Nat.mod_eq_of_lt (setBits_lt (s.word_lt _) h' h), bitsOf_setBits_same _ h hv]

/-- A field write leaves the other registers alone. -/
theorem word_wr_ne {f : Fld} {a : Nat} (h : a ≠ f.addr) (s : State) (v : Nat) : (s.wr f v).word a = s.word a :=
  word_putWord_ne h s _

/-- A field write leaves the fields of other registers alone. -/
theorem rd_wr_ne {f g : Fld} (h : g.addr ≠ f.addr) (s : State) (v : Nat) : (s.wr f v).rd g = s.rd g := by
  simp only [rd, word_wr_ne h]

/-- A field write leaves the fields beside it alone. -/
theorem rd_wr_beside {f g : Fld} (s : State) (v : Nat) (hf : f.lo ≤ f.hi) (hf' : f.hi < 32) (hg : g.lo ≤ g.hi)
    (h : g.hi < f.lo ∨ f.hi < g.lo) : (s.wr f v).rd g = s.rd g := by
  by_cases e : g.addr = f.addr
  · unfold rd wr
    rw [e, word_putWord_same, Nat.mod_eq_of_lt (setBits_lt (s.word_lt _) hf' hf)]
    rcases h with h | h
    · exact bitsOf_setBits_below _ _ h hg hf
    · exact bitsOf_setBits_above _ _ h hf
  · exact rd_wr_ne e s v

/-- The register file in its canonical form. -/
theorem wf_putWord {s : State} (a v : Nat) (h : Sparse.wf resetWord s.regs = true) :
    Sparse.wf resetWord (s.putWord a v).regs = true := Sparse.wf_put _ h

theorem wf_wr {s : State} (f : Fld) (v : Nat) (h : Sparse.wf resetWord s.regs = true) :
    Sparse.wf resetWord (s.wr f v).regs = true := wf_putWord _ _ h

/-- The tables in their canonical form. -/
theorem wf_putTab {s : State} (t u o v : Nat) (h : Sparse.wf tabReset s.tabs = true) :
    Sparse.wf tabReset (s.putTab t u o v).tabs = true := Sparse.wf_put _ h

/-- A table word reads as the word written. -/
@[simp] theorem tab_putTab_same (s : State) (t u o v : Nat) : (s.putTab t u o v).tab t u o = v % 2 ^ 32 := by
  simp [tab, putTab]

end State

end Sys2Proof.Machine
end

