-- ==== Sys2Proof/Laws/Run.lean ====
section
/-! SUPPORT. How a command runs: what its wrapper answers, once for all commands. -/

namespace Sys2Proof.Machine

/-- A command arrives, has its effect, and leaves the queue and the clock as `gives` says. -/
theorem run_gives (t : Nat) (f : State → State) (s : State) : run t f s = gives t s (f (s.arrive t)) := by
  unfold run
  rfl

/-- With no shot on its way to its edge, arriving is letting time pass. -/
theorem arrive_idle {t : Nat} {s : State} (h : s.fire.queue = []) : s.arrive t = s.pass t := by
  simp [State.arrive, State.launchDue, h]

/-- A command completes, keeps the queue, and the clock is the later of the two coarse counts. -/
theorem run_answers (t : Nat) (f : State → State) (s : State) :
    answers (run t f s) (fun r => r.pending = s.pending ∧ r.now = max s.now t) := ⟨_, run_gives t f s, rfl, rfl⟩

theorem live_answers (t : Nat) (f : State → State) (s : State) :
    answers (live t f s) (fun r => r.pending = s.pending ∧ r.now = max s.now t) := by
  unfold live
  exact run_answers t _ s

theorem awake_answers (t : Nat) (f : State → State) (s : State) :
    answers (awake t f s) (fun r => r.pending = s.pending ∧ r.now = max s.now t) := by
  unfold awake
  exact live_answers t _ s

/-- While the internal reset is held, the arrival is all. -/
theorem live_held {t : Nat} {f : State → State} {s : State} (h : (s.arrive t).boot.phase = BootPhase.held) :
    live t f s = gives t s (s.arrive t) := by
  unfold live
  rw [run_gives]
  simp [h]

theorem live_gives {t : Nat} {f : State → State} {s : State} (h : (s.arrive t).Live) :
    live t f s = gives t s (f (s.arrive t)) := by
  unfold live
  rw [run_gives]
  have : ¬ (s.arrive t).boot.phase = BootPhase.held := h
  simp [this]

theorem awake_gives {t : Nat} {f : State → State} {s : State} (h : (s.arrive t).Awake) :
    awake t f s = gives t s (f (s.arrive t)) := by
  unfold awake
  rw [live_gives h.1]
  have : ¬ (s.arrive t).mode = Mode.park := h.2
  simp [this]

/-- In PARK, the arrival is all of a command of a stopped block. -/
theorem awake_park {t : Nat} {f : State → State} {s : State} (h : (s.arrive t).mode = Mode.park) :
    awake t f s = gives t s (s.arrive t) := by
  unfold awake live
  rw [run_gives]
  split <;> simp [h]

theorem awake_held {t : Nat} {f : State → State} {s : State} (h : (s.arrive t).boot.phase = BootPhase.held) :
    awake t f s = gives t s (s.arrive t) := by
  unfold awake
  exact live_held h

/-- The form in which the completion statements meet a command of a live block. -/
theorem liveAt_gives {t : Nat} {f : State → State} {s a : State} (h : State.LiveAt t s a) : live t f s = gives t s (f a) := by
  obtain ⟨rfl, h⟩ := h
  exact live_gives h

/-- The same of a block that stops in PARK. -/
theorem awakeAt_gives {t : Nat} {f : State → State} {s a : State} (h : State.AwakeAt t s a) :
    awake t f s = gives t s (f a) := by
  obtain ⟨rfl, h⟩ := h
  exact awake_gives h

/-- A command that acts before the fire edges of its own instant has its effect, and those edges follow. -/
theorem awakeFirstAt_gives {t : Nat} {f : State → State} {s a : State} (h : State.AwakeFirstAt t s a) :
    awakeFirst t f s = gives t s ((f a).launchDue t) := by
  obtain ⟨rfl, h⟩ := h
  unfold awakeFirst
  have : ¬ ((s.arriveFirst t).boot.phase = BootPhase.held ∨ (s.arriveFirst t).mode = Mode.park) := by
    rintro (e | e)
    · exact h.1 e
    · exact h.2 e
  simp only [this, if_false]
  rfl

/-- While the internal reset is held, and in PARK, the arrival and the edges of the instant are all. -/
theorem awakeFirst_stops {t : Nat} {f : State → State} {s : State}
    (h : (s.arriveFirst t).boot.phase = BootPhase.held ∨ (s.arriveFirst t).mode = Mode.park) :
    awakeFirst t f s = gives t s ((s.arriveFirst t).launchDue t) := by
  unfold awakeFirst
  simp only [h, if_true]
  rfl

theorem awakeFirst_answers (t : Nat) (f : State → State) (s : State) :
    answers (awakeFirst t f s) (fun r => r.pending = s.pending ∧ r.now = max s.now t) := by
  unfold awakeFirst
  exact ⟨_, rfl, rfl, rfl⟩

/-- With no shot on its way to its edge, arriving first is letting time pass. -/
theorem arriveFirst_idle {t : Nat} {s : State} (h : s.fire.queue = []) : s.arriveFirst t = s.pass t := by
  simp [State.arriveFirst, State.launchDue, h]

/-- An effect that is known equal to `r` is what the command gives. -/
theorem awakeAt_eq {t : Nat} {f : State → State} {s a r : State} (h : State.AwakeAt t s a) (e : f a = r) :
    awake t f s = gives t s r := by
  rw [awakeAt_gives h, e]

theorem liveAt_eq {t : Nat} {f : State → State} {s a r : State} (h : State.LiveAt t s a) (e : f a = r) :
    live t f s = gives t s r := by
  rw [liveAt_gives h, e]

end Sys2Proof.Machine
end

