-- ==== Sys2Proof/Laws/Ops.lean ====
section
/-! SUPPORT. What the shared operations do: counting an event, logging an entry, raising an interrupt, queueing a
recipe. -/

namespace Sys2Proof.Machine.State

/-- Counting leaves every register but TALLY_STATUS alone. -/
theorem word_countN {a : Nat} (h : a ≠ A.TALLY_STATUS) (c : Ctr) (inst n : Nat) (s : State) :
    (s.countN c inst n).word a = s.word a := by
  unfold countN
  dsimp only
  split
  · rfl
  · split
    · rfl
    · exact word_wr_ne h _ _

theorem word_count {a : Nat} (h : a ≠ A.TALLY_STATUS) (c : Ctr) (inst : Nat) (s : State) :
    (s.count c inst).word a = s.word a := word_countN h c inst 1 s

/-- Counting leaves every other counter alone. -/
theorem tally_countN_ne {k : Nat} {c : Ctr} {inst : Nat} (h : k ≠ ctrId c inst) (n : Nat) (s : State) :
    Sparse.get (s.countN c inst n).tally.live 0 k = Sparse.get s.tally.live 0 k := by
  unfold countN
  dsimp only
  split
  · exact Sparse.get_put_ne h _ _ _ _
  · split <;> exact Sparse.get_put_ne h _ _ _ _

/-- A saturating counter field changes no other register. -/
theorem word_bump {f : Fld} {a : Nat} (h : a ≠ f.addr) (s : State) : (s.bump f).word a = s.word a := by
  unfold bump
  split
  · exact word_wr_ne h _ _
  · rfl

/-- A fault-log entry changes CMD_STATUS and CMD_FAULT alone among the registers. -/
theorem word_logEntry {a : Nat} (h : a ≠ A.CMD_STATUS) (h' : a ≠ A.CMD_FAULT) (x c o k q p : Nat) (s : State) :
    (s.logEntry x c o k q p).word a = s.word a := by
  unfold logEntry
  dsimp only
  split
  · exact word_wr_ne h _ _
  · exact word_bump h' _

/-- A recipe that is queued, merged or lost changes those of the command processor and TALLY_STATUS. -/
theorem word_queueRecipe {a : Nat} (h : a ≠ A.CMD_STATUS) (h' : a ≠ A.CMD_FAULT) (h2 : a ≠ A.CMD_RECIPE)
    (h3 : a ≠ A.TALLY_STATUS) (n : Nat) (s : State) : (s.queueRecipe n).word a = s.word a := by
  unfold queueRecipe
  split
  · exact word_count h3 _ _ _
  · split
    · unfold logEvent
      rw [word_logEntry h h', word_count h3]
    · exact word_wr_ne h2 _ _

theorem word_triggerRecipes {a : Nat} (h : a ≠ A.CMD_STATUS) (h' : a ≠ A.CMD_FAULT) (h2 : a ≠ A.CMD_RECIPE)
    (h3 : a ≠ A.TALLY_STATUS) (p : Recipe → Bool) (s : State) : (s.triggerRecipes p).word a = s.word a := by
  unfold triggerRecipes
  generalize s.cmd.recipes = l
  induction l generalizing s with
  | nil => rfl
  | cons r l ih =>
    rw [List.foldl_cons, ih]
    unfold triggerOne
    split
    · exact word_queueRecipe h h' h2 h3 _ _
    · rfl

/-- Raising an interrupt changes, beyond DEV_INT_STATUS, what counting and queueing change. -/
theorem word_raise {a : Nat} (h : a ≠ A.CMD_STATUS) (h' : a ≠ A.CMD_FAULT) (h2 : a ≠ A.CMD_RECIPE)
    (h3 : a ≠ A.TALLY_STATUS) (n : Nat) (s : State) :
    (s.raise n).word a = (s.setIn F.DEV_INT_STATUS_INT n).word a := by
  unfold raise
  rw [word_triggerRecipes h h' h2 h3, word_count h3]

/-- What an emitter keeps beyond its registers is changed for that emitter alone. -/
theorem em_updEm_ne {e k : Nat} (h : k ≠ e) (f : EmSt → EmSt) (s : State) : (s.updEm e f).em k = s.em k := by
  unfold updEm putEm em
  simp only [List.getD_eq_getElem?_getD, List.getElem?_set_ne (Ne.symm h)]

end Sys2Proof.Machine.State
end

