-- ==== Sys2Proof/Laws/PerInstr.lean ====
section
/-! SUPPORT. One lemma per command: a command brings at most one of a whole request, a write of one register and a read
of one register. -/

namespace Sys2Proof.Laws.OnePacketKind

/-- A command is at most one of a whole request, a register write and a register read. -/
def Statement (i : Instr) : Prop :=
  ((Machine.requestOf i).isSome && ((Machine.writeOf i).isSome || (Machine.readOf i).isSome) ||
    (Machine.writeOf i).isSome && (Machine.readOf i).isSome) = false

theorem regRead (t : Nat) (q : Req) : Statement (.regRead t q) := rfl
theorem regWrite (t : Nat) (q : Req) : Statement (.regWrite t q) := rfl
theorem regModify (t : Nat) (q : Req) : Statement (.regModify t q) := rfl
theorem unitRead (t : Nat) (q : Req) : Statement (.unitRead t q) := rfl
theorem unitWrite (t : Nat) (q : Req) : Statement (.unitWrite t q) := rfl
theorem tableRead (t : Nat) (q : Req) : Statement (.tableRead t q) := rfl
theorem tableWrite (t : Nat) (q : Req) : Statement (.tableWrite t q) := rfl
theorem tableSwap (t : Nat) (q : Req) : Statement (.tableSwap t q) := rfl
theorem modeSet (t : Nat) (q : Req) : Statement (.modeSet t q) := rfl
theorem modeGet (t : Nat) (q : Req) : Statement (.modeGet t q) := rfl
theorem reset (t : Nat) (q : Req) : Statement (.reset t q) := rfl
theorem commit (t : Nat) (q : Req) : Statement (.commit t q) := rfl
theorem calRun (t : Nat) (q : Req) : Statement (.calRun t q) := rfl
theorem calStatus (t : Nat) (q : Req) : Statement (.calStatus t q) := rfl
theorem calStarter (t : Nat) (q : Req) : Statement (.calStarter t q) := rfl
theorem nvsImageWrite (t : Nat) (q : Req) : Statement (.nvsImageWrite t q) := rfl
theorem nvsImageActivate (t : Nat) (q : Req) : Statement (.nvsImageActivate t q) := rfl
theorem nvsLifeRead (t : Nat) (q : Req) : Statement (.nvsLifeRead t q) := rfl
theorem nvsCompact (t : Nat) (q : Req) : Statement (.nvsCompact t q) := rfl
theorem tallySnapshot (t : Nat) (q : Req) : Statement (.tallySnapshot t q) := rfl
theorem tallyRead (t : Nat) (q : Req) : Statement (.tallyRead t q) := rfl
theorem tallyDump (t : Nat) (q : Req) : Statement (.tallyDump t q) := rfl
theorem cordStatus (t : Nat) (q : Req) : Statement (.cordStatus t q) := rfl
theorem cordReset (t : Nat) (q : Req) : Statement (.cordReset t q) := rfl
theorem recipeStore (t : Nat) (q : Req) : Statement (.recipeStore t q) := rfl
theorem recipeRead (t : Nat) (q : Req) : Statement (.recipeRead t q) := rfl
theorem recipeEnable (t : Nat) (q : Req) : Statement (.recipeEnable t q) := rfl
theorem recipeDelete (t : Nat) (q : Req) : Statement (.recipeDelete t q) := rfl
theorem recipeRun (t : Nat) (q : Req) : Statement (.recipeRun t q) := rfl
theorem selftestReport (t : Nat) (q : Req) : Statement (.selftestReport t q) := rfl
theorem faultLogRead (t : Nat) (q : Req) : Statement (.faultLogRead t q) := rfl
theorem faultLogClear (t : Nat) (q : Req) : Statement (.faultLogClear t q) := rfl
theorem ident (t : Nat) (q : Req) : Statement (.ident t q) := rfl
theorem timeGet (t : Nat) (q : Req) : Statement (.timeGet t q) := rfl
theorem timeOfDay (t : Nat) (q : Req) : Statement (.timeOfDay t q) := rfl
theorem acquire (t : Nat) : Statement (.acquire t) := rfl
theorem acquireTimeout (t : Nat) : Statement (.acquireTimeout t) := rfl
theorem release (t : Nat) : Statement (.release t) := rfl
theorem wait (t : Nat) : Statement (.wait t) := rfl
theorem waitExpire (t : Nat) : Statement (.waitExpire t) := rfl
theorem recipeStart (t : Nat) : Statement (.recipeStart t) := rfl
theorem recipeStep (t : Nat) : Statement (.recipeStep t) := rfl
theorem hspiRead (t : Nat) (x : SpiTurn) : Statement (.hspiRead t x) := rfl
theorem uartFrameError (t : Nat) : Statement (.uartFrameError t) := rfl
theorem uartGapTimeout (t : Nat) : Statement (.uartGapTimeout t) := rfl
theorem refLost (t : Nat) : Statement (.refLost t) := rfl
theorem refFreqWindow (t : Nat) (hz : Nat) : Statement (.refFreqWindow t hz) := rfl
theorem refWarmChange (t : Nat) (level : Bool) : Statement (.refWarmChange t level) := rfl
theorem pllLock (t : Nat) : Statement (.pllLock t) := rfl
theorem refReturn (t : Nat) : Statement (.refReturn t) := rfl
theorem xtalFault (t : Nat) : Statement (.xtalFault t) := rfl
theorem xtalReturn (t : Nat) : Statement (.xtalReturn t) := rfl
theorem timeStepGo (t : Nat) (x : RegReq) : Statement (.timeStepGo t x) := rfl
theorem timeStepApply (t : Nat) : Statement (.timeStepApply t) := rfl
theorem timeNowLatch (t : Nat) (x : RegReq) : Statement (.timeNowLatch t x) := rfl
theorem syncSrcChange (t : Nat) (x : RegReq) : Statement (.syncSrcChange t x) := rfl
theorem ptpSync (t : Nat) (l : Fin 8) (m : PtpMsg) : Statement (.ptpSync t l m) := rfl
theorem ptpFollowUp (t : Nat) (l : Fin 8) (m : PtpMsg) : Statement (.ptpFollowUp t l m) := rfl
theorem ptpDelayResp (t : Nat) (l : Fin 8) (m : PtpMsg) : Statement (.ptpDelayResp t l m) := rfl
theorem ptpPdelayReq (t : Nat) (l : Fin 8) (m : PtpMsg) : Statement (.ptpPdelayReq t l m) := rfl
theorem ptpPdelayResp (t : Nat) (l : Fin 8) (m : PtpMsg) : Statement (.ptpPdelayResp t l m) := rfl
theorem ptpAnnounce (t : Nat) (l : Fin 8) (m : PtpMsg) : Statement (.ptpAnnounce t l m) := rfl
theorem announceTimeout (t : Nat) : Statement (.announceTimeout t) := rfl
theorem syncHoldExpire (t : Nat) : Statement (.syncHoldExpire t) := rfl
theorem ppsEdge (t : Nat) (rising : Bool) (eighth : Nat) : Statement (.ppsEdge t rising eighth) := rfl
theorem ppsMissing (t : Nat) : Statement (.ppsMissing t) := rfl
theorem xtalBinMeasure (t : Nat) (ppb : Int) : Statement (.xtalBinMeasure t ppb) := rfl
theorem xtalBinJournal (t : Nat) : Statement (.xtalBinJournal t) := rfl
theorem refTuneStep (t : Nat) : Statement (.refTuneStep t) := rfl
theorem tdcEdge (t : Nat) (f : Fin 264) (n : Fin 8) (c : Nat) (fine : Fin 128) (sat : Bool) : Statement (.tdcEdge t f n c fine sat) := rfl
theorem tdcModeWrite (t : Nat) (x : RegReq) : Statement (.tdcModeWrite t x) := rfl
theorem dllLock (t : Nat) (f : Fin 264) : Statement (.dllLock t f) := rfl
theorem statStart (t : Nat) (h : Half) (x : RegReq) : Statement (.statStart t h x) := rfl
theorem statAbort (t : Nat) (h : Half) (x : RegReq) : Statement (.statAbort t h x) := rfl
theorem statTimeout (t : Nat) (h : Half) : Statement (.statTimeout t h) := rfl
theorem tdcLastLatch (t : Nat) (f : Fin 264) (x : RegReq) : Statement (.tdcLastLatch t f x) := rfl
theorem windowClose (t : Nat) (x : WindowEnd) : Statement (.windowClose t x) := rfl
theorem injWindowClose (t : Nat) (x : InjWindowEnd) : Statement (.injWindowClose t x) := rfl
theorem rxFeCfgWrite (t : Nat) (f : Fin 264) (x : RegReq) : Statement (.rxFeCfgWrite t f x) := rfl
theorem rxThresholdWrite (t : Nat) (f : Fin 264) (x : RegReq) (b : Nat) : Statement (.rxThresholdWrite t f x b) := rfl
theorem gainStall (t : Nat) (f : Fin 264) : Statement (.gainStall t f) := rfl
theorem dcUpdate (t : Nat) (f : Fin 264) (est : Nat) : Statement (.dcUpdate t f est) := rfl
theorem backgroundEvent (t : Nat) (f : Fin 264) : Statement (.backgroundEvent t f) := rfl
theorem adaptPeriod (t : Nat) (f : Fin 264) : Statement (.adaptPeriod t f) := rfl
theorem biasRampStep (t : Nat) (g : Fin 8) : Statement (.biasRampStep t g) := rfl
theorem xbarSubst (t : Nat) (g : Fin 8) (x : RegReq) : Statement (.xbarSubst t g x) := rfl
theorem xbarSwitchTimeout (t : Nat) (g : Fin 8) : Statement (.xbarSwitchTimeout t g) := rfl
theorem injGo (t : Nat) (g : Fin 8) (x : RegReq) : Statement (.injGo t g x) := rfl
theorem injStop (t : Nat) (g : Fin 8) (x : RegReq) : Statement (.injStop t g x) := rfl
theorem injPulse (t : Nat) (g : Fin 8) : Statement (.injPulse t g) := rfl
theorem laserPermitLow (t : Nat) : Statement (.laserPermitLow t) := rfl
theorem laserPermitHigh (t : Nat) : Statement (.laserPermitHigh t) := rfl
theorem permitHoldExpire (t : Nat) : Statement (.permitHoldExpire t) := rfl
theorem frameBoundary (t : Nat) : Statement (.frameBoundary t) := rfl
theorem restoreHoldExpire (t : Nat) : Statement (.restoreHoldExpire t) := rfl
theorem slotExecute (t : Nat) (late : Bool) (pre : Bool) : Statement (.slotExecute t late pre) := rfl
theorem csEvaluate (t : Nat) (e : Fin 64) (peak : Nat) (rise : Nat) : Statement (.csEvaluate t e peak rise) := rfl
theorem eyeWindowEnd (t : Nat) : Statement (.eyeWindowEnd t) := rfl
theorem diagIntervalEnd (t : Nat) : Statement (.diagIntervalEnd t) := rfl
theorem kerfStart (t : Nat) : Statement (.kerfStart t) := rfl
theorem kerfEnd (t : Nat) : Statement (.kerfEnd t) := rfl
theorem proofShot (t : Nat) (pre : Bool) : Statement (.proofShot t pre) := rfl
theorem schedSwap (t : Nat) (x : RegReq) : Statement (.schedSwap t x) := rfl
theorem emitterClear (t : Nat) (e : Fin 64) (x : RegReq) : Statement (.emitterClear t e x) := rfl
theorem sweep (t : Nat) (x : RegReq) : Statement (.sweep t x) := rfl
theorem peakListDone (t : Nat) (ch : Fin 256) : Statement (.peakListDone t ch) := rfl
theorem extTrigEdge (t : Nat) (level : Bool) : Statement (.extTrigEdge t level) := rfl
theorem trigTimeout (t : Nat) : Statement (.trigTimeout t) := rfl
theorem spyLatch (t : Nat) (x : RegReq) : Statement (.spyLatch t x) := rfl
theorem staveShotUnit (t : Nat) (e : Fin 64) : Statement (.staveShotUnit t e) := rfl
theorem pickoffOutput (t : Nat) (samples : List (Int × Bool)) : Statement (.pickoffOutput t samples) := rfl
theorem demodPeriodBoundary (t : Nat) (peak : Nat) : Statement (.demodPeriodBoundary t peak) := rfl
theorem clipResetRequest (t : Nat) : Statement (.clipResetRequest t) := rfl
theorem caResetTimer (t : Nat) : Statement (.caResetTimer t) := rfl
theorem resetNow (t : Nat) (x : RegReq) : Statement (.resetNow t x) := rfl
theorem angleRun (t : Nat) (x : RegReq) : Statement (.angleRun t x) := rfl
theorem excWrite (t : Nat) (x : RegReq) : Statement (.excWrite t x) := rfl
theorem elecFault (t : Nat) (pin : Fin 2) : Statement (.elecFault t pin) := rfl
theorem elecRecover (t : Nat) (pin : Fin 2) : Statement (.elecRecover t pin) := rfl
theorem servoPeriodStart (t : Nat) (ax : Axis) : Statement (.servoPeriodStart t ax) := rfl
theorem outputInstant (t : Nat) (ax : Axis) (finished : Bool) : Statement (.outputInstant t ax finished) := rfl
theorem servoParkCmd (t : Nat) (ax : Axis) (x : RegReq) : Statement (.servoParkCmd t ax x) := rfl
theorem unpark (t : Nat) (ax : Axis) (x : RegReq) : Statement (.unpark t ax x) := rfl
theorem servoSwap (t : Nat) (ax : Axis) (x : RegReq) : Statement (.servoSwap t ax x) := rfl
theorem servoEnWrite (t : Nat) (ax : Axis) (x : RegReq) : Statement (.servoEnWrite t ax x) := rfl
theorem parkSlewStep (t : Nat) : Statement (.parkSlewStep t) := rfl
theorem acqTimeout (t : Nat) (ax : Axis) : Statement (.acqTimeout t ax) := rfl
theorem rasterStart (t : Nat) : Statement (.rasterStart t) := rfl
theorem encEdge (t : Nat) (a : Bool) (b : Bool) : Statement (.encEdge t a b) := rfl
theorem encIndex (t : Nat) : Statement (.encIndex t) := rfl
theorem pwmUpdate (t : Nat) : Statement (.pwmUpdate t) := rfl
theorem vbusStale (t : Nat) : Statement (.vbusStale t) := rfl
theorem gateFault (t : Nat) (level : Bool) : Statement (.gateFault t level) := rfl
theorem alignDone (t : Nat) : Statement (.alignDone t) := rfl
theorem poseLoad (t : Nat) (x : RegReq) : Statement (.poseLoad t x) := rfl
theorem poseMatrixDone (t : Nat) : Statement (.poseMatrixDone t) := rfl
theorem envApply (t : Nat) (x : RegReq) : Statement (.envApply t x) := rfl
theorem kappaWrite (t : Nat) (x : RegReq) : Statement (.kappaWrite t x) := rfl
theorem sectorClose (t : Nat) : Statement (.sectorClose t) := rfl
theorem envelopeReport (t : Nat) : Statement (.envelopeReport t) := rfl
theorem csiFrameStart (t : Nat) (p : Fin 2) (fn : Nat) (vc : Fin 4) : Statement (.csiFrameStart t p fn vc) := rfl
theorem csiLine (t : Nat) (p : Fin 2) (vc : Fin 4) (dt : Nat) (pixels : List Nat) (crcOk : Bool) (used : Nat) : Statement (.csiLine t p vc dt pixels crcOk used) := rfl
theorem csiFrameEnd (t : Nat) (p : Fin 2) (vc : Fin 4) : Statement (.csiFrameEnd t p vc) := rfl
theorem csiShortPacketIgnored (t : Nat) (p : Fin 2) : Statement (.csiShortPacketIgnored t p) := rfl
theorem sotError (t : Nat) (p : Fin 2) : Statement (.sotError t p) := rfl
theorem feTimeout (t : Nat) (p : Fin 2) : Statement (.feTimeout t p) := rfl
theorem pipelineTurn (t : Nat) : Statement (.pipelineTurn t) := rfl
theorem camPortEnable (t : Nat) (p : Fin 2) (x : RegReq) : Statement (.camPortEnable t p x) := rfl
theorem cciGo (t : Nat) (p : Fin 2) (x : RegReq) : Statement (.cciGo t p x) := rfl
theorem cciWriteDone (t : Nat) (p : Fin 2) (ack : Bool) : Statement (.cciWriteDone t p ack) := rfl
theorem linkChange (t : Nat) (l : Fin 10) (pcs : Bool) (anDone : Bool) (half : Bool) (speed : Nat) : Statement (.linkChange t l pcs anDone half speed) := rfl
theorem eqLock (t : Nat) (l : Fin 8) : Statement (.eqLock t l) := rfl
theorem pauseFrameRx (t : Nat) (l : Fin 8) (bytes : Nat) : Statement (.pauseFrameRx t l bytes) := rfl
theorem arpRequest (t : Nat) (l : Fin 8) (target : Nat) (mac : Nat) (ip : Nat) : Statement (.arpRequest t l target mac ip) := rfl
theorem neighborSolicitation (t : Nat) (l : Fin 8) (target : Nat) (mac : Nat) (ip : Nat) : Statement (.neighborSolicitation t l target mac ip) := rfl
theorem icmpEchoRequest (t : Nat) (l : Fin 8) (v6 : Bool) (dst : Nat) (mac : Nat) (ip : Nat) (bytes : Nat) : Statement (.icmpEchoRequest t l v6 dst mac ip bytes) := rfl
theorem rxDiscard (t : Nat) (l : Fin 8) (bytes : Nat) : Statement (.rxDiscard t l bytes) := rfl
theorem flushTimeout (t : Nat) (n : Fin 16) : Statement (.flushTimeout t n) := rfl
theorem echoFrameRelease (t : Nat) (n : Fin 16) (k : Nat) : Statement (.echoFrameRelease t n k) := rfl
theorem grant (t : Nat) (p : Fin 8) : Statement (.grant t p) := rfl
theorem frameTxEnd (t : Nat) (p : Fin 9) : Statement (.frameTxEnd t p) := rfl
theorem egressWdtBite (t : Nat) (p : Fin 8) : Statement (.egressWdtBite t p) := rfl
theorem starve (t : Nat) (p : Fin 8) (req : Fin 6) : Statement (.starve t p req) := rfl
theorem portFreeze (t : Nat) (p : Fin 8) (x : RegReq) : Statement (.portFreeze t p x) := rfl
theorem regionWrite (t : Nat) (n : Fin 16) (x : RegReq) : Statement (.regionWrite t n x) := rfl
theorem relayDatagram (t : Nat) (words : List Nat) (octets : List Nat) : Statement (.relayDatagram t words octets) := rfl
theorem cordRelayTimeout (t : Nat) (p : Fin 8) : Statement (.cordRelayTimeout t p) := rfl
theorem rollCall (t : Nat) : Statement (.rollCall t) := rfl
theorem rollCallRx (t : Nat) (ms : List Nat) : Statement (.rollCallRx t ms) := rfl
theorem rollCallReturn (t : Nat) (x : RollReturn) (seeds : List Nat) : Statement (.rollCallReturn t x seeds) := rfl
theorem cordRequest (t : Nat) (op : Nat) (q : Req) : Statement (.cordRequest t op q) := rfl
theorem cordTimeout (t : Nat) : Statement (.cordTimeout t) := rfl
theorem cordCheck (t : Nat) (op : Nat) (q : Req) : Statement (.cordCheck t op q) := rfl
theorem cordApply (t : Nat) : Statement (.cordApply t) := rfl
theorem cordAbort (t : Nat) : Statement (.cordAbort t) := rfl
theorem cordApplyTimeout (t : Nat) : Statement (.cordApplyTimeout t) := rfl
theorem syncMarkerSend (t : Nat) : Statement (.syncMarkerSend t) := rfl
theorem syncMarker (t : Nat) (width : Nat) : Statement (.syncMarker t width) := rfl
theorem syncMiss (t : Nat) : Statement (.syncMiss t) := rfl
theorem cordResetMarker (t : Nat) : Statement (.cordResetMarker t) := rfl
theorem epochAnnounce (t : Nat) (epoch : Nat) (event : Nat) : Statement (.epochAnnounce t epoch event) := rfl
theorem cordHeartbeatSend (t : Nat) : Statement (.cordHeartbeatSend t) := rfl
theorem cordHeartbeat (t : Nat) (mac : Nat) (member : Nat) (epoch : Nat) : Statement (.cordHeartbeat t mac member epoch) := rfl
theorem cordHeartbeatTimeout (t : Nat) : Statement (.cordHeartbeatTimeout t) := rfl
theorem halfHeartbeatSend (t : Nat) (h : Half) : Statement (.halfHeartbeatSend t h) := rfl
theorem halfHeartbeat (t : Nat) (h : Half) (claim : Fin 2) : Statement (.halfHeartbeat t h claim) := rfl
theorem halfHeartbeatTimeout (t : Nat) (h : Half) : Statement (.halfHeartbeatTimeout t h) := rfl
theorem hkRoundStart (t : Nat) : Statement (.hkRoundStart t) := rfl
theorem hkSettleDone (t : Nat) : Statement (.hkSettleDone t) := rfl
theorem hkConversionDone (t : Nat) (code : Nat) : Statement (.hkConversionDone t code) := rfl
theorem hkInjectGo (t : Nat) (x : RegReq) : Statement (.hkInjectGo t x) := rfl
theorem thermWindow (t : Nat) : Statement (.thermWindow t) := rfl
theorem thermalTrip (t : Nat) : Statement (.thermalTrip t) := rfl
theorem tripRelease (t : Nat) : Statement (.tripRelease t) := rfl
theorem sensorReadmit (t : Nat) (x : RegReq) : Statement (.sensorReadmit t x) := rfl
theorem calRunStart (t : Nat) (g : Fin 8) : Statement (.calRunStart t g) := rfl
theorem calTdcStepDone (t : Nat) (g : Fin 8) (res : CdResult) : Statement (.calTdcStepDone t g res) := rfl
theorem calInjStepDone (t : Nat) (g : Fin 8) (f : Fin 264) : Statement (.calInjStepDone t g f) := rfl
theorem calTimingStepDone (t : Nat) (g : Fin 8) (f : Fin 264) : Statement (.calTimingStepDone t g f) := rfl
theorem pkoRunDone (t : Nat) (second : Bool) : Statement (.pkoRunDone t second) := rfl
theorem journalWriteDone (t : Nat) (ok : Bool) : Statement (.journalWriteDone t ok) := rfl
theorem compactionFlip (t : Nat) : Statement (.compactionFlip t) := rfl
theorem lifeFlush (t : Nat) : Statement (.lifeFlush t) := rfl
theorem lifeSecond (t : Nat) : Statement (.lifeSecond t) := rfl
theorem serviceMark (t : Nat) (x : RegReq) : Statement (.serviceMark t x) := rfl
theorem trialTimeout (t : Nat) : Statement (.trialTimeout t) := rfl
theorem tallySnap (t : Nat) (x : RegReq) : Statement (.tallySnap t x) := rfl
theorem dumpNow (t : Nat) (x : RegReq) : Statement (.dumpNow t x) := rfl
theorem dumpPeriod (t : Nat) : Statement (.dumpPeriod t) := rfl
theorem dumpDone (t : Nat) : Statement (.dumpDone t) := rfl
theorem bwWindow (t : Nat) : Statement (.bwWindow t) := rfl
theorem sampleTick (t : Nat) : Statement (.sampleTick t) := rfl
theorem avsLoopPeriod (t : Nat) (measured : Nat) : Statement (.avsLoopPeriod t measured) := rfl
theorem pmbusCommandDone (t : Nat) (ack : Bool) : Statement (.pmbusCommandDone t ack) := rfl
theorem pmbusStatusPoll (t : Nat) (status : Nat) : Statement (.pmbusStatusPoll t status) := rfl
theorem pmbAlert (t : Nat) (status : Nat) : Statement (.pmbAlert t status) := rfl
theorem pmbAlertTimeout (t : Nat) : Statement (.pmbAlertTimeout t) := rfl
theorem supplyOutOfRange (t : Nat) : Statement (.supplyOutOfRange t) := rfl
theorem resetNFall (t : Nat) (resets : Bool) : Statement (.resetNFall t resets) := rfl
theorem resetRelease (t : Nat) (role : Bool) (id : Fin 8) (bad0 : Bool) (bad1 : Bool) : Statement (.resetRelease t role id bad0 bad1) := rfl
theorem selftestDone (t : Nat) (fails : List (Nat × Nat)) : Statement (.selftestDone t fails) := rfl
theorem modeTransitionDone (t : Nat) : Statement (.modeTransitionDone t) := rfl
theorem commandReset (t : Nat) : Statement (.commandReset t) := rfl
theorem watchdogBite (t : Nat) (h : Half) : Statement (.watchdogBite t h) := rfl
theorem wdtKick (t : Nat) (h : Half) : Statement (.wdtKick t h) := rfl
theorem wake (t : Nat) (how : Wake) : Statement (.wake t how) := rfl
theorem wakeComplete (t : Nat) : Statement (.wakeComplete t) := rfl
theorem malformedPacket (t : Nat) (src : Source) (bytes : List Nat) : Statement (.malformedPacket t src bytes) := rfl
theorem cordMemberAnswer (t : Nat) (member : Nat) (status : Nat) (payload : List Nat) (address : Nat) : Statement (.cordMemberAnswer t member status payload address) := rfl
theorem resetNRise (t : Nat) (role : Bool) (id : Fin 8) : Statement (.resetNRise t role id) := rfl
theorem csiHdrEccError (t : Nat) (p : Fin 2) : Statement (.csiHdrEccError t p) := rfl

end Sys2Proof.Laws.OnePacketKind
end

