-- ==== Sys2Proof/Laws/Requests.lean ====
section
/-! SUPPORT. What a request's command answers: the rows of Table 13-5 share one meaning, and an accepted request is
concluded with its opcode's own result. -/

namespace Sys2Proof.Machine

open State

/-- Every row of Table 13-5 receives its packet in the same way. -/
theorem exec_request {i : Instr} {sp : OpSpec} {q : Req} (h : requestOf i = some (sp, q)) (s : State) :
    exec i s = run i.time (fun s => s.request sp q) s := by
  cases i <;> simp only [requestOf, Option.some.injEq, Prod.mk.injEq, reduceCtorEq] at h <;>
    (obtain ⟨rfl, rfl⟩ := h; rfl)

/-- An accepted request is executed and concluded. -/
theorem request_runs {t : Nat} {s b : State} {sp : OpSpec} {q : Req} (h : State.Runs t s sp q b) :
    run t (fun s => s.request sp q) s = gives t s (b.concluded sp q (sp.core (asLocal q b) b)) := by
  obtain ⟨ha, rfl⟩ := h
  rw [run_gives]
  congr 1
  unfold accepts at ha
  simp only [Bool.and_eq_true, beq_iff_eq, Bool.or_eq_true, Option.isNone_iff_eq_none, Bool.not_eq_true'] at ha
  obtain ⟨⟨⟨⟨⟨⟨⟨⟨⟨h1, ha⟩, hb⟩, h2⟩, h3⟩, h4⟩, h5⟩, h6⟩, h7⟩, h8⟩ := ha
  unfold request receiveWith
  have e2 : ¬ q.flags % 2 = 1 := by omega
  have e4 : ¬ (q.version ≠ 1 ∧ q.version ≠ 2) := by omega
  have e5 : ¬ (q.flags / 4 ≠ 0 ∨ q.status ≠ 0) := by omega
  simp only [h1, ha, hb, Bool.not_true, Bool.false_eq_true, if_false]
  unfold accept
  simp only [e2, h3, e4, e5, if_false]
  unfold carryOut concluded
  simp only [h7]
  unfold runHere
  simp only [h8]
  rfl

/-- The same with the opcode's result given. -/
theorem request_gives {t : Nat} {s b : State} {sp : OpSpec} {q : Req} {r : OpResult} (h : State.Runs t s sp q b)
    (e : sp.core (asLocal q b) b = r) : run t (fun s => s.request sp q) s = gives t s (b.concluded sp q r) :=
  e ▸ request_runs h

@[simp] theorem asLocal_arg (q : Req) (b : State) (i : Nat) : (asLocal q b).arg i = q.arg i := by
  unfold asLocal
  split <;> rfl

@[simp] theorem asLocal_payload (q : Req) (b : State) : (asLocal q b).payload = q.payload := by
  unfold asLocal
  split <;> rfl

@[simp] theorem asLocal_version (q : Req) (b : State) : (asLocal q b).version = q.version := by
  unfold asLocal
  split <;> rfl

/-- A request of version 0x02 keeps its path. -/
theorem asLocal_two {q : Req} (h : q.version = 2) (b : State) : asLocal q b = q := by
  unfold asLocal
  simp [h]

end Sys2Proof.Machine
end

