-- ==== Sys2Proof/Tests/Base.lean ====
section
/-! SUPPORT. What the tests share: small states to start from, and when a command is heard in them. -/

namespace Sys2Proof.Tests

open Machine Machine.State

/-- Started up, in a mode. -/
def upIn (mode : Nat) : State :=
  State.wr F.DEV_MODE_MODE mode { State.reset with boot := { State.reset.boot with phase := .up } }

/-- Started up, in STANDBY. -/
def up : State := upIn Mode.standby

/-- What `State.Awake` asks of a state. -/
def awakeB (s : State) : Bool := !decide (s.boot.phase = BootPhase.held) && !decide (s.mode = Mode.park)

/-- What `State.Live` asks of a state. -/
def liveB (s : State) : Bool := !decide (s.boot.phase = BootPhase.held)

/-- At coarse count 0 time has not passed, and with no shot on its way nothing is launched. -/
theorem arrive_zero {s : State} (h : s.fire.queue = []) : s = s.arrive 0 := by
  rw [arrive_idle h]
  exact (if_neg (Nat.not_lt_zero _)).symm

theorem liveAt_zero {s : State} (h : liveB s = true) (q : s.fire.queue = [] := by rfl) : State.LiveAt 0 s s :=
  ⟨arrive_zero q, by simpa [liveB, State.Live] using h⟩

theorem awakeAt_zero {s : State} (h : awakeB s = true) (q : s.fire.queue = [] := by rfl) : State.AwakeAt 0 s s := by
  refine ⟨arrive_zero q, ?_⟩
  simpa [awakeB, State.Awake, State.Live] using h

/-- The same of a command that acts before the fire edges of its own instant. -/
theorem awakeFirstAt_zero {s : State} (h : awakeB s = true) : State.AwakeFirstAt 0 s s := by
  refine ⟨by simp [State.arriveFirst, State.pass], ?_⟩
  simpa [awakeB, State.Awake, State.Live] using h

/-- All of a list of facts. -/
def meets (l : List Bool) : Bool := l.all id

/-- A request of version 0x02 from the UART to the device path of member 0. -/
def ask (payload : List Nat) : Req := ⟨.uart, 2, 0, 0, 1, 0x07FFF000, payload⟩

/-- The same to a path. -/
def askAt (path : Nat) (payload : List Nat) : Req := ⟨.uart, 2, 0, 0, 1, path, payload⟩

/-- A state's request is accepted by it. -/
theorem runs_zero {s : State} {sp : OpSpec} {q : Req} (h : s.accepts sp q = true) (e : s.fire.queue = [] := by rfl) :
    State.Runs 0 s sp q (s.countPacket q).commandBegins := by
  unfold State.Runs
  rw [← arrive_zero e]
  exact ⟨h, rfl⟩

end Sys2Proof.Tests
end

