-- ==== Sys2Proof/Tests/Slice0.lean ====
section
/-! SUPPORT. Small tests: for every check of `WellFormed` a command that the check refuses, and behaviour whose
expected values stand in the worked examples of the spec. -/

namespace Sys2Proof.Tests

/- One proof at a time: the kernel evaluates each of them, and each would hold a thread while it waits for the others. -/
set_option Elab.async false

open Machine Machine.State

/-! ### Ill-formed commands -/

/-- A UART packet to the device path. -/
def word1 (w : Nat) : RegReq := ⟨.uart, 1, 0x07FFF000, w⟩

/-- A host that asks DOLEY_PORT of a lane at address 0. -/
def far : Endpoint := ⟨0xC0A80001, 5000, 0x020000000001, false, 0xC0A80002, 40960, none⟩

def sync : PtpMsg where
  domain := 0
  transport := 0
  sender := 1
  seq := 0
  twoStep := false
  origin := 0
  turnaround := 0
  correction := 0
  asked := 0
  data := ⟨128, 6, 0xFE, 0xFFFF, 128, 1, 0⟩
  bytes := 90

theorem test_wellformed_examples : meets [
    (Instr.ident 0 (ask [])).wellFormed, (Instr.ident 0 { ask [] with src := .lane 0 far }).wellFormed,
    (Instr.dumpNow 0 (word1 0)).wellFormed] = true := by decide

theorem test_refuses_request : meets [
    !(Instr.ident 0 { ask [] with version := 256 }).wellFormed, !(Instr.ident 0 { ask [] with flags := 256 }).wellFormed,
    !(Instr.ident 0 { ask [] with status := 2 ^ 16 }).wellFormed, !(Instr.ident 0 { ask [] with seq := 2 ^ 32 }).wellFormed,
    !(Instr.ident 0 (askAt (2 ^ 32) [])).wellFormed, !(Instr.regRead 0 (ask [2 ^ 32, 1])).wellFormed] = true := by decide

theorem test_refuses_endpoint : meets [
    !(Instr.ident 0 { ask [] with src := .lane 0 { far with ip := 2 ^ 32 } }).wellFormed,
    (Instr.ident 0 { ask [] with src := .lane 0 { far with ip := 2 ^ 32, ipv6 := true } }).wellFormed,
    !(Instr.ident 0 { ask [] with src := .lane 0 { far with port := 2 ^ 16 } }).wellFormed,
    !(Instr.ident 0 { ask [] with src := .lane 0 { far with dst := 2 ^ 32 } }).wellFormed,
    !(Instr.ident 0 { ask [] with src := .lane 0 { far with dport := 2 ^ 16 } }).wellFormed,
    !(Instr.ident 0 { ask [] with src := .lane 0 { far with mac := 2 ^ 48 } }).wellFormed,
    !(Instr.ident 0 { ask [] with src := .lane 0 { far with tag := some (8, 0) } }).wellFormed,
    !(Instr.ident 0 { ask [] with src := .lane 0 { far with tag := some (0, 4096) } }).wellFormed] = true := by decide

theorem test_refuses_register_packet : meets [
    !(Instr.dumpNow 0 (word1 (2 ^ 32))).wellFormed, !(Instr.dumpNow 0 { word1 0 with seq := 2 ^ 32 }).wellFormed,
    !(Instr.dumpNow 0 { word1 0 with path := 2 ^ 32 }).wellFormed,
    !(Instr.rxThresholdWrite 0 0 (word1 0) (2 ^ 32)).wellFormed] = true := by decide

theorem test_refuses_packet_bytes : meets [
    !(Instr.malformedPacket 0 .spi [256]).wellFormed, (Instr.malformedPacket 0 .spi [255]).wellFormed,
    !(Instr.relayDatagram 0 [2 ^ 64] []).wellFormed, !(Instr.relayDatagram 0 [] [256]).wellFormed] = true := by decide

theorem test_refuses_ptp : meets [
    (Instr.ptpSync 0 0 sync).wellFormed, !(Instr.ptpSync 0 0 { sync with domain := 256 }).wellFormed,
    !(Instr.ptpSync 0 0 { sync with transport := 3 }).wellFormed, !(Instr.ptpSync 0 0 { sync with sender := 2 ^ 80 }).wellFormed,
    !(Instr.ptpSync 0 0 { sync with seq := 2 ^ 16 }).wellFormed, !(Instr.ptpSync 0 0 { sync with origin := 2 ^ 96 }).wellFormed,
    !(Instr.ptpPdelayResp 0 0 { sync with turnaround := 2 ^ 96 }).wellFormed,
    !(Instr.ptpDelayResp 0 0 { sync with correction := 2 ^ 63 }).wellFormed,
    !(Instr.ptpAnnounce 0 0 { sync with data := { sync.data with priority1 := 256 } }).wellFormed,
    !(Instr.ptpAnnounce 0 0 { sync with data := { sync.data with identity := 2 ^ 64 } }).wellFormed,
    !(Instr.ptpDelayResp 0 0 { sync with asked := 2 ^ 80 }).wellFormed] = true := by decide

theorem test_refuses_clock_operands : meets [
    !(Instr.refFreqWindow 0 10000001).wellFormed, (Instr.refFreqWindow 0 10010000).wellFormed,
    !(Instr.hspiRead 0 ⟨256, 0⟩).wellFormed, (Instr.hspiRead 0 ⟨0x5A, 0⟩).wellFormed,
    !(Instr.ppsEdge 0 true 8).wellFormed, (Instr.ppsEdge 0 true 7).wellFormed] = true := by decide

theorem test_refuses_receiver_operands : meets [
    !(Instr.dcUpdate 0 0 (2 ^ 16)).wellFormed, !(Instr.csEvaluate 0 0 (2 ^ 16) 0).wellFormed,
    !(Instr.csEvaluate 0 0 0 (2 ^ 16)).wellFormed] = true := by decide

theorem test_refuses_pickoff_operands : meets [
    (Instr.pickoffOutput 0 [(8191, -8192)]).wellFormed, !(Instr.pickoffOutput 0 [(8192, 0)]).wellFormed,
    (Instr.demodPeriodBoundary 0 8192).wellFormed, !(Instr.demodPeriodBoundary 0 8193).wellFormed] = true := by decide

theorem test_refuses_camera_operands : meets [
    !(Instr.csiFrameStart 0 0 (2 ^ 16) 0).wellFormed, !(Instr.csiLine 0 0 0 64 [] true 0).wellFormed,
    !(Instr.csiLine 0 0 0 0x2C [4096] true 0).wellFormed] = true := by decide

theorem test_refuses_lane_operands : meets [
    !(Instr.linkChange 0 0 true true false 4).wellFormed, !(Instr.arpRequest 0 0 (2 ^ 32) 0 0).wellFormed,
    !(Instr.arpRequest 0 0 0 (2 ^ 48) 0).wellFormed, !(Instr.arpRequest 0 0 0 0 (2 ^ 32)).wellFormed,
    !(Instr.neighborSolicitation 0 0 (2 ^ 128) 0 0).wellFormed, !(Instr.icmpEchoRequest 0 0 true (2 ^ 128) 0 0 84).wellFormed,
    !(Instr.icmpEchoRequest 0 0 true 0 (2 ^ 48) 0 84).wellFormed, !(Instr.echoFrameRelease 0 0 (2 ^ 32)).wellFormed] = true := by
  decide

theorem test_refuses_cord_operands : meets [
    !(Instr.rollCallRx 0 [8]).wellFormed, !(Instr.rollCallReturn 0 ⟨0, [(8, 0, false)]⟩ []).wellFormed,
    !(Instr.rollCallReturn 0 ⟨0, [(0, 256, false)]⟩ []).wellFormed, !(Instr.rollCallReturn 0 ⟨0, []⟩ [2 ^ 32]).wellFormed,
    !(Instr.rollCallReturn 0 ⟨256, []⟩ []).wellFormed,
    !(Instr.cordRequest 0 (2 ^ 16) (ask [])).wellFormed, !(Instr.cordCheck 0 (2 ^ 16) (ask [])).wellFormed,
    !(Instr.epochAnnounce 0 (2 ^ 32) 0).wellFormed, !(Instr.epochAnnounce 0 0 16).wellFormed,
    !(Instr.cordHeartbeat 0 (2 ^ 48) 0 0).wellFormed, !(Instr.cordHeartbeat 0 0 8 0).wellFormed,
    !(Instr.cordHeartbeat 0 0 0 (2 ^ 32)).wellFormed] = true := by decide

theorem test_refuses_cord_answers : meets [
    !(Instr.cordMemberAnswer 0 8 0 [] 0).wellFormed, !(Instr.cordMemberAnswer 0 0 (2 ^ 16) [] 0).wellFormed,
    !(Instr.cordMemberAnswer 0 0 0 [2 ^ 32] 0).wellFormed, !(Instr.cordMemberAnswer 0 0 0 [] (2 ^ 32)).wellFormed] = true := by
  decide

theorem test_refuses_measurements : meets [
    !(Instr.hkConversionDone 0 16384).wellFormed,
    (Instr.calTdcStepDone 0 0 ⟨List.replicate 8 123, List.replicate 128 0, true, List.replicate 7 0⟩).wellFormed,
    !(Instr.calTdcStepDone 0 0 ⟨List.replicate 9 123, List.replicate 128 0, true, List.replicate 7 0⟩).wellFormed,
    !(Instr.calTdcStepDone 0 0 ⟨[256], List.replicate 128 0, true, List.replicate 7 0⟩).wellFormed,
    !(Instr.calTdcStepDone 0 0 ⟨[123], List.replicate 127 0, true, List.replicate 7 0⟩).wellFormed,
    !(Instr.calTdcStepDone 0 0 ⟨[123], List.replicate 128 0, true, List.replicate 8 0⟩).wellFormed] = true := by
  decide +kernel

theorem test_refuses_supply_and_selftest : meets [
    !(Instr.pmbusStatusPoll 0 (2 ^ 16)).wellFormed, !(Instr.pmbAlert 0 (2 ^ 16)).wellFormed,
    !(Instr.selftestDone 0 [(32, 0)]).wellFormed, !(Instr.selftestDone 0 [(0, 512)]).wellFormed] = true := by decide

/-! ### Paths and addresses (chapters 0 and 20) -/

/-- Chapter 0: m2.n.o3.s5.k1 is 0x2065_1000, channel 117, emitter 29; m0.s.o1.sp is 0x0220_8000, front end 261. -/
theorem test_unit_paths : meets [
    (UPath.ofNat 0x20651000).listed, (UPath.ofNat 0x20651000).member == 2, (UPath.ofNat 0x20651000).frontEnds == [117],
    (UPath.ofNat 0x20651000).emitters == [29], (UPath.ofNat 0x02208000).frontEnds == [261]] = true := by decide

/-- Chapter 0: m*.s.o*.s2.k* addresses CH136 to 139, 168 to 171, 200 to 203 and 232 to 235. -/
theorem test_group_path :
    (UPath.ofNat 0xF3E2F000).frontEnds = [136, 137, 138, 139, 168, 169, 170, 171, 200, 201, 202, 203, 232, 233, 234, 235] := by
  decide

/-- Chapter 20: RX_FE_STATUS of the stave m0.n.o3.s5 and of SP5. -/
theorem test_register_addresses : meets [
    (UPath.ofNat 0x0065F000).frontEnds.map A.RX_FE_STATUS == [0x00227420, 0x00227520, 0x00227620, 0x00227720],
    A.RX_FE_STATUS 261 == 0x00230520] = true := by decide

/-! ### Timing and echoes (chapters 3 to 7) -/

/-- Chapter 3: bins whose widths sum to 138,900 below code 17 and to 725,350 below code 88, which are 8,010 and 8,610
wide. -/
def binWidths : List Nat :=
  (8164 : Nat) :: (List.replicate 16 8171 ++ [8010, 11950] ++ List.replicate 69 8210 ++ [8610] ++ List.replicate 39 8000)

def bank : CalVals := ⟨binWidths, [0, 5, 0, 0, 0, 0, 0, 0], 1200, 128, 656, 40960, 0, []⟩

theorem test_fine_times : meets [
    (binWidths.take 17).sum == 138900, (binWidths.take 88).sum == 725350, fineTime false binWidths 88 == 356,
    fineTime false binWidths 17 == 70] = true := by decide +kernel

/-- Table 3-3: the rising edge at 512,356 and the falling edge, with a skew of 5, at 514,113. -/
theorem test_edge_times :
    (edgeTime false bank 0 0 ⟨1000, 88⟩, edgeTime false bank 0 1 ⟨1004, 17⟩) = (512356, 514113) := by decide +kernel

/-- Chapter 4, Table 4-3: the steps of the loop at 260,000, 231,000, 176,000, 118,000 and 61,000 events per second. -/
theorem test_loop_steps :
    [14560, 12936, 9856, 6608, 3416].map (fun n => loopStep n 56000000 500) = [4, 4, 1, 1, 0] := by decide

/-- Chapter 12: the stagger at reset is floor(e × 1,000 ÷ 32); s(7) is 218 ns. -/
theorem test_stagger : (List.range 8).map (fun e => up.stagger e) = [0, 31, 62, 93, 125, 156, 187, 218] := by decide +kernel

/-- Chapter 4: the bias target of 2,400 with slope 2,048 at 30 °C above its reference is 2,640. -/
theorem test_bias_target : tempPoly 2400 2048 0 (30 * 16) = 2640 := by decide +kernel

/-- Chapter 7: the walk at width 1,757 between breakpoints 1,536 (180) and 2,048 (130) is 158. -/
theorem test_walk :
    walkAt 1757 [(0, 0), (0, 0), (1536, 180), (2048, 130), (3000, 0), (4000, 0), (5000, 0), (6000, 0)] = 158 := by
  decide +kernel

/-- Chapter 7: the record's extension word of the point (1,451, −800, 3). -/
theorem test_extension_word : extWord (some ((1451, -800, 3), 1)) = 0x005ABFFCE0000031 := by decide +kernel

/-- Chapter 10: the platform envelope, with its curvature, holds that point. -/
def platform : List Nat :=
  [0xE4040014, 0x1F4, 0x157C, 0, 0, 0, 0, 0, 0xFC95FF6A, 0xFD12FF6A, 0xFD12020D, 0xFC95020D]

theorem test_envelope : meets [
    envOk platform, bentY platform 2199023 1451 (-800) == -804, inEnv platform 2199023 (1451, -800, 3)] = true := by
  decide +kernel

/-- CRC-32C of the digits 1 to 9. -/
theorem test_crc : crc32c [0x31, 0x32, 0x33, 0x34, 0x35, 0x36, 0x37, 0x38, 0x39] = 0xE3069283 := by decide +kernel

/-! ### Temperatures, forecasts and dumps (chapters 15, 17 and 18) -/

/-- Chapter 15: NOM 10 kΩ, SER 10 kΩ, BETA 3,950 K and code 5,000 give 716. -/
theorem test_thermistor : ntcTemp 10000 10000 3950 5000 = some 716 := by decide +kernel

/-- Chapter 17: the head of Table 17-7 after 8,766 hours. -/
def head : State :=
  let h : Nat := 4096 * 3600
  { up with nvs := { up.nvs with life := [(0, 8766 * 3600), (2 + 2 * 29, 7200000000000), (150, 6000 * h / 4096), (154, 2000 * h / 4096),
      (156, 700 * h / 4096), (158, 66 * h / 4096)] } }

theorem test_forecasts : (head.dieForecast, head.emForecast 29) = ((965, 669), 4719) := by decide +kernel

/-- Chapter 18: the reset mask's dump is 146 records of 4,491 counter words, 40,600 bytes. -/
theorem test_dump_size : meets [
    (dumpRecords ⟨0, 0, 0, 0x001EFC, []⟩).length == 146,
    ((dumpRecords ⟨0, 0, 0, 0x001EFC, []⟩).map (fun r => 8 * r.length)).sum == 40600] = true := by decide +kernel

/-! ### Requests (chapter 13) -/

/-- Lane 2 up at its address, octant 3 at code 2,640, octant 5 ramping at 1,200. -/
def biased : State :=
  ((((up.wr (F.NET_LANE_IP4_IP4 2) 0xC0A80002).wr (F.NET_LANE_STATUS_LINK 2) 1).wr (F.RX_OCT_BIAS_STATUS_CODE 3) 2640).wr (F.RX_OCT_BIAS_STATUS_CODE 5) 1200).wr (F.RX_OCT_BIAS_STATUS_RAMP 5) 1

/-- What the last reply of a step says. -/
def replyOf (o : Res) : Option (Nat × List Nat) :=
  match o with
  | .next s => s.cmd.lastReply.map (fun p => (p.2.status, p.2.payload))
  | _ => none

/-- The newest fault-log entry after a step: address, code, source, core, sequence number and opcode. -/
def faultOf (o : Res) : Option (Nat × Nat × Nat × Nat × Nat × Nat) :=
  match o with
  | .next s => s.cmd.faults.getLast?.map (fun e => (e.address, e.code, e.source, e.core, e.seq, e.opcode))
  | _ => none

def fromLane2 (path : Nat) : Req := ⟨.lane 2 far, 2, 0, 0, 0x2A, path, [0x00030110, 1]⟩

/-- Table 13-10: word 3 of the reply is 0xA50 and word 5 is 0x204B0. -/
theorem test_group_read :
    (replyOf (exec (.unitRead 0 (fromLane2 0x07FFF000)) biased)).map (fun p => (p.1, p.2.getD 3 0, p.2.getD 5 0, p.2.length)) =
      some (0, 0xA50, 0x204B0, 8) := by decide +kernel

/-- Chapter 13: the same request to 0x07E5_F000 breaks the octant-set rule. -/
theorem test_group_read_refused : meets [
    replyOf (exec (.unitRead 0 (fromLane2 0x07E5F000)) biased) == some (0x13, []),
    faultOf (exec (.unitRead 0 (fromLane2 0x07E5F000)) biased) == some (0x07E5F000, 0x13, 0x02, 0, 0x2A, 0x0103)] = true := by
  decide +kernel

/-- R330: an accepted write changes the register and is answered OK; R3: one that sets a reserved bit is refused with
BAD_PARAM. -/
def wrote (o : Res) (a : Nat) : Option Nat :=
  match o with
  | .next s => some (s.word a)
  | _ => none

theorem test_register_write : meets [
    wrote (exec (.regWrite 0 (ask [A.DEV_INT_EN, 5])) up) A.DEV_INT_EN == some 5,
    replyOf (exec (.regWrite 0 (ask [A.DEV_INT_EN, 5])) up) == some (0, []),
    wrote (exec (.regWrite 0 (ask [A.DEV_INT_EN, 2 ^ 31])) up) A.DEV_INT_EN == some 0] = true := by decide +kernel

/-- The commands' rows give no bits. -/
theorem test_no_words : decodeTableWord 32 0 = none := by decide

end Sys2Proof.Tests
end

