-- ==== Sys2Proof/Tests/Witness.lean ====
section
/-! SUPPORT. Concrete states and operands that meet the hypotheses of the statements: each theorem lists, for one group of
statements, what its clauses suppose, at boundary values where a clause has a range. A hypothesis that only names a
state, such as the state at the command's arrival, is met by that state. -/

namespace Sys2Proof.Tests

/- One proof at a time: the kernel evaluates each of them, and each would hold a thread while it waits for the others. -/
set_option Elab.async false

open Machine Machine.State

/-- A packet for one register, whose word is `w`. -/
def oneReg (w : Nat) : RegReq := ⟨.uart, 1, 0x07FFF000, w⟩

theorem witness_Base : meets [
    decide (State.reset.boot.phase = BootPhase.held), !actsInReset (.lifeSecond 0),
    decide ((upIn Mode.park).mode = Mode.park), stopsInPark (.acquire 0),
    State.reset.darkReset,
    (requestOf (.ident 0 (ask []))).isSome, up.accepts Op.ident (ask []),
    (writeOf (.dumpNow 0 (oneReg 0))).isSome, up.accepts Op.regWrite ((oneReg 0).write A.TALLY_DUMP_CFG (2 ^ 31)),
    ((up.countPacket ((oneReg 0).write A.TALLY_DUMP_CFG (2 ^ 31))).hostWrite [(A.TALLY_DUMP_CFG, 2 ^ 31)]).2.isNone,
    up.accepts Op.regWrite ((oneReg 13107300).writeTwo (A.RX_FE_THR_A 263) 52429200),
    ((up.countPacket ((oneReg 13107300).writeTwo (A.RX_FE_THR_A 263) 52429200)).hostWrite
    [(A.RX_FE_THR_A 263, 13107300), (A.RX_FE_THR_B 263, 52429200)]).2.isNone,
    (readOf (.timeNowLatch 0 (oneReg 0))).isSome, up.accepts Op.regRead ((oneReg 0).read A.TIME_NOW_SEC_HI),
    actsFirst (.frameBoundary 0), actsFirst (.pickoffOutput 0 []), !actsInReset (.frameBoundary 0), !actsFirst (.lifeSecond 0),
    State.reset.sound, State.reset.permitHeeded, ({ State.reset with pending := [.lifeSecond 0] } : State).pending == [.lifeSecond 0]] = true := by
  decide +kernel

/-- What an accepted request of `s` finds. -/
def heard (s : State) (sp : OpSpec) (q : Req) (p : State → Bool) : Bool := s.accepts sp q && p (s.countPacket q)

/-- A half, an octant, a front end, an emitter by path. -/
def octantPath (g : Nat) : Nat := pathOfOctant 0 g

theorem witness_RegisterOpcodes : meets [
    heard up Op.regRead (ask [A.DEV_MODE, 1]) (fun _ => (firstUnmapped (addrRun A.DEV_MODE 4 1)).isNone),
    heard up Op.regWrite (ask [A.FIRE_FRAME, 1000]) (fun b => (b.hostWrite (addrWords A.FIRE_FRAME [1000])).2.isNone),
    heard up Op.regModify (ask [A.DEV_INT_EN, 1, 1]) (fun b => (findReg A.DEV_INT_EN).isSome &&
    ((findReg A.DEV_INT_EN).elim false (fun r => (b.checkWords [(A.DEV_INT_EN, modifyWord r.reg (b.word A.DEV_INT_EN) 1 1)]).2.isNone))),
    heard up Op.unitRead (askAt 0x0065F000 [0x220020, 1]) (fun _ => (unitRefusal 0x220020 1).isNone && (unitSetOf 0x220020).isSome),
    heard up Op.unitRead (askAt 0x02208000 [0x220020, 1]) (fun _ => (unitRefusal 0x220020 1).isNone),
    heard up Op.unitWrite (askAt 0x0065F000 [0x220000, 0]) (fun b => (unitRefusal 0x220000 1).isNone &&
    (([116, 117, 118, 119].foldl (State.checkUnit (b.viewAfter ([116, 117, 118, 119].flatMap
    (fun i => addrWords (0x220000 + 0x100 * i) [0]))) 0x220000 0x100 [0]) (b, none)).2.isNone) && !b.journalFull),
    unitsOf .frontEnd (UPath.ofNat 0x0065F000) == [116, 117, 118, 119]] = true := by
  decide +kernel

/-- Started up, in CONFIG, in SCAN, with a schedule of frames long enough for the sectors. -/
def cfg : State := upIn Mode.config
def scan : State := upIn Mode.scan
def quietSwap : State := ((cfg.wr F.FIRE_FRAME_SHADOW_NS 16000000).wr F.FIRE_FRAME_ACTIVE_ACTIVE_NS 16000000)
def firingSwap : State := ((scan.wr F.FIRE_FRAME_SHADOW_NS 16000000).wr F.FIRE_FRAME_ACTIVE_ACTIVE_NS 16000000)

theorem witness_TableOpcodes : meets [
    heard up Op.tableRead (ask [2, 0, 1]) (fun b => (tabRange (asLocal (ask [2, 0, 1]) b) 0 1).isNone),
    heard cfg Op.tableWrite (ask [2, 0, 0, 0]) (fun b => (tabRange (ask [2, 0, 0, 0]) 0 2).isNone &&
    (b.tabRefusal (ask [2, 0, 0, 0]) 0 [0, 0]).isNone && !b.journalFull),
    heard quietSwap Op.tableSwap (ask [1, 0]) (fun b => b.swapRefusal.isNone && !b.firing),
    heard firingSwap Op.tableSwap (ask [1, 0]) (fun b => b.swapRefusal.isNone && b.firing && !(b.budgetCheck (1 - b.activeCopy)).2),
    heard scan Op.tableSwap (ask [3, 15]) (fun b => (15 &&& b.rd F.GEOM_ENV_STATUS_APPLY_PEND == 0) && b.sectorsRun),
    heard cfg Op.tableSwap (ask [3, 1]) (fun b => (1 &&& b.rd F.GEOM_ENV_STATUS_APPLY_PEND == 0) && !b.sectorsRun && !b.journalFull),
    heard cfg Op.tableSwap (ask [6, 0]) (fun b => !b.flag (F.SERVO_AXIS_STATUS_SWAP_PEND (State.bankAxis 0).num)),
    heard cfg Op.tableSwap (ask [6, 1]) (fun b => !b.flag (F.SERVO_AXIS_STATUS_SWAP_PEND (State.bankAxis 2).num))] = true := by
  decide +kernel

/-- A recipe of one WAIT of 1 µs. -/
def waitWords : List Nat := [3, 0, 1, 0x09120004, 0x07FFF000, 1]

/-- In SERVICE, with the best time quality. -/
def calReady : State := (upIn Mode.service).wr F.TIME_STATUS_QUALITY 0

theorem witness_ModeAndCalibrationOpcodes : meets [
    heard up Op.modeSet (ask [Mode.config]) (fun b => !b.flag F.DEV_MODE_TRANS && transitionListed b.mode Mode.config && b.mode != Mode.safe && !firingMode Mode.config),
    heard (upIn Mode.safe) Op.modeSet (ask [Mode.standby]) (fun b => transitionListed b.mode Mode.standby && !b.exitRefused Mode.standby),
    heard (cfg.wr F.DEV_STATUS_COMMITTED 1) Op.modeSet (ask [Mode.service]) (fun b => transitionListed b.mode Mode.service && firingMode Mode.service && b.flag F.DEV_STATUS_COMMITTED && !b.entryRefused Mode.service false),
    heard up Op.modeGet (ask []) (fun _ => true),
    heard up Op.reset (ask [0xA5A5]) (fun _ => true),
    heard quietSwap Op.commit (ask []) (fun b => b.mode == Mode.config && b.commitCheck.2.isNone && !b.commitCheck.1.journalFull),
    heard calReady Op.calRun (askAt (pathOfOctant 0 7) [7]) (fun b => (UPath.ofNat (pathOfOctant 0 7)).octants.all (fun g => (b.calRefusal g).isNone)),
    heard calReady Op.calRun (ask [15]) (fun b => kindsOk 15 (UPath.ofNat 0x07FFF000) && (UPath.ofNat 0x07FFF000).octants.all (fun g => (b.calRefusal g).isNone)),
    heard up Op.calStatus (askAt (pathOfOctant 0 0) []) (fun _ => true),
    heard up Op.calStarter (askAt (pathOfOctant 0 0) [7]) (fun b => kindsOk 7 (UPath.ofNat (pathOfOctant 0 0)) && b.quiet && !b.journalFull),
    heard (upIn Mode.service) Op.calStarter (ask [8]) (fun b => kindsOk 8 (UPath.ofNat 0x07FFF000) && b.mode == Mode.service && !b.journalFull)] = true := by
  decide +kernel

/-- The other slot selected for the next start. -/
def selected : State := { up with nvs := { up.nvs with pendingSel := some ⟨1, 4, 0⟩ } }

theorem witness_StoreOpcodes : meets [
    heard up Op.imageWrite (ask [1, 2097148, 5]) (fun b => !b.slotInUse 1 && b.quiet && b.nvs.pendingSel.isNone),
    heard selected Op.imageWrite (ask [1, 0, 5]) (fun b => !b.slotInUse 1 && b.quiet && b.nvs.pendingSel.isSome),
    heard up Op.imageActivate (ask [1, 4, crc32c [0, 0, 0, 0]]) (fun b => !b.slotInUse 1 && !b.journalFull && slotCrc b.nvs.slots 1 4 == crc32c [0, 0, 0, 0]),
    heard up Op.lifeRead (ask [262143, 1]) (fun _ => true),
    heard up Op.compact (ask []) (fun b => !b.flag F.NVS_STATUS_COMPACTING)] = true := by
  decide +kernel

/-- The master of a cord and a follower, of a formed cord of two. -/
def master : State := ((((up.wr F.CORD_STRAPS_ROLE 1).wr F.CORD_STRAPS_MASTER 1).wr F.CORD_STATUS_FORMED 1).wr
  F.CORD_STATUS_PRESENT 3).wr F.CORD_STATUS_SIZE 2
def follower : State := ((((up.wr F.CORD_STRAPS_ROLE 1).wr F.CORD_STRAPS_ID 1).wr F.CORD_STATUS_FORMED 1).wr
  F.CORD_STATUS_PRESENT 3).wr F.CORD_STATUS_SIZE 2

theorem witness_ReportOpcodes : meets [
    heard up Op.tallySnapshot (ask []) (fun _ => true),
    heard up Op.tallyRead (ask [0x0D000109, 1]) (fun _ => decide (1 < tallyInst 0x0D) && decide (9 < tallyCount 0x0D 1) &&
    (counterSeq 0x0D 1 9 1).isSome),
    heard up Op.tallyDump (ask []) (fun _ => true),
    heard (master.wr F.CORD_STATUS_FORMED 0) Op.cordStatus (ask []) (fun b => b.flag F.CORD_STRAPS_ROLE),
    heard (master.wr F.CORD_STATUS_FORMED 0) Op.cordReset (ask [0xA5A5]) (fun b => b.isMaster),
    heard up Op.selftestReport (ask []) (fun _ => true), heard up Op.faultRead (ask []) (fun _ => true),
    heard up Op.faultClear (ask []) (fun _ => true), heard up Op.ident (ask []) (fun _ => true),
    heard up Op.timeGet (ask []) (fun _ => true),
    heard (up.wr F.TIME_SYNC_CTRL_SYNC_SRC 2) Op.timeOfDay (ask [65535, 0]) (fun b => b.rd F.TIME_SYNC_CTRL_SYNC_SRC == 2)] = true := by
  decide +kernel

/-- With that recipe stored. -/
def stored : State := up.putRecipe 3 (parseRecipe waitWords)

theorem witness_RecipeOpcodes : meets [
    heard up Op.recipeStore (ask waitWords) (fun b => (parseRecipe waitWords).isSome && (parseRecipe waitWords).elim false (fun r => b.ranksOk [] r.steps && !b.recipeBusy r.number) && !b.journalFull),
    heard stored Op.recipeRead (ask [3]) (fun b => (b.recipe? 3).isSome),
    heard stored Op.recipeEnable (ask [3, 1]) (fun b => (b.recipe? 3).isSome),
    heard up Op.recipeEnable (ask [63, 0]) (fun _ => true),
    heard stored Op.recipeDelete (ask [3]) (fun b => (b.recipe? 3).isSome && !b.journalFull),
    heard stored Op.recipeRun (ask [3]) (fun b => (b.recipe? 3).isSome)] = true := by
  decide +kernel

/-- A running recipe at its one step. -/
def atStep (opcode w : Nat) (wait : RecipeWait) : State :=
  { up with cmd := { up.cmd with run := some ⟨3, 0, [⟨opcode, 0x07FFF000, [w]⟩], [], wait⟩ } }

/-- The same with a second step behind it. -/
def atFirst (wait : RecipeWait) : State :=
  { up with cmd := { up.cmd with run := some ⟨3, 0, [⟨Op.wait, 0x07FFF000, [1]⟩, ⟨Op.wait, 0x07FFF000, [1]⟩], [], wait⟩ } }

theorem witness_Recipes : meets [
    awakeB (atStep Op.acquire 0x01000000 .ready), (atStep Op.acquire 0x01000000 .ready).presentStep.isSome,
    ((atStep Op.acquire 0x01000000 .ready).countStep ⟨3, 0, [⟨Op.acquire, 0x07FFF000, [0x01000000]⟩], [], .ready⟩).pathValid 0x07FFF000,
    resourceOk 0x01000000, resourceOk 0x0200000F, resourceOk 0x03000007, resourceOk 0x04000000,
    !(atStep Op.acquire 0x01000000 .ready).resourceBusy 1 0,
    ((atStep Op.acquire 0x03000007 .ready).wr (F.LAND_PORT_STATUS_GRANTED 7) 1).resourceBusy 3 7,
    (atStep Op.release 0x0200000F .ready).presentStep.isSome, (atStep Op.wait 1 .ready).presentStep.isSome,
    (atStep Op.wait 1000000 .ready).presentStep.isSome,
    awakeB (atFirst (.delay 5)), (atFirst (.delay 5)).cmd.run.elim false (fun r => r.wait == .delay 5 && decide (r.step + 1 < r.steps.length)),
    (atStep Op.wait 1 (.delay 5)).cmd.run.elim false (fun r => r.wait == .delay 5 && decide (r.steps.length ≤ r.step + 1)),
    (atStep Op.acquire 0x01000000 (.acquire 1 0 0)).cmd.run.elim false (fun r => r.wait == .acquire 1 0 0),
    (stored.queueRecipe 3).cmd.queue == [3], (stored.queueRecipe 3).cmd.run.isNone, (stored.queueRecipe 3).recipesRun,
    ((stored.queueRecipe 3).recipe? 3).isSome, awakeB (stored.queueRecipe 3),
    (atStep 0x0301 0 .ready).presentStep.isSome, (opSpec 0x0301).isSome] = true := by
  decide +kernel

/-- A reply without words, and a state in whose SPI queue it waits. -/
def aReply : Reply := ⟨2, 1, 0, 0, 0, 0, 0, []⟩
def replying : State := { up with cmd := { up.cmd with spiQ := [aReply] } }

theorem witness_TransportCommands : meets [
    liveB up, liveB replying, replying.cmd.spiQ == [aReply], State.reset.cmd.spiQ == [], decide (0x5A ≠ 0xA5),
    decide (0 < (State.replyOctets aReply).length), !State.toReset aReply, State.toReset { aReply with opcode := 0x0302 }, !replying.boot.resetReply, up.receives .uart,
    up.receives .spi, up.addressed .spi, Source.spi.isHost, decide (23 < 24),
    [0, 5].all (fun n => !(decide (n % 4 = 0) && decide (n = 24 - 24)) || decide (n = 0)),
    decide (beNat (([2, 0, 0, 0, 0, 0, 0, 0, 0, 0, 0, 0, 0, 5, 0, 0, 0, 0, 0, 0, 0, 0, 0, 0].drop 12).take 2) = 5),
    decide (crc32c (List.replicate 20 0) ≠ 0)] = true := by
  decide +kernel

/-- REF_IN present; the PLL on REF_IN. -/
def refThere : State := up.wr F.TIME_STATUS_REF_PRESENT 1
def onRef (xtal : Bool) : State := { refThere with time := { refThere.time with src := .ref, xtalOk := xtal } }
/-- The PLL has been on REF_IN before, and is on XTAL; or has no input. -/
def onXtal : State := { refThere with time := { refThere.time with src := .xtal, everRef := true, refOkSince := some 0 } }
def noInput : State := { up with time := { up.time with src := .none, xtalOk := false } }

/-- The selection and the class of REF_IN. -/
def refFreq (sel det : Nat) : State := (up.wr F.TIME_REF_CTRL_REF_SEL sel).wr F.TIME_STATUS_REF_FREQ_DET det

theorem witness_OscillatorCommands : meets [
    liveB refThere, refThere.flag F.TIME_STATUS_REF_PRESENT, refThere.time.src == .xtal,
    liveB (onRef true), (onRef true).flag F.TIME_STATUS_REF_PRESENT, (onRef true).time.src == .ref, (onRef true).time.xtalOk,
    (onRef false).flag F.TIME_STATUS_REF_PRESENT, (onRef false).time.src == .ref, !(onRef false).time.xtalOk,
    refThere.rd F.TIME_REF_CTRL_REF_SEL == 0, refThere.rd F.TIME_STATUS_REF_FREQ_DET == 0,
    onXtal.flag F.TIME_STATUS_REF_WARM != true, onXtal.time.src == .xtal, onXtal.time.everRef,
    decide (onXtal.rd F.TIME_STATUS_FREQ_STATE ≠ Freq.none), onXtal.mode != Mode.park, onXtal.time.refOkSince.isSome, liveB onXtal,
    ({ (onRef false).wr F.TIME_STATUS_XTAL_FAULT 1 with time := { (onRef false).time with xtalOk := false } } : State).flag F.TIME_STATUS_REF_PRESENT,
    ({ onXtal.wr F.TIME_STATUS_XTAL_FAULT 1 with time := { onXtal.time with xtalOk := false } } : State).flag F.TIME_STATUS_REF_PRESENT,
    !(({ up.wr F.TIME_STATUS_XTAL_FAULT 1 with time := { up.time with xtalOk := false } } : State).flag F.TIME_STATUS_REF_PRESENT),
    up.time.src == .xtal, up.time.src != .none, noInput.time.src == .none, noInput.mode != Mode.park, liveB noInput,
    (refFreq 0 1).rd F.TIME_STATUS_REF_FREQ_DET == 1, (refFreq 0 2).rd F.TIME_STATUS_REF_FREQ_DET == 2, (refFreq 0 2).rd F.TIME_REF_CTRL_REF_SEL == 0,
    (refFreq 1 0).rd F.TIME_REF_CTRL_REF_SEL == 1, (refFreq 2 0).rd F.TIME_REF_CTRL_REF_SEL == 2, liveB (refFreq 2 0),
    decide (9999000 = 10000000 - 10000000 / 10000), decide (9998999 < 10000000 - 10000000 / 10000),
    decide (100000000 + 100000000 / 10000 = 100010000), decide (100000000 + 100000000 / 10000 < 100010001)] = true := by
  decide +kernel

/-- An Announce's data set; a PTP message of port 9; states whose lane 7 takes it: without a time transmitter, with
its own, and under 802.1AS. -/
def dataOf (first : Nat) : PtpData := ⟨first, 6, 33, 0, 128, first, 0⟩
def ptpOf (two : Bool) : PtpMsg := ⟨0, 0, 9, 1, two, 0, 0, 0, State.ownIdentity 7, dataOf 5, 90⟩
def ptpUp : State := ((up.wr (F.NET_LANE_STATUS_LINK 7) 1).wr F.TIME_SYNC_CTRL_SYNC_SRC 1).wr F.TIME_SYNC_CTRL_PTP_LANE 7
def ptpTx (first : Nat) : State := { ptpUp with time := { ptpUp.time with
  parent := some ⟨dataOf first, 9⟩
  syncWait := some (1, 100)
  reqSent := some (1, 50)
  lastDiff := some 4 } }
def ptpAs : State :=
  { (ptpTx 6).wr F.TIME_SYNC_CTRL_PTP_PROFILE 1 with time := { (ptpTx 6).time with reqSent := some (1, 50) } }

/-- A lane whose present time transmitter is another; PPS at a device time in ns, with a known second. -/
def ptpBehind (first sender : Nat) : State := { ptpUp with time := { ptpUp.time with parent := some ⟨dataOf first, sender⟩ } }
def pulseAt (ns : Nat) : State :=
  { up.wr F.TIME_SYNC_CTRL_SYNC_SRC 2 with time := { up.time with ppsKnown := true, dev := ns * 2 ^ 40 } }
def pulseOffset (s : State) : Int :=
  let c : Int := s.dev16 - s.rd F.TIME_PPS_CTRL_CABLE_NS * 65536
  c - roundEven c (1000000000 * 65536) * (1000000000 * 65536)

theorem witness_SyncCommands : meets [
    awakeB ptpUp, ptpUp.ptpTakes 7 (ptpOf true), (ptpTx 6).ptpTakes 7 (ptpOf true), (ptpTx 6).ptpTakes 7 (ptpOf false),
    awakeB (ptpTx 6), (((ptpTx 6).rxFrame 7 90).count ⟨0x01, 2⟩ 0).time.parent == some ⟨dataOf 6, 9⟩,
    ((ptpTx 6).rxFrame 7 90).time.parent == some ⟨dataOf 6, 9⟩, ((ptpTx 6).rxFrame 7 90).time.syncWait == some (1, 100),
    ((ptpTx 6).rxFrame 7 90).time.lastDiff == some 4, ((ptpTx 6).rxFrame 7 90).time.reqSent == some (1, 50), !(ptpTx 6).profileAs,
    awakeB ptpAs, ptpAs.ptpTakes 7 (ptpOf true), ptpAs.profileAs, (ptpAs.rxFrame 7 90).time.reqSent == some (1, 50),
    (ptpUp.rxFrame 7 90).time.parent.isNone, (dataOf 5).better (dataOf 6), (dataOf 5).class0 != 255,
    ptpUp.rd F.TIME_SYNC_CTRL_SYNC_SRC == 1, (up.wr F.TIME_STATUS_SYNC_STATE Sync.hold).rd F.TIME_STATUS_SYNC_STATE == Sync.hold,
    awakeB (up.wr F.TIME_STATUS_SYNC_STATE Sync.hold),
    (up.wr F.TIME_SYNC_CTRL_SYNC_SRC 2).rd F.TIME_SYNC_CTRL_SYNC_SRC == 2,
    (up.wr F.TIME_SYNC_CTRL_SYNC_SRC 2).flag F.TIME_PPS_CTRL_EDGE == !true || (up.wr F.TIME_SYNC_CTRL_SYNC_SRC 2).flag F.TIME_PPS_CTRL_EDGE == !false,
    ({ up with time := { up.time with todSec := some 7 } } : State).time.todSec == some 7,
    ({ up with time := { up.time with ppsKnown := true } } : State).time.ppsKnown,
    awakeB (up.wr F.TIME_SYNC_CTRL_SYNC_SRC 2),
    (ptpBehind 5 10).time.parent == some ⟨dataOf 5, 10⟩, (dataOf 5).level (dataOf 5), !(dataOf 5).better (dataOf 5), awakeB (ptpBehind 5 10),
    (ptpBehind 4 10).time.parent == some ⟨dataOf 4, 10⟩, !(dataOf 5).better (dataOf 4), !(dataOf 5).level (dataOf 4), (ptpBehind 5 10).ptpTakes 7 (ptpOf true),
    decide ((9 : Nat) < 10), ptpUp.ptpTakes 7 { ptpOf true with data := { dataOf 5 with class0 := 255 } },
    (pulseAt 1000000000).rd F.TIME_SYNC_CTRL_SYNC_SRC == 2, (pulseAt 1000000000).flag F.TIME_PPS_CTRL_EDGE == !(!(pulseAt 0).flag F.TIME_PPS_CTRL_EDGE),
    (pulseAt 0).time.ppsKnown, (pulseAt 0).time.todSec.isNone, awakeB (pulseAt 0),
    decide ((pulseOffset (pulseAt 1000000000)).natAbs ≤ (pulseAt 1000000000).rd F.TIME_PPS_CTRL_WIN_US * 65536000),
    decide ((pulseAt 500000000).rd F.TIME_PPS_CTRL_WIN_US * 65536000 < (pulseOffset (pulseAt 500000000)).natAbs),
    !(up.wr F.TIME_SYNC_CTRL_SYNC_SRC 2).time.ppsKnown, (up.wr F.TIME_SYNC_CTRL_SYNC_SRC 2).time.todSec.isNone] = true := by
  decide +kernel

/-- The message answers a request of the lane's own port, whatever the base MAC address is. -/
theorem witness_asked (two : Bool) : (ptpOf two).asked = State.ownIdentity 7 := rfl

/-- REF_TUNE in MODE 1 while the PLL follows REF_IN, at a code; XTAL measured from a warm REF_IN; a bin learned. -/
def tuning (code : Nat) : State :=
  { ((up.wr F.TIME_TUNE_MODE 1).wr F.TIME_STATUS_FREQ_STATE Freq.ref) with time := { up.time with tune := code } }
def warmRef : State := { up.wr F.TIME_STATUS_REF_WARM 1 with time := { up.time with src := .ref } }
def learned : State := { up with time := { up.time with binsDirty := [15] } }

/-- REF_TUNE in a mode at a code; XTAL after some measurements in the bin of the present temperature. -/
def tuneMode (mode code : Nat) : State := (tuning code).wr F.TIME_TUNE_MODE mode
def warmBin (n : Nat) : State :=
  { warmRef with time := { warmRef.time with bins := warmRef.time.bins.set (xtalBinOf warmRef.dieMean) ⟨0, n⟩ } }

theorem witness_TimebaseTimers : meets [
    awakeB up, !up.firing, ({ up with time := { up.time with stepDue := some (-5) } } : State).time.stepDue == some (-5),
    (tuning 0).rd F.TIME_TUNE_MODE == 1, (tuning 0).rd F.TIME_STATUS_FREQ_STATE == Freq.ref, (tuning 0).healthy 28,
    decide ((tuning 0).time.tune < (tuning 0).tuneTarget), decide ((tuning 65535).tuneTarget < (tuning 65535).time.tune),
    awakeB (tuning 0), awakeB warmRef, warmRef.time.src == .ref, warmRef.flag F.TIME_STATUS_REF_WARM,
    decide ((warmRef.xtalBin (xtalBinOf warmRef.dieMean)).count < 59),
    learned.time.binsDirty == [15], learned.time.binsAt.isNone, !learned.journalFull, awakeB learned,
    (tuneMode 0 0).rd F.TIME_TUNE_MODE == 0, (tuneMode 2 0).rd F.TIME_TUNE_MODE == 2, (tuneMode 2 0).rd F.TIME_STATUS_FREQ_STATE == Freq.ref,
    (tuneMode 2 0).healthy 28, decide ((tuneMode 2 0).rd F.TIME_STATUS_SYNC_STATE ≠ Sync.locked), awakeB (tuneMode 2 0),
    decide ((tuneMode 2 0).time.tune < (tuneMode 2 0).tuneTarget), decide ((tuneMode 2 65535).tuneTarget < (tuneMode 2 65535).time.tune),
    (tuneMode 2 (tuneMode 2 0).tuneTarget).time.tune == (tuneMode 2 (tuneMode 2 0).tuneTarget).tuneTarget,
    ((tuneMode 2 0).wr F.TIME_STATUS_SYNC_STATE Sync.locked).rd F.TIME_STATUS_SYNC_STATE == Sync.locked,
    decide (((warmBin 58).xtalBin (xtalBinOf (warmBin 58).dieMean)).count < 59), decide (59 ≤ ((warmBin 59).xtalBin (xtalBinOf (warmBin 59).dieMean)).count),
    awakeB (warmBin 59), (warmBin 59).time.src == .ref, (warmBin 59).flag F.TIME_STATUS_REF_WARM] = true := by
  decide +kernel

/-- A slot job of emitter `e`, decided at 1,000 ns of frame 0, and an open window of its shot on front end `f`. -/
def jobOf (e : Nat) : SlotJob := ⟨0, 0, 0, 0, 0, e, 1000, 0x0F000001, 4, false, 0, false⟩
def openShot (e : Nat) : Shot := { up.shotOf ⟨jobOf e, none, none, 0, 100, 100, 100, false, false, 0, 0, none⟩ 0 with
  id := 1
  fireC := 100
  window := 50 }

/-- A front end that is powered, with a window open on it from 100 to 149 and this open group, after this edge of each
input; in the native mode, or in the compatibility mode with its loop locked or not. -/
def capture (f : Nat) (g : Option OpenGroup) (bank : Option Nat) (mode lock : Nat) : State :=
  let s := ((up.wr (F.TDC_FE_CFG_EDGE_EN f) 255).wr F.TDC_CTRL_MODE mode).wr (F.TDC_FE_STATUS_DLL_LOCK f) lock
  { s with
    fire := { s.fire with shots := [openShot (f / 4 % 64)] }
    rx := { s.rx with
      powered := true
      fes := [(f, { FeSt.init with wins := [1], group := g, banks := List.replicate 8 bank })] } }

/-- An open group with its first edge. -/
def group0 : OpenGroup := ⟨[some ⟨101, 0⟩, none, none, none, none, none, none, none], false, false, .shot 1, [], 100⟩

theorem witness_EdgeCapture : meets [
    awakeB up, !up.rx.powered,
    awakeB (capture 263 none none 0 0), (capture 263 none none 0 0).rx.powered, !((capture 263 none none 0 0).fe 263).off,
    bitOf ((capture 263 none none 0 0).rd (F.TDC_FE_CFG_EDGE_EN 263)) 7, !bitOf (((capture 263 none none 0 0).wr (F.TDC_FE_CFG_EDGE_EN 263) 127).rd (F.TDC_FE_CFG_EDGE_EN 263)) 7,
    !((capture 263 none none 0 0).windowsAt 263 100).isEmpty, !((capture 263 none none 0 0).windowsAt 263 149).isEmpty,
    ((capture 263 none none 0 0).windowsAt 263 150).isEmpty, ((capture 263 none none 0 0).windowsAt 263 99).isEmpty, ((capture 263 none none 0 0).fe 263).inj.isNone,
    ((capture 0 none (some 51712) 0 0).fe 0).banks.getD 7 none == some 51712,
    decide (512 * 101 + fineTime false ((capture 0 none (some 51712) 0 0).calNow 0).widths 0 < 51712 + 1024),
    decide (51712 + 1024 ≤ 512 * 149 + fineTime false ((capture 0 none (some 51712) 0 0).calNow 0).widths 127),
    (capture 0 none none 1 0).dll, !(capture 0 none none 1 0).flag (F.TDC_FE_STATUS_DLL_LOCK 0),
    (capture 0 none none 1 1).dll, (capture 0 none none 1 1).flag (F.TDC_FE_STATUS_DLL_LOCK 0), !(capture 0 none none 0 0).dll,
    ((capture 0 none none 0 0).fe 0).group.isNone, ((capture 0 (some group0) none 0 0).fe 0).group.isSome] = true := by
  decide +kernel

/-- A statistics run, a pending gain change, an open shot and an open injector window. -/
def statRun : State := up.wr (F.TDC_STAT_STATUS_BUSY 1) 1
def gainPend : State := { up with
  now := 1000000002
  rx := { up.rx with fes := [(5, { FeSt.init with pendCfg := some 1 })] } }
def shotOpen : State := { up with fire := { up.fire with shots := [openShot 63] } }
def injOpenAt (g : Option OpenGroup) : State :=
  { up with rx := { up.rx with fes := [(5, { FeSt.init with inj := some ⟨0, up.calNow 5⟩, group := g })] } }

/-- An octant with the bias output at a code and its target at another; with a crossbar switch waiting. -/
def biasAt (code target : Nat) : State :=
  let s := up.wr (F.RX_OCT_BIAS_STATUS_CODE 7) code
  { s with rx := { s.rx with powered := true, octs := s.rx.octs.set 7 ⟨none, false, target, 0, none⟩ } }
def switching (w : SwitchReq) (opened : Bool) : State :=
  { up with rx := { up.rx with octs := up.rx.octs.set 7 ⟨some w, opened, 0, 0, none⟩ } }

/-- An injector run with some pulses left, or without end. -/
def injRun (left cont : Nat) : State :=
  let s := (up.wr (F.RX_OCT_INJ_CTRL_RUN 7) 1).wr (F.RX_OCT_INJ_CTRL_CONT 7) cont
  { s with rx := { s.rx with octs := s.rx.octs.set 7 ⟨none, false, 0, left, none⟩ } }

theorem witness_ReceiverTimers : meets [
    (up.wr F.TDC_CTRL_MODE 1).dll, awakeB (up.wr F.TDC_CTRL_MODE 1), !up.dll, awakeB up,
    awakeB statRun, statRun.statRunning Half.south.num,
    awakeB gainPend, (gainPend.fe 5).pendCfg == some 1,
    decide (1 + gainPend.rd F.RX_CTRL_PEND_LIMIT_MS * 1000000 < gainPend.now),
    awakeB shotOpen, (shotOpen.nextToClose 63).isSome,
    awakeB (injOpenAt none), ((injOpenAt none).fe 5).inj.isSome, ((injOpenAt none).fe 5).group.isNone,
    ((injOpenAt (some { group0 with carrier := .injector })).fe 5).group == some { group0 with carrier := .injector },
    awakeB (biasAt 0 4095), (biasAt 0 4095).rx.powered, decide ((biasAt 0 4095).rd (F.RX_OCT_BIAS_STATUS_CODE 7) < ((biasAt 0 4095).rxOct 7).target),
    decide (((biasAt 4095 0).rxOct 7).target < (biasAt 4095 0).rd (F.RX_OCT_BIAS_STATUS_CODE 7)),
    ((switching (.toSpare 31) false).rxOct 7).switch == some (.toSpare 31), !((switching (.toSpare 31) false).rxOct 7).opened,
    (switching (.toSpare 31) false).inGap ((switching (.toSpare 31) false).physical 31),
    awakeB (switching .back false), ((switching .back false).rxOct 7).switch == some .back, (switching .back false).inGap 263,
    ((switching .back true).rxOct 7).opened, awakeB (switching .back true)] = true := by
  decide +kernel

/-- An injector run at its pulse. -/
def injected (left cont target : Nat) : State :=
  let s := (injRun left cont).wr (F.RX_OCT_INJ_CTRL_TARGET 7) target
  s.injFire 7 (injTargets 7 target) ⟨0, 0, 0, 0⟩

theorem witness_InjectorRun : meets [
    awakeB (injRun 1 0), (injRun 1 0).flag (F.RX_OCT_INJ_CTRL_RUN 7), ((injRun 1 0).calRun 1).isNone,
    (injected 1 1 33).flag (F.RX_OCT_INJ_CTRL_CONT 7), !(injected 1 0 33).flag (F.RX_OCT_INJ_CTRL_CONT 7),
    decide (((injected 1 0 33).rxOct 7).injLeft ≤ 1), decide (1 < ((injected 2 0 0).rxOct 7).injLeft)] = true := by
  decide +kernel

/-- A front end after 15 loop periods of this gap, with the loop on or off, DELTA at a value. -/
def looping (n gap en : Nat) (delta : Int) : State :=
  let s := (up.wr (F.RX_FE_CFG_ADAPT_EN 0) en).wrS (F.RX_FE_ADAPT_STATE_DELTA 0) delta
  { s with rx := { s.rx with fes := [(0, { FeSt.init with ring := List.replicate n (0, gap) })] } }

/-- What the period's end finds of it. -/
def looped (s : State) : Nat × Nat :=
  let ring := (((s.fe 0).count, s.gapSoFar 0) :: (s.fe 0).ring).take 16
  (ring.length, (ring.map Prod.snd).sum)

/-- The spare routed to channel 0. -/
def routedUp : State := (up.wr (F.RX_OCT_XBAR_ROUTED 0) 1).wr (F.RX_OCT_XBAR_ROUTED_CH 0) 0

theorem witness_AdaptiveLoop : meets [
    awakeB up, decide (40001 > 40000), decide (37999 < 38000), !up.flag (F.RX_FE_STATUS_DC_OVER 0), !up.standsBy 0,
    (List.range 32).all (fun k => !up.flag (F.RX_FE_STATUS_DC_OVER k)), !up.flag (F.RX_FE_STATUS_DC_OVER 256),
    (up.wr (F.RX_FE_STATUS_DC_OVER 31) 1).flag (F.RX_FE_STATUS_DC_OVER 31), routedUp.standsBy 0, awakeB routedUp,
    awakeB (looping 0 0 0 0), up.rx.kerfAt.isNone, ({ up with rx := { up.rx with kerfAt := some 0 } } : State).rx.kerfAt == some 0,
    (capture 0 none none 0 0).rx.powered, ({ up with rx := { up.rx with powered := true } } : State).inGap 0,
    decide ((looped (looping 14 1 0 0)).1 ≠ 16), decide ((looped (looping 15 0 0 0)).1 = 16),
    decide ((looped (looping 15 0 0 0)).2 < (looping 15 0 0 0).rd (F.RX_FE_ADAPT_TAU 0) * 1000),
    decide ((looping 15 1000000 0 0).rd (F.RX_FE_ADAPT_TAU 0) * 1000 ≤ (looped (looping 15 1000000 0 0)).2),
    !(looping 15 1000000 0 0).flag (F.RX_FE_CFG_ADAPT_EN 0), (looping 15 1000000 1 0).flag (F.RX_FE_CFG_ADAPT_EN 0),
    decide (loopStep 0 15000000 ((looping 15 1000000 1 0).rd (F.RX_FE_ADAPT_TARGET 0)) = -1),
    decide ((looping 15 1000000 1 0).rdS (F.RX_FE_ADAPT_STATE_DELTA 0) = 0),
    decide ((looping 15 1000000 1 (-1023)).rdS (F.RX_FE_ADAPT_STATE_DELTA 0) = -1023),
    decide ((looped (looping 15 0 0 0)).2 = 0), decide ((looped (looping 15 1 0 0)).2 ≠ 0)] = true := by
  decide +kernel

/-- In SCAN with emitter 63 enabled, its slot next, FIRE_ALLOW as given, the emitter's last fire edge of its domain, its
energy budget and the maps of its stave to the axes. -/
def firingAt (allow : Nat) (edge : Option Nat) (budget map : Nat) : State :=
  let s := (scan.wr (F.FIRE_EM_CFG_EN 63) 1).wr (F.FIRE_EM_EYE_BUDGET 63) budget
  let s := (s.wr (F.SERVO_STAVE_MAP_MAP 3) map).wr (F.FIRE_OCT_LEVEL_STATUS_CODE 7) 1
  { s with
    permits := { s.permits with allow := allow == 1 }
    fire := { s.fire with slots := [jobOf 63], domains := List.replicate 4 edge, proofs := [(0, 63)] } }

/-- What the decision of its slot finds. -/
def entered (s : State) : State :=
  State.enterGroup 63 0 (State.wMaxOf { s with fire := { s.fire with slots := [] } } 63) { s with fire := { s.fire with slots := [] } }

/-- It with the slot's position taken. -/
def decided (s : State) : State :=
  let b := entered s
  let g := (b.em 63).nextGroup - 1
  (b.updGroup 63 g (fun g => { g with shots := g.shots + 1, opened := g.opened + 1 })).updEm 63
    (fun y => { y with position := y.position + 1 })

/-- The offset of its slot before deferral. -/
def slotOffset (s : State) : Int :=
  1000 + dither ((entered s).tab 0x04 0 (slotCode 0x0F000001)) (entered s).memberNo 63 ((entered s).rd F.FIRE_CTRL_DITHER_MAX)
    ((entered s).em 63).position

/-- A first shot that dither puts before the start of its frame. -/
def firstEarly : State :=
  let s := ((firingAt 1 none 1 0).wr F.FIRE_CTRL_DITHER_MAX 250).putTab 0x04 0 (slotCode 0x0F000001) 0x12345678
  { s with fire := { s.fire with slots := [{ jobOf 63 with first := true, nominal := 0 }] } }

theorem witness_LaserPermitCommands : meets [
    liveB up, ({ up with permits := { up.permits with laser := true } } : State).permits.laser, !up.permits.laser,
    !(firingAt 1 none 1 0).allowNow, (firingAt 1 none 1 0).permits.allow,
    ({ scan with permits := ⟨true, true, true, true, false⟩ } : State).allowNow, !up.permits.allow] = true := by
  decide +kernel

/-- A firing mode in its frames, with no slot left. -/
def runningScan : State := { scan with fire := { scan.fire with running := true } }

theorem witness_SlotsAndFrames : meets [
    awakeB runningScan, runningScan.firing, runningScan.fire.running, runningScan.frameMayStart, !runningScan.boot.exiting,
    runningScan.fire.slots.isEmpty, runningScan.fire.early.isNone,
    ({ runningScan with boot := { runningScan.boot with exiting := true } } : State).boot.exiting,
    ({ up with rx := { up.rx with kerfAt := some 0 } } : State).rx.kerfAt == some 0, awakeB up,
    ({ up with fire := { up.fire with kerfs := [(16000000, 5000)] } } : State).fire.kerfs == [(16000000, 5000)],
    ({ scan with fire := { scan.fire with ems := scan.fire.ems.set 63 { EmSt.init with shed := true } } } : State).shedList == [63],
    awakeB (firingAt 1 none 1 0), (firingAt 1 none 1 0).fire.slots == [jobOf 63],
    ((runningScan.fire.slots.isEmpty && runningScan.firing) && runningScan.fire.running), ({ runningScan with fire := { runningScan.fire with early := some ⟨0, [], false⟩ } } : State).fire.early.isSome,
    (decided (firingAt 1 (some 5000) 1 0)).domainEdge 0 == some 5000, (decided (firingAt 1 none 1 0)).domainEdge 0 == none,
    decide (60 < max (5020 : Int) (slotOffset (firingAt 1 (some 5000) 1 0)) - slotOffset (firingAt 1 (some 5000) 1 0)),
    decide (((slotOffset (firingAt 1 none 1 0) + 40).toNat + 20 : Int) - slotOffset (firingAt 1 none 1 0) ≤ 60),
    decide (slotOffset (firingAt 1 none 1 0) - slotOffset (firingAt 1 none 1 0) ≤ 60),
    firstEarly.fire.slots == [{ jobOf 63 with first := true, nominal := 0 }], decide (slotOffset firstEarly - 1000 < 0),
    awakeB firstEarly, !(jobOf 63).first, decide ((0 : Int) ≤ slotOffset (firingAt 1 none 1 0))] = true := by
  decide +kernel

/-- A slot that waits in the fire queue for its edge. -/
def waiting (pre : Bool) : QueuedShot := ⟨jobOf 63, none, none, 0, 1000, 1000, 1000, false, pre, 0, 0, none⟩

theorem witness_FireEdge : meets [
    (waiting true).turned.isNone, (waiting true).pre, !(waiting false).pre, (waiting true).barred.isNone,
    ({ waiting true with barred := some 5 } : QueuedShot).barred == some 5, ({ waiting true with barred := some 2 } : QueuedShot).barred == some 2,
    ((firingAt 1 none 1 0).wr (F.FIRE_EM_CFG_EN 63) 0).emOff 63, !(firingAt 0 none 1 0).emOff 63,
    !(firingAt 0 none 1 0).permits.allow, (firingAt 1 none 65535 0).permits.allow, !(firingAt 1 none 65535 0).fire.hold,
    (firingAt 1 none 1 3221225472).staveInhibited 63, !(firingAt 1 none 65535 0).staveInhibited 63,
    !(firingAt 1 none 0 0).eyeFits 63 (4 * (firingAt 1 none 0 0).rd (F.FIRE_OCT_LEVEL_STATUS_CODE 7)),
    (firingAt 1 none 65535 0).eyeFits 63 (4 * (firingAt 1 none 65535 0).rd (F.FIRE_OCT_LEVEL_STATUS_CODE 7))] = true := by
  decide +kernel

/-- An emitter with pulses to evaluate. -/
def pulses (l : List Bool) : State :=
  { up with fire := { up.fire with ems := up.fire.ems.set 63 { EmSt.init with evals := l } } }

theorem witness_ProofShotsAndCurrentSense : meets [
    (firingAt 1 none 1 0).fire.proofs == [(0, 63)], !(firingAt 1 none 1 0).emRemoved 63,
    ({ up with fire := { up.fire with ems := up.fire.ems.set 63 { EmSt.init with shed := true } } } : State).emRemoved 63,
    !({ firingAt 0 none 1 0 with fire := { (firingAt 0 none 1 0).fire with proofs := [] } } : State).permits.allow,
    !(firingAt 1 none 1 0).emOff 63, (firingAt 1 none 1 0).permits.allow, !(firingAt 1 none 1 0).fire.hold, !(firingAt 1 none 1 0).staveInhibited 63,
    !(firingAt 1 none 0 0).eyeFits 63 (20 * (firingAt 1 none 0 0).rd (F.FIRE_OCT_LEVEL_STATUS_CODE 7)),
    (firingAt 1 none 65535 0).eyeFits 63 (20 * (firingAt 1 none 65535 0).rd (F.FIRE_OCT_LEVEL_STATUS_CODE 7)),
    awakeB (pulses [false]), ((pulses [false]).em 63).evals == [false], ((pulses [true]).em 63).evals == [true],
    (pulses [false]).csResult 63 0 63 == 2, decide ((pulses [false]).csResult 63 500 63 = 1)] = true := by
  decide +kernel

/-- A bank handed to the peak finder; an armed external trigger; a closed shot. -/
def peakJob (build : Bool) : State := { up with acq := { up.acq with jobs := [⟨255, 1, 63, 0, build, 1000⟩] } }
def external (armed edge : Nat) : State :=
  (((scan.wr F.ACQ_CTRL_TRIG_SRC 1).wr F.ACQ_STATUS_TRIG_ARMED armed).wr F.ACQ_TRIG_EDGE edge)
def shotClosed : State :=
  { up with
    now := 150
    fire := { up.fire with shots := [{ openShot 63 with closed := true }] } }

/-- The same job where the group after its own has been lost, and where the list's emitter has gone on. -/
def lostGroup : State :=
  { peakJob true with fire := { up.fire with ems := up.fire.ems.set 63 { EmSt.init with listFrom := [1, 1, 1, 1] } } }
def discarded : State :=
  { peakJob true with fire := { up.fire with ems := up.fire.ems.set 63 { EmSt.init with minGroup := 1 } } }

theorem witness_ShotAcquisition : meets [
    awakeB (peakJob true), ((peakJob true).acq.jobs.find? (fun j => j.ch == 255)).isSome, decide (((peakJob true).em 63).minGroup ≤ 0),
    ((peakJob false).acq.jobs.find? (fun j => j.ch == 255)).elim false (fun j => !j.build),
    awakeB (external 1 0), !((external 1 0).armCheck.wrB F.ACQ_STATUS_EXT_TRIG_LEVEL true).isFollower,
    ((external 1 0).armCheck.wrB F.ACQ_STATUS_EXT_TRIG_LEVEL true).extTrig,
    ((external 1 0).armCheck.wrB F.ACQ_STATUS_EXT_TRIG_LEVEL true).flag F.ACQ_TRIG_EDGE == !true,
    ((external 1 1).armCheck.wrB F.ACQ_STATUS_EXT_TRIG_LEVEL true).flag F.ACQ_TRIG_EDGE == true,
    ((external 1 0).armCheck.wrB F.ACQ_STATUS_EXT_TRIG_LEVEL true).flag F.ACQ_STATUS_TRIG_ARMED,
    !(({ external 0 0 with acq := { scan.acq with due := some 5 } } : State).armCheck.wrB F.ACQ_STATUS_EXT_TRIG_LEVEL true).flag F.ACQ_STATUS_TRIG_ARMED,
    (external 1 0).armCheck.extTrig, (external 1 0).armCheck.flag F.ACQ_STATUS_TRIG_ARMED, !(external 1 0).armCheck.isFollower,
    awakeB shotClosed, (shotClosed.nextUnit 63).isSome, (((shotClosed.formUnit 1).shot? 1).bind Shot.unit).isSome,
    (shotClosed.shot? 1).isSome, (shotClosed.shot? 1).elim true (fun x => !x.cut), (shotClosed.regionFor 0 (shotClosed.echoPort 63)).isNone,
    ((((shotClosed.wr (F.LAND_REGION_EN 15) 1).wr (F.LAND_REGION_STREAM 15) 0).wr (F.LAND_REGION_PORT 15) (shotClosed.echoPort 63)).regionFor 0 (shotClosed.echoPort 63)) == some 15,
    decide (((peakJob true).em 63).listFrom.getD (255 % 4) 0 ≤ 0), decide (0 < (lostGroup.em 63).listFrom.getD (255 % 4) 0), awakeB lostGroup,
    (lostGroup.acq.jobs.find? (fun j => j.ch == 255)).isSome, decide (0 < (discarded.em 63).minGroup)] = true := by
  decide +kernel

/-- The pickoff chain running, with its excitation in force and outputs left that are invalid. -/
def chain (inv : Nat) : State :=
  let s := (up.wr F.ANGLE_STATUS_RUNNING 1).wr F.ANGLE_STATUS_INV_LEFT inv
  { s with angle := { s.angle with segs := [s.excRegs 0], amp := s.rd F.ANGLE_EXC_AMP } }

theorem witness_PickoffOutputs : meets [
    awakeB up, !up.flag F.ANGLE_STATUS_RUNNING, awakeB (chain 1), (chain 1).flag F.ANGLE_STATUS_RUNNING,
    decide ((List.replicate (2 ^ (chain 1).rd F.ANGLE_DEC_STAGES) ((5 : Int), false)).length = 2 ^ (chain 1).rd F.ANGLE_DEC_STAGES),
    ((chain 0).wr F.ANGLE_BLANK_CTRL_PIN_EN 1).blanked [] 0 true, !((chain 0).wr F.ANGLE_BLANK_CTRL_PIN_EN 1).blanked [] 0 false,
    decide (0 < (chain 1).rd F.ANGLE_STATUS_INV_LEFT), decide ((chain 0).rd F.ANGLE_STATUS_INV_LEFT = 0)] = true := by
  decide +kernel

theorem witness_ElectrodeCommands : meets [
    !up.flag F.ANGLE_STATUS_RUNNING, (chain 0).flag F.ANGLE_STATUS_RUNNING, (chain 0).angle.segs == [(chain 0).excRegs 0],
    !((chain 0).flag F.ANGLE_STATUS_EXC_PEND && (chain 0).excChanged),
    ((chain 0).excRegs 0).gain == (chain 0).rdS F.ANGLE_TRIM_GAIN, ((chain 0).excRegs 0).offset == (chain 0).rdS F.ANGLE_TRIM_OFFSET,
    (((chain 0).wr F.ANGLE_EXC_PHASE 1).wr F.ANGLE_STATUS_EXC_PEND 1).excChanged,
    !(chain 0).angle.resetDue, ({ chain 0 with angle := { (chain 0).angle with resetDue := true } } : State).angle.resetDue,
    (up.wr F.ANGLE_STATUS_ELEC_FAULT_P 1).flag F.ANGLE_STATUS_ELEC_FAULT_P, (up.wr F.ANGLE_STATUS_ELEC_FAULT_N 1).flag F.ANGLE_STATUS_ELEC_FAULT_N,
    awakeB (up.wr F.ANGLE_STATUS_ELEC_FAULT_N 1)] = true := by
  decide +kernel

/-- Axis V locked in CONFIG, with its program in progress, and overruns behind it; an axis that acquires. -/
def locked (ovr : Nat) : State :=
  let s := ((cfg.wr (F.SERVO_AXIS_CTRL_EN 0) 1).wr (F.SERVO_AXIS_STATUS_STATE 0) AxLocked).wr (F.SERVO_AXIS_STATUS_OVR_RUN 0) ovr
  { s with servo := { s.servo with v := { s.servo.v with prog := some 0, meas := some (5, 0), outs := 1 } } }
/-- A pickoff output has completed since the last period start. -/
def dueV (s : State) : State := { s with servo := { s.servo with v := { s.servo.v with outs := 1 } } }
def acquiring (ax : Axis) : State := cfg.wr (F.SERVO_AXIS_STATUS_STATE ax.num) AxAcquire
def dacAt (code : Nat) : State := up.wr F.SERVO_V_STATUS_DAC_CODE code
def rasterOn : State := { cfg with servo := { cfg.servo with profile := { cfg.servo.profile with mode := true } } }

theorem witness_ServoPeriods : meets [
    awakeB (locked 0), ((locked 0).countN ⟨0x08, 1⟩ 0 1).axClosed .v, !(dueV up).axClosed .v, !((dueV up).countN ⟨0x08, 1⟩ 0 1).flag (F.SERVO_AXIS_STATUS_SWAP_PEND 0),
    decide (up.servo.v.outs < up.rd F.SERVO_V_CFG_V_DIV), decide ((locked 0).rd F.SERVO_V_CFG_V_DIV ≤ (locked 0).servo.v.outs),
    decide ((dueV up).rd F.SERVO_V_CFG_V_DIV ≤ (dueV up).servo.v.outs), awakeB (dueV up),
    (((dueV up).wr (F.SERVO_AXIS_STATUS_SWAP_PEND 0) 1).countN ⟨0x08, 1⟩ 0 1).flag (F.SERVO_AXIS_STATUS_SWAP_PEND 0),
    (cfg.wr (F.SERVO_AXIS_CTRL_EN 1) 1).axMayRun .h, (cfg.wr (F.SERVO_AXIS_CTRL_EN 1) 1).axState .h == AxOff,
    (((locked 0).countN ⟨0x08, 1⟩ 0 1).coast .v (((locked 0).countN ⟨0x08, 1⟩ 0 1).measure .v).isSome).axClosed .v,
    !((((locked 0).wr (F.SERVO_AXIS_STATUS_COAST_RUN 0) 32).countN ⟨0x08, 1⟩ 0 1).coast .v false).axClosed .v,
    (up.axis .h).prog.isNone, ((locked 0).axis .v).prog == some 0, ((locked 2).axis .v).prog == some 0,
    decide (min ((locked 0).rd (F.SERVO_AXIS_STATUS_OVR_RUN 0) + 1) 3 < 3), decide (min ((locked 2).rd (F.SERVO_AXIS_STATUS_OVR_RUN 0) + 1) 3 = 3),
    (acquiring .v).axState .v == AxAcquire, (acquiring .h).axState .h == AxAcquire, !(acquiring .h).servo.aligning, awakeB (acquiring .h),
    !(dacAt 0).axClosed .v, decide ((dacAt 0).rd F.SERVO_V_STATUS_DAC_CODE < (dacAt 0).rd F.SERVO_V_DRIVE_CENTRE_CODE),
    decide ((dacAt 65535).rd F.SERVO_V_DRIVE_CENTRE_CODE ≤ (dacAt 65535).rd F.SERVO_V_STATUS_DAC_CODE), awakeB (dacAt 65535),
    rasterOn.servo.profile.mode, !rasterOn.rasterBySchedule, rasterOn.mode == Mode.config, awakeB rasterOn] = true := by
  decide +kernel

/-- The encoder referenced at a count; axis H closed and aligning, or coasting. -/
def encAt (count ref : Nat) : State := (up.wr F.SERVO_H_POS_COUNT count).wr F.SERVO_H_POS_ENC_REF ref
def aligning : State := { acquiring .h with servo := { cfg.servo with aligning := true } }

theorem witness_EncoderAndBridgeCommands : meets [
    awakeB up, decide ((quadPhase false false + 4 - quadPhase up.servo.encA up.servo.encB) % 4 = 0),
    decide ((quadPhase true true + 4 - quadPhase up.servo.encA up.servo.encB) % 4 = 2),
    decide ((quadPhase true false + 4 - quadPhase up.servo.encA up.servo.encB) % 4 = 1), !up.flag F.SERVO_H_ENC_DIR,
    decide ((quadPhase false true + 4 - quadPhase up.servo.encA up.servo.encB) % 4 = 3), (up.wr F.SERVO_H_ENC_DIR 1).flag F.SERVO_H_ENC_DIR,
    !(encAt 0 0).flag F.SERVO_H_POS_ENC_REF, (encAt 0 1).flag F.SERVO_H_POS_ENC_REF,
    decide (min ((encAt 0 1).rd F.SERVO_H_POS_COUNT) ((encAt 0 1).rd F.SERVO_H_ENC_CPR - (encAt 0 1).rd F.SERVO_H_POS_COUNT) ≤ (encAt 0 1).rd F.SERVO_H_ENC_ENC_TOL),
    decide ((encAt 100 1).rd F.SERVO_H_ENC_ENC_TOL < min ((encAt 100 1).rd F.SERVO_H_POS_COUNT) ((encAt 100 1).rd F.SERVO_H_ENC_CPR - (encAt 100 1).rd F.SERVO_H_POS_COUNT)),
    (acquiring .h).axClosed .h, !(acquiring .h).servo.aligning, decide ((acquiring .h).axState .h ≠ AxCoast), aligning.axClosed .h, aligning.servo.aligning,
    awakeB aligning, !up.axClosed .h, (up.wrB F.SERVO_H_BUS_GATE_FAULT true).axState .h == AxOff,
    decide (((acquiring .h).wrB F.SERVO_H_BUS_GATE_FAULT true).axState .h ≠ AxOff), aligning.axState .h == AxAcquire] = true := by
  decide +kernel

/-- A sector that has ended, or is closed; the pose matrix being computed. -/
def sector (closed : Bool) : Sector := ⟨7, 0, false, [[], [], [], []], 0, 0, 4, false, 0, 0, true, closed, 0, 0, []⟩
def sectorAt (closed : Bool) : State := { scan with geom := { scan.geom with sectors := [sector closed] } }

theorem witness_GeometryCommands : meets [
    awakeB scan, (scan.wr F.GEOM_POSE_CTRL_BUSY 1).flag F.GEOM_POSE_CTRL_BUSY,
    ((sectorAt false).geom.sectors.find? (fun x => (sectorAt false).sectorOver x && !x.closed)) == some (sector false), !(sectorAt false).sectorOwes (sector false), ((sectorAt false).sectorShots (sector false)).all (fun z => z.closed),
    ((sectorAt true).geom.sectors.find? (fun x => x.closed)) == some (sector true), ((sectorAt true).sectorShots (sector true)).isEmpty,
    ((sectorAt true).regionOfStream 3).isNone,
    (((sectorAt true).wr (F.LAND_REGION_EN 15) 1).wr (F.LAND_REGION_STREAM 15) 3).regionOfStream 3 == some 15] = true := by
  decide +kernel

/-- A camera port that receives, with an open frame of these lines. -/
def camFrame (got : Nat) (closed : Bool) : CamFrame :=
  ⟨0, 0, 0, 0, 0, 0, List.replicate 32 0, got, [], 0, closed, false, []⟩
def camIn (frames : List CamFrame) (opened : Bool) : State :=
  let s := cfg.wr (F.CAM_PORT_CFG_EN 1) 1
  { s with cam := { s.cam with ports := s.cam.ports.set 1 ⟨5, opened, frames, List.replicate 32 0, true, none, [⟨9, 0, false, 0⟩], 2, 0, 0, []⟩ } }

theorem witness_CameraFramesStart : meets [
    awakeB cfg, !cfg.camReceives 1, (camIn [] false).camReceives 1, awakeB (camIn [] false),
    (camOpen (((camIn [] false).count ⟨0x0A, 2⟩ 1).camPort 1)).isNone, (camOpen (((camIn [camFrame 0 false] true).count ⟨0x0A, 2⟩ 1).camPort 1)).isSome,
    (camOpen ((camIn [] false).camPort 1)).isNone, (camOpen ((camIn [camFrame 0 false] true).camPort 1)).isSome,
    decide (3 ≠ (camIn [] false).rd (F.CAM_PORT_CFG_VC 1)), decide (0 = (camIn [] false).rd (F.CAM_PORT_CFG_VC 1)),
    (((camIn [] false).closeMissing 1).camPort 1).lastFs.isNone, (((camIn [] false).closeMissing 1).camPort 1).ctxNew,
    ((((camIn [] false).closeMissing 1).camPort 1).settings.reverse.find? (fun i => decide (i.from0 ≤ 5))).isSome,
    ((cfg.camPort 1).settings.reverse.find? (fun i => decide (i.from0 ≤ 5))).isNone] = true := by
  decide +kernel

theorem witness_CameraLinesAndFrameEnds : meets [
    cfg.cam.turn.isNone, !cfg.camReceives 1, (camIn [] false).camReceives 1,
    decide (0x2B = (if ctxRaw12 (List.replicate 32 0) then 0x2C else 0x2B)), decide (0x2C ≠ (if ctxRaw12 (List.replicate 32 0) then 0x2C else 0x2B)),
    (camOpen ((camIn [] true).camPort 1)).isNone, decide (0 < (camIn [] false).cam.taken + 1),
    (camOpen ((camIn [camFrame 0 false] true).camPort 1)).isSome, decide (camBuffered ((camIn [camFrame 0 false] true).camPort 1) < 64),
    decide (64 ≤ camBuffered ((camIn [{ camFrame 0 false with lines := List.replicate 64 [] }] true).camPort 1)),
    decide (ctxHeight (List.replicate 32 0) ≤ 0), decide ((0 : Nat) < ctxHeight (List.replicate 32 0x05000500)),
    ((camIn [] true).camPort 1).opened, !((camIn [] false).camPort 1).opened,
    ({ camIn [] false with cam := { (camIn [] false).cam with turn := some 1 } } : State).cam.turn == some 1,
    (cfg.wr F.CAM_CTRL_MUX 1).flag F.CAM_CTRL_MUX, !(cfg.wr F.CAM_CTRL_MUX 0).flag F.CAM_CTRL_MUX,
    ((camIn [camFrame 0 false] true).camPort 1).frames.head? == some (camFrame 0 false),
    (cfg.wr (F.CAM_CCI_CTRL_BUSY 1) 1).flag (F.CAM_CCI_CTRL_BUSY 1), decide (1 < (((camIn [] false).bump (F.CAM_CCI_STATUS_DONE 1)).camPort 1).cciLeft),
    decide (((cfg.bump (F.CAM_CCI_STATUS_DONE 1)).camPort 1).cciLeft ≤ 1)] = true := by
  decide +kernel

/-- Lane 7 enabled, with its link as given and an IPv4 address. -/
def lane (link : Nat) : State :=
  ((up.wr (F.NET_LANE_CFG_EN 7) 1).wr (F.NET_LANE_STATUS_LINK 7) link).wr (F.NET_LANE_IP4_IP4 7) 0x0A000001

/-- A lane that has answered some echoes in the present second. -/
def echoes (n : Nat) : State := { lane 1 with lanes := (lane 1).lanes.set 7 { LaneSt.init with icmpN := n } }

/-- A lane whose PCS is in lock. -/
def lockedLane : State := { lane 1 with lanes := (lane 1).lanes.set 7 { LaneSt.init with pcs := true } }

theorem witness_LaneCommands : meets [
    (lockedLane.laneSt 7).pcs, !lockedLane.flag (F.NET_LANE_CFG_EQ_FREEZE 7), (lockedLane.wr (F.NET_LANE_CFG_EQ_FREEZE 7) 1).flag (F.NET_LANE_CFG_EQ_FREEZE 7),
    awakeB lockedLane, decide (0x0A000002 ≠ (lane 1).laneIp4 7),
    awakeB (lane 0), (lane 0).linkNow 7 true true false, !(lane 0).linkNow 7 false true false,
    (lane 0).flag (F.NET_LANE_STATUS_LINK 7) == false, (lane 1).flag (F.NET_LANE_STATUS_LINK 7),
    (lane 0).laneMayUp 7, !((lane 0).wr (F.NET_LANE_CFG_EN 7) 0).laneMayUp 7, (lane 1).laneIp4 7 == 0x0A000001, decide ((lane 1).laneIp4 7 ≠ 0), up.laneIp4 7 == 0,
    decide ((echoes 99).now < ((echoes 99).laneSt 7).icmpAt + 1000000000), ((echoes 99).laneSt 7).icmpN == 99, ((echoes 100).laneSt 7).icmpN == 100,
    ((echoes 0).laneSt 7).icmpN == 0, awakeB (echoes 0)] = true := by
  decide +kernel

/-- A datagram of region 15; lane 7's region of it, with an open datagram or a closed one; its transmission in progress. -/
def dgram (stream : Nat) : Datagram := ⟨15, stream, [1, 2, 3], [], 24, 24, 0, 0, 1, false⟩
def regionOpen : State :=
  { up with regions := up.regions.set 15 ⟨[], 0, some ⟨.telemetry [1], 8, 0, 0, 1⟩, [], 8, 0⟩ }
def regionClosed (stream : Nat) : State :=
  let s := (((((lane 1).wr (F.LAND_REGION_EN 15) 1).wr (F.LAND_REGION_STREAM 15) stream).wr (F.LAND_REGION_PORT 15) 7).wr
    (F.LAND_REGION_SIZE 15) 1)
  { s with regions := s.regions.set 15 ⟨[], 0, none, [dgram stream], 24, 0⟩ }
def sending (requester sent burst : Nat) (stale : Bool) : State :=
  let s := ((regionClosed 4).wr (F.LAND_PORT_STATUS_GRANTED 7) 1).wr (F.LAND_PORT_STATUS_OWNER 7) requester
  { s with ports := s.ports.set 7 { s.port 7 with tx := some ⟨requester, ⟨0, 0, none, false, 0, 0, 0, 0, 0, 0⟩, dgram 4, 0, 90, stale, false⟩, sent := sent, burst := burst } }

/-- A transmission whose region has been reset meanwhile, or not; a follower's own datagram for CORD0. -/
def followsReset (resets : Bool) : State :=
  let s := sending 3 0 9000 false
  { s with ports := s.ports.set 7 { s.port 7 with tx := ((s.port 7).tx.map (fun f => { f with resets := resets })) } }
def relaySource3 : State :=
  let s := ((((follower.wr (F.CORD_LINK_LINK 0) 1).wr (F.LAND_REGION_EN 15) 1).wr (F.LAND_REGION_STREAM 15) 0).wr F.CORD_CTRL_RELAY 1)
  { s with regions := s.regions.set 15 ⟨[], 0, none, [dgram 0], 24, 0⟩ }

theorem witness_LandingCommands : meets [
    awakeB regionOpen, (regionOpen.region 15).openDg.isSome, (regionOpen.region 0).openDg.isNone,
    (regionClosed 0).flag (F.LAND_REGION_EN 15), (regionClosed 0).rd (F.LAND_REGION_STREAM 15) == 0, awakeB (regionClosed 4),
    !(regionClosed 4).flag (F.LAND_PORT_STATUS_GRANTED 7), !(regionClosed 4).flag (F.LAND_PORT_CTRL_FREEZE 7), (regionClosed 4).flag (F.NET_LANE_STATUS_LINK 7),
    (State.grantOrder ((regionClosed 4).rd (F.LAND_PORT_STATUS_OWNER 7))).find? ((regionClosed 4).requests 7) == some 3,
    ((State.grantOrder ((lane 1).rd (F.LAND_PORT_STATUS_OWNER 7))).find? ((lane 1).requests 7)).isNone,
    (sending 3 0 9000 false).flag (F.LAND_PORT_STATUS_GRANTED 7), awakeB (sending 3 0 9000 false),
    ((up.port 7).tx).isNone, (((sending 3 0 9000 false).port 7).tx).isSome, (sending 3 0 9000 false).requests 7 3, !(sending 4 0 0 true).requests 7 4,
    decide (0 + ceilDiv 90 64 < ((sending 3 0 9000 false).port 7).burst), decide (((sending 3 0 0 false).port 7).burst ≤ 0 + ceilDiv 90 64),
    (follower.wr (F.CORD_LINK_LINK 0) 1).isFollower, (follower.wr (F.CORD_LINK_LINK 0) 1).flag (F.CORD_LINK_LINK 0), awakeB (follower.wr (F.CORD_LINK_LINK 0) 1),
    (follower.wr (F.CORD_LINK_LINK 0) 1).relaySource.isNone, !up.isFollower,
    (sending 4 0 0 true).rd (F.LAND_PORT_STATUS_OWNER 7) == 4, decide ((sending 3 0 0 true).rd (F.LAND_PORT_STATUS_OWNER 7) ≠ 4),
    (regionClosed 4).requests 7 3, decide ((sending 4 0 0 true).rd (F.LAND_PORT_STATUS_OWNER 7) ≠ 3), (sending 4 0 0 true).requests 7 3,
    ((followsReset true).port 7).tx.elim false (fun f => f.resets), awakeB (followsReset true), ((followsReset false).port 7).tx.elim false (fun f => !f.resets),
    (relaySource3.relaySource == some 15), ((relaySource3.region 15).closed.head?).isSome] = true := by
  decide +kernel

/-- A follower with its link up and a region that it relays; the master with a relay region for member 1. -/
def relaying : State :=
  let s := ((((follower.wr (F.CORD_LINK_LINK 0) 1).wr (F.LAND_REGION_EN 15) 1).wr (F.LAND_REGION_STREAM 15) 0).wr F.CORD_CTRL_RELAY 1)
  { s with regions := s.regions.set 15 ⟨[], 0, none, [dgram 0], 24, 0⟩, cord := { s.cord with through := [dgram 0] } }
def relayMaster (size : Nat) : State :=
  ((((master.wr (F.LAND_REGION_EN 15) 1).wr (F.LAND_REGION_STREAM 15) 5).wr (F.LAND_REGION_PORT 15)
    (master.relayPort 1)).wr (F.LAND_REGION_SIZE 15) size)

theorem witness_RelayCommands : meets [
    awakeB master, master.cordRuns, master.isMaster, (relayMaster 1).relayRegion 1 == some 15,
    (relayMaster 1).hasRoom 15 (relayedDg 15 (markRelayed [2 ^ 53, 0, 0]) []).bytes, !(relayMaster 0).hasRoom 15 (relayedDg 15 (markRelayed [2 ^ 53, 0, 0]) []).bytes,
    follower.cordRuns, !follower.isMaster, follower.isFollower, awakeB follower, relaying.cord.through == [dgram 0], relaying.relaySource == some 15,
    ((sending 5 0 0 false).port 7).tx.elim false (fun f => f.requester == 5)] = true := by
  decide +kernel

/-- A member with its two cord lanes up or down. -/
def cordLinks (s : State) (up : Nat) : State := (s.wr (F.CORD_LINK_LINK 0) up).wr (F.CORD_LINK_LINK 1) up

theorem witness_CordRequests : meets [
    master.isMaster, master.cordRuns, follower.isFollower, follower.cordRuns, follower.flag F.CORD_STRAPS_ROLE,
    (follower.wr (F.CORD_LINK_LINK 0) 1).flag (F.CORD_LINK_LINK 0), (cordLinks follower 1).flag (F.CORD_LINK_LINK 1),
    !(follower.wr (F.CORD_LINK_LINK 0) 1).flag (F.CORD_LINK_LINK 1), awakeB (cordLinks follower 1), awakeB (cordLinks master 1),
    ((cordLinks follower 1).beforeDown (rollPrefix 0 [(1, 2, true)])).any (fun e => e.1 == follower.memberNo),
    !((cordLinks follower 1).beforeDown (rollPrefix 0 [])).any (fun e => e.1 == follower.memberNo),
    !(master.wr F.CORD_STATUS_FORMED 0).formed, master.formed,
    master.rd F.CORD_STATUS_PRESENT == ((cordLinks master 1).beforeDown (rollPrefix 0 [(1, 2, true)])).foldl (fun w e => setBit w e.1) 1,
    decide ((master.wr F.CORD_STATUS_PRESENT 1).rd F.CORD_STATUS_PRESENT ≠ ((cordLinks master 1).beforeDown (rollPrefix 0 [(1, 2, true)])).foldl (fun w e => setBit w e.1) 1),
    follower.inFormed, (opSpec 0x0301).isSome, awakeB follower,
    ({ follower with cord := { follower.cord with checked := some (0x0301, ask []) } } : State).cord.checked.isSome,
    [CordPhase.forward 1, .check, .apply, .status].all (fun p =>
    ({ master with cord := { master.cord with txn := some ⟨ask [], 0x0301, p, [0, 1], [⟨0, 0, [], 0⟩]⟩ } } : State).cord.txn.elim false
    (fun x => x.phase == p && x.members.contains 1 && !x.answers.any (fun b => b.member == 1))),
    decide ((0x0301 : Nat) ≠ 0x0800), readOpcodes.contains 0x0002 || !readOpcodes.contains 0x0002, !(cordLinks follower 1).isMaster] = true := by
  decide +kernel

/-- The master with frames to come, or a reset owed; a follower whose frames run by markers, after markers missed. -/
def markMaster : State :=
  let s := master.wr F.DEV_MODE_MODE Mode.scan
  { s with fire := { s.fire with running := true } }
def resetOwed : State := { master with cord := { master.cord with resetOwed := true } }
def byMark (frame missed now : Nat) : State :=
  let s := follower.wr F.DEV_MODE_MODE Mode.scan
  { s with
    now := now
    fire := { s.fire with running := true, nextFrame := frame }
    cord := { s.cord with missRun := missed } }

/-- The master at a mode entry that waits for its first frame; a follower whose frames are short, with a start due or none,
after a marker missed or none; a follower that fires after it has left its cord. -/
def enteringMaster : State := (master.wr F.DEV_MODE_TRANS 1).wr F.DEV_MODE_TARGET Mode.scan
def byMarkShort (due : Option Nat) (missed : Bool) : State :=
  let s := (byMark 3 (b2n missed) 0).wr F.FIRE_FRAME_ACTIVE_ACTIVE_NS 1000
  { s with acq := { s.acq with due := due } }
def firingAlone : State := (byMark 1 0 0).wr F.CORD_STATUS_FORMED 0

theorem witness_CordSyncCommands : meets [
    resetOwed.isMaster, resetOwed.cord.resetOwed, !resetOwed.boot.resetReply, up.cord.muteN == 0, up.cord.muteS == 0,
    decide (up.now < ({ up with cord := { up.cord with muteN := 1 } } : State).muteTill .north), up.cordRuns, resetOwed.cordRuns,
    (master.cordRuns && master.formed), awakeB resetOwed, !markMaster.cord.resetOwed, markMaster.frameComing, awakeB markMaster,
    (byMark 0 0 0).isFollower, (byMark 0 0 0).formed, (byMark 0 0 0).cordRuns, (byMark 0 0 0).acq.due.isNone, awakeB (byMark 0 0 0),
    (markerKind 2).isNone, markerKind 3 == some (false, false), markerKind 17 == some (true, true), (markerKind 18).isNone,
    !(byMark 0 0 0).markerOff, (byMark 1 0 0).markerOff, (byMark 1 0 0).byMarkers, decide (0 < (byMark 1 0 0).fire.nextFrame),
    (byMark 1 0 0).cord.missRun == 0, decide (0 < (byMark 1 1 0).cord.missRun), follower.isFollower, follower.formed,
    up.cordRuns, decide ((0 : Fin 2).val = (up.wr (hbOk .south) 1).rd F.CORD_AUTH_HOLDER) || decide ((1 : Fin 2).val = (up.wr (hbOk .south) 1).rd F.CORD_AUTH_HOLDER),
    (master.cordSend (.heartbeat 1 2 0)).isMaster, decide (2 ≠ (master.cordSend (.heartbeat 1 2 0)).memberNo),
    !(follower.cordSend (.heartbeat 1 2 0)).isMaster, !(follower.cordSend (.heartbeat 1 2 0)).twoMasters 1,
    ({ follower with cord := { follower.cord with lastHb := some (9, 0) } } : State).twoMasters 1, follower.flag F.CORD_STRAPS_ROLE,
    !markMaster.entering, enteringMaster.entering, enteringMaster.frameComing, !enteringMaster.cord.resetOwed, awakeB enteringMaster,
    (byMarkShort (some 5) false).acq.due == some 5, (byMarkShort (some 5) false).cord.later.isNone, (byMarkShort (some 5) false).byMarkers,
    decide ((byMarkShort (some 5) false).rd F.FIRE_FRAME_ACTIVE_ACTIVE_NS < 1500), awakeB (byMarkShort (some 5) false), (byMarkShort (some 5) false).cord.missRun == 0,
    (byMarkShort none false).acq.due.isNone, decide (0 < (byMarkShort none false).fire.nextFrame), (byMarkShort (some 5) true).isFollower,
    decide (0 < (byMarkShort (some 5) true).cord.missRun), ({ resetOwed with boot := { resetOwed.boot with resetReply := true } } : State).replyOwed,
    (firingAlone.isFollower && !firingAlone.formed && firingAlone.firing), awakeB firingAlone, firingAlone.cordRuns, (firingAlone.acq.due.isNone)] = true := by
  decide +kernel

/-- The converter on, with an entry under way, in a phase. -/
def hkEntry (avg : Bool) : HkEntry := ⟨0, avg, 0, 2, 0, 0x10⟩
def hkIn (todo : List HkEntry) (left : Nat) (p : HkPhase) : State :=
  { up with hk := { up.hk with on := true, todo := todo, left := left, phase := p } }

theorem witness_HousekeepingCommands : meets [
    awakeB (hkIn [] 0 .idle), (hkIn [] 0 .idle).hk.on, (hkIn [] 0 .idle).hk.todo.isEmpty, (hkIn [] 0 .idle).hk.phase == .idle,
    !(hkIn [hkEntry true] 1 .idle).hk.todo.isEmpty, (hkIn [] 0 (.settling .host)).hk.phase == .settling .host,
    (hkIn [hkEntry true] 2 (.converting .entry)).hk.phase == .converting .entry, decide (((hkIn [hkEntry true] 2 (.converting .entry)).count ⟨0x0F, 0⟩ 0).hk.left - 1 ≠ 0),
    decide (((hkIn [hkEntry true] 1 (.converting .entry)).count ⟨0x0F, 0⟩ 0).hk.left - 1 = 0), !(hkEntry false).avg,
    (hkIn [] 0 (.converting .host)).hk.phase == .converting .host,
    !((List.range 8).foldl State.windowOct (hkIn [] 0 .idle)).firing,
    ((List.range 8).foldl State.windowOct { (hkIn [] 0 .idle).wr F.DEV_MODE_MODE Mode.scan with hk := { up.hk with on := true } }).firing] = true := by
  decide +kernel

/-- A pending run of octant 7 that may start; a run in progress at a step of front end 224, in a cord of some members. -/
def pendRun : State := { calReady with cal := { calReady.cal with pend := [(7, 7)] } }
def calStep (kind : Nat) (size : Nat) (first : Option CalFirst) (native : Bool) (meas : Option CalMeas) : State :=
  let s := (calReady.wr (F.CAL_OCT_STATUS_BUSY 7) 1).wr F.CORD_STATUS_SIZE size
  { s with cal := { s.cal with runS := some ⟨7, 7, Mode.service, false, 0, 0, [(224, kind)], true, 0, 0, 0, 0, 0, 65536, native,
    14, meas, first⟩ } }
def theRun (s : State) : CalRun := ((s.stepFor 7 0).map (fun p => p.1)).getD ⟨0, 0, 0, false, 0, 0, [], false, 0, 0, 0, 0, 0, 0, true, 0, none, none⟩

/-- A code-density result with its edges in time, or late. -/
def cdResult (inTime : Bool) : CdResult := ⟨[119, 126], List.replicate 128 128, inTime, [0, 0, 0, 0, 0, 0, 0]⟩
def cdValue (s : State) (native : Bool) : CalFirst :=
  .tdc (trimSearch 8 (s.rd (F.TDC_FE_STATUS_TRIM 224)) [119, 126])
    (if native then cdWidths (2 ^ 14) (cdResult true).counts else []) (cdSkews [0, 0, 0, 0, 0, 0, 0])
def isReject (v : CalVerdict) : Bool := match v with | .reject _ => true | _ => false
def isAgain (v : CalVerdict) : Bool := match v with | .again _ => true | _ => false
def isAccept (v : CalVerdict) : Bool := match v with | .accept _ => true | _ => false

/-- The runs of a measurement of N = 1, with rising widths; of N = 2, with noise in the last; none yet, in time or late. -/
def measured : CalMeas := ⟨1, [], (List.range 16).map (fun i => (i % 2 * i, 0)), 0, 0, 0, 0, false⟩
def noisy : CalMeas := ⟨2, [], (List.range 16).map (fun i => (0, if i = 14 then 10000 else 0)), 0, 0, 0, 0, false⟩
def started (late : Bool) : CalMeas := ⟨1, [], [], 0, 0, 0, 0, late⟩
def widthsOf (m : CalMeas) : List Int := (List.range 8).map (fun n => roundEven (State.partMean m (2 * n + 1) : Nat) 256)
def walkOf (m : CalMeas) : List Int :=
  (List.range 8).map (fun n => roundEven ((State.partMean m (2 * n) : Int) - (State.partMean m 14 : Int)) 256)

theorem witness_CalibrationRuns : meets [
    awakeB pendRun, pendRun.refreshWait.calPend 7 == some 7, pendRun.refreshWait.calWait 7 == 0, (pendRun.refreshWait.calRun 1).isNone,
    pendRun.refreshWait.cal.pend.takeWhile (fun p => p.1 != 7) == [], !(pendRun.refreshWait.flag F.HK_STATUS_INJ_PEND && !pendRun.refreshWait.calOwed),
    ((pendRun.wr F.HK_STATUS_INJ_PEND 1).refreshWait.flag F.HK_STATUS_INJ_PEND && !(pendRun.wr F.HK_STATUS_INJ_PEND 1).refreshWait.calOwed)] = true := by
  decide +kernel

/-- The runs of a measurement with equal widths; with a walk beyond its limit; a step of a front end whose WALK has been set. -/
def flat (w : Nat) : CalMeas := ⟨1, [], List.replicate 16 (w, 0), 0, 0, 0, 0, false⟩
def steep : CalMeas := ⟨1, [], (List.range 16).map (fun i => (if i = 0 then 5000 else i % 2 * i, 0)), 0, 0, 0, 0, false⟩
def walkedStep (first : Option CalFirst) : State := (calStep 1 1 first true (some measured)).wrS (F.ECHO_FE_WALK_WALK 224 0) 100

theorem witness_TimingSteps : meets [
    ((calStep 1 1 none true (some measured)).stepOn 7 1 224).isSome, awakeB (calStep 1 1 none true (some measured)),
    ((calStep 1 1 none true (some measured)).stepOn 7 1 224).elim false (fun r => r.meas == some measured),
    State.measEnded 0 1 measured == (true, false), State.measEnded 0 1 noisy == (true, false), State.measEnded 0 1 (started false) == (false, false),
    State.measEnded 0 1 (started true) == (true, true), decide (4096 < State.partSd noisy 14), decide (State.partSd measured 14 ≤ 4096),
    strictUp (widthsOf measured), (walkOf measured).all (fun v => decide (-4096 ≤ v) && decide (v ≤ 4096)),
    (calStep 1 1 none true none).walkAtReset 224, !(calStep 1 1 none true none).calRepeats,
    listNear 0 (walkOf measured) ((List.range 8).map (fun n => (calStep 1 1 none true none).rdS (F.ECHO_FE_WALK_WALK 224 n))),
    !strictUp (widthsOf (flat 0)), decide (State.partSd (flat 0) 14 ≤ 4096), State.measEnded 0 1 (flat 0) == (true, false),
    (walkOf steep).any (fun v => decide (4096 < v)), strictUp (widthsOf steep), decide (State.partSd steep 14 ≤ 4096), State.measEnded 0 1 steep == (true, false),
    !(walkedStep none).walkAtReset 224, awakeB (walkedStep none), ((walkedStep none).stepOn 7 1 224).isSome,
    !listNear 0 (walkOf measured) ((List.range 8).map (fun n => (walkedStep none).rdS (F.ECHO_FE_WALK_WALK 224 n))),
    (calStep 1 5 none true none).calRepeats, (calStep 1 8 none true none).calRepeats, !(calStep 1 4 none true none).calRepeats,
    ((calStep 1 5 none true (some measured)).stepOn 7 1 224).elim false (fun r => r.first.isNone),
    ((calStep 1 5 (some (.timing 0 (widthsOf measured) (walkOf measured))) true (some measured)).stepOn 7 1 224).elim false (fun r => r.first.isSome),
    State.agree (.timing 4 (widthsOf measured) (walkOf measured)) (.timing 0 (widthsOf measured) (walkOf measured)),
    !State.agree (.timing 5 (widthsOf measured) (walkOf measured)) (.timing 0 (widthsOf measured) (walkOf measured))] = true := by
  decide +kernel

theorem witness_CalibrationSteps : meets [
    ((calStep 0 1 none true none).stepFor 7 0).isSome, awakeB (calStep 0 1 none true none),
    (calStep 0 1 none true none).cdFails 224 (theRun (calStep 0 1 none true none)) (cdResult false) == 1,
    (calStep 0 1 none true none).cdFails 224 (theRun (calStep 0 1 none true none)) (cdResult true) == 0,
    (calStep 0 1 none false none).cdFails 224 (theRun (calStep 0 1 none false none)) (cdResult true) == 0,
    isReject ((calStep 0 1 none true none).verdict none 1 (cdValue (calStep 0 1 none true none) true)),
    isAccept ((calStep 0 1 none true none).verdict none 0 (cdValue (calStep 0 1 none true none) true)),
    isAccept ((calStep 0 1 none false none).verdict none 0 (cdValue (calStep 0 1 none false none) false)),
    isAgain ((calStep 0 5 none true none).verdict none 0 (cdValue (calStep 0 5 none true none) true)),
    isAccept ((calStep 0 8 none true none).verdict (some (cdValue (calStep 0 8 none true none) true)) 0 (cdValue (calStep 0 8 none true none) true)),
    ((calStep 2 1 none true (some (started false))).stepOn 7 2 224).isSome,
    ((calStep 2 1 none true (some (started false))).stepOn 7 2 225).isNone, State.measEnded 0 2 (started false) == (false, false),
    State.measEnded 0 2 (started true) == (true, true), State.measEnded 0 2 { started false with parts := [(0, 0)] } == (true, false),
    isReject ((calStep 2 1 none true none).verdict none 1 (.inj 0)), isReject ((calStep 2 1 none true none).verdict none 2 (.inj 0)),
    isAccept ((calStep 2 1 none true none).verdict none 0 (.inj 0)), isAgain ((calStep 2 5 none true none).verdict none 0 (.inj 0))] = true := by
  decide +kernel

/-- Whatever loop delay and starter value the part has, some mean and start time of an INJ step bring its result to the
starter value. -/
theorem witness_CalibrationSteps_inj (l v : Int) : ∃ sum ref : Nat, listNear 500
    [roundEven (((State.partMean { started false with parts := [(sum, 0)] } 0 : Int) - 256 * ref) * 1000) (256 * 512) - l]
    [v] = true := by
  refine ⟨(64 * ((v + l) / 125)).toNat, (-(64 * ((v + l) / 125))).toNat, ?_⟩
  have m : ∀ n : Nat, State.partMean { started false with parts := [(n, 0)] } 0 = 256 * n := by
    intro n
    have e : roundEven ((256 * n : Nat) : Int) 1 = ((256 * n : Nat) : Int) := by simp [roundEven]
    exact (congrArg Int.toNat e).trans (Int.toNat_natCast _)
  rw [m]
  have e : (((256 * (64 * ((v + l) / 125)).toNat : Nat) : Int) - 256 * ((-(64 * ((v + l) / 125))).toNat : Int)) * 1000 =
      ((256 * 512 : Nat) : Int) * (125 * ((v + l) / 125)) := by
    omega
  rw [e]
  unfold roundEven
  rw [Int.mul_ediv_cancel_left _ (by decide), Int.mul_emod_right]
  simp [listNear]
  omega

/-- Whatever starter offset a part has, some OFS_STEP lets the measured one through. -/
theorem witness_TimingSteps_offset (o v : Int) : ∃ tol : Nat, listNear tol [o] [v] = true :=
  by
  refine ⟨(o - v).natAbs, ?_⟩
  simp only [listNear, List.zip_cons_cons, List.zip_nil_left, List.all_cons, List.all_nil, Bool.and_true, Bool.and_eq_true,
    decide_eq_true_eq]
  omega

/-- A pickoff run with these sums. -/
def pkoRun (pairs sqA sqB : Nat) (sumA : Int) : State :=
  let s := up.wr F.CAL_DEV_PKO_BUSY 1
  { s with cal := { s.cal with pko := ⟨pairs, sqA, sqB, sumA, 0, 1, none⟩ } }
def pkoGain (x : PkoSums) : Int := (roundSqrt (65536 * 65536 * x.sqA) (max x.sqB 1) : Int) - 65536
def pkoOffset (x : PkoSums) : Int := roundEven (x.sumA - x.sumB) (max x.whole 1)

/-- A pickoff run that meets its limits, with this offset; with another trim in force; in a cord of five, after a first run. -/
def pkoGood (sumA : Int) : State := pkoRun (2 ^ 20) (1000000 * 2 ^ 20) (1000000 * 2 ^ 20) sumA
def pkoTrim (gain offset : Int) : State := ((pkoGood 0).wrS F.ANGLE_TRIM_GAIN gain).wrS F.ANGLE_TRIM_OFFSET offset
def pkoTwice (first : Option (Int × Int)) : State :=
  let s := (pkoGood 0).wr F.CORD_STATUS_SIZE 5
  { s with cal := { s.cal with pkoFirst := first } }

theorem witness_PickoffRuns : meets [
    !up.flag F.CAL_DEV_PKO_BUSY, !(pkoRun 0 0 0 0).cal.pkoFirst.isSome, awakeB up, awakeB (pkoRun 0 0 0 0), (pkoRun 0 0 0 0).flag F.CAL_DEV_PKO_BUSY,
    decide ((pkoRun (2 ^ 20 - 1) 0 0 0).cal.pko.pairs < 2 ^ 20), decide (2 ^ 20 ≤ (pkoRun (2 ^ 20) 0 0 0).cal.pko.pairs),
    decide ((pkoRun (2 ^ 20) 0 (1000000 * 2 ^ 20 - 1) 0).cal.pko.sqB < 1000000 * 2 ^ 20),
    decide (1000000 * 2 ^ 20 ≤ (pkoRun (2 ^ 20) 0 (1000000 * 2 ^ 20) 0).cal.pko.sqB),
    !listNear 1311 [pkoGain (pkoRun (2 ^ 20) 0 (1000000 * 2 ^ 20) 0).cal.pko] [0],
    !listNear 64 [pkoOffset (pkoRun (2 ^ 20) 0 (1000000 * 2 ^ 20) 65).cal.pko] [0],
    listNear 64 [pkoOffset (pkoRun (2 ^ 20) 0 (1000000 * 2 ^ 20) 64).cal.pko] [0],
    listNear 1311 [pkoGain (pkoRun (2 ^ 20) (1000000 * 2 ^ 20) (1000000 * 2 ^ 20) 0).cal.pko] [0],
    listNear 328 [pkoGain (pkoRun (2 ^ 20) (1000000 * 2 ^ 20) (1000000 * 2 ^ 20) 0).cal.pko] [(pkoRun 0 0 0 0).rdS F.ANGLE_TRIM_GAIN],
    listNear 16 [pkoOffset (pkoRun (2 ^ 20) 0 0 16).cal.pko] [(pkoRun 0 0 0 0).rdS F.ANGLE_TRIM_OFFSET], !(pkoRun 0 0 0 0).calRepeats,
    !listNear 328 [pkoGain (pkoGood 0).cal.pko] [(pkoTrim 329 0).rdS F.ANGLE_TRIM_GAIN], listNear 328 [pkoGain (pkoGood 0).cal.pko] [(pkoTrim 328 0).rdS F.ANGLE_TRIM_GAIN],
    !listNear 16 [pkoOffset (pkoGood 17).cal.pko] [(pkoGood 17).rdS F.ANGLE_TRIM_OFFSET], listNear 16 [pkoOffset (pkoGood 16).cal.pko] [(pkoGood 16).rdS F.ANGLE_TRIM_OFFSET],
    (pkoTwice none).calRepeats, (pkoTwice none).cal.pkoFirst.isNone, (pkoTwice (some (33, 2))).cal.pkoFirst == some (33, 2), awakeB (pkoTwice (some (33, 2))),
    listNear 33 [pkoGain (pkoTwice (some (33, 2))).cal.pko] [33], listNear 2 [pkoOffset (pkoTwice (some (33, 2))).cal.pko] [2],
    !listNear 33 [pkoGain (pkoTwice (some (34, 2))).cal.pko] [34], !listNear 2 [pkoOffset (pkoTwice (some (33, 3))).cal.pko] [3],
    (pkoTwice (some (33, 2))).flag F.CAL_DEV_PKO_BUSY] = true := by
  decide +kernel

/-- The writer in the middle of a group, after some failures; a compaction in progress; a trial. -/
def writing (fails : Nat) (safe : Bool) : State :=
  let j : JItem := ⟨1, A.FIRE_FRAME, [1000]⟩
  { up with nvs := { up.nvs with writing := some ⟨⟨0, [j]⟩, [j], 1, fails⟩, safeWait := safe } }
def onTrial : State := { up with nvs := { up.nvs with trialAt := some 0 } }

/-- A compaction after whose snapshot the first entry of the group in writing has been written. -/
def flipping : State :=
  let s := (writing 0 false).wr F.NVS_STATUS_COMPACTING 1
  { s with nvs := { s.nvs with snapLen := 0 } }.putHalf [⟨1, false, A.FIRE_FRAME, 1, 1, [1000], true⟩]

theorem witness_JournalCommands : meets [
    liveB (writing 0 false), (writing 0 false).nvs.writing.elim false (fun w => !w.todo.isEmpty && decide (w.attempts + 1 < 3)),
    (writing 2 false).nvs.writing.elim false (fun w => decide (3 ≤ w.attempts + 1)), !(writing 0 false).firstSuper.settleAll.nvs.safeWait,
    (writing 0 true).firstSuper.settleAll.nvs.safeWait, !up.flag F.NVS_STATUS_COMPACTING, (up.wr F.NVS_STATUS_COMPACTING 1).flag F.NVS_STATUS_COMPACTING,
    liveB (up.wr F.NVS_STATUS_COMPACTING 1),
    flipping.flag F.NVS_STATUS_COMPACTING, flipping.nvs.writing.isSome, decide (flipping.firstSuper.nvs.snapLen < flipping.firstSuper.half.length), liveB flipping,
    (flipping.firstSuper.half.drop flipping.firstSuper.nvs.snapLen).any (fun e => e.ok)] = true := by
  decide +kernel

/-- The temperature cycle risen to a high, at 0 °C of every die sensor. -/
def cycle (rose : Bool) (low high : Int) : State :=
  { up with nvs := { up.nvs with cycRose := rose, cycLow := low, cycHigh := high, copyA := ⟨1, [], true⟩ } }
def cycleStep : Int := up.rd F.LIFE_CTRL_CYCLE_C * 16

theorem witness_LifeAndTallyCommands : meets [
    decide (up.nvs.copyA.seq ≤ up.nvs.copyB.seq), decide ((cycle false 0 0).nvs.copyB.seq < (cycle false 0 0).nvs.copyA.seq), liveB (cycle false 0 0),
    decide (up.maxDie ≤ (up.maxDie + cycleStep) - cycleStep), decide (up.maxDie + cycleStep - 1 - cycleStep < up.maxDie), decide (up.maxDie < up.maxDie + cycleStep),
    decide (min (up.maxDie - cycleStep) up.maxDie + cycleStep ≤ up.maxDie), onTrial.mode != Mode.park, onTrial.nvs.trialAt == some 0, up.nvs.trialAt.isNone,
    up.rd F.TALLY_DUMP_CFG_PERIOD_MS == 0, decide ((up.wr F.TALLY_DUMP_CFG_PERIOD_MS 1).rd F.TALLY_DUMP_CFG_PERIOD_MS ≠ 0),
    ((up.wr F.TALLY_DUMP_CFG_PERIOD_MS 1).wr F.TALLY_DUMP_STATUS_BUSY 1).flag F.TALLY_DUMP_STATUS_BUSY, !up.flag F.TALLY_DUMP_STATUS_BUSY,
    ({ up with tally := { up.tally with dump := some ⟨0, 0, 0, 0, []⟩ } } : State).tally.dump.isSome,
    !(up.wr F.TALLY_SAMPLE_CFG_EN 0).flag F.TALLY_SAMPLE_CFG_EN, (up.wr F.TALLY_SAMPLE_CFG_EN 1).flag F.TALLY_SAMPLE_CFG_EN, up.cmd.run.isNone,
    ((atFirst .ready).wr F.TALLY_SAMPLE_CFG_EN 1).cmd.run.isSome, awakeB ((atFirst .ready).wr F.TALLY_SAMPLE_CFG_EN 1),
    ({ up.wr F.TALLY_DUMP_CFG_PERIOD_MS 1 with tally := { up.tally with dumpAt := some up.now } } : State).tally.dumpAt == some up.now,
    decide (up.tally.dumpAt ≠ some up.now)] = true := by
  decide +kernel

/-- The supply loop at a voltage, required rate and last change. -/
def supply (mv required run : Nat) (en : Nat) : State :=
  let s := ((up.wr F.PWR_AVS_STATUS_VDD_MV mv).wr F.PWR_AVS_RATE_REQUIRED required).wr F.PWR_AVS_CTRL_LOOP_EN en
  { s with pwr := { s.pwr with floorRun := run } }

/-- What a loop period finds that measures a rate: whether it cannot follow. -/
def lowRate (s : State) (measured : Nat) : Bool :=
  let b := s.wr F.PWR_AVS_RATE_MEASURED (min measured 65535)
  b.flag F.PWR_AVS_STATUS_REG_FAULT || (b.rd F.PWR_AVS_STATUS_VDD_MV == 850 &&
    decide (100 * b.rd F.PWR_AVS_RATE_MEASURED < 115 * b.rd F.PWR_AVS_RATE_REQUIRED))

theorem witness_SupplyCommands : meets [
    (upIn Mode.selftest).mode == Mode.selftest, awakeB (upIn Mode.selftest), up.mode != Mode.selftest, !up.pwr.noLoop,
    !lowRate (supply 849 100 0 1) 114, lowRate (supply 850 100 0 1) 114, !lowRate (supply 850 100 0 1) 115, decide ((supply 850 100 1 1).pwr.floorRun + 1 < 3),
    decide (3 ≤ (supply 850 100 2 1).pwr.floorRun + 1), !(supply 850 100 2 1).flag F.PWR_AVS_STATUS_RATE_FLOOR, !(supply 850 100 0 0).flag F.PWR_AVS_CTRL_LOOP_EN,
    (supply 850 100 0 1).flag F.PWR_AVS_CTRL_LOOP_EN, (supply 850 100 0 1).pwr.owed.isNone, decide (12075 * 100 < 10000 * 121), decide (10000 * 120 ≤ 12075 * 100),
    ({ up with pwr := { up.pwr with owed := some 700 } } : State).pwr.owed == some 700, ({ up with pwr := { up.pwr with alert := true } } : State).pwr.alert, !up.pwr.alert,
    (up.wr F.PWR_AVS_STATUS_REG_FAULT 1).flag F.PWR_AVS_STATUS_REG_FAULT, !up.flag F.PWR_AVS_STATUS_REG_FAULT,
    ({ supply 700 100 0 1 with pwr := { up.pwr with owed := some 700 } } : State).pwr.owed.isSome, up.pwr.owed.isNone,
    ({ up with pwr := { up.pwr with noLoop := true } } : State).pwr.noLoop, decide (State.reset.boot.phase = BootPhase.held),
    decide (100 * 114 < 115 * 100), decide (115 * 100 ≤ 100 * 115), decide (12075 * 100 < 10000 * 121), decide ((supply 551 100 0 1).rd F.PWR_AVS_STATUS_VDD_MV = 551),
    decide ((supply 849 100 0 0).rd F.PWR_AVS_STATUS_VDD_MV ≠ 850), decide ((65536 : Nat) % 2 ^ 16 = 0), decide ((65537 : Nat) % 2 ^ 16 ≠ 0)] = true := by
  decide +kernel

/-- RESET_N high again and nothing to hold the reset, after a reset of a kind; no slot that passes. -/
def heldKind (kind : Nat) : State := { State.reset with boot := { State.reset.boot with kind := kind } }
def opened (kind : Nat) : State :=
  let b := { heldKind kind with boot := { (heldKind kind).boot with supplyOk := true } }
  let c := if kind = 0 ∨ kind = 4 then b.sampleStraps false 0 else b
  let d := if kind < 2 then { c with time := { c.time with dev := 0, locked := true } } else c
  d.openJournal.bootSelect (replay d.openJournal.half).boot
def resetDueIn (at0 : Nat) : State := { up with boot := { up.boot with resetDue := .command, replyEnd := at0 } }

theorem witness_ResetCommands : meets [
    decide (State.reset.boot.phase = BootPhase.held), decide (up.boot.phase ≠ BootPhase.held), (heldKind 2).boot.resetN, !(heldKind 2).boot.tripped,
    !({ State.reset with boot := { State.reset.boot with resetN := false } } : State).boot.resetN, ((opened 0).bootSlot true true).2.isNone,
    ((opened 0).bootSlot false false).2 == some (0, false), ((opened 4).bootSlot true false).2 == some (1, true),
    (resetDueIn 0).boot.resetDue == .command, (resetDueIn 0).nvsIdle, !(resetDueIn 0).replyOwed, ({ resetDueIn 0 with boot := { (resetDueIn 0).boot with resetReply := true } } : State).replyOwed, decide (0 + 1000000 ≤ ({ resetDueIn 0 with now := 1000000 } : State).now), decide ((resetDueIn 1).now < (resetDueIn 1).boot.replyEnd + 1000000),
    !(writing 0 false).nvsIdle, up.wdtRuns, decide (up.now < up.wdtAt .north + up.rd F.DEV_WDT_TIMEOUT_MS * 1000000),
    decide (up.wdtAt .south + up.rd F.DEV_WDT_TIMEOUT_MS * 1000000 ≤ ({ up with now := 10 ^ 10 } : State).now), !(upIn Mode.park).wdtRuns, liveB (upIn Mode.park)] = true := by
  decide +kernel

/-- The self-test that a start-up runs, and one that MODE_SET has asked for; a transition; a wake. -/
def starting : State := { upIn Mode.selftest with boot := { up.boot with phase := .starting } }
def moving (a b : Nat) : State := ((upIn a).wr F.DEV_MODE_TRANS 1).wr F.DEV_MODE_TARGET b
def waking (xtal : Bool) (ref : Nat) : State :=
  let s := (upIn Mode.park).wr F.TIME_STATUS_REF_PRESENT ref
  { s with boot := { s.boot with waking := true }, time := { s.time with xtalOk := xtal } }

theorem witness_SelfTest : meets [
    liveB starting, decide (starting.boot.phase = BootPhase.starting), (starting.testResults []).stepSeven.mode == Mode.selftest,
    decide ((upIn Mode.selftest).boot.phase = BootPhase.up), ((upIn Mode.selftest).testResults []).mode == Mode.selftest, up.mode != Mode.selftest] = true := by
  decide +kernel

theorem witness_ModeCommands : meets [
    !up.transitionReady, awakeB up, [(2, 3), (2, 6), (3, 4), (2, 0), (3, 7)].all (fun p => (moving p.1 p.2).transitionReady && awakeB (moving p.1 p.2)),
    (upIn Mode.park).mode == Mode.park, !(upIn Mode.park).boot.waking, wakeAllowed .pin false false, !wakeAllowed .uart true false, liveB (waking true 0),
    (waking true 0).boot.waking, (waking true 0).pwr.owed.isNone, (waking true 0).time.xtalOk, !(waking false 1).time.xtalOk,
    (waking false 1).flag F.TIME_STATUS_REF_PRESENT, !(waking false 0).flag F.TIME_STATUS_REF_PRESENT,
    decide (({ waking true 0 with time := { (waking true 0).time with src := .xtal, locked := true, everRef := false } } : State).freqFollow.syncSource.refreshXtal.hkStart.enterQuiet Mode.standby |>.rd F.NVS_STATUS_FILL_KIB |> (· ≤ 736)),
    decide (736 < ((waking true 0).wr F.NVS_STATUS_FILL_KIB 737).rd F.NVS_STATUS_FILL_KIB), up.boot.waking == false,
    decide (736 < ((waking true 0).wr F.NVS_STATUS_FILL_KIB 737).rd F.NVS_STATUS_FILL_KIB), (((waking true 0).wr F.NVS_STATUS_FULL 1).flag F.NVS_STATUS_FULL),
    !(waking true 0).flag F.NVS_STATUS_FULL, (waking false 0).boot.waking, !(waking false 0).time.xtalOk, liveB (waking false 0),
    ({ waking true 0 with pwr := { up.pwr with owed := some 850 } } : State).pwr.owed.isSome] = true := by
  decide +kernel

theorem witness_Rules : meets [
    (UPath.ofNat 0x0007_8000).listed == false, (UPath.ofNat 0x01E0_8000).listed, (UPath.ofNat 0x01E0_8000).chan == 8, (UPath.ofNat 0x0065_F000).listed,
    (UPath.ofNat 0x07FF_F000).listed, (UPath.ofNat 0x07FF_F000).chan == 15, (UPath.ofNat 0x07FF_F000).half == 3, (UPath.ofNat 0x07FF_F000).octant == 15,
    (UPath.ofNat 0x07FF_F000).stave == 31, (tallyChained 0x0B 7).contains 2, !(tallyChained 0x0B 7).contains 3, (tallyChained 0x0C 15).contains 6,
    !(tallyChained 0x0C 16).contains 6, decide (up.cmd.faults.length ≤ 16), ((List.range 16).foldl (fun s n => s.logEntry n 17 9 1 0 0) up).cmd.faults.length == 16,
    (requestOf (.modeGet 0 (ask []))).isSome, up.receives .uart, up.addressed .uart, !up.coreBusy Source.uart.core,
    (upIn Mode.selftest).addressed .uart, !(upIn Mode.safe).coreBusy Source.uart.core,
    (((up.keep 1 ⟨.uart, 1, 0, ⟨2, 1, 0x0301, 1, 0, St.ok, 0, []⟩⟩).countPacket (ask [])).duplicateOf (ask [])).isSome,
    ((up.countPacket (ask [])).duplicateOf (ask [])).isNone, (upIn Mode.selftest).receives .uart, ((upIn Mode.selftest).countPacket (ask [])).mode == Mode.selftest,
    ((upIn Mode.safe).countPacket (ask [])).mode == Mode.safe, !Op.commit.safe, decide (((upIn Mode.safe).countPacket (ask [])).boot.phase ≠ BootPhase.romSafe),
    ((upIn Mode.safe).countPacket (ask [])).route Op.commit.opcode (ask []) == .here,
    heard up Op.regWrite (ask [A.FIRE_FRAME, 2 ^ 31]) (fun _ => !State.kicks (A.FIRE_FRAME, 2 ^ 31) && (findReg A.FIRE_FRAME).elim false (fun r => 2 ^ 31 &&& r.reg.reserved != 0)),
    heard up Op.regWrite (ask [0x00FF0000, 0]) (fun _ => (findReg 0x00FF0000).isNone), heard up Op.regRead (ask [0x00FF0000, 1]) (fun _ => (findReg 0x00FF0000).isNone),
    heard up Op.modeSet (ask [Mode.scan]) (fun b => !b.flag F.DEV_MODE_TRANS && !transitionListed b.mode Mode.scan),
    heard (up.wr F.DEV_MODE_TRANS 1) Op.modeSet (ask [Mode.config]) (fun b => b.flag F.DEV_MODE_TRANS),
    !(firingAt 0 none 1 0).permits.allow,
    decide (starting.boot.phase = BootPhase.starting), starting.addressed .uart, starting.receives .uart, !starting.coreBusy Source.uart.core,
    !(tallyChained 0x0B 7).contains 4, decide ((2 ^ 48 - 1 : Nat) ≤ Sparse.get ({ up with tally := { up.tally with live := [(ctrId ⟨0x01, 0⟩ 0, 2 ^ 48 - 1)] } } : State).tally.live 0 (ctrId ⟨0x01, 0⟩ 0) + 1),
    decide (((upIn Mode.safe).countPacket (ask [])).boot.phase = BootPhase.up)] = true := by
  decide +kernel

end Sys2Proof.Tests
end

section
/-! SUPPORT. Proofs of the scope family: unit paths (R7, R9), the register and unit opcodes (R10, R11, R330, R331), and
the refusals of bad commands (R3, R330, R446). -/

/-! ### Unit paths -/

namespace Sys2Proof.Machine

/-- Rows of `n` consecutive numbers, one row after another, are consecutive. -/
theorem flatMap_range_row (n m : Nat) :
    (List.range m).flatMap (fun i => (List.range n).map (fun j => n * i + j)) = List.range (n * m) := by
  induction m with
  | zero => rfl
  | succ m ih => rw [List.range_succ, List.flatMap_append, ih, Nat.mul_succ, List.range_add, List.flatMap_singleton]

/-- A path field that lists a number below `n` or the code for all addresses numbers below `n`. -/
theorem lt_of_mem_pathRange {v all n x : Nat} (hv : v < n ∨ v = all) (hx : x ∈ pathRange v all n) : x < n := by
  unfold pathRange at hx
  split at hx
  · exact List.mem_range.mp hx
  · rw [List.mem_singleton.mp hx]
    omega

@[simp] theorem pathRange_all (all n : Nat) : pathRange all all n = List.range n := if_pos rfl

namespace UPath

variable {p : UPath}

/-- R6, R7: what a listed path's fields hold; the spare stands with stave 0. -/
theorem fields_of_listed (h : p.listed = true) :
    (p.half < 2 ∨ p.half = 3) ∧ (p.octant < 4 ∨ p.octant = 15) ∧ (p.stave < 8 ∨ p.stave = 31) ∧
      (p.chan = 8 → p.stave = 0) := by
  simp only [listed, Bool.and_eq_true, Bool.or_eq_true, decide_eq_true_eq, beq_iff_eq, bne_iff_ne] at h
  obtain ⟨⟨⟨⟨⟨_, hh⟩, ho⟩, hs⟩, _⟩, hc⟩ := h
  exact ⟨hh, ho, hs, hc.resolve_left ∘ not_not_intro⟩

theorem octant_lt (h : p.listed = true) {g : Nat} (hg : g ∈ p.octants) : g < 8 := by
  simp only [octants, List.mem_flatMap, List.mem_map] at hg
  obtain ⟨k, hk, o, ho, rfl⟩ := hg
  obtain ⟨hh, hoct, _, _⟩ := fields_of_listed h
  have := lt_of_mem_pathRange hh hk
  have := lt_of_mem_pathRange hoct ho
  omega

theorem emitter_lt (h : p.listed = true) {e : Nat} (he : e ∈ p.emitters) : e < 64 := by
  simp only [emitters, List.mem_flatMap, List.mem_map] at he
  obtain ⟨g, hg, k, hk, rfl⟩ := he
  have := octant_lt h hg
  obtain ⟨_, _, hs, _⟩ := fields_of_listed h
  have := lt_of_mem_pathRange hs hk
  omega

/-- R7: channel 0x8 addresses the spare of each octant addressed. -/
theorem frontEnds_spare (hc : p.chan = 8) : p.frontEnds = p.octants.map (fun g => 256 + g) := if_pos hc

/-- R9: channel 0xF addresses the receive channels of each stave addressed. -/
theorem frontEnds_channels (hc : p.chan = 15) :
    p.frontEnds = p.emitters.flatMap (fun e => (List.range 4).map (fun k => 4 * e + k)) := by
  simp [frontEnds, hc]

theorem octants_all (hh : p.half = 3) (ho : p.octant = 15) : p.octants = List.range 8 := by
  simpa [octants, hh, ho] using flatMap_range_row 4 2

theorem emitters_all (hh : p.half = 3) (ho : p.octant = 15) (hs : p.stave = 31) : p.emitters = List.range 64 := by
  simpa [emitters, octants_all hh ho, hs] using flatMap_range_row 8 8

theorem frontEnds_all (hc : p.chan = 15) (hh : p.half = 3) (ho : p.octant = 15) (hs : p.stave = 31) :
    p.frontEnds = List.range 256 := by
  rw [frontEnds_channels hc, emitters_all hh ho hs]
  exact flatMap_range_row 4 64

/-- A spare's number lies past the receive channels. -/
theorem spare_bounds (h : p.listed = true) (hc : p.chan = 8) {f : Nat} (hf : f ∈ p.frontEnds) : 256 ≤ f ∧ f < 264 := by
  rw [frontEnds_spare hc, List.mem_map] at hf
  obtain ⟨g, hg, rfl⟩ := hf
  have := octant_lt h hg
  omega

theorem channel_lt (h : p.listed = true) (hc : p.chan = 15) {f : Nat} (hf : f ∈ p.frontEnds) : f < 256 := by
  simp only [frontEnds_channels hc, List.mem_flatMap, List.mem_map, List.mem_range] at hf
  obtain ⟨e, he, k, hk, rfl⟩ := hf
  have := emitter_lt h he
  omega

end UPath

/-- Settles O52: every addressed octant is one of 8, and every addressed emitter one of 64. -/
theorem unitPathsAddressTheirUnits : Obligations.UnitPathsAddressTheirUnits := by
  intro p h
  obtain ⟨_, _, _, hspare⟩ := UPath.fields_of_listed h
  exact ⟨fun hc => ⟨hspare hc, UPath.frontEnds_spare hc, fun _ => UPath.spare_bounds h hc⟩,
    fun hc => ⟨UPath.frontEnds_channels hc, fun _ => UPath.channel_lt h hc⟩, UPath.frontEnds_all⟩

/-! ### The checks of one written word -/

theorem firstUnmapped_single {a : Nat} (h : findReg a = none) : firstUnmapped (addrRun a 4 1) = some a := by
  simp [firstUnmapped, addrRun, h]

/-- R3: a set reserved bit is the first thing that the register table refuses. -/
theorem RegDef.refusal_reserved {r : RegDef} {w : Nat} (h : w &&& r.reserved ≠ 0) (mode a old : Nat) :
    r.refusal mode a old w = some (St.badParam, a) := if_pos h

/-- A refusal other than BUDGET_EXCEEDED carries no payload. -/
theorem OpResult.refuseReg_of_ne {st : Nat} (h : st ≠ St.budget) (a : Nat) (s : State) :
    OpResult.refuseReg st a s = OpResult.refuse st a s := by
  simp [OpResult.refuseReg, OpResult.refuse, h]

namespace State

theorem checkWord_reserved {a w : Nat} {r : RegAt} (hr : findReg a = some r) (hw : w &&& r.reg.reserved ≠ 0)
    (p s : State) : checkWord p (s, none) (a, w) = (s, some (St.badParam, a)) := by
  simp only [checkWord, hr, RegDef.refusal_reserved hw]

/-- R3, R330: one word that sets a reserved bit and kicks no watchdog is refused with BAD_PARAM. -/
theorem checkWords_reserved {a w : Nat} {r : RegAt} (hr : findReg a = some r) (hk : kicks (a, w) = false)
    (hw : w &&& r.reg.reserved ≠ 0) (s : State) : s.checkWords [(a, w)] = (s, some (St.badParam, a)) := by
  simp [checkWords, hr, hk, checkWord_reserved hr hw]

/-- R330: a first word at an unmapped address is refused with ACCESS_VIOLATION. -/
theorem checkWords_unmapped {a : Nat} (h : findReg a = none) (w : Nat) (ws : List (Nat × Nat)) (s : State) :
    s.checkWords ((a, w) :: ws) = (s, some (St.access, a)) := by
  simp [checkWords, h]

variable {s c : State} {q : Req}

theorem hostWrite_refused {ws : List (Nat × Nat)} {x : Nat × Nat} (h : s.checkWords ws = (c, some x)) :
    s.hostWrite ws = (c, some x) := by
  simp only [hostWrite, h]

/-! ### What each opcode answers -/

theorem opRegRead_reply (h1 : 1 ≤ q.arg 1) (h2 : q.arg 1 ≤ 2048) (hv : q.version = 1 → q.arg 1 = 1)
    (hu : firstUnmapped (addrRun (q.arg 0) 4 (q.arg 1)) = none) :
    opRegRead q s = OpResult.reply (s.hostReads (addrRun (q.arg 0) 4 (q.arg 1))).2
      (s.hostReads (addrRun (q.arg 0) 4 (q.arg 1))).1 := by
  have hn : ¬ (q.arg 1 = 0 ∨ 2048 < q.arg 1 ∨ (q.version = 1 ∧ q.arg 1 ≠ 1)) := by omega
  simp only [opRegRead, if_neg hn, hu]

theorem opRegRead_unmapped (h1 : q.arg 1 = 1) (h : findReg (q.arg 0) = none) :
    opRegRead q s = OpResult.refuse St.access (q.arg 0) s := by
  simp [opRegRead, h1, firstUnmapped_single h]

theorem opRegWrite_ok (h : s.hostWrite (addrWords (q.arg 0) (q.payload.drop 1)) = (c, none)) :
    opRegWrite q s = OpResult.ok c := by
  simp only [opRegWrite, h]

/-- A REG_WRITE of one word that the checks refuse, but for the budget. -/
theorem opRegWrite_refused {a w st b : Nat} (hp : q.payload = [a, w]) (hb : st ≠ St.budget)
    (h : s.checkWords [(a, w)] = (c, some (st, b))) : opRegWrite q s = OpResult.refuse st b c := by
  have ha : addrWords (q.arg 0) (q.payload.drop 1) = [(a, w)] := by simp [addrWords, Req.arg, hp]
  simp only [opRegWrite, ha, hostWrite_refused h, OpResult.refuseReg_of_ne hb]

theorem opRegModify_reply {r : RegAt} (hr : findReg (q.arg 0) = some r)
    (h : s.checkWords [(q.arg 0, modifyWord r.reg (s.word (q.arg 0)) (q.arg 1) (q.arg 2))] = (c, none)) :
    opRegModify q s = OpResult.reply [(c.hostRead (q.arg 0)).2] ((c.hostRead (q.arg 0)).1.putWords
      [(q.arg 0, modifyWord r.reg (s.word (q.arg 0)) (q.arg 1) (q.arg 2))]) := by
  simp only [opRegModify, hr, h]

theorem opUnitRead_reply {u : UnitSet} {l : List Nat} (h1 : 1 ≤ q.arg 1) (h2 : q.arg 1 ≤ 64)
    (hr : unitRefusal (q.arg 0) (q.arg 1) = none) (hu : unitSetOf (q.arg 0) = some u)
    (hl : l = (unitsOf u.kind (UPath.ofNat q.path)).flatMap (fun i => addrRun (q.arg 0 + u.stride * i) 4 (q.arg 1))) :
    opUnitRead q s = OpResult.reply (s.hostReads l).2 (s.hostReads l).1 := by
  have hn : ¬ (q.arg 1 = 0 ∨ 64 < q.arg 1) := by omega
  simp only [opUnitRead, if_neg hn, hr, hu, hl]

/-- R10: where no unit refuses and the journal has room, every unit is written. -/
theorem opUnitWrite_ok {u : UnitSet} {is : List Nat} {all : List (Nat × Nat)}
    (hr : unitRefusal (q.arg 0) (q.payload.drop 1).length = none) (hu : unitSetOf (q.arg 0) = some u)
    (hi : is = unitsOf u.kind (UPath.ofNat q.path))
    (hall : all = is.flatMap (fun i => addrWords (q.arg 0 + u.stride * i) (q.payload.drop 1)))
    (hc : is.foldl (checkUnit (s.viewAfter all) (q.arg 0) u.stride (q.payload.drop 1)) (s, none) = (c, none))
    (hj : all.any c.makesGroup = true → c.journalFull = false) :
    opUnitWrite q s = OpResult.ok (c.putWords all) := by
  have hn : ¬ (all.any c.makesGroup && c.journalFull) = true := by
    rw [Bool.and_eq_true]
    rintro ⟨hg, hf⟩
    simp [hj hg] at hf
  subst hi
  simp only [opUnitWrite, hr, hu, ← hall, hc, if_neg hn]

/-- R445: a transition in progress answers BUSY. -/
theorem opModeSet_busy (hv : q.version = 2) (hm : q.arg 0 ≤ 7) (ht : s.flag F.DEV_MODE_TRANS = true) :
    opModeSet q s = OpResult.refuse St.busy 0 s := by
  simp [opModeSet, hv, ht, Nat.not_lt.mpr hm]

/-- R333: a mode that Table 19-3 does not list from the present one is refused with MODE. -/
theorem opModeSet_unlisted (hv : q.version = 2) (hm : q.arg 0 ≤ 7) (ht : s.flag F.DEV_MODE_TRANS = false)
    (hl : transitionListed s.mode (q.arg 0) = false) : opModeSet q s = OpResult.refuse St.mode 0 s := by
  simp [opModeSet, hv, ht, hl, Nat.not_lt.mpr hm]

end State

/-! ### The commands -/

/-- The command of an accepted request concludes with what its opcode answers. -/
theorem exec_gives_result {i : Instr} {sp : OpSpec} {q : Req} {s b : State} {r : OpResult}
    (hi : requestOf i = some (sp, q)) (h : State.Runs i.time s sp q b) (e : sp.core (asLocal q b) b = r) :
    exec i s = gives i.time s (b.concluded sp q r) :=
  (exec_request hi s).trans (request_gives h e)

/-- The same of a version 0x02 request, whose path the opcode is given as it stands. -/
theorem exec_gives_result_two {i : Instr} {sp : OpSpec} {q : Req} {s b : State} {r : OpResult}
    (hi : requestOf i = some (sp, q)) (hv : q.version = 2) (h : State.Runs i.time s sp q b) (e : sp.core q b = r) :
    exec i s = gives i.time s (b.concluded sp q r) :=
  exec_gives_result hi h ((asLocal_two hv b).symm ▸ e)

/-! The single-register opcodes read no path: they answer alike on a packet and on its local form (R343). -/

theorem regRead_core (q : Req) (b : State) : Op.regRead.core (asLocal q b) b = State.opRegRead q b := by
  simp [Op.regRead, plain, State.opRegRead]

theorem regWrite_core (q : Req) (b : State) : Op.regWrite.core (asLocal q b) b = State.opRegWrite q b := by
  simp [Op.regWrite, plain, State.opRegWrite]

theorem regModify_core (q : Req) (b : State) : Op.regModify.core (asLocal q b) b = State.opRegModify q b := by
  simp [Op.regModify, plain, State.opRegModify]

/-- Settles O13: each opcode's answer, given what the statement asks of the packet and of the state. -/
theorem registerOpcodesComplete : Obligations.RegisterOpcodesComplete := by
  intro t q s b c l v r u
  refine ⟨?regRead, ?regWrite, ?regModify, ?unitRead, ?unitWrite⟩
  case regRead =>
    intro h h1 h2 hv hu
    exact exec_gives_result (i := .regRead t q) rfl h
      ((regRead_core q b).trans (State.opRegRead_reply h1 h2 hv hu))
  case regWrite =>
    intro h hw
    exact exec_gives_result (i := .regWrite t q) rfl h ((regWrite_core q b).trans (State.opRegWrite_ok hw))
  case regModify =>
    rintro h hr rfl hc
    exact exec_gives_result (i := .regModify t q) rfl h ((regModify_core q b).trans (State.opRegModify_reply hr hc))
  case unitRead =>
    intro h hv h1 h2 hr hu hl
    exact exec_gives_result_two (i := .unitRead t q) rfl hv h (State.opUnitRead_reply h1 h2 hr hu hl)
  case unitWrite =>
    intro h hv hr hu hc hj
    exact exec_gives_result_two (i := .unitWrite t q) rfl hv h (State.opUnitWrite_ok hr hu rfl rfl hc hj)

/-- Settles O59: the checks of the one word refuse the register commands, and the mode and its transition MODE_SET. -/
theorem badCommandsAreRefused : Obligations.BadCommandsAreRefused := by
  refine ⟨fun t a w q s b r => ⟨?reserved, ?unmappedWrite, ?unmappedRead⟩, fun t q s b h hv hm => ⟨?unlisted, ?busy⟩⟩
  case reserved =>
    intro h _ hp hk hr hw
    exact exec_gives_result (i := .regWrite t q) rfl h ((regWrite_core q b).trans
      (State.opRegWrite_refused hp (by decide) (State.checkWords_reserved hr hk hw b)))
  case unmappedWrite =>
    intro h _ hp hr
    exact exec_gives_result (i := .regWrite t q) rfl h ((regWrite_core q b).trans
      (State.opRegWrite_refused hp (by decide) (State.checkWords_unmapped hr w [] b)))
  case unmappedRead =>
    rintro h rfl h1 hr
    exact exec_gives_result (i := .regRead t q) rfl h ((regRead_core q b).trans (State.opRegRead_unmapped h1 hr))
  case unlisted =>
    intro ht hl
    exact exec_gives_result_two (i := .modeSet t q) rfl hv h (State.opModeSet_unlisted hv hm ht hl)
  case busy =>
    intro ht
    exact exec_gives_result_two (i := .modeSet t q) rfl hv h (State.opModeSet_busy hv hm ht)

end Sys2Proof.Machine
end

section
/-! SUPPORT. Proofs of the architecture family: frames and kerfs (R103, R128, R146, R446, R481), the decided slot and its
place behind the edges of its domain (R133 to R136), and Table 5-3 at a shot's instant (R138, R141, R144). -/

namespace Sys2Proof.Machine

/-! ### The place of a decided slot (R135) -/

/-- An edge after the one of its domain, counted from the frame's start. -/
theorem edge_from_frameStart (td : Option Nat) (f raw : Int) :
    td.elim (f + raw) (fun k => max (f + raw) ((k + 20 : Nat) : Int)) =
      f + td.elim raw (fun k => max ((k : Int) + 20 - f) raw) := by
  cases td with
  | none => rfl
  | some k =>
    simp only [Option.elim]
    push_cast
    omega

namespace State

section
variable {q : QueuedShot} {td : Option Nat} {due : Int}
  (hd : due = td.elim q.raw (fun k => max ((k : Int) + 20 - q.job.frameC) q.raw))
include hd

/-- R135: what `place` compares with the 60 ns, and the edge it gives. -/
theorem place_none_eq : place none td q =
    if 60 < q.job.frameC + due - (q.job.frameC + q.raw) then { q with
      barred := some 2
      edge := nominalAt q
      deferred := true }
    else { q with
      barred := none
      edge := (q.job.frameC + due).toNat
      offset := q.job.frameC + due - q.job.frameC
      deferred := decide (q.job.frameC + q.raw < q.job.frameC + due) } := by
  rw [hd, ← edge_from_frameStart]
  rfl

/-- R135: a slot deferred by more than 60 ns is marked CROWDED. -/
theorem place_crowded (h : 60 < due - q.raw) :
    place none td q = { q with
      barred := some 2
      edge := nominalAt q
      deferred := true } := by
  rw [place_none_eq hd, if_pos (by omega)]

/-- R135: any other takes its edge behind that of its domain. -/
theorem place_deferred (h : due - q.raw ≤ 60) :
    place none td q = { q with
      barred := none
      edge := (q.job.frameC + due).toNat
      offset := due
      deferred := decide (q.raw < due) } := by
  rw [place_none_eq hd, if_neg (by omega), add_sub_cancel_left]
  simp only [add_lt_add_iff_left]

end

variable {s b c z : State} {k len e dom position group wMax : Nat} {late pre : Bool} {j : SlotJob} {r : List SlotJob}
  {raw due : Int} {q : QueuedShot}

/-! ### The decided slot (R133, R136, R138) -/

theorem slotExecute_next (h : s.fire.slots = j :: r) :
    s.slotExecute late pre = State.decideSlot j (s.wMaxOf j.em) late pre { s with fire := { s.fire with slots := r } } := by
  simp only [slotExecute, h]

/-- R133, R481: with no slot of the frame left, those of the next frame are looked at. -/
theorem slotExecute_early (h : s.fire.slots = []) (hf : s.firing = true) (hr : s.fire.running = true)
    (hx : s.boot.exiting = false) : s.slotExecute late pre = s.earlyExecute late pre := by
  simp [slotExecute, h, hf, hr, hx]

section
variable (hb : b = State.enterGroup j.em j.frame wMax s) (hp : position = (b.em j.em).position)
  (hg : group = (b.em j.em).nextGroup - 1) (hd : dom = b.rd (F.FIRE_EM_CFG_DOMAIN j.em))
  (hr : raw = j.nominal + dither (b.tab 0x04 0 (slotCode j.word1)) b.memberNo j.em (b.rd F.FIRE_CTRL_DITHER_MAX) position)
  (hc : c = (b.updGroup j.em group (fun g => { g with shots := g.shots + 1, opened := g.opened + 1 })).updEm j.em
    (fun y => { y with position := y.position + 1 }))
include hb hp hg hd hr hc

/-- A slot decided against for good stands in the fire queue at its nominal time. -/
theorem decideSlot_barred (h : (if j.first && decide (raw < 0) then some 5 else if late then some 4 else none) = some k) :
    s.decideSlot j wMax late pre = (c.enqueue ⟨j, none, some k, dom, raw, j.frameC + j.nominal, raw, false, pre, position,
      group, none⟩).launchDue c.now := by
  subst hc hr hd hg hp hb
  simp only [decideSlot, h]
  rfl

/-- R135: any other is placed behind the latest edge of its domain. -/
theorem decideSlot_placed (h : j.first = true → 0 ≤ raw)
    (hq : place none (c.domainEdge dom) ⟨j, none, none, dom, raw, j.frameC + j.nominal, raw, false, pre, position, group,
      none⟩ = q) : s.decideSlot j wMax false pre = (c.enqueue q).launchDue c.now := by
  have hn : (j.first && decide (raw < 0)) = false := by
    cases hj : j.first with
    | false => rfl
    | true => simpa using h hj
  subst hq hc hr hd hg hp hb
  simp only [decideSlot, hn]
  rfl

end

/-! ### Table 5-3 at the shot's instant (R138) -/

section
variable (ht : q.turned = none)
include ht

/-- Order 2: the emitter is off, or in fault. -/
theorem launch_off (ho : s.emOff q.job.em = true) : s.launch q = s.turnAway q 7 := by
  simp only [launch, ht, ho, if_true]

variable (ho : s.emOff q.job.em = false)
include ho

/-- Order 3: firing is held, or the first shot would fire before its frame. -/
theorem launch_held (h : s.permits.allow = false ∨ s.fire.hold = true ∨ q.barred = some 5) : s.launch q = s.turnAway q 5 := by
  have hh : (!s.permits.allow || s.fire.hold || q.barred == some 5) = true := by
    rcases h with h | h | h <;> simp [h]
  simp only [launch, ht, ho, hh, Bool.false_eq_true, if_false, if_true]

variable (ha : s.permits.allow = true) (hh : s.fire.hold = false)
include ha hh

/-- Order 4, R235: the axis that serves the stave inhibits it. -/
theorem launch_inhibited (hb : q.barred ≠ some 5) (hi : s.staveInhibited q.job.em = true) : s.launch q = s.turnAway q 6 := by
  simp [launch, ht, ho, ha, hh, hb, hi]

variable (hi : s.staveInhibited q.job.em = false)
include hi

/-- Orders 5 and 6: the mark with which the slot was decided. -/
theorem launch_barred (hb : q.barred ≠ some 5) (hk : q.barred = some k) : s.launch q = s.turnAway q k := by
  have hk5 : k ≠ 5 := fun h => hb (h ▸ hk)
  simp [launch, ht, ho, ha, hh, hk, hk5, hi]

variable (hn : q.barred = none)
include hn

/-- Order 7, R141: a pulse that does not fit the emitter's budget is suppressed. -/
theorem launch_suppressed (he : s.eyeFits q.job.em (s.pulseEnergy q.job.em q.job.width) = false) :
    s.launch q = (s.eyeSuppress q.job.em).turnAway q 3 := by
  simp [launch, ht, ho, ha, hh, hn, hi, he]

/-- R144: current before the edge turns the shot away; else it fires, orders 8 and 9. -/
theorem launch_fits (he : s.eyeFits q.job.em (s.pulseEnergy q.job.em q.job.width) = true) :
    s.launch q = if q.pre = true then (s.preShort q.job.em).turnAway q 7 else s.fired q := by
  simp [launch, ht, ho, ha, hh, hn, hi, he]

end

/-! ### Frames and kerfs (R24, R103, R128, R146, R147, R446, R481) -/

/-- R446: where the mode is left, the boundary ends the last frame. -/
theorem frameBoundary_ends (hf : s.firing = true) (hr : s.fire.running = true) (hx : s.boot.exiting = true)
    (he : s.fire.early = none) :
    s.frameBoundary = { s with
      fire := { s.fire with running := false, kerfs := [] }
      acq := { s.acq with due := none, forced := false }
      cord := { s.cord with later := none } } := by
  simp [frameBoundary, hf, hr, hx, he]

/-- R481: else it starts the next frame, where that may start. -/
theorem frameBoundary_starts (hf : s.firing = true) (hr : s.fire.running = true)
    (hx : s.boot.exiting = false ∨ s.fire.early ≠ none) (hm : s.frameMayStart = true) :
    s.frameBoundary = s.frameStart s.fire.nextFrame := by
  have hn : (s.boot.exiting && s.fire.early.isNone) = false := by
    rcases hx with hx | hx
    · simp [hx]
    · simp [mt Option.isNone_iff_eq_none.mp hx]
  simp only [frameBoundary, hf, hr, hn, hm, Bool.and_self, Bool.false_eq_true, if_false, if_true]

/-- R103, R128, R146: a kerf starts a gap on every front end and places its proof shots. -/
theorem kerfStart_next {t : Nat} {rest : List (Nat × Nat)} (hk : s.fire.kerfs = (t, len) :: rest)
    (hb : b = (List.range 264).foldl State.kerfGap { s with fire := { s.fire with kerfs := rest } })
    (hc : c = { b with rx := { b.rx with kerfAt := some b.now } }) :
    s.kerfStart = { c with fire := { c.fire with
      proofs := c.placeProofs (proofTimes t len) c.proofDue
      kerfEnd := t + len } } := by
  subst hc
  simp only [kerfStart, hk, ← hb]

/-- R103: a kerf's end counts its time and drops the proof shots left. -/
theorem kerfEnd_open (hk : s.rx.kerfAt = some k) :
    s.kerfEnd = { s with
      rx := { s.rx with kerfAt := none, kerfSum := s.rx.kerfSum + (s.now - k) }
      fire := { s.fire with proofs := [] } } := by
  simp only [kerfEnd, hk]

/-- R147: a diagnostic interval that ends in a firing mode is judged for every emitter. -/
theorem diagIntervalEnd_firing (hf : s.firing = true) : s.diagIntervalEnd = (List.range 64).foldl State.diagOne s := if_pos hf

/-- R24: the restore conditions are those of the lowest emitter shed. -/
theorem restoreHold_first {more : List Nat} (h : s.shedList = e :: more) :
    s.restoreHold = if s.restoreHolds e then { s with fire := { s.fire with restoreOk := true } } else s := by
  simp only [restoreHold, h]

end State

/-- A command that acts before the fire edges of its instant, of which the effect is known. -/
theorem awakeFirstAt_eq {t : Nat} {f : State → State} {s a r : State} (h : State.AwakeFirstAt t s a) (e : f a = r) :
    awakeFirst t f s = gives t s (r.launchDue t) := by
  rw [awakeFirstAt_gives h, e]

/-- Settles O28: the frame's events, the decided slot by its mark or its place, and Table 5-3 in its order. -/
theorem slotsAndFramesComplete : Obligations.SlotsAndFramesComplete := by
  refine ⟨fun t c k len e rest more s a b z h => ⟨?ends, ?starts, ?kerfStart, ?kerfEnd, ?diagEnd, ?restore⟩,
    fun t em position group dom late pre j r raw due q s a b c h => ⟨?early, ?next, ?instant⟩⟩
  case ends => exact fun hz hf hr hx he => awakeFirstAt_eq hz (State.frameBoundary_ends hf hr hx he)
  case starts => exact fun hz hf hr hx hm => awakeFirstAt_eq hz (State.frameBoundary_starts hf hr hx hm)
  case kerfStart => exact fun hk hb => awakeAt_eq h (congrArg State.calPoll (State.kerfStart_next hk hb rfl))
  case kerfEnd => exact fun hk => awakeAt_eq h (State.kerfEnd_open hk)
  case diagEnd => exact fun hf => awakeAt_eq h (State.diagIntervalEnd_firing hf)
  case restore => exact fun he => awakeAt_eq h (State.restoreHold_first he)
  case early => exact fun hs hf hr hx => awakeAt_eq h (State.slotExecute_early hs hf hr hx)
  case next =>
    rintro hs rfl hb hp hg hd hr hc hdue rfl
    have hdue : due = (c.domainEdge dom).elim raw (fun k => max ((k : Int) + 20 - j.frameC) raw) :=
      hdue.trans (by cases c.domainEdge dom <;> rfl)
    have decides : ∀ {late : Bool} {x : State},
        State.decideSlot j (a.wMaxOf j.em) late pre { a with fire := { a.fire with slots := r } } = x →
          exec (.slotExecute t late pre) s = gives t s x :=
      fun hx => awakeAt_eq h ((State.slotExecute_next hs).trans hx)
    refine ⟨fun ⟨hj, hlt⟩ => ?beforeFrame, fun hj => ⟨?late, fun hlt => ?crowded, fun hle => ?placed⟩⟩
    case beforeFrame => exact decides (State.decideSlot_barred hb hp hg hd hr hc (by simp [hj, hlt]))
    case late =>
      have hn : ¬ (j.first = true ∧ raw < 0) := fun ⟨hf, hlt⟩ => absurd (hj hf) (Int.not_le.mpr hlt)
      exact decides (State.decideSlot_barred hb hp hg hd hr hc (by simp [hn]))
    case crowded => exact decides (State.decideSlot_placed hb hp hg hd hr hc hj (State.place_crowded hdue hlt))
    case placed => exact decides (State.decideSlot_placed hb hp hg hd hr hc hj (State.place_deferred hdue hle))
  case instant =>
    rintro z p e ht rfl
    exact ⟨State.launch_off ht, fun ho => ⟨State.launch_held ht ho, fun ha hh hb =>
      ⟨State.launch_inhibited ht ho ha hh hb, fun hi => ⟨fun k => State.launch_barred ht ho ha hh hi hb, fun hn =>
        ⟨State.launch_suppressed ht ho ha hh hi hn, State.launch_fits ht ho ha hh hi hn⟩⟩⟩⟩⟩

end Sys2Proof.Machine
end

section
/-! SUPPORT. Proofs of the architecture family: peak lists, the external trigger (R157, R158, R163, R164) and the units
of stave shots (R167, R168, R185, R192). -/

namespace Sys2Proof.Machine
namespace State

variable {s b c : State} {ch id : Nat} {j : PeakJob} {level : Bool} {x : Shot} {e n : Nat} {u : EchoUnit}

/-! ### The peak finder -/

/-- R158: the list of a group that may still come into force replaces the channel's. -/
theorem peakListDone_inForce (hj : s.acq.jobs.find? (fun j => j.ch == ch) = some j)
    (hb : b = State.clearBank ch j.bank { s with acq := { s.acq with jobs := s.acq.jobs.erase j } }) (hk : j.build = true)
    (hm : (b.em j.em).minGroup ≤ j.group) (hl : (b.em j.em).listFrom.getD (ch % 4) 0 ≤ j.group) :
    s.peakListDone ch = { b with acq := { b.acq with lists := (Sparse.put b.acq.lists none ch
      (some ⟨j.group, findPeaks (s.bankBins ch j.bank) j.wMax (s.rd F.ACQ_PEAK_MIN_COUNT) (s.rd F.ACQ_PEAK_FACTOR)⟩)) } } := by
  subst hb
  simp only [peakListDone, hj]
  exact if_pos (by simp only [hk, decide_eq_true hm, decide_eq_true hl, Bool.and_self])

/-- R158: a list that is not built, or is of a group gone before, only frees its bank. -/
theorem peakListDone_dropped (hj : s.acq.jobs.find? (fun j => j.ch == ch) = some j)
    (hb : b = State.clearBank ch j.bank { s with acq := { s.acq with jobs := s.acq.jobs.erase j } })
    (h : j.build = false ∨ j.group < (b.em j.em).minGroup ∨ j.group < (b.em j.em).listFrom.getD (ch % 4) 0) :
    s.peakListDone ch = b := by
  subst hb
  simp only [peakListDone, hj]
  refine if_neg fun hk => ?_
  simp only [Bool.and_eq_true, decide_eq_true_eq] at hk
  obtain ⟨⟨hk, hm⟩, hl⟩ := hk
  rcases h with h | h | h
  · exact Bool.eq_false_iff.mp h hk
  · exact Nat.not_lt.mpr hm h
  · exact Nat.not_lt.mpr hl h

/-! ### The external trigger -/

/-- R163: an edge that is not the active one, and one where no trigger is looked for, only show the level. -/
theorem extTrigEdge_shown (hb : b = s.wrB F.ACQ_STATUS_EXT_TRIG_LEVEL level)
    (h : b.isFollower = true ∨ b.extTrig = false ∨ b.flag F.ACQ_TRIG_EDGE = level) : s.extTrigEdge level = b := by
  subst hb
  exact if_pos (by rcases h with h | h | h <;> simp [h])

/-- R163: an active edge makes the next frame due where the trigger is armed, and is counted where it is not. -/
theorem extTrigEdge_active (hb : b = s.wrB F.ACQ_STATUS_EXT_TRIG_LEVEL level) (hf : b.isFollower = false)
    (he : b.extTrig = true) (hl : b.flag F.ACQ_TRIG_EDGE = !level) :
    s.extTrigEdge level = if b.flag F.ACQ_STATUS_TRIG_ARMED then
        { b.wr F.ACQ_STATUS_TRIG_ARMED 0 with acq := { (b.wr F.ACQ_STATUS_TRIG_ARMED 0).acq with
          due := some (b.now - b.rd F.ACQ_TRIG_FILTER * 10 + b.rd F.ACQ_TRIG_DELAY_NS)
          forced := false } }
      else b.count ⟨0x05, 2⟩ 0 := by
  subst hb
  exact if_neg (by simp [hf, he, hl])

/-- R164: the timeout of an armed trigger forces the next frame. -/
theorem trigTimeout_armed (he : s.extTrig = true) (ha : s.flag F.ACQ_STATUS_TRIG_ARMED = true) (hf : s.isFollower = false)
    (hc : c = s.wr F.ACQ_STATUS_TRIG_ARMED 0) :
    s.trigTimeout = { c with acq := { c.acq with
      due := some (s.now + s.rd F.ACQ_TRIG_DELAY_NS)
      forced := true } } := by
  subst hc
  exact if_pos (by simp [he, ha, hf])

/-! ### The units of stave shots -/

section
variable (hx : s.nextUnit e = some x) (hb : b = if x.unit.isSome = true then s else s.formUnit x.id)
  (hu : (b.shot? x.id).bind Shot.unit = some u)
  (hc : c = { b with fire := { b.fire with shots := b.fire.shots.filter (fun y => y.id != x.id) } })
include hx hb hu hc

/-- R167, R192: the emitter's oldest unit goes to its landing region, and its shot is gone. -/
theorem staveShotUnit_landed (hr : c.regionFor 0 (c.echoPort e) = some n) : s.staveShotUnit e = c.admitUnit n u := by
  subst hc
  simp only [staveShotUnit, hx, ← hb, hu, hr]

/-- Without a region for it the unit is gone with its shot. -/
theorem staveShotUnit_nowhere (hr : c.regionFor 0 (c.echoPort e) = none) : s.staveShotUnit e = c := by
  subst hc
  simp only [staveShotUnit, hx, ← hb, hu, hr]

end

/-- R167, R185: a unit holds the shot's header and the records of its channels, each formed after the one before. -/
theorem formUnit_eq {v : EchoVals} {wins : List ChanWin} {rs : List ChanRecs} (hx : s.shot? id = some x)
    (hv : v = x.vals.getD (s.echoVals x.em)) (hw : wins = if x.cut then [] else x.chans)
    (hr : (b, rs) = wins.foldl (fun acc w => ((acc.1.formChannel v x w).1, acc.2 ++ [(acc.1.formChannel v x w).2])) (s, []))
    (hu : u = ⟨x.frame, x.frameSec, x.frameNs, State.headerWords v x rs wins,
      State.unitRecords v.form (rs.flatMap ChanRecs.words), false⟩) :
    s.formUnit id = b.updShot id (fun y => { y with unit := some u }) := by
  subst hu hw hv
  simp only [formUnit, hx, ← hr]

end State

/-- Settles O30: the branches of the peak finder, of the trigger and of the presented unit. -/
theorem shotAcquisitionCompletes : Obligations.ShotAcquisitionCompletes := by
  refine ⟨fun t ch level j s a b c h => ⟨fun hj hb => ⟨?inForce, ?dropped⟩, fun hb => ⟨?shown, fun hf he hl => ⟨?due, ?counted⟩⟩,
    ?timeout⟩, fun t id e x v wins rs s a b c z u h => ⟨fun hx hb hu hc => ⟨?landed, ?nowhere⟩, ?formed⟩⟩
  case inForce => exact fun hk hm hl => awakeAt_eq h (State.peakListDone_inForce hj hb hk hm hl)
  case dropped => exact fun hd => awakeAt_eq h (State.peakListDone_dropped hj hb hd)
  case shown => exact fun hs => awakeAt_eq h (State.extTrigEdge_shown hb hs)
  case due =>
    rintro ha rfl
    exact awakeAt_eq h ((State.extTrigEdge_active hb hf he hl).trans (if_pos ha))
  case counted =>
    exact fun ha => awakeAt_eq h ((State.extTrigEdge_active hb hf he hl).trans (if_neg (Bool.eq_false_iff.mp ha)))
  case timeout =>
    rintro rfl he ha hf hc
    exact awakeAt_eq h (State.trigTimeout_armed he ha hf hc)
  case landed => exact fun n hn => awakeAt_eq h (congrArg State.flushIdle (State.staveShotUnit_landed hx hb hu hc hn))
  case nowhere => exact fun hn => awakeAt_eq h (congrArg State.flushIdle (State.staveShotUnit_nowhere hx hb hu hc hn))
  case formed => exact State.formUnit_eq

end Sys2Proof.Machine
end

section
/-! SUPPORT. Proofs of the architecture family: the supply loop and its regulator (R21, R22, R466). -/

namespace Sys2Proof.Machine
namespace State

variable {s b c : State} {low : Bool} {mv k measured status : Nat}

/-! ### The core supply (R21, R22, R466) -/

/-- R22: while REG_FAULT is set, no step is sent or counted. -/
theorem stepVdd_regFault (h : s.flag F.PWR_AVS_STATUS_REG_FAULT = true) : s.stepVdd k mv = s := if_pos h

theorem stepVdd_sent (h : s.flag F.PWR_AVS_STATUS_REG_FAULT = false) :
    s.stepVdd k mv = (s.cmdVdd mv).count ⟨0x14, k⟩ 0 := by
  simp [stepVdd, h]

/-- R466: with nothing owed, the change is the command on the bus. -/
theorem cmdVdd_owed (h : s.flag F.PWR_AVS_STATUS_REG_FAULT = false)
    (hb : b = (s.wr F.PWR_AVS_STATUS_VDD_MV mv).wrB F.PWR_AVS_STATUS_AT_CEILING (mv == 850)) (ho : b.pwr.owed = none) :
    s.cmdVdd mv = { b with pwr := { b.pwr with owed := some mv } } := by
  subst hb
  have ho : s.pwr.owed = none := ho
  simp [cmdVdd, h, ho]

/-- R466: behind a command on the bus, the change waits. -/
theorem cmdVdd_queued (h : s.flag F.PWR_AVS_STATUS_REG_FAULT = false)
    (hb : b = (s.wr F.PWR_AVS_STATUS_VDD_MV mv).wrB F.PWR_AVS_STATUS_AT_CEILING (mv == 850)) (ho : b.pwr.owed ≠ none) :
    s.cmdVdd mv = { b with pwr := { b.pwr with later := b.pwr.later ++ [mv] } } := by
  subst hb
  have hn : ¬ (s.pwr.owed.isNone = true) := mt Option.isNone_iff_eq_none.mp ho
  simp [cmdVdd, h, hn]

/-- R22: a period that the supply follows ends the run of those that it does not. -/
theorem floorTest_follows : b.floorTest false = { b with pwr := { b.pwr with floorRun := 0 } } := by
  simp [floorTest]

/-- R22: before the third period, or with RATE_FLOOR set already, only the run grows. -/
theorem floorTest_counts (h : b.pwr.floorRun + 1 < 3 ∨ b.flag F.PWR_AVS_STATUS_RATE_FLOOR = true) :
    b.floorTest true = { b with pwr := { b.pwr with floorRun := b.pwr.floorRun + 1 } } := by
  refine if_neg fun ⟨hn, hf⟩ => ?_
  rcases h with h | h
  · exact Nat.not_lt.mpr hn h
  · exact Bool.eq_false_iff.mp ((Bool.not_eq_true' _).mp hf) h

/-- R22: the third period sets RATE_FLOOR, with its interrupt and its log entry. -/
theorem floorTest_raises (hn : 3 ≤ b.pwr.floorRun + 1) (hf : b.flag F.PWR_AVS_STATUS_RATE_FLOOR = false) :
    b.floorTest true =
      ((State.wr F.PWR_AVS_STATUS_RATE_FLOOR 1 { b with pwr := { b.pwr with floorRun := b.pwr.floorRun + 1 } }).raise
        Irq.rateFloor).logEvent Ev.rateFloor 0 :=
  if_pos ⟨hn, congrArg not hf⟩

/-- The three outcomes of the test for RATE_FLOOR exhaust it. -/
theorem floorTest_eq (h0 : low = false → c = { b with pwr := { b.pwr with floorRun := 0 } })
    (h1 : low = true → b.pwr.floorRun + 1 < 3 ∨ b.flag F.PWR_AVS_STATUS_RATE_FLOOR = true →
      c = { b with pwr := { b.pwr with floorRun := b.pwr.floorRun + 1 } })
    (h2 : low = true → 3 ≤ b.pwr.floorRun + 1 → b.flag F.PWR_AVS_STATUS_RATE_FLOOR = false →
      c = ((State.wr F.PWR_AVS_STATUS_RATE_FLOOR 1 { b with pwr := { b.pwr with floorRun := b.pwr.floorRun + 1 } }).raise
        Irq.rateFloor).logEvent Ev.rateFloor 0) : b.floorTest low = c := by
  cases low with
  | false => exact floorTest_follows.trans (h0 rfl).symm
  | true =>
    by_cases h : b.pwr.floorRun + 1 < 3 ∨ b.flag F.PWR_AVS_STATUS_RATE_FLOOR = true
    · exact (floorTest_counts h).trans (h1 rfl h).symm
    · obtain ⟨hn, hf⟩ := not_or.mp h
      have hn := Nat.not_lt.mp hn
      have hf := Bool.eq_false_of_not_eq_true hf
      exact (floorTest_raises hn hf).trans (h2 rfl hn hf).symm

/-- A command owed keeps the step back. -/
theorem avsStep_owed (h : s.pwr.owed ≠ none) : s.avsStep = s := if_pos (Option.isSome_iff_ne_none.mpr h)

/-- R21: below 1.15 times the required rate the voltage goes up, to 850 mV at most. -/
theorem avsStep_up (ho : s.pwr.owed = none)
    (hm : 100 * s.rd F.PWR_AVS_RATE_MEASURED < 115 * s.rd F.PWR_AVS_RATE_REQUIRED) (hv : s.rd F.PWR_AVS_STATUS_VDD_MV < 850) :
    s.avsStep = s.stepVdd 2 (min 850 (s.rd F.PWR_AVS_STATUS_VDD_MV + s.pwr.step)) := by
  simp [avsStep, ho, hm, hv]

theorem avsStep_top (ho : s.pwr.owed = none)
    (hm : 100 * s.rd F.PWR_AVS_RATE_MEASURED < 115 * s.rd F.PWR_AVS_RATE_REQUIRED) (hv : 850 ≤ s.rd F.PWR_AVS_STATUS_VDD_MV) :
    s.avsStep = s := by
  simp [avsStep, ho, hm, Nat.not_lt.mpr hv]

/-- R21: above 1.2075 times the required rate the voltage goes down, to 550 mV at least. -/
theorem avsStep_down (ho : s.pwr.owed = none)
    (hm : 115 * s.rd F.PWR_AVS_RATE_REQUIRED ≤ 100 * s.rd F.PWR_AVS_RATE_MEASURED)
    (hd : 12075 * s.rd F.PWR_AVS_RATE_REQUIRED < 10000 * s.rd F.PWR_AVS_RATE_MEASURED) (hv : 550 < s.rd F.PWR_AVS_STATUS_VDD_MV) :
    s.avsStep = s.stepVdd 3 (max 550 (s.rd F.PWR_AVS_STATUS_VDD_MV - s.pwr.step)) := by
  simp [avsStep, ho, Nat.not_lt.mpr hm, hd, hv]

/-- R21: between the two rates, and at 550 mV, the voltage stays. -/
theorem avsStep_stays (ho : s.pwr.owed = none)
    (hm : 115 * s.rd F.PWR_AVS_RATE_REQUIRED ≤ 100 * s.rd F.PWR_AVS_RATE_MEASURED)
    (hd : 10000 * s.rd F.PWR_AVS_RATE_MEASURED ≤ 12075 * s.rd F.PWR_AVS_RATE_REQUIRED ∨ s.rd F.PWR_AVS_STATUS_VDD_MV ≤ 550) :
    s.avsStep = s := by
  rcases hd with hd | hd <;> simp [avsStep, ho, Nat.not_lt.mpr hm, Nat.not_lt.mpr hd]

/-- R22: while REG_FAULT is set the loop steps nothing, whatever the rates. -/
theorem avsStep_regFault (h : s.flag F.PWR_AVS_STATUS_REG_FAULT = true) : s.avsStep = s := by
  simp only [avsStep, stepVdd_regFault h, ite_self]

theorem avsHold_stays (h : s.rd F.PWR_AVS_STATUS_VDD_MV = 850 ∨ s.pwr.owed ≠ none) : s.avsHold = s :=
  if_neg fun ⟨hv, ho⟩ => h.elim hv fun hs => hs (Option.isNone_iff_eq_none.mp ho)

/-- R21: with the loop off, another voltage than 850 mV is commanded back to it. -/
theorem avsHold_commands (hv : s.rd F.PWR_AVS_STATUS_VDD_MV ≠ 850) (ho : s.pwr.owed = none) : s.avsHold = s.cmdVdd 850 :=
  if_pos ⟨hv, Option.isNone_iff_eq_none.mpr ho⟩

/-- Without the loop a period only takes its STEP_MV. -/
theorem avsLoopPeriod_noLoop (h : s.mode = Mode.selftest ∨ s.pwr.noLoop = true) :
    s.avsLoopPeriod measured = s.periodBegins (s.rd F.PWR_AVS_CTRL_STEP_MV) :=
  if_pos (h.imp_right Or.inr)

/-- A period of the loop: the rate is shown, RATE_FLOOR tested, and the voltage stepped, or held with the loop off. -/
theorem avsLoopPeriod_loop (hs : s.mode ≠ Mode.selftest) (hp : s.mode ≠ Mode.park) (hn : s.pwr.noLoop = false)
    (hb : b = State.restoreLapse (s.wr F.PWR_AVS_RATE_MEASURED (min measured 65535)))
    (hlow : low = (b.flag F.PWR_AVS_STATUS_REG_FAULT || (b.rd F.PWR_AVS_STATUS_VDD_MV == 850 &&
      decide (100 * b.rd F.PWR_AVS_RATE_MEASURED < 115 * b.rd F.PWR_AVS_RATE_REQUIRED))))
    (hc : b.floorTest low = c) :
    s.avsLoopPeriod measured =
      (if c.flag F.PWR_AVS_CTRL_LOOP_EN then c.avsStep else c.avsHold).periodBegins (s.rd F.PWR_AVS_CTRL_STEP_MV) := by
  subst hc hlow hb
  exact if_neg (by simp [hs, hp, hn])

/-! The regulator. -/

theorem pmbusCommandDone_ack (h : s.pwr.owed = some mv) :
    s.pmbusCommandDone true = { s with pwr := { s.pwr with
      acked := mv
      owed := s.pwr.later.head?
      later := s.pwr.later.tail } } := by
  simp [pmbusCommandDone, h]

/-- R22: a command not acknowledged is counted and is a regulator fault. -/
theorem pmbusCommandDone_nack (h : s.pwr.owed = some mv) : s.pmbusCommandDone false = (s.count ⟨0x14, 1⟩ 0).regFault := by
  simp [pmbusCommandDone, h]

theorem pmbusCommandDone_none (h : s.pwr.owed = none) (ack : Bool) : s.pmbusCommandDone ack = s := by
  simp [pmbusCommandDone, h]

theorem pmbusStatus_zero (h : status % 2 ^ 16 = 0) : s.pmbusStatus status = s := if_pos h

theorem pmbusStatus_fault (h : status % 2 ^ 16 ≠ 0) : s.pmbusStatus status = s.regFault := if_neg h

/-- R436: while the internal reset is held the alert's level is noted alone. -/
theorem pmbAlert_held (h : s.boot.phase = BootPhase.held) : s.pmbAlert status = { s with pwr := { s.pwr with alert := true } } :=
  if_pos h

/-- R466: an alert reads STATUS_WORD at once. -/
theorem pmbAlert_live (h : s.Live) :
    s.pmbAlert status = State.pmbusStatus status { s with pwr := { s.pwr with alert := true } } := if_neg h

theorem pmbAlertTimeout_low (h : s.pwr.alert = true) :
    s.pmbAlertTimeout = State.regFault { s with pwr := { s.pwr with alert := false } } := if_pos h

theorem pmbAlertTimeout_high (h : s.pwr.alert = false) : s.pmbAlertTimeout = s := by
  simp [pmbAlertTimeout, h]

end State

/-- R466: an alert of a live block gives what its STATUS_WORD gives, with the alert noted. -/
theorem pmbAlert_gives {t status : Nat} {s a r : State} (h : State.LiveAt t s a)
    (e : State.pmbusStatus status { a with pwr := { a.pwr with alert := true } } = r) :
    exec (.pmbAlert t status) s = gives t s r := by
  obtain ⟨rfl, hlive⟩ := h
  exact (run_gives ..).trans (congrArg _ ((State.pmbAlert_live hlive).trans e))

/-- Settles O49: the test for RATE_FLOOR leaves one state `c`, from which the step or the hold is a case split; the
regulator's events are a case each. -/
theorem supplyCommandsComplete : Obligations.SupplyCommandsComplete := by
  refine ⟨fun t measured m r v st n low s a b c h hn => ⟨fun hno => ?noLoop, ?loop⟩,
    fun t mv status s a b c h => ⟨fun hf hb => ?change, fun ho => ?done, fun ho ack => ?nothing, fun hh => ?held,
      fun hz => ?zero, fun hz => ?fault, fun hl => ?low, fun hl => ?high⟩⟩
  case noLoop => exact awakeAt_eq h (hn ▸ State.avsLoopPeriod_noLoop hno)
  case loop =>
    rintro hs hl hb hlow h0 h1 h2 rfl rfl rfl rfl
    have hp : a.mode ≠ Mode.park := h.2.2
    have eff := State.avsLoopPeriod_loop hs hp hl hb hlow (State.floorTest_eq h0 h1 h2)
    rw [← hn] at eff
    have stepped : c.flag F.PWR_AVS_CTRL_LOOP_EN = true → ∀ {r : State}, c.avsStep = r →
        exec (.avsLoopPeriod t measured) s = gives t s (r.periodBegins n) :=
      fun he _ hr => awakeAt_eq h (by rw [eff, if_pos he, hr])
    have held : c.flag F.PWR_AVS_CTRL_LOOP_EN = false → ∀ {r : State}, c.avsHold = r →
        exec (.avsLoopPeriod t measured) s = gives t s (r.periodBegins n) :=
      fun he _ hr => awakeAt_eq h (by rw [eff, if_neg (by simp [he]), hr])
    refine ⟨fun he hv => held he (State.avsHold_stays hv), fun he hv ho => held he (State.avsHold_commands hv ho),
      fun he ho => stepped he (State.avsStep_owed ho), fun he ho => ⟨?regFault, ?up, ?top, ?down, ?stays⟩⟩
    case regFault => exact fun hf => stepped he (State.avsStep_regFault hf)
    case up => exact fun hf hm hv => stepped he ((State.avsStep_up ho hm hv).trans (State.stepVdd_sent hf))
    case top => exact fun hm hv => stepped he (State.avsStep_top ho hm hv)
    case down => exact fun hf hm hd hv => stepped he ((State.avsStep_down ho hm hd hv).trans (State.stepVdd_sent hf))
    case stays => exact fun hm hd => stepped he (State.avsStep_stays ho hm hd)
  case change => exact ⟨State.cmdVdd_owed hf hb, State.cmdVdd_queued hf hb⟩
  case done =>
    exact ⟨liveAt_eq h (State.pmbusCommandDone_ack ho), liveAt_eq h (State.pmbusCommandDone_nack ho)⟩
  case nothing => exact liveAt_eq h (State.pmbusCommandDone_none ho ack)
  case held => exact (run_gives ..).trans (congrArg _ (State.pmbAlert_held hh))
  case zero => exact ⟨liveAt_eq h (State.pmbusStatus_zero hz), pmbAlert_gives h (State.pmbusStatus_zero hz)⟩
  case fault => exact ⟨liveAt_eq h (State.pmbusStatus_fault hz), pmbAlert_gives h (State.pmbusStatus_fault hz)⟩
  case low => exact liveAt_eq h (State.pmbAlertTimeout_low hl)
  case high => exact liveAt_eq h (State.pmbAlertTimeout_high hl)

end Sys2Proof.Machine
end

section
/-! SUPPORT. Proofs of the timebase family: the reads of one register (R49, R169, R461, R482). -/

namespace Sys2Proof.Machine

/-! ### The registers read -/

/-- A block's search finds a register where one of its rows holds the address. -/
theorem findIn_isSome {a : Nat} {r : RegDef} {l : List RegDef} (hr : r ∈ l) (h : (r.place? a).isSome = true) :
    (findIn a l).isSome = true := by
  induction l with
  | nil => cases hr
  | cons q l ih =>
    unfold findIn
    cases hq : q.place? a with
    | some p => rfl
    | none =>
      rcases List.mem_cons.mp hr with rfl | hr
      · simp [hq] at h
      · exact ih hr

/-- The first register of a unit of an array lies in that array's row. -/
theorem RegDef.place?_unit {r : RegDef} {u : Nat} (hs : 0 < r.su) (hu : u < r.nu) (hn : 0 < r.ni) :
    (r.place? (r.base + r.su * u)).isSome = true := by
  have hne : ¬ r.su = 0 := by omega
  simp [RegDef.place?, hne, Nat.mul_div_cancel_left u hs, Nat.mul_comm u, hu, hn]

/-- R482: every front end has its TDC_FE_LAST_FLAGS. -/
theorem findReg_lastFlags (f : Fin 264) : (findReg (A.TDC_FE_LAST_FLAGS f)).isSome = true := by
  have hf := f.isLt
  have h4 : A.TDC_FE_LAST_FLAGS f % 4 = 0 := by
    unfold A.TDC_FE_LAST_FLAGS
    omega
  have hb : blockRegs (A.TDC_FE_LAST_FLAGS f / 0x10000) = regsTDCFE := by
    have : A.TDC_FE_LAST_FLAGS f / 0x10000 = 32 ∨ A.TDC_FE_LAST_FLAGS f / 0x10000 = 33 := by
      unfold A.TDC_FE_LAST_FLAGS
      omega
    rcases this with h | h <;> rw [h] <;> rfl
  rw [findReg, if_pos h4, hb]
  refine findIn_isSome (r := regsTDCFE[4]) (List.getElem_mem _) ?_
  exact RegDef.place?_unit (r := regsTDCFE[4]) (by decide) hf (by decide)

/-- The rows that are a read of one register name a mapped one. -/
theorem findReg_readOf {i : Instr} {x : RegReq} {a : Nat} (h : readOf i = some (x, a)) : (findReg a).isSome = true := by
  cases i <;> simp only [readOf, Option.some.injEq, Prod.mk.injEq, reduceCtorEq] at h <;> obtain ⟨rfl, rfl⟩ := h
  case timeNowLatch => rfl
  case tdcLastLatch => exact findReg_lastFlags _
  case spyLatch => rfl

/-- Such a row's command is the request of its REG_READ packet. -/
theorem exec_read {i : Instr} {x : RegReq} {a : Nat} (h : readOf i = some (x, a)) (s : State) :
    exec i s = run i.time (fun s => s.request Op.regRead (x.read a)) s := by
  cases i <;> simp only [readOf, Option.some.injEq, Prod.mk.injEq, reduceCtorEq] at h <;>
    (obtain ⟨rfl, rfl⟩ := h; rfl)

/-- REG_READ of one mapped register returns its word. -/
theorem State.opRegRead_one {x : RegReq} {a : Nat} (h : (findReg a).isSome = true) (s : State) :
    State.opRegRead (x.read a) s = OpResult.reply [(s.hostRead a).2] (s.hostRead a).1 := by
  have hl : addrRun ((x.read a).arg 0) 4 ((x.read a).arg 1) = [a] := rfl
  have hm : firstUnmapped [a] = none := by
    obtain ⟨r, hr⟩ := Option.isSome_iff_exists.mp h
    simp [firstUnmapped, hr]
  rw [State.opRegRead_reply (q := x.read a) (Nat.le_refl 1) (show 1 ≤ 2048 by decide) (fun _ => rfl) (hl ▸ hm), hl]
  rfl

/-- Settles O12: the row is the request of a REG_READ packet of one mapped register. -/
theorem registerReadRows : Obligations.RegisterReadRows := by
  intro i x a s b hi h
  exact (exec_read hi s).trans (request_gives h ((regRead_core _ b).trans (State.opRegRead_one (findReg_readOf hi) b)))

end Sys2Proof.Machine
end

section
/-! SUPPORT. Proofs of the timebase family: the latch of device time (R49), and that no fire edge at a command's arrival
touches it. -/

namespace Sys2Proof.Machine

/-! ### The timebase's registers (Table 20-1) -/

/-- The addresses of the timebase's registers (Table 20-1). -/
def InTimebase (a : Nat) : Prop := 0x010000 ≤ a ∧ a < 0x020000

theorem inTimebase_timeNow {a : Nat} (h : a = A.TIME_NOW_SEC_LO ∨ a = A.TIME_NOW_NS ∨ a = A.TIME_NOW_FRAC) :
    InTimebase a := by
  rcases h with rfl | rfl | rfl <;> exact ⟨by decide, by decide⟩

theorem InTimebase.ne {a b : Nat} (ha : InTimebase a) (hb : b < 0x010000 ∨ 0x020000 ≤ b) : a ≠ b := by
  obtain ⟨h1, h2⟩ := ha
  omega

namespace State

/-! ### Fire edges leave the timebase's registers alone (R49) -/

section
variable {a : Nat}

/-- Two states that hold the same word, one of which is taken. -/
theorem word_ite {p : Prop} [Decidable p] {s r x : State} (hs : s.word a = x.word a) (hr : r.word a = x.word a) :
    (if p then s else r).word a = x.word a := by
  split
  · exact hs
  · exact hr

/-- A change that is made or not, and leaves the word. -/
theorem word_ite_self {p : Prop} [Decidable p] {s r : State} (h : r.word a = s.word a) :
    (if p then r else s).word a = s.word a := word_ite h rfl

theorem word_foldl {α : Type} {f : State → α → State} (h : ∀ s x, (f s x).word a = s.word a) (l : List α) (s : State) :
    (l.foldl f s).word a = s.word a := by
  induction l generalizing s with
  | nil => rfl
  | cons x l ih => exact (ih _).trans (h s x)

/-- The same of a fold that gathers results beside the state. -/
theorem word_foldl_fst {α β : Type} {f : State × β → α → State × β} (h : ∀ p x, (f p x).1.word a = p.1.word a) (l : List α)
    (p : State × β) : (l.foldl f p).1.word a = p.1.word a := by
  induction l generalizing p with
  | nil => rfl
  | cons x l ih => exact (ih _).trans (h p x)

theorem word_leaveGap (f : Nat) (s : State) : (s.leaveGap f).word a = s.word a := by
  unfold leaveGap
  dsimp only
  split <;> split <;> rfl

theorem word_openWin (id : Nat) (p : State × List ChanWin) (ch : Nat) : (openWin id p ch).1.word a = p.1.word a := by
  unfold openWin
  dsimp only
  split
  · rfl
  · exact word_leaveGap _ _

theorem word_addPoint (n e : Nat) (ws : List Nat) (kappa : Int) (p : Vec) (s : State) :
    (s.addPoint n e ws kappa p).word a = s.word a := rfl

theorem word_noteOff (s : State) (e : Nat) : (s.noteOff e).word a = s.word a := rfl

variable (ha : InTimebase a)
include ha

theorem word_wr_outside {f : Fld} (hf : f.addr < 0x010000 ∨ 0x020000 ≤ f.addr) (v : Nat) (s : State) :
    (s.wr f v).word a = s.word a := word_wr_ne (ha.ne hf) s v

theorem word_countN_timebase (c : Ctr) (inst n : Nat) (s : State) : (s.countN c inst n).word a = s.word a :=
  word_countN (ha.ne (by decide)) c inst n s

theorem word_count_timebase (c : Ctr) (inst : Nat) (s : State) : (s.count c inst).word a = s.word a :=
  word_countN_timebase ha c inst 1 s

theorem word_logEvent_timebase (c x : Nat) (s : State) : (s.logEvent c x).word a = s.word a :=
  word_logEntry (ha.ne (by decide)) (ha.ne (by decide)) x c 0x0B 0 0 0 s

theorem word_raise_timebase (n : Nat) (s : State) : (s.raise n).word a = s.word a :=
  (word_raise (ha.ne (by decide)) (ha.ne (by decide)) (ha.ne (by decide)) (ha.ne (by decide)) n s).trans
    (word_wr_outside ha (by decide) _ s)

/-! An emitter's and an octant's registers. -/

theorem word_wr_emitter {f : Fld} {e : Nat} (hf : f.addr = A.FIRE_EM_STATUS e ∨ f.addr = A.FIRE_EM_EYE_ACC e) (v : Nat)
    (s : State) : (s.wr f v).word a = s.word a := by
  refine word_wr_outside ha (.inr ?_) v s
  unfold A.FIRE_EM_STATUS A.FIRE_EM_EYE_ACC at hf
  omega

theorem word_wr_octLevel {f : Fld} {g : Nat} (hf : f.addr = A.FIRE_OCT_LEVEL_STATUS g) (v : Nat) (s : State) :
    (s.wr f v).word a = s.word a := by
  refine word_wr_outside ha (.inr ?_) v s
  unfold A.FIRE_OCT_LEVEL_STATUS at hf
  omega

/-! Code groups and their banks. -/

theorem word_handBank (e : Nat) (g : CodeGroup) (s : State) (ch : Nat) : (s.handBank e g ch).word a = s.word a := by
  unfold handBank
  split
  · rfl
  · exact word_ite rfl ((word_wr_outside ha (by decide) _ _).trans (word_countN_timebase ha _ _ _ s))

theorem word_closeGroup (e num : Nat) (s : State) : (s.closeGroup e num).word a = s.word a := by
  unfold closeGroup
  split
  · rfl
  · exact word_ite (word_foldl (word_handBank ha e _) _ _) rfl

theorem word_claimAt (q : QueuedShot) (s : State) : (s.claimAt q).word a = s.word a := by
  unfold claimAt claimBanks
  exact word_ite
    (word_ite rfl ((word_wr_outside ha (by decide) _ _).trans (word_countN_timebase ha _ _ _ _))) rfl

/-! Units. -/

theorem word_formPoint (vals : EchoVals) (ch range : Nat) (v : Int) (h : Nat) (invalid hard confirmed : Bool) (x : Shot)
    (s : State) : (s.formPoint vals ch range v h invalid hard confirmed x).1.word a = s.word a := by
  unfold formPoint
  dsimp only
  split
  case isTrue => exact word_count_timebase ha _ _ s
  case isFalse =>
    split
    case isTrue =>
      refine Eq.trans ?_ (word_countN_timebase ha ⟨0x09, 0⟩ 0 1 s)
      split
      · exact word_ite (word_foldl (fun s e => word_addPoint _ e _ _ _ s) _ _) rfl
      · rfl
    case isFalse => exact word_count_timebase ha _ _ s

theorem word_formRecords (v : EchoVals) (x : Shot) (win : ChanWin) (s : State) (cs : List Cand) :
    (s.formRecords v x win cs).1.word a = s.word a := by
  refine word_foldl_fst (fun p _ => ?_) cs (s, [])
  exact word_formPoint ha _ _ _ _ _ _ _ _ _ p.1

theorem word_suppress (v : EchoVals) (ch : Nat) (hasList : Bool) (p : State × List Cand) (c : Cand) :
    (suppress v ch hasList p c).1.word a = p.1.word a := by
  unfold suppress
  split
  · exact word_count_timebase ha _ _ _
  · split
    · exact word_count_timebase ha _ _ _
    · rfl

theorem word_formChannel (v : EchoVals) (x : Shot) (win : ChanWin) (s : State) :
    (s.formChannel v x win).1.word a = s.word a := by
  have overflow : (if win.excess then s.setIn F.ECHO_STATUS_OVF_OCT (x.em / 8) else s).word a = s.word a :=
    word_ite (word_wr_outside ha (by decide) _ s) rfl
  unfold formChannel
  dsimp only
  split
  · exact overflow
  · rw [word_countN_timebase ha, word_formRecords ha]
    refine (word_ite rfl ((word_wr_outside ha (by decide) _ _).trans (word_countN_timebase ha _ _ _ _))).trans ?_
    exact (word_foldl_fst (word_suppress ha v _ _) _ _).trans ((word_countN_timebase ha _ _ _ _).trans overflow)

theorem word_formClosed (x : Shot) (s : State) : (s.formClosed x).word a = s.word a := by
  unfold formClosed formUnit
  refine word_ite rfl ?_
  split
  · rfl
  · refine word_foldl_fst (fun p _ => ?_) _ _
    exact word_formChannel ha _ _ _ p.1

/-! Table 5-3. -/

theorem word_notFired (q : QueuedShot) (outcome : Nat) (s : State) : (s.notFired q outcome).word a = s.word a := by
  have counted : (if outcome = 4 then s.count ⟨0x04, 2⟩ 0 else if outcome = 2 then s.count ⟨0x04, 4⟩ 0 else s).word a =
      s.word a := word_ite (word_count_timebase ha _ _ s) (word_ite (word_count_timebase ha _ _ s) rfl)
  unfold notFired
  exact (word_closeGroup ha _ _ _).trans ((word_formClosed ha _ _).trans ((word_claimAt ha q _).trans counted))

theorem word_turnAway (q : QueuedShot) (outcome : Nat) (s : State) : (s.turnAway q outcome).word a = s.word a := by
  unfold turnAway
  exact word_ite rfl (word_notFired ha q outcome _)

theorem word_eyeSuppress (e : Nat) (s : State) : (s.eyeSuppress e).word a = s.word a := by
  have counted := word_count_timebase ha ⟨0x04, 5⟩ 0 s
  unfold eyeSuppress
  exact word_ite counted ((word_raise_timebase ha _ _).trans ((word_wr_emitter ha (.inl rfl) _ _).trans counted))

theorem word_preShort (e : Nat) (s : State) : (s.preShort e).word a = s.word a := by
  unfold preShort
  dsimp only
  rw [word_logEvent_timebase ha, word_raise_timebase ha, setIn, word_wr_outside ha (by decide), word_wr_octLevel ha rfl,
    word_wr_octLevel ha rfl, word_wr_emitter ha (.inl rfl), word_wr_emitter ha (.inl rfl)]
  exact word_foldl (fun s k => word_noteOff s _) _ s

theorem word_fired (q : QueuedShot) (s : State) : (s.fired q).word a = s.word a := by
  unfold fired
  dsimp only
  refine (word_foldl_fst (word_openWin _) _ _).trans ?_
  refine Eq.trans (word_ite_self (p := 12 ≤ q.job.width) ?evals) ?_
  case evals => rfl
  refine Eq.trans (word_ite_self (p := q.deferred = true) ?deferred) ?_
  case deferred => exact word_count_timebase ha _ _ _
  exact (word_countN_timebase ha _ _ _ _).trans ((word_wr_emitter ha (.inr rfl) _ _).trans (word_claimAt ha q s))

/-- An executed slot at its instant, whatever Table 5-3 makes of it. -/
theorem word_launch (s : State) (q : QueuedShot) : (s.launch q).word a = s.word a := by
  have away := fun k => word_turnAway ha q k s
  unfold launch
  dsimp only
  split
  · exact word_notFired ha q _ s
  · refine word_ite (away 7) (word_ite (away 5) (word_ite (away 6) ?_))
    split
    · exact away _
    · exact word_ite ((word_turnAway ha q 3 _).trans (word_eyeSuppress ha _ s))
        (word_ite ((word_turnAway ha q 7 _).trans (word_preShort ha _ s)) (word_fired ha q s))

theorem word_launchLoop (t n : Nat) (s : State) : (s.launchLoop t n).word a = s.word a := by
  induction n generalizing s with
  | zero => rfl
  | succ n ih =>
    unfold launchLoop
    split
    · rfl
    · exact (ih _).trans ((word_launch ha _ _).trans (pass_word _ _ a))

/-- R49: the fire edges due at a command's arrival, and the time that passes, change no register of the timebase. -/
theorem word_arrive (t : Nat) (s : State) : (s.arrive t).word a = s.word a := by
  unfold arrive launchDue
  exact (pass_word _ _ _).trans (word_ite rfl (word_launchLoop ha t _ _))

end

/-! ### Device time is latched (R49) -/

/-- A field reads as the low bits of the value written. -/
theorem rd_wr_mod {f : Fld} (s : State) (v : Nat) (h : f.lo ≤ f.hi) (h' : f.hi < 32) :
    (s.wr f v).rd f = v % 2 ^ (f.hi + 1 - f.lo) := by
  have hv : s.wr f v = s.wr f (v % 2 ^ (f.hi + 1 - f.lo)) := by simp only [wr, setBits, Nat.mod_mod]
  rw [hv, rd_wr_same s h h' (Nat.mod_lt _ (by positivity))]

/-- A field of 32 bits is its word. -/
theorem word_eq_rd {f : Fld} (s : State) (h : f.hi = 31) (h' : f.lo = 0) : s.word f.addr = s.rd f := by
  simpa [rd, bitsOf, h, h'] using (Nat.mod_eq_of_lt (s.word_lt f.addr)).symm

theorem timeLatch_secHi (s : State) : s.timeLatch.rd F.TIME_NOW_SEC_HI_SEC_HI = s.sec / 2 ^ 32 % 2 ^ 16 := by
  unfold timeLatch
  rw [rd_wr_ne (by decide), rd_wr_ne (by decide), rd_wr_ne (by decide), rd_wr_mod _ _ (by decide) (by decide)]
  rfl

theorem timeLatch_secLo (s : State) : s.timeLatch.word A.TIME_NOW_SEC_LO = s.sec % 2 ^ 32 := by
  refine (word_eq_rd (f := F.TIME_NOW_SEC_LO_SEC_LO) _ rfl rfl).trans ?_
  unfold timeLatch
  rw [rd_wr_ne (by decide), rd_wr_ne (by decide), rd_wr_mod _ _ (by decide) (by decide)]
  exact Nat.mod_mod _ _

theorem timeLatch_ns (s : State) : s.timeLatch.word A.TIME_NOW_NS = s.nsec % 2 ^ 32 := by
  refine (word_eq_rd (f := F.TIME_NOW_NS_NS) _ rfl rfl).trans ?_
  unfold timeLatch
  rw [rd_wr_ne (by decide), rd_wr_mod _ _ (by decide) (by decide)]
  rfl

theorem timeLatch_frac (s : State) : s.timeLatch.rd F.TIME_NOW_FRAC_FRAC = s.frac % 2 ^ 16 :=
  rd_wr_mod _ _ (by decide) (by decide)

/-- A register without RDC fields is brought up to date, and its word returned. -/
theorem hostRead_plain {a : Nat} {r : RegAt} (hr : findReg a = some r) (hc : r.reg.maskOf .rdc = 0) (s : State) :
    s.hostRead a = (s.beforeRead a, (s.beforeRead a).word a) := by
  simp [hostRead, hr, hc]

theorem hostRead_secHi (s : State) :
    s.hostRead A.TIME_NOW_SEC_HI = (s.timeLatch, s.timeLatch.word A.TIME_NOW_SEC_HI) := hostRead_plain rfl rfl s

/-- The latched registers return what they hold, and nothing changes. -/
theorem hostRead_latched {a : Nat} (h : a = A.TIME_NOW_SEC_LO ∨ a = A.TIME_NOW_NS ∨ a = A.TIME_NOW_FRAC) (s : State) :
    s.hostRead a = (s, s.word a) := by
  rcases h with rfl | rfl | rfl <;> exact hostRead_plain rfl rfl s

end State

/-- Settles O53: the latch by its four field writes, and the frame of a command's arrival for a read at a later time. -/
theorem timeNowIsLatched : Obligations.TimeNowIsLatched := by
  refine ⟨fun s => ?latch, fun a t s h => ?later⟩
  case latch =>
    rw [State.hostRead_secHi]
    exact ⟨State.timeLatch_secHi s, State.timeLatch_secLo s, State.timeLatch_ns s, State.timeLatch_frac s⟩
  case later => rw [State.hostRead_latched h, State.word_arrive (inTimebase_timeNow h)]

end Sys2Proof.Machine
end

section
/-! SUPPORT. Proofs of the timebase family: REF_IN, XTAL and the PLL (R32, R35 to R40). -/

namespace Sys2Proof.Machine

/-! ### The frequency of REF_IN (R32) -/

/-- The number by which Table 2-4 names the frequency that a window has counted, 0 for neither. -/
def refClass (hz : Nat) : Nat := if near100ppm hz 10000000 then 1 else if near100ppm hz 100000000 then 2 else 0

section
variable {hz n f : Nat}

theorem near100ppm_iff : near100ppm hz f = true ↔ f - f / 10000 ≤ hz ∧ hz ≤ f + f / 10000 := by
  simp only [near100ppm, Bool.and_eq_true, decide_eq_true_eq]
  omega

theorem near100ppm_outside (h : hz < f - f / 10000 ∨ f + f / 10000 < hz) : near100ppm hz f = false :=
  Bool.eq_false_iff.mpr fun hn => by
    obtain ⟨h1, h2⟩ := near100ppm_iff.mp hn
    omega

theorem refClass_neither (h : near100ppm hz 10000000 = false) (h' : near100ppm hz 100000000 = false) : refClass hz = 0 := by
  simp [refClass, h, h']

variable (hf : n = 1 ∧ f = 10000000 ∨ n = 2 ∧ f = 100000000)
include hf

theorem refClass_near (h : near100ppm hz f = true) : refClass hz = n := by
  unfold refClass
  rcases hf with ⟨rfl, rfl⟩ | ⟨rfl, rfl⟩
  · exact if_pos h
  · have h1 : ¬ near100ppm hz 10000000 = true := by
      rw [near100ppm_iff] at h ⊢
      omega
    rw [if_neg h1, if_pos h]

theorem refClass_far (h : near100ppm hz f = false) : refClass hz ≠ n := by
  rcases hf with ⟨rfl, rfl⟩ | ⟨rfl, rfl⟩
  · by_cases h2 : near100ppm hz 100000000 = true <;> simp [refClass, h, h2]
  · by_cases h1 : near100ppm hz 10000000 = true <;> simp [refClass, h, h1]

end

namespace State

variable {a : State} {level : Bool} {hz n f : Nat}

/-! ### REF_IN is lost (R36, R40) -/

/-- What the absence of REF_IN clears. -/
def withoutRef (s : State) : State :=
  { s.wr F.TIME_STATUS_REF_PRESENT 0 with time := { s.time with refOkSince := none } }

theorem refLost_present (h : a.flag F.TIME_STATUS_REF_PRESENT = true) : a.refLost = a.refAbsent := if_pos h

theorem refAbsent_other (h : a.time.src ≠ .ref) : a.refAbsent = a.withoutRef := if_neg h

/-- R36: with XTAL present, the PLL moves to it. -/
theorem refAbsent_xtal (h : a.time.src = .ref) (hx : a.time.xtalOk = true) :
    a.refAbsent = ((a.withoutRef.pllSwitch .xtal).wr F.TIME_STATUS_REF_LOST 1).raise Irq.refLost :=
  (if_pos h).trans (if_pos hx)

/-- R40: without it, both inputs are lost. -/
theorem refAbsent_none (h : a.time.src = .ref) (hx : a.time.xtalOk = false) :
    a.refAbsent = ((a.withoutRef.wr F.TIME_STATUS_REF_LOST 1).raise Irq.refLost).timebaseLost :=
  (if_pos h).trans (if_neg (Bool.eq_false_iff.mp hx))

/-! ### A window of REF_IN (R32, R35) -/

/-- With no frequency selected or detected, the window classifies REF_IN. -/
theorem refWindow_first (hs : a.rd F.TIME_REF_CTRL_REF_SEL = 0) (hd : a.rd F.TIME_STATUS_REF_FREQ_DET = 0) :
    a.refWindow hz = if refClass hz ≠ 0 then (a.wr F.TIME_STATUS_REF_FREQ_DET (refClass hz)).refValid
      else (a.wr F.TIME_STATUS_REF_FREQ_FAULT 1).refAbsent :=
  (if_pos hs).trans (if_neg (not_not_intro hd))

/-- The frequency detected is that of every later window. -/
theorem refWindow_detected (hs : a.rd F.TIME_REF_CTRL_REF_SEL = 0) (hd : a.rd F.TIME_STATUS_REF_FREQ_DET = n) (hn : n ≠ 0) :
    a.refWindow hz = if refClass hz = n then a.refValid
      else ((a.wr F.TIME_STATUS_REF_FREQ_DET 0).wr F.TIME_STATUS_REF_FREQ_FAULT 1).refAbsent := by
  subst hd
  exact (if_pos hs).trans (if_pos hn)

/-- With a frequency selected, no detection is shown. -/
theorem refWindow_selected (hs : a.rd F.TIME_REF_CTRL_REF_SEL = n)
    (hf : n = 1 ∧ f = 10000000 ∨ n = 2 ∧ f = 100000000) :
    a.refWindow hz = if near100ppm hz f then (a.wr F.TIME_STATUS_REF_FREQ_DET 0).refValid
      else ((a.wr F.TIME_STATUS_REF_FREQ_DET 0).wr F.TIME_STATUS_REF_FREQ_FAULT 1).refAbsent := by
  rcases hf with ⟨rfl, rfl⟩ | ⟨rfl, rfl⟩ <;> simp [refWindow, hs]

/-! ### REF_WARM, lock and return (R34, R37 to R39) -/

theorem firstSwitch_seen (h : a.time.everRef = true) : a.firstSwitch = a := by
  simp [firstSwitch, h]

/-- R37: a new level of REF_WARM, with the PLL on XTAL and REF_IN seen before. -/
theorem refWarm_xtal (hl : a.flag F.TIME_STATUS_REF_WARM ≠ level) (hs : a.time.src = .xtal) (he : a.time.everRef = true) :
    a.refWarm level = { a.wrB F.TIME_STATUS_REF_WARM level with time := { a.time with
      refOkSince := if level = true ∧ a.flag F.TIME_STATUS_REF_PRESENT = true then some a.now else none } } := by
  simp [refWarm, hl, hs, firstSwitch_seen, he]

/-- R36: the PLL is in lock, with its source shown already. -/
theorem pllLock_shown (hs : a.time.src ≠ .none) (hf : a.rd F.TIME_STATUS_FREQ_STATE ≠ Freq.none) (he : a.time.everRef = true) :
    a.pllLock = { a with time := { a.time with locked := true } } := by
  have hf : ¬ State.rd { a with time := { a.time with locked := true } } F.TIME_STATUS_FREQ_STATE = Freq.none := hf
  simp only [pllLock, if_neg hs, if_neg hf]
  exact firstSwitch_seen he

/-- R38: REF_IN has been good for RETURN_HOLD. -/
theorem refReturn_held (hs : a.time.src = .xtal) (hr : a.time.refOkSince ≠ none) : a.refReturn = a.pllSwitch .ref :=
  if_pos ⟨hs, Option.isSome_iff_ne_none.mpr hr⟩

/-! ### XTAL fails and returns (R40) -/

/-- What the absence of XTAL shows. -/
def withoutXtal (s : State) : State :=
  { s.wr F.TIME_STATUS_XTAL_FAULT 1 with time := { s.time with xtalOk := false } }

theorem xtalFault_other (h : a.time.src ≠ .xtal) : a.xtalFault = a.withoutXtal := if_neg h

theorem xtalFault_ref (h : a.time.src = .xtal) (hp : a.withoutXtal.flag F.TIME_STATUS_REF_PRESENT = true) :
    a.xtalFault = a.withoutXtal.pllSwitch .ref := (if_pos h).trans (if_pos hp)

theorem xtalFault_none (h : a.time.src = .xtal) (hp : a.withoutXtal.flag F.TIME_STATUS_REF_PRESENT = false) :
    a.xtalFault = a.withoutXtal.timebaseLost := (if_pos h).trans (if_neg (Bool.eq_false_iff.mp hp))

theorem xtalReturn_other (h : a.time.src ≠ .none) : a.xtalReturn = { a with time := { a.time with xtalOk := true } } :=
  if_neg fun hn => h hn.1

/-- The PLL of a part with no source takes XTAL, except in PARK. -/
theorem xtalReturn_taken (h : a.time.src = .none) (hm : a.mode ≠ Mode.park) :
    a.xtalReturn = { a with time := { a.time with xtalOk := true, src := .xtal } } := if_pos ⟨h, hm⟩

end State

/-- Settles O21: a window by the frequency that it is judged by, and the PLL's source by the inputs that are left. -/
theorem oscillatorCommandsComplete : Obligations.OscillatorCommandsComplete := by
  refine ⟨fun t hz n f level s a b h => ⟨?lost, ?first, ?detected, ?selected, ?warm, ?lock, ?back⟩,
    fun t s a b h hb => ?xtal⟩
  case lost =>
    rintro hp rfl
    have absent : ∀ {r : State}, a.refAbsent = r → exec (.refLost t) s = gives t s r :=
      fun e => liveAt_eq h ((State.refLost_present hp).trans e)
    exact ⟨fun hs => absent (State.refAbsent_other hs), fun hs hx => absent (State.refAbsent_xtal hs hx),
      fun hs hx => absent (State.refAbsent_none hs hx)⟩
  case first =>
    intro hs hd
    have classified : ∀ {c : Nat}, refClass hz = c → c ≠ 0 →
        exec (.refFreqWindow t hz) s = gives t s (a.wr F.TIME_STATUS_REF_FREQ_DET c).refValid := by
      rintro c rfl hc
      exact liveAt_eq h ((State.refWindow_first hs hd).trans (if_pos hc))
    refine ⟨fun h1 h2 => classified (refClass_near (f := 10000000) (by decide) (near100ppm_iff.mpr ⟨h1, h2⟩)) (by decide),
      fun h1 h2 => classified (refClass_near (f := 100000000) (by decide) (near100ppm_iff.mpr ⟨h1, h2⟩)) (by decide),
      fun h1 h2 => ?neither⟩
    have h0 := refClass_neither (near100ppm_outside h1) (near100ppm_outside h2)
    exact liveAt_eq h ((State.refWindow_first hs hd).trans (if_neg (not_not_intro h0)))
  case detected =>
    intro hs hd hf
    have hn : n ≠ 0 := by omega
    exact ⟨fun h1 h2 => liveAt_eq h ((State.refWindow_detected hs hd hn).trans
        (if_pos (refClass_near hf (near100ppm_iff.mpr ⟨h1, h2⟩)))),
      fun ho => liveAt_eq h ((State.refWindow_detected hs hd hn).trans (if_neg (refClass_far hf (near100ppm_outside ho))))⟩
  case selected =>
    intro hs hf
    exact ⟨fun h1 h2 => liveAt_eq h ((State.refWindow_selected hs hf).trans (if_pos (near100ppm_iff.mpr ⟨h1, h2⟩))),
      fun ho => liveAt_eq h ((State.refWindow_selected hs hf).trans
        (if_neg (Bool.eq_false_iff.mp (near100ppm_outside ho))))⟩
  case warm => exact fun hl hs he => liveAt_eq h (State.refWarm_xtal hl hs he)
  case lock => exact fun hs hf he => liveAt_eq h (State.pllLock_shown hs hf he)
  case back => exact fun hm hs hr => awakeAt_eq ⟨h.1, h.2, hm⟩ (State.refReturn_held hs hr)
  case xtal =>
    subst hb
    exact ⟨fun hs => liveAt_eq h (State.xtalFault_other hs), fun hs hp => liveAt_eq h (State.xtalFault_ref hs hp),
      fun hs hp => liveAt_eq h (State.xtalFault_none hs hp), fun hs => liveAt_eq h (State.xtalReturn_other hs),
      fun hs hm => liveAt_eq h (State.xtalReturn_taken hs hm)⟩

end Sys2Proof.Machine
end

section
/-! SUPPORT. Proofs of the timebase family: the messages of PTP (R50, R53) and the pulses of PPS_IN (R53 to R55). -/

namespace Sys2Proof.Machine
namespace State

/-! ### PTP (R50, R53) -/

section
variable {a b c : State} {l : Nat} {m : PtpMsg} {p : PtpParent}

theorem fromParent_eq (hp : a.time.parent = some p) (hi : p.identity = m.sender) : a.fromParent m = true := by
  simp [fromParent, hp, hi]

/-- A response to the device's own request is known by its sequence identifier and identity. -/
theorem reqTime_eq {t1 : Int} (hr : a.time.reqSent = some (m.seq, t1)) (ha : m.asked = ownIdentity l) :
    a.reqTime l m = some t1 := by
  simp [reqTime, hr, ha]

variable (ht : a.ptpTakes l m = true) (hb : b = a.rxFrame l m.bytes)
include ht hb

/-- The PTP port takes a message that belongs to the profile. -/
theorem ptpReceive_taken {fits : Bool} (hf : fits = true) (f : State → State) : a.ptpReceive fits l m f = f b := by
  subst hb
  exact if_pos (by simp [ht, hf])

section
variable (hc : c = b.count ⟨0x01, 2⟩ 0) (hp : c.time.parent = some p) (hi : p.identity = m.sender)
include hc hp hi

/-- R53: a two-step Sync waits for its Follow_Up. -/
theorem ptpSync_twoStep (h2 : m.twoStep = true) :
    a.ptpSync l m = { c with time := { c.time with syncWait := some (m.seq, (c.rxTime l - m.correction).toNat) } } := by
  subst hc
  refine (ptpReceive_taken ht hb rfl _).trans ?_
  simp [fromParent_eq hp hi, h2]

theorem ptpSync_oneStep (h1 : m.twoStep = false) :
    a.ptpSync l m = c.syncComplete l (c.rxTime l - m.correction - m.origin) := by
  subst hc
  refine (ptpReceive_taken ht hb rfl _).trans ?_
  simp [fromParent_eq hp hi, h1]

end

theorem ptpFollowUp_waited {k : Nat} (hp : b.time.parent = some p) (hi : p.identity = m.sender)
    (hw : b.time.syncWait = some (m.seq, k)) :
    a.ptpFollowUp l m = b.syncComplete l ((k : Int) - m.origin - m.correction) := by
  refine (ptpReceive_taken ht hb rfl _).trans ?_
  simp [hw, fromParent_eq hp hi]

theorem ptpDelayResp_asked {d t1 : Int} (hp : b.time.parent = some p) (hi : p.identity = m.sender)
    (hd : b.time.lastDiff = some d) (hf : a.profileAs = false) (hr : b.time.reqSent = some (m.seq, t1))
    (ha : m.asked = ownIdentity l) : a.ptpDelayResp l m = b.delayDone (d + (m.origin - t1 - m.correction)) := by
  refine (ptpReceive_taken ht hb (by simp [hf]) _).trans ?_
  simp [hd, reqTime_eq hr ha, fromParent_eq hp hi]

theorem ptpPdelayReq_answered (hf : a.profileAs = true) :
    a.ptpPdelayReq l m = b.ptpSend l ⟨.pdelayResp, m.seq, ownIdentity l, m.sender, b.rxTime l⟩ :=
  ptpReceive_taken ht hb hf _

theorem ptpPdelayResp_asked {t1 : Int} (hf : a.profileAs = true) (hr : b.time.reqSent = some (m.seq, t1))
    (ha : m.asked = ownIdentity l) :
    a.ptpPdelayResp l m = b.delayDone (b.rxTime l - t1 - m.turnaround - m.correction) := by
  refine (ptpReceive_taken ht hb hf _).trans ?_
  simp [reqTime_eq hr ha]

/-- R50: the BMCA replaces the parent, or keeps it, as the comparison says. -/
theorem ptpAnnounce_replaces (hc : m.data.class0 ≠ 255)
    (h : ∀ p, b.time.parent = some p →
      m.data.better p.data = true ∨ m.data.level p.data = true ∧ m.sender < p.identity ∨ p.identity = m.sender) :
    a.ptpAnnounce l m = { b with time := { b.time with parent := some ⟨m.data, m.sender⟩ } } := by
  refine (ptpReceive_taken ht hb rfl _).trans (if_pos ?_)
  cases hp : b.time.parent with
  | none => simp [hc]
  | some p => simpa [hc, or_assoc] using h p hp

theorem ptpAnnounce_keeps (h : m.data.class0 = 255 ∨ ∃ p, b.time.parent = some p ∧
      m.data.better p.data = false ∧ m.data.level p.data = false ∧ p.identity ≠ m.sender) : a.ptpAnnounce l m = b := by
  refine (ptpReceive_taken ht hb rfl _).trans (if_neg ?_)
  rcases h with h | ⟨p, hp, h1, h2, h3⟩
  · simp [h]
  · simp [hp, h1, h2, h3]

end

/-! ### The sync sources (R53 to R55) -/

section
variable {a : State} {rising : Bool} {e k : Nat} {c o : Int}

theorem announceTimeout_ptp (h : a.rd F.TIME_SYNC_CTRL_SYNC_SRC = 1) :
    a.announceTimeout = State.syncLost { a with time := { a.time with parent := none, syncWait := none } } := if_pos h

theorem syncExpire_hold (h : a.rd F.TIME_STATUS_SYNC_STATE = Sync.hold) : a.syncExpire = a.setSync Sync.free := if_pos h

theorem ppsMissing_known (h : a.rd F.TIME_SYNC_CTRL_SYNC_SRC = 2) (hk : a.time.ppsKnown = true) : a.ppsMissing = a.ppsMiss :=
  if_pos ⟨h, hk⟩

variable (hs : a.rd F.TIME_SYNC_CTRL_SYNC_SRC = 2) (he : a.flag F.TIME_PPS_CTRL_EDGE = !rising)
  (hc : c = a.dev16 + e % 8 * 8192 - a.rd F.TIME_PPS_CTRL_CABLE_NS * 65536)
include hs he hc

/-- R54: a pulse whose second the host has given. -/
theorem ppsEdge_given (hk : a.time.todSec = some k) : a.ppsEdge rising e = a.ppsAccept (c - k * (1000000000 * 65536)) := by
  simp [ppsEdge, hs, he, hc, hk]

/-- R55: a pulse without one is judged by the nearest second of device time. -/
theorem ppsEdge_judged (hk : a.time.todSec = none) (hp : a.time.ppsKnown = true)
    (ho : o = c - roundEven c (1000000000 * 65536) * (1000000000 * 65536)) :
    a.ppsEdge rising e = if o.natAbs ≤ a.rd F.TIME_PPS_CTRL_WIN_US * 65536000 then a.ppsAccept o
      else a.count ⟨0x01, 1⟩ 0 := by
  subst ho hc
  simp [ppsEdge, hs, he, hk, hp]

omit hc in
theorem ppsEdge_unknown (hk : a.time.todSec = none) (hp : a.time.ppsKnown = false) : a.ppsEdge rising e = a := by
  simp [ppsEdge, hs, he, hk, hp]

end

end State

/-- Settles O22: each message that the port takes, by its kind, and each pulse by what is known of its second. -/
theorem syncCommandsComplete : Obligations.SyncCommandsComplete := by
  refine ⟨fun t l m s a b p at0 d t1 h ht hb => ⟨?twoStep, ?oneStep, ?followUp, ?delayResp, ?pdelayReq, ?pdelayResp,
    ?firstParent, ?betterParent, ?levelParent, ?worse, ?noMaster⟩,
    fun t k e c o rising s a h => ⟨?timeout, ?hold, ?given, ?judged, ?unknown, ?missing⟩⟩
  case twoStep => exact fun hp hi h2 => awakeAt_eq h (State.ptpSync_twoStep ht hb rfl hp hi h2)
  case oneStep => exact fun hp hi h1 => awakeAt_eq h (State.ptpSync_oneStep ht hb rfl hp hi h1)
  case followUp => exact fun hp hi hw => awakeAt_eq h (State.ptpFollowUp_waited ht hb hp hi hw)
  case delayResp => exact fun hp hi hd hf hr ha => awakeAt_eq h (State.ptpDelayResp_asked ht hb hp hi hd hf hr ha)
  case pdelayReq => exact fun hf => awakeAt_eq h (State.ptpPdelayReq_answered ht hb hf)
  case pdelayResp => exact fun hf hr ha => awakeAt_eq h (State.ptpPdelayResp_asked ht hb hf hr ha)
  case firstParent =>
    intro hp hc
    exact awakeAt_eq h (State.ptpAnnounce_replaces ht hb hc fun q hq => by simp [hp] at hq)
  case betterParent =>
    intro hp hw hc
    refine awakeAt_eq h (State.ptpAnnounce_replaces ht hb hc fun q hq => ?_)
    obtain rfl := Option.some.inj (hp.symm.trans hq)
    exact hw.imp_right .inr
  case levelParent =>
    intro hp hl hlt hc
    refine awakeAt_eq h (State.ptpAnnounce_replaces ht hb hc fun q hq => ?_)
    obtain rfl := Option.some.inj (hp.symm.trans hq)
    exact .inr (.inl ⟨hl, hlt⟩)
  case worse => exact fun hp h1 h2 h3 => awakeAt_eq h (State.ptpAnnounce_keeps ht hb (.inr ⟨p, hp, h1, h2, h3⟩))
  case noMaster => exact fun hc => awakeAt_eq h (State.ptpAnnounce_keeps ht hb (.inl hc))
  case timeout => exact fun hs => awakeAt_eq h (State.announceTimeout_ptp hs)
  case hold => exact fun hs => awakeAt_eq h (State.syncExpire_hold hs)
  case given => exact fun hs he hk => awakeAt_eq h (State.ppsEdge_given hs he rfl hk)
  case judged =>
    intro hs he hk hp hc ho
    have judged := State.ppsEdge_judged hs he hc hk hp ho
    exact ⟨fun hle => awakeAt_eq h (judged.trans (if_pos hle)),
      fun hlt => awakeAt_eq h (judged.trans (if_neg (Nat.not_le.mpr hlt)))⟩
  case unknown => exact fun hs he hk hp => awakeAt_eq h (State.ppsEdge_unknown hs he hk hp)
  case missing => exact fun hs hk => awakeAt_eq h (State.ppsMissing_known hs hk)

end Sys2Proof.Machine
end

section
/-! SUPPORT. Proofs of the timebase family: a step of device time (R48), REF_TUNE (R57) and the bins of XTAL (R58). -/

namespace Sys2Proof.Machine
namespace State

variable {a b : State} {ppb d : Int} {n : Nat}

/-! ### A step of device time (R48) -/

theorem stepNow_due (hf : a.firing = false) (hd : a.time.stepDue = some d)
    (hb : b = { a with time := { a.time with
      dev := (((a.time.dev : Int) + d) % ((2 ^ 48 * State.secUnits : Nat) : Int)).toNat
      stepDue := none } }) :
    a.stepNow =
      (((b.wr F.TIME_STEP_CTRL_PENDING 0).wr F.TIME_STATUS_STEPPED 1).count ⟨0x01, 0⟩ 0).telemetry
        [recHeader 2 5, a.sec * 2 ^ 16, a.nsec * 2 ^ 32,
          (((b.wr F.TIME_STEP_CTRL_PENDING 0).wr F.TIME_STATUS_STEPPED 1).count ⟨0x01, 0⟩ 0).sec * 2 ^ 16,
          (((b.wr F.TIME_STEP_CTRL_PENDING 0).wr F.TIME_STATUS_STEPPED 1).count ⟨0x01, 0⟩ 0).nsec * 2 ^ 32] := by
  subst hb
  refine (if_neg (Bool.eq_false_iff.mp hf)).trans ?_
  simp only [stepApply, hd]

/-! ### REF_TUNE (R57) -/

/-- The state in which a step of REF_TUNE finds its target: the integrator has run, where it runs. -/
def integrated (s : State) : State :=
  { s with time := { s.time with
    tuneInteg := if s.rd F.TIME_TUNE_MODE = 2 ∧ s.rd F.TIME_STATUS_SYNC_STATE = Sync.locked then
        Config.tuneIntegrator (s.rdS F.TIME_RATE_ADJ_ADJ) s.time.tuneInteg
      else s.time.tuneInteg } }

/-- The output moved by one code towards its target. -/
def towardsTarget (s : State) : State :=
  { s with time := { s.time with
    tune := if s.time.tune < s.tuneTarget then s.time.tune + 1
      else if s.tuneTarget < s.time.tune then s.time.tune - 1 else s.time.tune } }

theorem tuneStep_runs (hm : a.rd F.TIME_TUNE_MODE ≠ 0) (hf : a.rd F.TIME_STATUS_FREQ_STATE = Freq.ref)
    (hh : a.healthy 28 = true) : a.tuneStep = a.integrated.towardsTarget := if_neg (by simp [hm, hf, hh])

theorem tuneStep_stops (h : a.rd F.TIME_TUNE_MODE = 0 ∨ a.rd F.TIME_STATUS_FREQ_STATE ≠ Freq.ref ∨ a.healthy 28 = false) :
    a.tuneStep = a := if_pos h

/-- Outside DISCIPLINE the integrator is kept. -/
theorem integrated_temp (h : a.rd F.TIME_TUNE_MODE = 1) : a.integrated = a := by
  simp [integrated, h]

theorem integrated_discipline (h : a.rd F.TIME_TUNE_MODE = 2) :
    a.integrated = { a with time := { a.time with
      tuneInteg := if a.rd F.TIME_STATUS_SYNC_STATE = Sync.locked then
          Config.tuneIntegrator (a.rdS F.TIME_RATE_ADJ_ADJ) a.time.tuneInteg
        else a.time.tuneInteg } } := by
  simp [integrated, h]

theorem towardsTarget_up (h : a.time.tune < a.tuneTarget) :
    a.towardsTarget = { a with time := { a.time with tune := a.time.tune + 1 } } := by
  simp [towardsTarget, h]

theorem towardsTarget_down (h : a.tuneTarget < a.time.tune) :
    a.towardsTarget = { a with time := { a.time with tune := a.time.tune - 1 } } := by
  simp [towardsTarget, h, Nat.lt_asymm h]

theorem towardsTarget_there (h : a.time.tune = a.tuneTarget) : a.towardsTarget = a := by
  simp [towardsTarget, h.not_lt, h.symm.not_lt]

/-! ### The bins of XTAL (R58) -/

section
variable (hs : a.time.src = .ref) (hw : a.flag F.TIME_STATUS_REF_WARM = true)
include hs hw

/-- Before its 60th measurement a bin is only summed. -/
theorem xtalMeasure_learning (hn : (a.xtalBin (xtalBinOf a.dieMean)).count < 59) :
    a.xtalMeasure ppb = State.refreshXtal { a with time := { a.time with
      bins := a.time.bins.set (xtalBinOf a.dieMean)
        ⟨(a.xtalBin (xtalBinOf a.dieMean)).sum + ppb, (a.xtalBin (xtalBinOf a.dieMean)).count + 1⟩ } } := by
  have hl : ¬ 60 ≤ (a.xtalBin (xtalBinOf a.dieMean)).count + 1 := by omega
  refine (if_pos ⟨hs, hw⟩).trans ?_
  simp [XtalBin.learned, hl]

/-- From its 60th on it is learned, and to be journalled once. -/
theorem xtalMeasure_learned (hn : 59 ≤ (a.xtalBin (xtalBinOf a.dieMean)).count) :
    a.xtalMeasure ppb = State.refreshXtal { a with time := { a.time with
      bins := a.time.bins.set (xtalBinOf a.dieMean)
        ⟨(a.xtalBin (xtalBinOf a.dieMean)).sum + ppb, (a.xtalBin (xtalBinOf a.dieMean)).count + 1⟩
      binsDirty := if a.time.binsDirty.contains (xtalBinOf a.dieMean) then a.time.binsDirty
        else a.time.binsDirty ++ [xtalBinOf a.dieMean] } } := by
  have hl : 60 ≤ (a.xtalBin (xtalBinOf a.dieMean)).count + 1 := by omega
  refine (if_pos ⟨hs, hw⟩).trans ?_
  by_cases hc : xtalBinOf a.dieMean ∈ a.time.binsDirty <;> simp [XtalBin.learned, hl, hc]

end

/-- R408: the first bin learned is journalled as a group of one. -/
theorem xtalJournal_first (hd : a.time.binsDirty = [n]) (ht : a.time.binsAt = none) (hj : a.journalFull = false) :
    a.xtalJournal = State.journal
      [⟨5, 6 * 2 ^ 24 + n, [ofS 64 (a.xtalBin n).sum / 2 ^ 32, ofS 64 (a.xtalBin n).sum % 2 ^ 32, (a.xtalBin n).count % 2 ^ 32]⟩]
      { a with time := { a.time with binsDirty := [], binsAt := some a.now } } := by
  simp [xtalJournal, hd, ht, hj]

end State

/-- Settles O23: the step of device time, REF_TUNE's step in two parts (integrator, output), and the bins. -/
theorem timebaseTimersComplete : Obligations.TimebaseTimersComplete := by
  intro t ppb d s a b h
  refine ⟨?step, ?up, ?down, ?stops, ?discipline, ?learning, ?learned, ?journal⟩
  case step => exact fun hf hd hb => liveAt_eq ⟨h.1, h.2.1⟩ (State.stepNow_due hf hd hb)
  case up =>
    intro hm hf hh hlt
    refine awakeAt_eq h ((State.tuneStep_runs (by omega) hf hh).trans ?_)
    rw [State.integrated_temp hm, State.towardsTarget_up hlt]
  case down =>
    intro hm hf hh hlt
    refine awakeAt_eq h ((State.tuneStep_runs (by omega) hf hh).trans ?_)
    rw [State.integrated_temp hm, State.towardsTarget_down hlt]
  case stops => exact fun hs => awakeAt_eq h (State.tuneStep_stops hs)
  case discipline =>
    intro hm hf hh hb
    have eff : a.tuneStep = b.towardsTarget := by
      rw [State.tuneStep_runs (by omega) hf hh, State.integrated_discipline hm, hb]
    exact ⟨fun hlt => awakeAt_eq h (eff.trans (State.towardsTarget_up hlt)),
      fun hlt => awakeAt_eq h (eff.trans (State.towardsTarget_down hlt)),
      fun he => awakeAt_eq h (eff.trans (State.towardsTarget_there he))⟩
  case learning => exact fun hs hw hn => awakeAt_eq h (State.xtalMeasure_learning hs hw hn)
  case learned => exact fun hs hw hn => awakeAt_eq h (State.xtalMeasure_learned hs hw hn)
  case journal => exact fun n hd ht hj => awakeAt_eq h (State.xtalJournal_first hd ht hj)

end Sys2Proof.Machine
end

section
/-! SUPPORT. Proofs of the timebase family: self-test's end (R442 to R444, R448), a transition's end (R446), and the wake
from PARK (R34, R412, R453, R456). -/

namespace Sys2Proof.Machine
namespace State

variable {a b c : State} {fails : List (Nat × Nat)} {how : Wake} {src : PllSource}

/-! ### Self-test's end -/

section
variable (hp : a.boot.phase = BootPhase.starting) (hb : b = (a.testResults fails).stepSeven)
include hp hb

theorem selftestDone_start_failed (hf : fails ≠ []) : a.selftestDone fails = b.safeEnter 0 := by
  subst hb
  simp [selftestDone, hp, hf]

/-- R448: the start-up goes on as AUTO_MODE says. -/
theorem selftestDone_start_passed (hf : fails = []) (hm : b.mode = Mode.selftest) :
    a.selftestDone fails = (b.enterQuiet Mode.standby).autoMode := by
  subst hb hf
  simp [selftestDone, hp, hm]

end

section
variable (hp : a.boot.phase = BootPhase.up)
include hp

/-- No self-test runs. -/
theorem selftestDone_none (hm : a.mode ≠ Mode.selftest) : a.selftestDone fails = a := by
  simp [selftestDone, hp, hm]

variable (hm : a.mode = Mode.selftest) (hb : b = a.testResults fails)
include hm hb

theorem selftestDone_failed (hf : fails ≠ []) : a.selftestDone fails = b.safeEnter 0 := by
  subst hb
  simp [selftestDone, hp, hm, hf]

theorem selftestDone_passed (hf : fails = []) (hm' : b.mode = Mode.selftest) :
    a.selftestDone fails = b.enterQuiet Mode.standby := by
  subst hb hf
  simp [selftestDone, hp, hm, hm']

end

/-! ### A transition completes -/

theorem transitionDone_waits (h : a.transitionReady = false) : a.transitionDone = a := if_neg (Bool.eq_false_iff.mp h)

/-- R446: what the mode left ends and flushes, and the entry of the mode entered. -/
theorem transitionDone_ready {m : Nat} {d e f g : State} (h : a.transitionReady = true) (hm : m = a.rd F.DEV_MODE_TARGET)
    (hb : b = if m = Mode.selftest then a.recipesEnd St.busy else if m = Mode.park then a.recipesEnd St.mode else a)
    (hc : c = if a.firing then (b.setMode m 2).flushAll else b.setMode m 2)
    (hd : d = if m = Mode.park then c.parkEntry else c) (he : e = if m = Mode.selftest then d.selftestEntry else d)
    (hf : f = if m = Mode.config then e.servoModeEntry else e) (hg : g = if firingMode m then f.firingEntry else f) :
    a.transitionDone = ((g.raise Irq.modeDone).entryRecipes m).calPoll := by
  subst hg hf he hd hc hb hm
  exact if_pos h

/-! ### Waking from PARK -/

/-- R453: the wake begins with the core supply's command. -/
theorem wake_begins (hm : a.mode = Mode.park) (hn : a.boot.waking = false)
    (hw : wakeAllowed how (a.flag F.PWR_PARK_WAKE_SPI) (a.flag F.PWR_PARK_WAKE_UART) = true) :
    a.wake how = State.cmdVdd 850 { a with boot := { a.boot with waking := true } } := if_pos ⟨hm, hn, hw⟩

theorem wake_ignored (h : a.mode ≠ Mode.park ∨ a.boot.waking = true ∨
    wakeAllowed how (a.flag F.PWR_PARK_WAKE_SPI) (a.flag F.PWR_PARK_WAKE_UART) = false) : a.wake how = a := by
  refine if_neg fun ⟨hm, hn, hw⟩ => ?_
  rcases h with h | h | h
  · exact h hm
  · exact Bool.eq_false_iff.mp hn h
  · exact Bool.eq_false_iff.mp h hw

/-- A wake goes on while the regulator owes its acknowledgement, and with no input at the PLL. -/
theorem wakeComplete_waits (h : a.boot.waking = false ∨ a.pwr.owed ≠ none ∨
    a.time.xtalOk = false ∧ a.flag F.TIME_STATUS_REF_PRESENT = false) : a.wakeComplete = a := by
  refine if_neg fun ⟨hn, ho, hi⟩ => ?_
  rcases h with h | h | ⟨hx, hr⟩
  · exact Bool.eq_false_iff.mp h hn
  · exact h (Option.isNone_iff_eq_none.mp ho)
  · simp [inputOk, hx, hr] at hi

/-- R34, R453: the wake completes on XTAL, or without it on REF_IN. -/
theorem wakeComplete_wakes (hn : a.boot.waking = true) (ho : a.pwr.owed = none)
    (hi : a.time.xtalOk = true ∧ src = .xtal ∨ a.time.xtalOk = false ∧ a.flag F.TIME_STATUS_REF_PRESENT = true ∧ src = .ref)
    (hb : b = { a with time := { a.time with src := src, locked := true, everRef := src == PllSource.ref } })
    (hc : c = ((b.wdtRestart .north).wdtRestart .south).freqFollow.syncSource.refreshXtal.hkStart.enterQuiet Mode.standby) :
    a.wakeComplete = if 736 < c.rd F.NVS_STATUS_FILL_KIB ∧ c.mayCompact = true then c.startCompaction else c := by
  have hin : a.inputOk = true := by
    rcases hi with ⟨hx, _⟩ | ⟨_, hr, _⟩
    · simp [inputOk, hx]
    · simp [inputOk, hr]
  have hsrc : (if a.time.xtalOk then PllSource.xtal else .ref) = src := by
    rcases hi with ⟨hx, rfl⟩ | ⟨hx, _, rfl⟩ <;> simp [hx]
  subst hc hb hsrc
  exact if_pos ⟨hn, Option.isNone_iff_eq_none.mpr ho, hin⟩

/-- R414: a compaction may start while neither one runs nor FULL stands. -/
theorem mayCompact_iff : a.mayCompact = true ↔
    a.flag F.NVS_STATUS_COMPACTING = false ∧ a.flag F.NVS_STATUS_FULL = false := by
  simp [mayCompact]

end State

/-- Settles O51: the end of a self-test by what began it, of a transition by its readiness, of a wake by what it waits
for. -/
theorem modeCommandsComplete : Obligations.ModeCommandsComplete := by
  refine ⟨fun t fails s a b h => ⟨?started, ?tested, ?untested⟩, fun t m s a b c d e f g h => ⟨?waits, ?ready⟩,
    fun t how src s a b c h => ⟨?wake, ?ignored, ?wakes, ?wakeWaits⟩⟩
  case started =>
    exact fun hp hb => ⟨fun hf => liveAt_eq h (State.selftestDone_start_failed hp hb hf),
      fun hf hm => liveAt_eq h (State.selftestDone_start_passed hp hb hf hm)⟩
  case tested =>
    exact fun hp hm hb => ⟨fun hf => liveAt_eq h (State.selftestDone_failed hp hm hb hf),
      fun hf hm' => liveAt_eq h (State.selftestDone_passed hp hm hb hf hm')⟩
  case untested => exact fun hp hm => liveAt_eq h (State.selftestDone_none hp hm)
  case waits => exact fun hr => awakeAt_eq h (State.transitionDone_waits hr)
  case ready =>
    exact fun hr hm hb hc hd he hf hg => awakeAt_eq h (State.transitionDone_ready hr hm hb hc hd he hf hg)
  case wake => exact fun hm hn hw => liveAt_eq h (State.wake_begins hm hn hw)
  case ignored => exact fun hi => liveAt_eq h (State.wake_ignored hi)
  case wakes =>
    intro hn ho hi hb hc
    have woken := State.wakeComplete_wakes hn ho hi hb hc
    refine ⟨fun hk h1 h2 => liveAt_eq h (woken.trans (if_pos ⟨hk, State.mayCompact_iff.mpr ⟨h1, h2⟩⟩)), fun hk => ?_⟩
    refine liveAt_eq h (woken.trans (if_neg fun ⟨hlt, hmay⟩ => ?_))
    obtain ⟨h1, h2⟩ := State.mayCompact_iff.mp hmay
    rcases hk with hk | hk | hk
    · omega
    · simp [h1] at hk
    · simp [h2] at hk
  case wakeWaits => exact fun hw => liveAt_eq h (State.wakeComplete_waits hw)

end Sys2Proof.Machine
end

section
/-! SUPPORT. Proofs of the time-to-digital family: the capture of edges and the groups that they join (R61 to R67,
R79, R90). -/

namespace Sys2Proof.Machine
namespace State

variable {a b d : State} {f n c fine time : Nat} {sat : Bool} {e : Edge} {ws : List Shot}

/-! ### Whether an edge is captured (R63, R64, R67, R79) -/

/-- An edge lies outside every window: those of the shots, and the injector's of 2,048 coarse counts (R116). -/
theorem noWindow_iff : ((a.windowsAt f c).isEmpty &&
      !(a.fe f).inj.any (fun w => decide (w.origin ≤ c) && decide (c < w.origin + 2048))) = true ↔
    a.windowsAt f c = [] ∧ ∀ w, (a.fe f).inj = some w → ¬(w.origin ≤ c ∧ c < w.origin + 2048) := by
  cases (a.fe f).inj with
  | none => simp
  | some w => simp [-not_and, not_and_or]

/-- R64: an input that is disabled captures nothing, and so does a front end that is off. -/
theorem tdcEdge_disabled
    (h : a.rx.powered = false ∨ (a.fe f).off = true ∨ bitOf (a.rd (F.TDC_FE_CFG_EDGE_EN f)) n = false) :
    a.tdcEdge f n c fine sat = a := by
  refine if_pos ?_
  rcases h with h | h | h <;> simp [h]

/-- R63: an edge in no window is not captured. -/
theorem tdcEdge_outside (hw : a.windowsAt f c = [])
    (hi : ∀ w, (a.fe f).inj = some w → ¬(w.origin ≤ c ∧ c < w.origin + 2048)) : a.tdcEdge f n c fine sat = a :=
  ite_eq_left_iff.mpr fun _ => if_pos (noWindow_iff.mpr ⟨hw, hi⟩)

section
variable (hp : a.rx.powered = true) (ho : (a.fe f).off = false) (he : bitOf (a.rd (F.TDC_FE_CFG_EDGE_EN f)) n = true)
  (hw : a.windowsAt f c ≠ [] ∨ ∃ w, (a.fe f).inj = some w ∧ w.origin ≤ c ∧ c < w.origin + 2048)
  (hd : d = if sat = true then a.markSat f else a) (ht : time = 512 * c + fineTime d.dll (d.calNow f).widths fine)
include hp ho he hw hd ht

/-- An edge that its input takes in a window: the banks tell whether it is lost, and the loop whether it is placed. -/
theorem tdcEdge_inWindow
    (hb : b = (d.updFe f (fun x => { x with banks := x.banks.set n (some time) })).count ⟨0x02, 3⟩ f) :
    a.tdcEdge f n c fine sat =
      if ((a.fe f).banks.getD n none).any (fun p => decide (time < p + 1024)) then d.count ⟨0x02, 1⟩ f
      else if b.dll && !b.flag (F.TDC_FE_STATUS_DLL_LOCK f) then b.count ⟨0x02, 2⟩ f
      else b.placeEdge f n ⟨c, fine⟩ (a.windowsAt f c) := by
  subst hb ht hd
  have enabled : ¬ (!a.rx.powered || (a.fe f).off || !bitOf (a.rd (F.TDC_FE_CFG_EDGE_EN f)) n) = true := by
    simp [hp, ho, he]
  refine (if_neg enabled).trans (if_neg fun hnone => ?_)
  obtain ⟨hempty, hinj⟩ := noWindow_iff.mp hnone
  rcases hw with hw | ⟨w, hsome, hin⟩
  · exact hw hempty
  · exact hinj w hsome hin

/-- R67: an edge within 2 ns of the one before it on its bank is counted and lost. -/
theorem tdcEdge_lost {p : Nat} (hk : (a.fe f).banks.getD n none = some p) (hlt : time < p + 1024) :
    a.tdcEdge f n c fine sat = d.count ⟨0x02, 1⟩ f := by
  refine (tdcEdge_inWindow hp ho he hw hd ht rfl).trans (if_pos ?_)
  rw [hk]
  exact decide_eq_true hlt

variable (hk : ∀ p, (a.fe f).banks.getD n none = some p → p + 1024 ≤ time)
  (hb : b = (d.updFe f (fun x => { x with banks := x.banks.set n (some time) })).count ⟨0x02, 3⟩ f)
include hk hb

theorem tdcEdge_captured : a.tdcEdge f n c fine sat =
    if b.dll && !b.flag (F.TDC_FE_STATUS_DLL_LOCK f) then b.count ⟨0x02, 2⟩ f
    else b.placeEdge f n ⟨c, fine⟩ (a.windowsAt f c) := by
  refine (tdcEdge_inWindow hp ho he hw hd ht hb).trans (if_neg fun hany => ?_)
  obtain ⟨p, hsome, hlt⟩ := (Option.any_eq_true ..).mp hany
  exact absurd (of_decide_eq_true hlt) (Nat.not_lt.mpr (hk p hsome))

/-- R79: while the loop is unlocked the edge is discarded and counted. -/
theorem tdcEdge_unlocked (hdll : b.dll = true) (hl : b.flag (F.TDC_FE_STATUS_DLL_LOCK f) = false) :
    a.tdcEdge f n c fine sat = b.count ⟨0x02, 2⟩ f :=
  (tdcEdge_captured hp ho he hw hd ht hk hb).trans (if_pos (by simp [hdll, hl]))

theorem tdcEdge_placed (hl : b.dll = false ∨ b.flag (F.TDC_FE_STATUS_DLL_LOCK f) = true) :
    a.tdcEdge f n c fine sat = b.placeEdge f n ⟨c, fine⟩ (a.windowsAt f c) :=
  (tdcEdge_captured hp ho he hw hd ht hk hb).trans (if_neg (by rcases hl with hl | hl <;> simp [hl]))

end

/-! ### The place of a captured edge (R65, R66) -/

theorem placeEdge_t0Rises (h0 : n = 0) : b.placeEdge f n e ws = (b.completeGroup f true).openGroup f e ws := if_pos h0

/-- R66: an edge that belongs to no group is discarded and counted. -/
theorem placeEdge_orphan (h0 : n ≠ 0) (hg : (b.fe f).group = none) : b.placeEdge f n e ws = b.count ⟨0x02, 0⟩ f :=
  (if_neg h0).trans (if_pos (Option.isNone_iff_eq_none.mpr hg))

section
variable (hg : (b.fe f).group ≠ none)
include hg

/-- With an open group, the edge joins it by its threshold and its sense. -/
theorem placeEdge_joins (h0 : n ≠ 0) : b.placeEdge f n e ws =
    if n = 1 then (b.updOpen f (fun g => { g with edges := g.edges.set 1 (some e) })).completeGroup f false
    else if n % 2 = 1 then b.updOpen f (fun g => { g with edges := g.edges.set n (some e) })
    else b.updOpen f (fun g =>
      if (g.edges.getD n none).isNone then { g with edges := g.edges.set n (some e) } else { g with multi := true }) :=
  (if_neg h0).trans (if_neg (mt Option.isNone_iff_eq_none.mp hg))

theorem placeEdge_t0Falls (h1 : n = 1) : b.placeEdge f n e ws =
    (b.updOpen f (fun g => { g with edges := g.edges.set 1 (some e) })).completeGroup f false :=
  (placeEdge_joins hg (by omega)).trans (if_pos h1)

variable (h1 : 1 < n)
include h1

theorem placeEdge_falls (ho : n % 2 = 1) :
    b.placeEdge f n e ws = b.updOpen f (fun g => { g with edges := g.edges.set n (some e) }) :=
  (placeEdge_joins hg (by omega)).trans ((if_neg (by omega)).trans (if_pos ho))

theorem placeEdge_rises (ho : n % 2 = 0) : b.placeEdge f n e ws = b.updOpen f (fun g =>
    if (g.edges.getD n none).isNone then { g with edges := g.edges.set n (some e) } else { g with multi := true }) :=
  (placeEdge_joins hg (by omega)).trans ((if_neg (by omega)).trans (if_neg (by omega)))

end

end State

/-- Settles O24: an edge by whether it is captured, then a captured one by its place in the groups. -/
theorem edgeCaptureCompletes : Obligations.EdgeCaptureCompletes := by
  intro t c f n fine sat s a b d time h
  refine ⟨?disabled, ?outside, fun hp ho he hw hd ht => ⟨?lost, fun hk hb => ⟨?unlocked, fun hl => ?placed⟩⟩⟩
  case disabled => exact fun hn => awakeAt_eq h (State.tdcEdge_disabled hn)
  case outside => exact fun hw hi => awakeAt_eq h (State.tdcEdge_outside hw hi)
  case lost => exact fun p hk hlt => awakeAt_eq h (State.tdcEdge_lost hp ho he hw hd ht hk hlt)
  case unlocked => exact fun hdll hl => awakeAt_eq h (State.tdcEdge_unlocked hp ho he hw hd ht hk hb hdll hl)
  case placed =>
    have eff := State.tdcEdge_placed hp ho he hw hd ht hk hb hl
    refine ⟨fun h0 => awakeAt_eq h (eff.trans (State.placeEdge_t0Rises h0)),
      fun h0 hg => awakeAt_eq h (eff.trans (State.placeEdge_orphan h0 hg)),
      fun h1 hg => awakeAt_eq h (eff.trans (State.placeEdge_t0Falls hg h1)),
      fun h1 hodd hg => awakeAt_eq h (eff.trans (State.placeEdge_falls hg h1 hodd)),
      fun h1 heven hg => awakeAt_eq h (eff.trans (State.placeEdge_rises hg h1 heven))⟩

end Sys2Proof.Machine
end

section
/-! SUPPORT. Proofs of the time-to-digital family: the receiver's timers and events: locks, statistics runs, stalls and
the close of windows (R79, R84, R94, R116, R149), and the bias, the crossbar and the injector (R105, R108, R111,
R115 to R117). -/

namespace Sys2Proof.Machine

@[simp] theorem State.halfOf_num (h : Half) : State.halfOf h.num = h := by
  cases h <;> rfl

namespace State

variable {a b : State} {f : Nat}

/-! ### Loops, statistics runs and pending gain changes -/

/-- R79: in the compatibility mode the lock is shown, and TDC_STATUS follows it. -/
theorem dllLock_compat (h : a.dll = true) : a.dllLock f = (a.wr (F.TDC_FE_STATUS_DLL_LOCK f) 1).showDll := if_pos h

theorem dllLock_native (h : a.dll = false) : a.dllLock f = a := if_neg (Bool.eq_false_iff.mp h)

/-- R84: a host run ends with TIMEOUT, its results and its interrupt. -/
theorem statTimeout_running {h : Half} (hr : a.statRunning h.num = true) :
    a.statTimeout h.num =
      ((a.wr (F.TDC_STAT_STATUS_TIMEOUT h.num) 1).statResults h.num).raise (Irq.statDone h) := by
  refine (if_pos hr).trans ?_
  rw [statEnd, halfOf_num]

/-- R94: a change of either kind that has been pending for too long stalls. -/
theorem gainStall_long {since : Nat} (hs : (a.fe f).pendCfg = some since ∨ (a.fe f).pendThr = some since)
    (ht : since + a.rd F.RX_CTRL_PEND_LIMIT_MS * 1000000 < a.now) :
    a.gainStall f = (a.setIn F.RX_STATUS_GAIN_STALL_OCT (octOfFe f)).raise Irq.rxGainStall := by
  have long : ∀ {o : Option Nat}, o = some since → o.any a.waitedLong = true :=
    fun ho => (Option.any_eq_true ..).mpr ⟨since, ho, decide_eq_true ht⟩
  exact if_pos (Bool.or_eq_true_iff.mpr (hs.imp long long))

/-! ### Windows close (R90, R116, R149) -/

theorem windowClose_next {e sat : Nat} {x : Shot} (hx : a.nextToClose e = some x) :
    a.windowClose e sat = a.closeShot false sat x := by
  simp only [windowClose, hx]

section
variable {w : InjWin} {sat : Bool} (hw : (a.fe f).inj = some w)
include hw

theorem injWindowClose_empty (hg : (a.fe f).group = none) :
    a.injWindowClose f sat = (a.updFe f (fun y => { y with inj := none })).windowGap f none := by
  simp [injWindowClose, hw, hg]

/-- R90, R116: the injector's own group is marked where the amplifier has saturated, and completes with its window. -/
theorem injWindowClose_group {g : OpenGroup} (hg : (a.fe f).group = some g) (hc : g.carrier = .injector)
    (hb : b = (if sat = true then a.markSat f else a).completeGroup f true) :
    a.injWindowClose f sat = (b.updFe f (fun y => { y with inj := none })).windowGap f none := by
  subst hb
  simp [injWindowClose, hw, hg, hc]

end

/-! ### The bias output (R105) -/

section
variable {g : Nat} (hp : a.rx.powered = true)
include hp

/-- Towards a higher target the output moves up by one; it still ramps where more than one is left. -/
theorem biasStep_up (hlt : a.rd (F.RX_OCT_BIAS_STATUS_CODE g) < (a.rxOct g).target) :
    a.biasStep g = (a.wr (F.RX_OCT_BIAS_STATUS_CODE g) (a.rd (F.RX_OCT_BIAS_STATUS_CODE g) + 1)).wrB
      (F.RX_OCT_BIAS_STATUS_RAMP g) (decide (a.rd (F.RX_OCT_BIAS_STATUS_CODE g) + 2 < (a.rxOct g).target)) := by
  have left : ∀ c t : Nat, c < t → (1 < max (c + 1) t - min (c + 1) t ↔ c + 2 < t) := by omega
  simp only [biasStep, hp, hlt, left, if_true]

theorem biasStep_down (hlt : (a.rxOct g).target < a.rd (F.RX_OCT_BIAS_STATUS_CODE g)) :
    a.biasStep g = (a.wr (F.RX_OCT_BIAS_STATUS_CODE g) (a.rd (F.RX_OCT_BIAS_STATUS_CODE g) - 1)).wrB
      (F.RX_OCT_BIAS_STATUS_RAMP g) (decide ((a.rxOct g).target + 2 < a.rd (F.RX_OCT_BIAS_STATUS_CODE g))) := by
  have left : ∀ c t : Nat, t < c → (1 < max (c - 1) t - min (c - 1) t ↔ t + 2 < c) := by omega
  simp only [biasStep, hp, hlt, hlt.not_gt, left, if_true, if_false]

end

/-! ### The crossbar (R108, R111) -/

section
variable {g : Nat}

theorem xbarTimeout_toSpare {ch : Nat} (hs : (a.rxOct g).switch = some (.toSpare ch)) (ho : (a.rxOct g).opened = false)
    (hg : a.inGap (a.physical ch) = true) : a.xbarTimeout g = (a.dropSwitch g).switchTo g ch := by
  simp [xbarTimeout, xbarSwitch, hs, ho, hg]

theorem xbarTimeout_back (hs : (a.rxOct g).switch = some .back) (ho : (a.rxOct g).opened = false)
    (hg : a.inGap (256 + g) = true) : a.xbarTimeout g = (a.dropSwitch g).switchBack g := by
  simp [xbarTimeout, xbarSwitch, hs, ho, hg]

/-- R111: once a window has opened, the switch waits for the gap start that follows. -/
theorem xbarTimeout_opened (ho : (a.rxOct g).opened = true) : a.xbarTimeout g = a := by
  simp [xbarTimeout, ho]

end

/-! ### The injector (R115, R117) -/

section
variable {g : Nat}

/-- The period is the host run's where no calibration holds the octant's injector. -/
theorem injPulse_host (hc : ∀ r, a.calRun (g / 4) = some r → r.oct ≠ g) : a.injPulse g = a.hostPulse g := by
  unfold injPulse
  split
  next r f kind hr _ => exact if_neg (hc r hr)
  next => rfl

variable (hrun : a.flag (F.RX_OCT_INJ_CTRL_RUN g) = true)
  (hb : b = a.injFire g (injTargets g (a.rd (F.RX_OCT_INJ_CTRL_TARGET g)))
    { ampl := a.rd (F.RX_OCT_INJ_CTRL_AMPL g)
      width := a.rd (F.RX_OCT_INJ_CTRL_WIDTH g)
      at0 := a.now + a.rd (F.RX_OCT_INJ_TIME_DELAY_NS g)
      fine := a.rd (F.RX_OCT_INJ_TIME_DELAY_FINE g) })
include hrun hb

/-- A continuous run goes on; another counts its pulses. -/
theorem hostPulse_fires : a.hostPulse g =
    if b.flag (F.RX_OCT_INJ_CTRL_CONT g) then b
    else if (b.rxOct g).injLeft - 1 = 0 then b.injEnd g
    else b.putRxOct g { b.rxOct g with injLeft := (b.rxOct g).injLeft - 1 } := by
  subst hb
  exact if_pos hrun

theorem hostPulse_continuous (hc : b.flag (F.RX_OCT_INJ_CTRL_CONT g) = true) : a.hostPulse g = b :=
  (hostPulse_fires hrun hb).trans (if_pos hc)

variable (hc : b.flag (F.RX_OCT_INJ_CTRL_CONT g) = false)
include hc

theorem hostPulse_counts (hl : 1 < (b.rxOct g).injLeft) :
    a.hostPulse g = b.putRxOct g { b.rxOct g with injLeft := (b.rxOct g).injLeft - 1 } :=
  (hostPulse_fires hrun hb).trans ((if_neg (Bool.eq_false_iff.mp hc)).trans (if_neg (by omega)))

theorem hostPulse_last (hl : (b.rxOct g).injLeft ≤ 1) : a.hostPulse g = b.injEnd g :=
  (hostPulse_fires hrun hb).trans ((if_neg (Bool.eq_false_iff.mp hc)).trans (if_pos (by omega)))

end

end State

/-- Settles O25: each timer and event of the receiver by what it finds. -/
theorem receiverTimersComplete : Obligations.ReceiverTimersComplete := by
  refine ⟨fun t since f hf e k sat x w g s a b h =>
      ⟨?lock, ?native, ?timeout, ?stall, ?window, ?injEmpty, ?injGroup⟩,
    fun t g s a b h => ⟨?up, ?down, ?toSpare, ?back, ?opened, fun hrun hc hb => ⟨?continuous, ?counts, ?last⟩⟩⟩
  case lock => exact fun hd => awakeAt_eq h (State.dllLock_compat hd)
  case native => exact fun hd => awakeAt_eq h (State.dllLock_native hd)
  case timeout => exact fun hr => awakeAt_eq h (State.statTimeout_running hr)
  case stall => exact fun hs ht => awakeAt_eq h (State.gainStall_long hs ht)
  case window => exact fun hx => awakeAt_eq h (congrArg State.calPoll (State.windowClose_next hx))
  case injEmpty => exact fun hw hg => awakeAt_eq h (congrArg State.calPoll (State.injWindowClose_empty hw hg))
  case injGroup =>
    exact fun hw hg hc hb => awakeAt_eq h (congrArg State.calPoll (State.injWindowClose_group hw hg hc hb))
  case up => exact fun hp hlt => awakeAt_eq h (State.biasStep_up hp hlt)
  case down => exact fun hp hlt => awakeAt_eq h (State.biasStep_down hp hlt)
  case toSpare =>
    exact fun ch hs ho hg => awakeAt_eq h (congrArg State.calPoll (State.xbarTimeout_toSpare hs ho hg))
  case back => exact fun hs ho hg => awakeAt_eq h (congrArg State.calPoll (State.xbarTimeout_back hs ho hg))
  case opened => exact fun ho => awakeAt_eq h (congrArg State.calPoll (State.xbarTimeout_opened ho))
  case continuous =>
    exact fun hcont => awakeAt_eq h ((State.injPulse_host hc).trans (State.hostPulse_continuous hrun hb hcont))
  case counts =>
    exact fun hcont hl => awakeAt_eq h ((State.injPulse_host hc).trans (State.hostPulse_counts hrun hb hcont hl))
  case last =>
    exact fun hcont hl => awakeAt_eq h ((State.injPulse_host hc).trans (State.hostPulse_last hrun hb hcont hl))

end Sys2Proof.Machine
end

section
/-! SUPPORT. Proofs of the time-to-digital family: the steps of an octant's calibration run, by their verdict (R70, R80,
R393 to R399). -/

namespace Sys2Proof.Machine
namespace State

variable {a : State} {r : CalRun} {g f kind fails order : Nat} {v w : CalFirst}

/-! ### What a verdict does (R397 to R399) -/

/-- R399: a rejected measurement ends the step, and leaves the values in force. -/
theorem stepJudged_reject (h : a.verdict r.first fails v = .reject order) :
    a.stepJudged r f kind fails v = (a.calReject order kind f).stepEnd r.oct := by
  simp only [stepJudged, h]

/-- R397: a first measurement is kept, and the step measures again. -/
theorem stepJudged_again (h : a.verdict r.first fails v = .again w) :
    a.stepJudged r f kind fails v = a.putRun (r.oct / 4) (some { r with
      first := some w
      meas := r.meas.map (measAgain a.now) }) := by
  simp only [stepJudged, h]

/-- R398: an accepted measurement takes effect, and ends the step. -/
theorem stepJudged_accept (h : a.verdict r.first fails v = .accept w) :
    a.stepJudged r f kind fails v = (a.calTake f r w).stepEnd r.oct := by
  simp only [stepJudged, h]

/-! ### The TDC step (R70, R80, R393) -/

/-- R80: a native step measures the widths too, one of the compatibility mode skews alone. -/
theorem tdcStepDone_judged {x : CdResult} (hs : a.stepFor g 0 = some (r, f)) (hf : fails = a.cdFails f r x)
    (hn : r.nativeTdc = true → v = .tdc (trimSearch 8 (a.rd (F.TDC_FE_STATUS_TRIM f)) x.occ)
      (cdWidths (2 ^ r.cdLog2) x.counts) (cdSkews x.skews))
    (hd : r.nativeTdc = false → v = .tdc (trimSearch 8 (a.rd (F.TDC_FE_STATUS_TRIM f)) x.occ) [] (cdSkews x.skews)) :
    a.tdcStepDone g x = a.stepJudged r f 0 fails v := by
  subst hf
  cases hr : r.nativeTdc with
  | true => simp [tdcStepDone, hs, hr, hn hr]
  | false => simp [tdcStepDone, hs, hr, hd hr]

/-! ### The INJ step (R394) -/

theorem injStepDone_none (hs : a.stepOn g 2 f = none) : a.injStepDone g f = a := by
  simp only [injStepDone, hs]

section
variable {m : CalMeas} {p : Int} {late : Bool} (hs : a.stepOn g 2 f = some r) (hm : r.meas = some m)
include hs hm

/-- The step waits for the end of its statistics run. -/
theorem injStepDone_waits (he : measEnded a.now 2 m = (false, late)) : a.injStepDone g f = a := by
  simp [injStepDone, hs, hm, he]

/-- Table 16-2: the limits are the time, then the distance of the path's delay from the starter set. -/
theorem injStepDone_judged
    (hp : p = roundEven (((partMean m 0 : Int) - 256 * r.ref) * 1000) (256 * 512) - Config.loopPs g)
    (he : measEnded a.now 2 m = (true, late)) (hlate : late = true → fails = 1)
    (hfar : late = false → listNear 500 [p] [Config.starter 11 g 0] = false → fails = 2)
    (hnear : late = false → listNear 500 [p] [Config.starter 11 g 0] = true → fails = 0) :
    a.injStepDone g f = a.stepJudged r f 2 fails (.inj p) := by
  have order : (if late then 1 else if listNear 500 [p] [Config.starter 11 g 0] then 0 else 2) = fails := by
    cases late with
    | true => exact (hlate rfl).symm
    | false =>
      cases hn : listNear 500 [p] [Config.starter 11 g 0] with
      | true => exact (hnear rfl hn).symm
      | false => exact (hfar rfl hn).symm
  subst order hp
  simp only [injStepDone, hs, hm, he, if_true]

end

end State

/-- Settles O46: a step that is judged acts by its verdict; an INJ step waits for its run. -/
theorem calibrationStepsComplete : Obligations.CalibrationStepsComplete := by
  intro t fails order g f e r m x p late v w s a h
  refine ⟨fun hs hf hn hd => ?tdc, ?none, fun hs hm hp => ⟨?waits, fun he hlate hfar hnear => ?inj⟩⟩
  case tdc =>
    have judged := State.tdcStepDone_judged hs hf hn hd
    exact ⟨fun hv => awakeAt_eq h (judged.trans (State.stepJudged_reject hv)),
      fun hv => awakeAt_eq h (judged.trans (State.stepJudged_again hv)),
      fun hv => awakeAt_eq h (judged.trans (State.stepJudged_accept hv))⟩
  case none => exact fun hs => awakeAt_eq h (State.injStepDone_none hs)
  case waits => exact fun he => awakeAt_eq h (State.injStepDone_waits hs hm he)
  case inj =>
    have judged := State.injStepDone_judged hs hm hp he hlate hfar hnear
    exact ⟨fun hv => awakeAt_eq h (judged.trans (State.stepJudged_reject hv)),
      fun hv => awakeAt_eq h (judged.trans (State.stepJudged_again hv)),
      fun hv => awakeAt_eq h (judged.trans (State.stepJudged_accept hv))⟩

end Sys2Proof.Machine
end

section
/-! SUPPORT. Proofs of the receiver front end family: the writes of one register, and of the two threshold words
of a front end (R97, R330). -/

namespace Sys2Proof.Machine

/-- A row that is a write of one register is the request of its REG_WRITE packet. -/
theorem exec_write {i : Instr} {x : RegReq} {a bit : Nat} (h : writeOf i = some (x, a, bit)) (s : State) :
    exec i s = run i.time (fun s => s.request Op.regWrite (x.write a bit)) s := by
  cases i <;> simp only [writeOf, Option.some.injEq, Prod.mk.injEq, reduceCtorEq] at h <;>
    (obtain ⟨rfl, rfl, rfl⟩ := h; rfl)

/-- REG_WRITE of the one pair of such a row. -/
theorem State.opRegWrite_one {x : RegReq} {a bit : Nat} {b c : State}
    (h : b.hostWrite [(a, x.word ||| bit)] = (c, none)) : State.opRegWrite (x.write a bit) b = OpResult.ok c :=
  State.opRegWrite_ok (q := x.write a bit) h

/-- REG_WRITE of two words writes the second behind the first. -/
theorem State.opRegWrite_two {x : RegReq} {a w : Nat} {b c : State}
    (h : b.hostWrite [(a, x.word), (a + 4, w)] = (c, none)) : State.opRegWrite (x.writeTwo a w) b = OpResult.ok c :=
  State.opRegWrite_ok (q := x.writeTwo a w) h

/-- RX_FE_THR_B is the word behind RX_FE_THR_A. -/
theorem thrB_behind_thrA (f : Nat) : A.RX_FE_THR_B f = A.RX_FE_THR_A f + 4 := by
  unfold A.RX_FE_THR_A A.RX_FE_THR_B
  omega

/-- Settles O11: each row is the request of its REG_WRITE packet, which the host write lets through. -/
theorem registerWriteRows : Obligations.RegisterWriteRows := by
  refine ⟨fun i x a bit s b c hi h hw => ?one, fun t f x w s b c h hw => ?thresholds⟩
  case one => exact (exec_write hi s).trans (request_gives h ((regWrite_core _ b).trans (State.opRegWrite_one hw)))
  case thresholds =>
    rw [thrB_behind_thrA] at hw
    exact request_gives h ((regWrite_core _ b).trans (State.opRegWrite_two hw))

end Sys2Proof.Machine
end

section
/-! SUPPORT. Proofs of the receiver front end family: the DC restorer (R91), background events (R98) and the
adaptive threshold loop (R99 to R103), with the own front end of a routed channel (R112). -/

namespace Sys2Proof.Machine
namespace State

variable {a b c : State} {f est : Nat}

/-! ### The DC restorer (R91) -/

/-- R112: the own front end of a routed channel shows no estimate. -/
theorem dcUpdate_standsBy (h : a.standsBy f = true) : a.dcUpdate f est = a.updFe f (fun x => { x with dcEst := est }) :=
  if_pos h

section
variable (h : a.standsBy f = false)
  (hb : b = ((a.updFe f (fun x => { x with dcEst := est })).wr (F.RX_FE_DC_DC_10NA (a.logical f)) (min est 40000)).wrB
    (F.RX_FE_STATUS_DC_OVER (a.logical f)) (if est > 40000 then true else if est < 38000 then false else
      ((a.updFe f (fun x => { x with dcEst := est })).wr (F.RX_FE_DC_DC_10NA (a.logical f)) (min est 40000)).flag
        (F.RX_FE_STATUS_DC_OVER (a.logical f))))
include h hb

/-- The octant's bit follows the flags of its front ends. -/
theorem dcUpdate_shows : a.dcUpdate f est =
    if ((List.range 32).any (fun k => b.flag (F.RX_FE_STATUS_DC_OVER (32 * octOfFe f + k))) ||
      b.flag (F.RX_FE_STATUS_DC_OVER (256 + octOfFe f))) = true
    then b.setIn F.RX_STATUS_DC_OVER_OCT (octOfFe f) else b.clearIn F.RX_STATUS_DC_OVER_OCT (octOfFe f) := by
  subst hb
  exact if_neg (Bool.eq_false_iff.mp h)

theorem dcUpdate_over
    (ho : (∃ k, k < 32 ∧ b.flag (F.RX_FE_STATUS_DC_OVER (32 * octOfFe f + k)) = true) ∨
      b.flag (F.RX_FE_STATUS_DC_OVER (256 + octOfFe f)) = true) :
    a.dcUpdate f est = b.setIn F.RX_STATUS_DC_OVER_OCT (octOfFe f) :=
  (dcUpdate_shows h hb).trans (if_pos (by simpa using ho))

theorem dcUpdate_within (hc : ∀ k, k < 32 → b.flag (F.RX_FE_STATUS_DC_OVER (32 * octOfFe f + k)) = false)
    (hs : b.flag (F.RX_FE_STATUS_DC_OVER (256 + octOfFe f)) = false) :
    a.dcUpdate f est = b.clearIn F.RX_STATUS_DC_OVER_OCT (octOfFe f) :=
  (dcUpdate_shows h hb).trans (if_neg (by simpa [hs] using hc))

end

/-! ### Background events (R98) -/

theorem background_standsBy (h : a.standsBy f = true) : a.background f = a := if_neg (by simp [h])

/-- R103: inside a kerf nothing is counted. -/
theorem background_kerf {k : Nat} (h : a.rx.kerfAt = some k) : a.background f = a := if_neg (by simp [h])

theorem background_counts (hp : a.rx.powered = true) (ho : (a.fe f).off = false) (hg : a.inGap f = true)
    (hk : a.rx.kerfAt = none) (hs : a.standsBy f = false) :
    a.background f = (a.updFe f (fun x => { x with count := x.count + 1 })).count ⟨0x03, 0⟩ f :=
  if_pos (by simp [hp, ho, hg, hk, hs])

/-! ### The adaptive loop (R99 to R103) -/

/-- R103: inside a kerf the loop is frozen. -/
theorem adaptPeriod_kerf {k : Nat} (h : a.rx.kerfAt = some k) : a.adaptPeriod f = a := if_pos (by simp [h])

/-- R112: the loop of a routed channel's own front end is frozen. -/
theorem adaptPeriod_standsBy (h : a.standsBy f = true) : a.adaptPeriod f = a := if_pos (by simp [h])

section
variable {l n gap : Nat} {ring : List (Nat × Nat)} (hk : a.rx.kerfAt = none) (hs : a.standsBy f = false)
  (hl : l = a.logical f) (hring : ring = (((a.fe f).count, a.gapSoFar f) :: (a.fe f).ring).take 16)
  (hn : n = (ring.map Prod.fst).sum) (hgap : gap = (ring.map Prod.snd).sum)
  (hb : b = ((a.putFe f { a.fe f with ring := ring, count := 0, gap := 0, gapFrom := a.offKerf }).wr
    (F.RX_FE_BG_BG_RATE l) (if gap = 0 then (Config.gaplessRate f a.now).toNat
      else min (n * 1000000000 / (gap * 100)) (2 ^ 23 - 1))).wrB (F.RX_FE_BG_VALID l) (ring.length == 16))
include hk hs hl hring hn hgap hb

/-- R99 to R103: once the rate of the ring is shown in `b`, a loop that is not valid, starved or not enabled only
shows so. -/
theorem adaptPeriod_holds {starved : Bool} (hst : starved = decide (gap < b.rd (F.RX_FE_ADAPT_TAU l) * 1000))
    (hc : c = b.wrB (F.RX_FE_STATUS_ADAPT_STARVED l) (ring.length == 16 && starved))
    (hno : (ring.length == 16 && !starved && c.flag (F.RX_FE_CFG_ADAPT_EN l)) = false) :
    a.adaptPeriod f = c.showHeld l false false := by
  subst hc hst hb hgap hn hring hl
  exact (if_neg (by simp [hk, hs])).trans (if_neg (Bool.eq_false_iff.mp hno))

/-- R99: while fewer than 16 periods have been counted, the loop is not valid. -/
theorem adaptPeriod_invalid (hr : ring.length ≠ 16) :
    a.adaptPeriod f = (b.wrB (F.RX_FE_STATUS_ADAPT_STARVED l) false).showHeld l false false := by
  have hv : (ring.length == 16) = false := beq_false_of_ne hr
  exact adaptPeriod_holds hk hs hl hring hn hgap hb rfl (by simp [hv]) (by simp [hv])

/-- R103: with too little gap time the loop makes no step. -/
theorem adaptPeriod_starved (hr : ring.length = 16) (ht : gap < b.rd (F.RX_FE_ADAPT_TAU l) * 1000) :
    a.adaptPeriod f = (b.wrB (F.RX_FE_STATUS_ADAPT_STARVED l) true).showHeld l false false :=
  adaptPeriod_holds hk hs hl hring hn hgap hb (decide_eq_true ht).symm (by simp [hr]) (by simp)

section
variable (ht : b.rd (F.RX_FE_ADAPT_TAU l) * 1000 ≤ gap) (hc : c = b.wrB (F.RX_FE_STATUS_ADAPT_STARVED l) false)
include ht hc

theorem adaptPeriod_disabled (he : c.flag (F.RX_FE_CFG_ADAPT_EN l) = false) :
    a.adaptPeriod f = c.showHeld l false false :=
  adaptPeriod_holds hk hs hl hring hn hgap hb (decide_eq_false ht.not_gt).symm (by simp [hc]) (by simp [he])

/-- R100, R102: the loop moves DELTA by its step within its limits, and shows a limit that holds it. -/
theorem adaptPeriod_adapts {step lo hi d d' : Int} (hr : ring.length = 16) (he : c.flag (F.RX_FE_CFG_ADAPT_EN l) = true)
    (hstep : step = loopStep n gap (c.rd (F.RX_FE_ADAPT_TARGET l))) (hd : d = c.rdS (F.RX_FE_ADAPT_STATE_DELTA l))
    (hlo : lo = c.rd (F.RX_FE_ADAPT_LIM_T0_MIN l) - c.rd (F.RX_FE_THR_A_T0 l))
    (hhi : hi = min ((c.rd (F.RX_FE_ADAPT_LIM_T0_MAX l) : Int) - c.rd (F.RX_FE_THR_A_T0 l))
      (1023 - c.rd (F.RX_FE_THR_B_T3 l)))
    (hd' : d' = clampI lo hi (d + step)) :
    a.adaptPeriod f =
      if d' = d then c.showHeld l (decide (0 < step ∧ d' ≤ d)) (decide (step < 0 ∧ d ≤ d'))
      else ((c.showHeld l (decide (0 < step ∧ d' ≤ d)) (decide (step < 0 ∧ d ≤ d'))).wrS
        (F.RX_FE_ADAPT_STATE_DELTA l) d').changeThr f := by
  have fed : false = decide (gap < b.rd (F.RX_FE_ADAPT_TAU l) * 1000) := (decide_eq_false ht.not_gt).symm
  have acts : (ring.length == 16 && !decide (gap < b.rd (F.RX_FE_ADAPT_TAU l) * 1000) &&
      c.flag (F.RX_FE_CFG_ADAPT_EN l)) = true := by simp [hr, ← fed, he]
  rw [← Bool.and_false (ring.length == 16), fed] at hc
  subst hd' hd hlo hhi hstep hc hb hgap hn hring hl
  exact (if_neg (by simp [hk, hs])).trans (if_pos acts)

end
end

end State

/-- Settles O26: the restorer and an event by what the front end does, a period by what the loop finds. -/
theorem adaptiveLoopCompletes : Obligations.AdaptiveLoopCompletes := by
  refine ⟨fun t est f s a b h => ⟨?standsBy, fun hs hb => ⟨?exceeds, ?within⟩, ?counts, ?kerf⟩,
    fun t f s a b c l n gap ring step lo hi d d' h => ⟨?frozen, ?own, fun hk hs hl hring hn hgap hb =>
      ⟨?invalid, ?starved, fun hr ht hc => ⟨?disabled, fun he hstep hd hlo hhi hd' => ?adapts⟩⟩⟩⟩
  case standsBy =>
    exact fun hs => ⟨awakeAt_eq h (State.dcUpdate_standsBy hs), awakeAt_eq h (State.background_standsBy hs)⟩
  case exceeds => exact fun ho => awakeAt_eq h (State.dcUpdate_over hs hb ho)
  case within => exact fun hc ho => awakeAt_eq h (State.dcUpdate_within hs hb hc ho)
  case counts => exact fun hp ho hg hk hs => awakeAt_eq h (State.background_counts hp ho hg hk hs)
  case kerf => exact fun k hk => awakeAt_eq h (State.background_kerf hk)
  case frozen => exact fun k hk => awakeAt_eq h (State.adaptPeriod_kerf hk)
  case own => exact fun hs => awakeAt_eq h (State.adaptPeriod_standsBy hs)
  case invalid => exact fun hr => awakeAt_eq h (State.adaptPeriod_invalid hk hs hl hring hn hgap hb hr)
  case starved => exact fun hr ht => awakeAt_eq h (State.adaptPeriod_starved hk hs hl hring hn hgap hb hr ht)
  case disabled =>
    exact fun he => awakeAt_eq h (State.adaptPeriod_disabled hk hs hl hring hn hgap hb ht hc he)
  case adapts =>
    have moves := State.adaptPeriod_adapts hk hs hl hring hn hgap hb ht hc hr he hstep hd hlo hhi hd'
    exact ⟨fun held => awakeAt_eq h (moves.trans (if_pos held)),
      fun moved => awakeAt_eq h (moves.trans (if_neg moved))⟩

end Sys2Proof.Machine
end

section
/-! SUPPORT. Proofs of the emitter firing family: what leaves the permits, the boot state and the fire queue alone, and
that a held reset stays dark (R119, R436, R438). -/

namespace Sys2Proof.Machine

namespace State

/-! ### Branches and folds -/

@[simp] theorem permits_ite (p : Prop) [Decidable p] (s r : State) :
    (if p then s else r).permits = if p then s.permits else r.permits := apply_ite State.permits p s r

@[simp] theorem boot_ite (p : Prop) [Decidable p] (s r : State) :
    (if p then s else r).boot = if p then s.boot else r.boot := apply_ite State.boot p s r

@[simp] theorem fire_ite (p : Prop) [Decidable p] (s r : State) :
    (if p then s else r).fire = if p then s.fire else r.fire := apply_ite State.fire p s r

/-- A fold keeps what each of its steps keeps. -/
theorem foldl_keeps {α β : Type} {g : State → β} {f : State → α → State} (h : ∀ s x, g (f s x) = g s) (l : List α)
    (s : State) : g (l.foldl f s) = g s := by
  induction l generalizing s with
  | nil => rfl
  | cons x l ih => exact (ih _).trans (h s x)

@[simp] theorem permits_foldl {α : Type} {f : State → α → State} (h : ∀ s x, (f s x).permits = s.permits) (l : List α)
    (s : State) : (l.foldl f s).permits = s.permits := foldl_keeps h l s

@[simp] theorem boot_foldl {α : Type} {f : State → α → State} (h : ∀ s x, (f s x).boot = s.boot) (l : List α)
    (s : State) : (l.foldl f s).boot = s.boot := foldl_keeps h l s

@[simp] theorem fire_foldl {α : Type} {f : State → α → State} (h : ∀ s x, (f s x).fire = s.fire) (l : List α)
    (s : State) : (l.foldl f s).fire = s.fire := foldl_keeps h l s

/-- `r` has the permits, the boot state and the fire queue's block as `s` has them. -/
@[simp] abbrev KeepsFire (s r : State) : Prop := r.permits = s.permits ∧ r.boot = s.boot ∧ r.fire = s.fire

section
variable (s : State)

/-! ### Events, recipes and axes -/
@[simp] theorem countN_keepsFire (c : Ctr) (inst n : Nat) : KeepsFire s (s.countN c inst n) := by simp [countN]
@[simp] theorem count_keepsFire (c : Ctr) (inst : Nat) : KeepsFire s (s.count c inst) := by simp [count]
@[simp] theorem bump_keepsFire (f : Fld) : KeepsFire s (s.bump f) := by simp [bump]
@[simp] theorem logEntry_keepsFire (a c o k q p : Nat) : KeepsFire s (s.logEntry a c o k q p) := by simp [logEntry]
@[simp] theorem logEvent_keepsFire (c a : Nat) : KeepsFire s (s.logEvent c a) := by simp [logEvent]
@[simp] theorem queueRecipe_keepsFire (n : Nat) : KeepsFire s (s.queueRecipe n) := by simp [queueRecipe]
@[simp] theorem triggerRecipes_keepsFire (p : Recipe → Bool) : KeepsFire s (s.triggerRecipes p) := by
  simp [triggerRecipes, triggerOne]
@[simp] theorem raise_keepsFire (n : Nat) : KeepsFire s (s.raise n) := by simp [raise]
@[simp] theorem putAxis_keepsFire (ax : Axis) (x : AxisSt) : KeepsFire s (s.putAxis ax x) := by
  cases ax <;> simp [putAxis]
@[simp] theorem updAxis_keepsFire (ax : Axis) (f : AxisSt → AxisSt) : KeepsFire s (s.updAxis ax f) := by simp [updAxis]
@[simp] theorem bankSwap_keepsFire (ax : Axis) : KeepsFire s (s.bankSwap ax) := by simp [bankSwap]
@[simp] theorem axStop_keepsFire (ax : Axis) (st cause : Nat) : KeepsFire s (s.axStop ax st cause) := by
  simp [axStop, hOff]
@[simp] theorem axFault_keepsFire (ax : Axis) (cause : Nat) : KeepsFire s (s.axFault ax cause) := by simp [axFault]
@[simp] theorem gateFault_keepsFire (level : Bool) : KeepsFire s (s.gateFault level) := by simp [gateFault]

/-- The registers that a reset keeps are written into the state after it. -/
@[simp] theorem keptRegs_keepsFire (kind : Nat) (r : State) : KeepsFire r (keptRegs kind s r) := by simp [keptRegs]

/-! ### The journal -/
@[simp] theorem lifeAdd_keepsFire (k n : Nat) : KeepsFire s (s.lifeAdd k n) := by simp [lifeAdd]
@[simp] theorem calendarAdd_keepsFire (e d : Nat) : KeepsFire s (s.calendarAdd e d) := by simp [calendarAdd]
@[simp] theorem noteItem_keepsFire (j : JItem) : KeepsFire s (s.noteItem j) := by unfold noteItem; split <;> simp
@[simp] theorem showQueue_keepsFire : KeepsFire s s.showQueue := by simp [showQueue]
@[simp] theorem renote_keepsFire : KeepsFire s s.renote := by simp [renote]
@[simp] theorem abandonGroup_keepsFire (g : JGroup) : KeepsFire s (s.abandonGroup g) := by simp [abandonGroup]
@[simp] theorem takeFrom_keepsFire (l : List JGroup) : KeepsFire s (takeFrom l s) := by
  induction l generalizing s with
  | nil => simp [takeFrom]
  | cons g rest ih => simp [takeFrom, ih]
@[simp] theorem takeGroup_keepsFire : KeepsFire s s.takeGroup := by simp [takeGroup]
@[simp] theorem journal_keepsFire (l : List JItem) : KeepsFire s (s.journal l) := by simp [journal]

/-! ### Calibration runs -/
@[simp] theorem putFe_keepsFire (f : Nat) (x : FeSt) : KeepsFire s (s.putFe f x) := by simp [putFe]
@[simp] theorem updFe_keepsFire (f : Nat) (g : FeSt → FeSt) : KeepsFire s (s.updFe f g) := by simp [updFe]
@[simp] theorem putStat_keepsFire (u : Nat) (x : StatUnit) : KeepsFire s (s.putStat u x) := by simp [putStat]
@[simp] theorem statGive_keepsFire (u : Nat) : KeepsFire s (s.statGive u) := by simp [statGive]
@[simp] theorem putRun_keepsFire (u : Nat) (r : Option CalRun) : KeepsFire s (s.putRun u r) := by simp [putRun]
@[simp] theorem putRxOct_keepsFire (g : Nat) (x : RxOct) : KeepsFire s (s.putRxOct g x) := by simp [putRxOct]
@[simp] theorem requestSwitch_keepsFire (g : Nat) (r : SwitchReq) : KeepsFire s (s.requestSwitch g r) := by
  simp [requestSwitch]
@[simp] theorem stepBegin_keepsFire (u f kind : Nat) (r : CalRun) : KeepsFire s (s.stepBegin u f kind r) := by
  simp [stepBegin]
@[simp] theorem runEnd_keepsFire (u : Nat) (r : CalRun) : KeepsFire s (s.runEnd u r) := by simp [runEnd]
@[simp] theorem runPoll_keepsFire (u : Nat) : KeepsFire s (s.runPoll u) := by
  unfold runPoll
  split
  case h_1 => simp
  case h_2 =>
    dsimp only
    split
    · simp
    · split <;> simp
@[simp] theorem pkoPoll_keepsFire : KeepsFire s s.pkoPoll := by simp [pkoPoll]
@[simp] theorem calPoll_keepsFire : KeepsFire s s.calPoll := by simp [calPoll]

end

end State
end Sys2Proof.Machine
end

section
/-! SUPPORT. Proofs of the emitter firing family: FIRE_ALLOW and LASER_PERMIT (R119, R120), the budget window (R140),
and the held reset (R436, R438). -/

namespace Sys2Proof.Machine

namespace State

/-! ### FIRE_ALLOW follows its conditions (R119, R120) -/

section
variable (s : State)

/-- The permits and FIRE_ALLOW as the conditions of R119 have them, in FIRE_STATUS too. -/
def allowShown : State :=
  { (((((s.wrB F.FIRE_STATUS_LASER_PERMIT s.permits.laser).wrB F.FIRE_STATUS_PERMIT_WAIT
      (s.permits.laser && !s.permits.held)).wrB F.FIRE_STATUS_PERMIT_N s.permits.north).wrB F.FIRE_STATUS_PERMIT_S
      s.permits.south)).wrB F.FIRE_STATUS_FIRE_ALLOW s.allowNow with
    permits := { s.permits with allow := s.allowNow } }

@[simp] theorem allowShown_permits : s.allowShown.permits = { s.permits with allow := s.allowNow } := rfl
@[simp] theorem allowShown_boot : s.allowShown.boot = s.boot := rfl
@[simp] theorem allowShown_fire : s.allowShown.fire = s.fire := rfl

/-- A refresh shows the conditions; where FIRE_ALLOW falls, it also holds firing and cuts the shots. -/
theorem refreshAllow_eq : s.refreshAllow = if (s.permits.allow && !s.allowNow) = true then
    s.allowShown.fire.shots.foldl cutShot { s.allowShown with fire := { s.allowShown.fire with hold := true } }
  else s.allowShown := rfl

variable {s}

/-- Where FIRE_ALLOW does not fall, the refresh shows the conditions and does no more. -/
theorem refreshAllow_steady (h : s.allowNow = true ∨ s.permits.allow = false) : s.refreshAllow = s.allowShown := by
  have : ¬ (s.permits.allow && !s.allowNow) = true := by
    rcases h with h | h <;> simp [h]
  rw [refreshAllow_eq, if_neg this]

/-- Where it falls, firing is held and every shot still driven is cut. -/
theorem refreshAllow_falls (hn : s.allowNow = false) (ha : s.permits.allow = true) : s.refreshAllow =
    s.allowShown.fire.shots.foldl cutShot { s.allowShown with fire := { s.allowShown.fire with hold := true } } := by
  rw [refreshAllow_eq, if_pos (by simp [hn, ha])]

theorem permitHold_high (h : s.permits.laser = true) :
    s.permitHold = ({ s with permits := { s.permits with held := true } } : State).refreshAllow := if_pos h

theorem permitHold_low (h : s.permits.laser = false) : s.permitHold = s := if_neg (by simp [h])

end

end State

/-- Settles O27: the edges by their commands, and a refresh by whether FIRE_ALLOW falls. -/
theorem laserPermitCommandsComplete : Obligations.LaserPermitCommandsComplete := by
  rintro t s a c d z rfl
  refine ⟨run_gives t _ s, run_gives t _ s, fun h => ?holds, fun h => ?ignored, fun h => liveAt_gives ⟨rfl, h⟩,
    fun hz hd => ⟨fun h => ?steady, fun hn ha => ?falls⟩⟩
  case holds => exact (run_gives t _ s).trans (congrArg (gives t s) (State.permitHold_high h))
  case ignored => exact (run_gives t _ s).trans (congrArg (gives t s) (State.permitHold_low h))
  case steady =>
    subst hz hd
    exact State.refreshAllow_steady h
  case falls =>
    subst hz hd
    exact State.refreshAllow_falls hn ha

namespace State

/-! ### A state in which nothing can fire (R119, R436) -/

/-- The internal reset is held, FIRE_ALLOW is low and no shot is on its way to its edge. -/
def Dark (s : State) : Prop := s.boot.phase = BootPhase.held ∧ s.permits.allow = false ∧ s.fire.queue = []

theorem darkReset_iff {s : State} : s.darkReset = true ↔ s.Dark ∧ s.pending.any isRelease = false := by
  simp [darkReset, Dark, and_assoc]

variable {s r : State}

theorem KeepsFire.dark (h : KeepsFire s r) (hs : s.Dark) : r.Dark := by
  obtain ⟨hp, hb, hf⟩ := h
  simpa [Dark, hp, hb, hf] using hs

theorem Dark.wr (f : Fld) (v : Nat) (h : s.Dark) : (s.wr f v).Dark := h
theorem Dark.wrB (f : Fld) (b : Bool) (h : s.Dark) : (s.wrB f b).Dark := h
theorem Dark.pass (h : s.Dark) (t : Nat) : (s.pass t).Dark := by simpa [Dark] using h

/-- While the internal reset is held, the conditions of R119 do not hold. -/
theorem allowNow_held (h : s.boot.phase = BootPhase.held) : s.allowNow = false := by simp [allowNow, h]

theorem Dark.refreshAllow (h : s.Dark) : s.refreshAllow.Dark := by
  obtain ⟨hb, ha, hf⟩ := h
  rw [refreshAllow_steady (.inr ha)]
  exact ⟨hb, allowNow_held hb, hf⟩

theorem Dark.permitHold (h : s.Dark) : s.permitHold.Dark := by
  cases hl : s.permits.laser with
  | true =>
    rw [permitHold_high hl]
    exact Dark.refreshAllow h
  | false => rwa [permitHold_low hl]

/-- R438: whatever stood before, nothing fires in an internal reset. -/
theorem dark_enterReset (kind : Nat) (s : State) : (s.enterReset kind).Dark :=
  Dark.refreshAllow (.wrB _ _ (.wr _ _ ((keptRegs_keepsFire _ _ _).dark ⟨rfl, rfl, rfl⟩)))

theorem Dark.resetFall (resets : Bool) (h : s.Dark) : (s.resetFall resets).Dark := by
  unfold State.resetFall
  cases resets with
  | true => exact dark_enterReset 1 _
  | false => exact (calPoll_keepsFire _).dark (Dark.refreshAllow h)

theorem Dark.resetRise (role : Bool) (id : Nat) (h : s.Dark) : (s.resetRise role id).Dark := by
  unfold State.resetRise
  rw [if_pos h.1]
  exact h

theorem Dark.pmbAlert (status : Nat) (h : s.Dark) : (s.pmbAlert status).Dark := by
  unfold State.pmbAlert
  rw [if_pos h.1]
  exact h

/-- With no shot on its way, none is launched. -/
theorem launchDue_idle (h : s.fire.queue = []) (t : Nat) : s.launchDue t = s := by simp [launchDue, h]

/-! ### What is heard while the reset is held (R436, R440) -/

theorem receives_held (h : s.boot.phase = BootPhase.held) (src : Source) : s.receives src = false := by
  simp [receives, h]

/-- No packet is received. -/
theorem request_held (h : s.boot.phase = BootPhase.held) (sp : OpSpec) (q : Req) : s.request sp q = s := by
  simp [request, receiveWith, receives_held h]

theorem malformed_held (h : s.boot.phase = BootPhase.held) (src : Source) (bs : List Nat) : s.malformed src bs = s := by
  simp [malformed, receives_held h]

end State

section
variable {t : Nat} {i : Instr} {s : State}

theorem run_request_held (h : (s.arrive t).boot.phase = BootPhase.held) (sp : OpSpec) (q : Req) :
    run t (fun s => s.request sp q) s = gives t s (s.arrive t) := by
  rw [run_gives, State.request_held h]

/-- A command of a block that stops in PARK runs as such a block's. -/
theorem exec_awake (h : stopsInPark i = true) (hf : actsFirst i = false) : ∃ f, ∀ s, exec i s = awake i.time f s := by
  cases i <;> simp only [stopsInPark, actsFirst, Bool.false_eq_true, reduceCtorEq] at h hf <;> exact ⟨_, fun _ => rfl⟩

/-- R436: a command that does not act in a held reset has no effect in it beyond its arrival. -/
theorem exec_held (h : (s.arrive i.time).boot.phase = BootPhase.held) (ha : actsInReset i = false)
    (hf : actsFirst i = false) : exec i s = gives i.time s (s.arrive i.time) := by
  cases hq : requestOf i with
  | some p => rw [exec_request hq, run_request_held h]
  | none =>
    cases hw : writeOf i with
    | some p => rw [exec_write hw, run_request_held h]
    | none =>
      cases hr : readOf i with
      | some p => rw [exec_read hr, run_request_held h]
      | none =>
        cases hp : stopsInPark i with
        | true =>
          obtain ⟨f, e⟩ := exec_awake hp hf
          rw [e, awake_held h]
        | false =>
          cases i <;> simp only [requestOf, writeOf, readOf, stopsInPark, actsInReset, actsFirst, reduceCtorEq]
            at hq hw hr hp ha hf
          case rxThresholdWrite => exact run_request_held h _ _
          case malformedPacket => exact (run_gives _ _ s).trans (congrArg (gives _ s) (State.malformed_held h _ _))
          all_goals exact live_held h

/-- The same of a command that acts before the fire edges of its own instant, which then follow. -/
theorem exec_held_first (h : (s.arriveFirst i.time).boot.phase = BootPhase.held) (hf : actsFirst i = true) :
    exec i s = gives i.time s ((s.arriveFirst i.time).launchDue i.time) := by
  cases i <;> simp only [actsFirst, Bool.false_eq_true] at hf <;> exact awakeFirst_stops (.inl h)

/-- What a dark state answers with: a dark state, with the same commands in the queue. -/
def StaysDark (s r : State) : Prop := r.Dark ∧ r.pending = s.pending

theorem gives_staysDark {r : State} (h : r.Dark) : answers (gives t s r) (StaysDark s) := ⟨_, rfl, h, rfl⟩

theorem run_staysDark {f : State → State} (h : (f (s.arrive t)).Dark) : answers (run t f s) (StaysDark s) := by
  rw [run_gives]
  exact gives_staysDark h

/-- R119, R436: no command but the release of the reset ends the dark. -/
theorem exec_staysDark (h : s.Dark) (hr : isRelease i = false) : answers (exec i s) (StaysDark s) := by
  obtain ⟨-, -, idle⟩ := id h
  have dark : (s.arrive i.time).Dark := (arrive_idle idle : s.arrive i.time = _) ▸ h.pass _
  have first : (s.arriveFirst i.time).Dark := (arriveFirst_idle idle : s.arriveFirst i.time = _) ▸ h.pass _
  cases hf : actsFirst i with
  | true =>
    obtain ⟨held, _, none⟩ := id first
    rw [exec_held_first held hf, State.launchDue_idle none]
    exact gives_staysDark first
  | false =>
    cases ha : actsInReset i with
    | false =>
      rw [exec_held dark.1 ha hf]
      exact gives_staysDark dark
    | true =>
      cases i <;> simp only [actsInReset, isRelease, Bool.false_eq_true, Bool.true_eq_false] at ha hr
      case laserPermitLow => exact run_staysDark ((State.calPoll_keepsFire _).dark (State.Dark.refreshAllow dark))
      case laserPermitHigh => exact run_staysDark (State.Dark.refreshAllow dark)
      case permitHoldExpire => exact run_staysDark dark.permitHold
      case gateFault => exact run_staysDark ((State.gateFault_keepsFire _ _).dark dark)
      case pmbAlert => exact run_staysDark (dark.pmbAlert _)
      case supplyOutOfRange => exact run_staysDark (.wr _ _ (State.dark_enterReset 0 _))
      case resetNFall => exact run_staysDark (dark.resetFall _)
      case resetNRise => exact run_staysDark (dark.resetRise _ _)
      case thermalTrip => exact run_staysDark (State.dark_enterReset 0 _)
      case tripRelease => exact run_staysDark dark

end

/-- Settles O6: the queue's front command leaves the state dark, and the empty queue leaves it as it stands. -/
theorem heldResetStaysDark : Obligations.HeldResetStaysDark := by
  intro s r hs hr
  obtain ⟨dark, clear⟩ := State.darkReset_iff.mp hs
  unfold step at hr
  split at hr
  case h_1 => exact Host.Outcome.next.inj hr ▸ hs
  case h_2 i rest hp =>
    rw [hp, List.any_cons, Bool.or_eq_false_iff] at clear
    obtain ⟨front, behind⟩ := clear
    obtain ⟨x, hx, hd, hq⟩ := exec_staysDark (s := { s with pending := rest }) dark front
    obtain rfl : x = r := Host.Outcome.next.inj (hx.symm.trans hr)
    exact State.darkReset_iff.mpr ⟨hd, hq ▸ behind⟩

end Sys2Proof.Machine
end

section
/-! SUPPORT. Proofs of the emitter firing family: the table opcodes (R131, R230, R255, R331), and the proof shots and
the evaluation of the current sense (R143, R145, R146). -/

namespace Sys2Proof.Machine

namespace State

/-! ### What the table opcodes answer -/

section
variable {s v : State} {q : Req}

theorem opTableRead_reply (h : tabRange q (q.arg 1) (q.arg 2) = none) :
    opTableRead q s =
      OpResult.reply ((tabUnits q).flatMap (fun u => s.tabWords (q.arg 0) u (q.arg 1) (q.arg 2))) s := by
  simp only [opTableRead, h]

theorem opTableWrite_ok (hr : tabRange q (q.arg 1) (q.payload.drop 2).length = none)
    (ht : s.tabRefusal q (q.arg 1) (q.payload.drop 2) = none)
    (hj : tabJournalled (q.arg 0) = true → s.journalFull = false) :
    opTableWrite q s = OpResult.ok (s.tabPut q (q.arg 1) (q.payload.drop 2)) := by
  have room : ¬ (tabJournalled (q.arg 0) && s.journalFull) = true := by
    rw [Bool.and_eq_true]
    rintro ⟨hg, hf⟩
    simp [hj hg] at hf
  simp only [opTableWrite, hr, ht, if_neg room]

/-- R131: outside the firing modes a SWAP that its checks let through takes place. -/
theorem swapSchedule_quiet (hr : s.swapRefusal = none) (hf : s.firing = false) :
    s.swapSchedule = OpResult.ok s.swapDo := by simp [swapSchedule, hr, hf]

/-- R132: in them the budget check of the shadow copy must let it through too. -/
theorem swapSchedule_firing (hr : s.swapRefusal = none) (hf : s.firing = true)
    (hb : s.budgetCheck (1 - s.activeCopy) = (v, false)) :
    s.swapSchedule = OpResult.ok (s.takeBudget v).swapDo := by simp [swapSchedule, hr, hf, hb]

theorem opTableSwap_schedule (hi : q.arg 0 = 1) (hx : q.arg 1 = 0) : opTableSwap q s = s.swapSchedule := by
  simp [opTableSwap, hi, hx]

theorem opTableSwap_envelopes (hv : q.version = 2) (hi : q.arg 0 = 3) (h1 : 1 ≤ q.arg 1) (h15 : q.arg 1 ≤ 15) :
    opTableSwap q s = s.swapEnvelopes (q.arg 1) := by simp [opTableSwap, hv, hi, h1, h15]

/-- R230: the banks of an axis are exchanged, unless an exchange waits already. -/
theorem opTableSwap_banks (hv : q.version = 2) (hi : q.arg 0 = 6) (hx : q.arg 1 ≤ 1)
    (hp : s.flag (F.SERVO_AXIS_STATUS_SWAP_PEND (bankAxis (2 * q.arg 1)).num) = false) :
    opTableSwap q s = OpResult.ok (s.swapBanks (bankAxis (2 * q.arg 1))) := by
  simp [opTableSwap, hv, hi, hx, hp]

/-- R255: where sectors run, APPLY waits for the next sector's start. -/
theorem swapEnvelopes_waits {m : Nat} (hm : m ≠ 0) (hp : m &&& s.rd F.GEOM_ENV_STATUS_APPLY_PEND = 0)
    (hr : s.sectorsRun = true) : s.swapEnvelopes m =
      OpResult.ok (s.wr F.GEOM_ENV_STATUS_APPLY_PEND (s.rd F.GEOM_ENV_STATUS_APPLY_PEND ||| m)) := by
  simp [swapEnvelopes, applyEnv, hm, hp, hr]

/-- R255: elsewhere it acts at once, where the journal has room. -/
theorem swapEnvelopes_acts {m : Nat} (hm : m ≠ 0) (hp : m &&& s.rd F.GEOM_ENV_STATUS_APPLY_PEND = 0)
    (hr : s.sectorsRun = false) (hj : s.journalFull = false) :
    s.swapEnvelopes m = OpResult.ok (s.envExchange m) := by
  simp [swapEnvelopes, applyEnv, hm, hp, hr, hj]

end

end State

/-- The range of a table command reads no path: it is alike on a packet and on its local form (R343). -/
@[simp] theorem tabRange_asLocal (q : Req) (b : State) (off n : Nat) :
    tabRange (asLocal q b) off n = tabRange q off n := by simp [tabRange]

/-- Settles O14: each opcode's answer, by the table addressed and whether the block fires. -/
theorem tableOpcodesComplete : Obligations.TableOpcodesComplete := by
  refine fun t q s b v => ⟨fun h hr => ?read, fun h hv hr ht hj => ?write, fun h hi hx hr hf => ?swapQuiet,
    fun h hi hx hr hf hb => ?swapFiring, fun h hv hi h1 h15 hp hr => ?applyWaits,
    fun h hv hi h1 h15 hp hr hj => ?applyActs, fun h hv hi hx hp => ?banks⟩
  case read =>
    exact exec_gives_result (i := .tableRead t q) rfl h
      ((State.opTableRead_reply (q := asLocal q b) (by simpa using hr)).trans (by simp only [asLocal_arg]))
  case write => exact exec_gives_result_two (i := .tableWrite t q) rfl hv h (State.opTableWrite_ok hr ht hj)
  case swapQuiet =>
    exact exec_gives_result (i := .tableSwap t q) rfl h
      ((State.opTableSwap_schedule (by simpa using hi) (by simpa using hx)).trans (State.swapSchedule_quiet hr hf))
  case swapFiring =>
    exact exec_gives_result (i := .tableSwap t q) rfl h
      ((State.opTableSwap_schedule (by simpa using hi) (by simpa using hx)).trans (State.swapSchedule_firing hr hf hb))
  case applyWaits =>
    exact exec_gives_result_two (i := .tableSwap t q) rfl hv h ((State.opTableSwap_envelopes hv hi h1 h15).trans
      (State.swapEnvelopes_waits (Nat.one_le_iff_ne_zero.mp h1) hp hr))
  case applyActs =>
    exact exec_gives_result_two (i := .tableSwap t q) rfl hv h ((State.opTableSwap_envelopes hv hi h1 h15).trans
      (State.swapEnvelopes_acts (Nat.one_le_iff_ne_zero.mp h1) hp hr hj))
  case banks => exact exec_gives_result_two (i := .tableSwap t q) rfl hv h (State.opTableSwap_banks hv hi hx hp)

namespace State

/-! ### Proof shots (R146) -/

section
variable {s b : State} {c em energy : Nat} {r : List (Nat × Nat)} (hp : s.fire.proofs = (c, em) :: r)
  (hb : b = { s with fire := { s.fire with proofs := r, sweep := s.fire.sweep.filter (fun k => k != em) } })
include hp hb

/-- The tests of the kerf's next proof shot, in their order. -/
theorem proofShot_next (pre : Bool) : s.proofShot pre =
    if b.emRemoved em || b.emOff em || !b.permits.allow || b.fire.hold || b.staveInhibited em then b.sweepCheck
    else if !b.eyeFits em (b.pulseEnergy em 20) then (b.eyeSuppress em).sweepCheck
    else if pre then (b.preShort em).sweepCheck
    else ((b.charge em (b.pulseEnergy em 20)).noteEdge em c).updEm em
      (fun x => { x with proofFired := true, evals := x.evals ++ [true] }) := by
  subst hb
  unfold proofShot
  rw [hp]

/-- Table 5-3: the conditions that turn a shot away drop a proof shot. -/
theorem proofShot_dropped (pre : Bool) (h : b.emRemoved em = true ∨ b.emOff em = true ∨ b.permits.allow = false ∨
    b.fire.hold = true ∨ b.staveInhibited em = true) : s.proofShot pre = b.sweepCheck := by
  have away : (b.emRemoved em || b.emOff em || !b.permits.allow || b.fire.hold || b.staveInhibited em) = true := by
    rcases h with h | h | h | h | h <;> simp [h]
  rw [proofShot_next hp hb, if_pos away]

variable (away : (b.emRemoved em || b.emOff em || !b.permits.allow || b.fire.hold || b.staveInhibited em) = false)
  (he : energy = 20 * b.rd (F.FIRE_OCT_LEVEL_STATUS_CODE (em / 8)))
include away he

/-- R141: so does the emitter's budget. -/
theorem proofShot_suppressed (pre : Bool) (hf : b.eyeFits em energy = false) :
    s.proofShot pre = (b.eyeSuppress em).sweepCheck := by
  simp [proofShot_next hp hb, away, pulseEnergy, ← he, hf]

/-- R144: and current before the edge; else it fires. -/
theorem proofShot_fits (pre : Bool) (hf : b.eyeFits em energy = true) :
    s.proofShot pre = if pre = true then (b.preShort em).sweepCheck else ((b.charge em energy).noteEdge em c).updEm em
      (fun x => { x with proofFired := true, evals := x.evals ++ [true] }) := by
  simp [proofShot_next hp hb, away, pulseEnergy, ← he, hf]

end

/-! ### The evaluation of the current sense (R143, R145) -/

section
variable {s b c : State} {e peak rise : Nat} {proof : Bool} {r : List Bool} (hv : (s.em e).evals = proof :: r)
  (hb : b = (((s.updEm e (fun x => { x with evals := r })).wr
    (F.FIRE_EM_STATUS_LAST_RESULT e) (s.csResult e peak rise)).wr
    (F.FIRE_EM_CS_LAST_PEAK e) (min peak 1023)).wr (F.FIRE_EM_CS_LAST_RISE e) (min rise 63))
  (hc : c = if s.csResult e peak rise = 1 then b.updEm e (fun x => { x with badRun := 0 })
    else b.badResult e (s.csResult e peak rise - 1))
include hv hb hc

/-- The result and what it does to the run of bad ones; a proof shot's ends the unverified run (R146). -/
theorem csEvaluate_next : s.csEvaluate e peak rise = if proof = true then
    (((c.updEm e (fun x => { x with proofDone := true })).wr (F.FIRE_EM_STATUS_UNVER_RUN e) 0).wr
      (F.FIRE_EM_STATUS_UNVERIFIED e) 0).sweepCheck else c := by
  simp only [csEvaluate, hv, ← hb, ← hc]

end

end State

/-- Settles O29: a proof shot by the conditions of Table 5-3, and a pulse's evaluation by its result. -/
theorem proofShotsAndCurrentSenseComplete : Obligations.ProofShotsAndCurrentSenseComplete := by
  refine ⟨fun t c em energy pre r s a b h hp hb he => ⟨fun hd => ?dropped, fun hr ho ha hh hi => ?conditionsHold⟩,
    fun t e peak rise proof r s a b c h hv hb hgood hbad => ?evaluated⟩
  case dropped => exact awakeAt_eq h (State.proofShot_dropped hp hb pre hd)
  case conditionsHold =>
    have clear : (b.emRemoved em || b.emOff em || !b.permits.allow || b.fire.hold || b.staveInhibited em) = false := by
      simp [hr, ho, ha, hh, hi]
    refine ⟨fun hf => ?suppressed, fun hf => ⟨?short, ?fires⟩⟩
    case suppressed => exact awakeAt_eq h (State.proofShot_suppressed hp hb clear he pre hf)
    case short => exact awakeAt_eq h (State.proofShot_fits hp hb clear he true hf)
    case fires => exact awakeAt_eq h (State.proofShot_fits hp hb clear he false hf)
  case evaluated =>
    have run : c = if a.csResult e peak rise = 1 then b.updEm e (fun x => { x with badRun := 0 })
        else b.badResult e (a.csResult e peak rise - 1) := by
      split
      case isTrue hk => exact hgood hk
      case isFalse hk => exact hbad hk
    have next := State.csEvaluate_next hv hb run
    refine ⟨fun hq => ?shot, fun hq => ?proofShot⟩
    case shot => exact awakeAt_eq h (next.trans (if_neg (by simp [hq])))
    case proofShot => exact awakeAt_eq h (next.trans (if_pos hq))

end Sys2Proof.Machine
end

section
/-! SUPPORT. What leaves the permits as they stand (R119, R120): one rule for each of the model's operations that never
reaches the refresh of FIRE_ALLOW, in the order of the model's files. The operations that do reach it follow in the next
part. -/

namespace Sys2Proof.Machine

/-! ### Answers -/

@[simp] theorem OpResult.refuse_state (st a : Nat) (s : State) : (OpResult.refuse st a s).state = s := rfl
@[simp] theorem OpResult.ok_state (s : State) : (OpResult.ok s).state = s := rfl
@[simp] theorem OpResult.reply_state (l : List Nat) (s : State) : (OpResult.reply l s).state = s := rfl
@[simp] theorem OpResult.refuseReg_state (st a : Nat) (s : State) : (OpResult.refuseReg st a s).state = s := rfl
@[simp] theorem OpResult.refuseUnit_state (k : UnitKind) (g : Bool) (u st a : Nat) (s : State) :
    (OpResult.refuseUnit k g u st a s).state = s := rfl
@[simp] theorem OpResult.refuseOctant_state (gs : List Nat) (g st : Nat) (s : State) :
    (OpResult.refuseOctant gs g st s).state = s := rfl
@[simp] theorem OpResult.state_ite (p : Prop) [Decidable p] (a b : OpResult) :
    (if p then a else b).state = if p then a.state else b.state := apply_ite OpResult.state p a b

namespace State

@[simp] theorem permits_foldl_fst {α β : Type} {f : State × β → α → State × β}
    (h : ∀ p x, (f p x).1.permits = p.1.permits) (l : List α) (p : State × β) :
    (l.foldl f p).1.permits = p.1.permits := by
  induction l generalizing p with
  | nil => rfl
  | cons x l ih => exact (ih _).trans (h p x)
@[simp] theorem fst_ite {β : Type} (p : Prop) [Decidable p] (a b : State × β) :
    (if p then a else b).1 = if p then a.1 else b.1 := apply_ite Prod.fst p a b

section
variable (s : State)

/-- The plain updates as rewriting steps of a proof: the kernel then need not compare the states themselves. -/
theorem permits_write : (∀ a v s, (putWord a v s).permits = s.permits) ∧ (∀ f v s, (wr f v s).permits = s.permits) ∧
    (∀ f v s, (wrS f v s).permits = s.permits) ∧ (∀ f b s, (wrB f b s).permits = s.permits) ∧
    (∀ s, (tick s).permits = s.permits) ∧
    (∀ (n : NvsSt) (s : State), ({ s with nvs := n } : State).permits = s.permits) :=
  ⟨putWord_permits, wr_permits, wrS_permits, wrB_permits, tick_permits, fun _ _ => rfl⟩

@[simp] theorem putTabs_permits (table unit offset : Nat) (ws : List Nat) :
    (s.putTabs table unit offset ws).permits = s.permits := by
  induction ws generalizing offset s with
  | nil => rfl
  | cons v vs ih => exact (ih _ _).trans (putTab_permits _ _ _ _ _)
@[simp] theorem uncommit_permits : s.uncommit.permits = s.permits := by simp [uncommit]

/-! ### The receiver front end (chapter 4) -/

@[simp] theorem showHeld_permits (l : Nat) (atMax atMin : Bool) : (s.showHeld l atMax atMin).permits = s.permits := by
  simp [showHeld]
@[simp] theorem loopRestart_permits (f : Nat) : (s.loopRestart f).permits = s.permits := by simp [loopRestart]
@[simp] theorem applyCfg_permits (f : Nat) : (s.applyCfg f).permits = s.permits := by simp [applyCfg]
@[simp] theorem applyThr_permits (f : Nat) : (s.applyThr f).permits = s.permits := by simp [applyThr]
@[simp] theorem changeCfg_permits (f : Nat) : (s.changeCfg f).permits = s.permits := by simp [changeCfg]
@[simp] theorem changeThr_permits (f : Nat) : (s.changeThr f).permits = s.permits := by simp [changeThr]
@[simp] theorem gainStall_permits (f : Nat) : (s.gainStall f).permits = s.permits := by simp [gainStall]
@[simp] theorem takeGap_permits (f : Nat) : (s.takeGap f).permits = s.permits := by simp [takeGap]
@[simp] theorem leaveGap_permits (f : Nat) : (s.leaveGap f).permits = s.permits := by simp [leaveGap]
@[simp] theorem switchBack_permits (g : Nat) : (s.switchBack g).permits = s.permits := by
  unfold switchBack
  split
  · rfl
  · simp [-wr_permits, -wrB_permits, -wrS_permits, permits_write]
@[simp] theorem switchTo_permits (g ch : Nat) : (s.switchTo g ch).permits = s.permits := by
  simp [switchTo, -wr_permits, -wrB_permits, -wrS_permits, permits_write]
@[simp] theorem dropSwitch_permits (g : Nat) : (s.dropSwitch g).permits = s.permits := by simp [dropSwitch]
@[simp] theorem xbarSwitch_permits (g : Nat) : (s.xbarSwitch g).permits = s.permits := by
  unfold xbarSwitch
  split <;> simp
@[simp] theorem xbarTimeout_permits (g : Nat) : (s.xbarTimeout g).permits = s.permits := by simp [xbarTimeout]
@[simp] theorem gapStart_permits (f : Nat) : (s.gapStart f).permits = s.permits := by simp [gapStart]
@[simp] theorem xbarSubst_permits (g : Nat) (enOld : Bool) (chOld : Nat) :
    (s.xbarSubst g enOld chOld).permits = s.permits := by fun_cases xbarSubst <;> simp
@[simp] theorem background_permits (f : Nat) : (s.background f).permits = s.permits := by simp [background]
@[simp] theorem adaptPeriod_permits (f : Nat) : (s.adaptPeriod f).permits = s.permits := by
  simp [adaptPeriod, -wr_permits, -wrB_permits, -wrS_permits, permits_write]
@[simp] theorem dcUpdate_permits (f est : Nat) : (s.dcUpdate f est).permits = s.permits := by simp [dcUpdate]
@[simp] theorem refreshBias_permits (g : Nat) : (s.refreshBias g).permits = s.permits := by simp [refreshBias]
@[simp] theorem biasStep_permits (g : Nat) : (s.biasStep g).permits = s.permits := by simp [biasStep]
@[simp] theorem biasOffOne_permits (g : Nat) : (s.biasOffOne g).permits = s.permits := by simp [biasOffOne]
@[simp] theorem biasOff_permits : s.biasOff.permits = s.permits := by simp [biasOff]
@[simp] theorem rxPowerUp_permits : s.rxPowerUp.permits = s.permits := by simp [rxPowerUp]
@[simp] theorem rxPowerDown_permits : s.rxPowerDown.permits = s.permits := by simp [rxPowerDown]
@[simp] theorem injStart_permits (g : Nat) : (s.injStart g).permits = s.permits := by simp [injStart]
@[simp] theorem injEnd_permits (g : Nat) : (s.injEnd g).permits = s.permits := by simp [injEnd]
@[simp] theorem injOpen_permits (f : Nat) : (s.injOpen f).permits = s.permits := by simp [injOpen]
@[simp] theorem injFire_permits (g : Nat) (fs : List Nat) (p : InjPulse) : (s.injFire g fs p).permits = s.permits := by
  simp [injFire]
@[simp] theorem calPulse_permits (g f kind : Nat) (r : CalRun) (m : CalMeas) :
    (s.calPulse g f kind r m).permits = s.permits := by simp [calPulse]
@[simp] theorem hostPulse_permits (g : Nat) : (s.hostPulse g).permits = s.permits := by simp [hostPulse]
@[simp] theorem injPulse_permits (g : Nat) : (s.injPulse g).permits = s.permits := by fun_cases injPulse <;> simp

/-! ### Histograms, code groups and peak lists (chapter 6) -/

@[simp] theorem putEm_permits (e : Nat) (x : EmSt) : (s.putEm e x).permits = s.permits := by simp [putEm]
@[simp] theorem updEm_permits (e : Nat) (f : EmSt → EmSt) : (s.updEm e f).permits = s.permits := by simp [updEm]
@[simp] theorem updShot_permits (id : Nat) (f : Shot → Shot) : (s.updShot id f).permits = s.permits := by simp [updShot]
@[simp] theorem updWin_permits (id ch : Nat) (f : ChanWin → ChanWin) : (s.updWin id ch f).permits = s.permits := by
  simp [updWin]
@[simp] theorem addBin_permits (ch bank b : Nat) : (s.addBin ch bank b).permits = s.permits := by simp [addBin]
@[simp] theorem clearBank_permits (ch bank : Nat) : (s.clearBank ch bank).permits = s.permits := by simp [clearBank]
@[simp] theorem handBank_permits (e : Nat) (g : CodeGroup) (ch : Nat) : (s.handBank e g ch).permits = s.permits := by
  simp [handBank]
@[simp] theorem closeGroup_permits (e num : Nat) : (s.closeGroup e num).permits = s.permits := by
  unfold closeGroup
  split <;> simp
@[simp] theorem updGroup_permits (e num : Nat) (f : CodeGroup → CodeGroup) :
    (s.updGroup e num f).permits = s.permits := by simp [updGroup]
@[simp] theorem dropListsOf_permits (chs : List Nat) : (s.dropListsOf chs).permits = s.permits := by simp [dropListsOf]
@[simp] theorem followLost_permits (e num : Nat) : (s.followLost e num).permits = s.permits := by simp [followLost]
@[simp] theorem claimBanks_permits (e num : Nat) : (s.claimBanks e num).permits = s.permits := by simp [claimBanks]
@[simp] theorem startGroup_permits (e k wMax : Nat) : (s.startGroup e k wMax).permits = s.permits := by
  simp [startGroup]
@[simp] theorem endGroups_permits (e n : Nat) (p : CodeGroup → Bool) : (s.endGroups e n p).permits = s.permits := by
  simp [endGroups]
@[simp] theorem dropLists_permits (e : Nat) : (s.dropLists e).permits = s.permits := by simp [dropLists]
@[simp] theorem groupEvent_permits (e k : Nat) : (s.groupEvent e k).permits = s.permits := by
  simp only [groupEvent]
  split <;> simp
@[simp] theorem enterGroup_permits (e k wMax : Nat) : (s.enterGroup e k wMax).permits = s.permits := by
  simp [enterGroup]
@[simp] theorem peakListDone_permits (ch : Nat) : (s.peakListDone ch).permits = s.permits := by
  unfold peakListDone
  split <;> simp
@[simp] theorem spyLatch_permits : s.spyLatch.permits = s.permits := by
  unfold spyLatch
  dsimp only
  split <;> simp [-putWord_permits, -wr_permits, -wrB_permits, -wrS_permits, permits_write]
@[simp] theorem extTrigEdge_permits (level : Bool) : (s.extTrigEdge level).permits = s.permits := by simp [extTrigEdge]
@[simp] theorem trigTimeout_permits : s.trigTimeout.permits = s.permits := by simp [trigTimeout]
@[simp] theorem trigStart_permits : s.trigStart.permits = s.permits := by simp [trigStart]
@[simp] theorem armTrigger_permits : s.armTrigger.permits = s.permits := by simp [armTrigger]

/-! ### The scan servo (chapter 9) -/

@[simp] theorem rasterEnds_permits (at0 : Nat) : (s.rasterEnds at0).permits = s.permits := by simp [rasterEnds]
@[simp] theorem axPark_permits (ax : Axis) (cause : Nat) : (s.axPark ax cause).permits = s.permits := by simp [axPark]
@[simp] theorem axAcquire_permits (ax : Axis) : (s.axAcquire ax).permits = s.permits := by
  unfold axAcquire
  split <;> simp [-wr_permits, -wrB_permits, -wrS_permits, permits_write]
@[simp] theorem axRefresh_permits (ax : Axis) : (s.axRefresh ax).permits = s.permits := by simp [axRefresh]
@[simp] theorem servoRefresh_permits : s.servoRefresh.permits = s.permits := by simp [servoRefresh]
@[simp] theorem servoSwap_permits (ax : Axis) : (s.servoSwap ax).permits = s.permits := by simp [servoSwap]
@[simp] theorem refStart_permits (b : Nat) : (s.refStart b).permits = s.permits := by simp [refStart]
@[simp] theorem refTimer_permits : s.refTimer.permits = s.permits := by simp [refTimer]
@[simp] theorem hPeriodStart_permits : s.hPeriodStart.permits = s.permits := by simp [hPeriodStart]
@[simp] theorem coast_permits (ax : Axis) (valid : Bool) : (s.coast ax valid).permits = s.permits := by simp [coast]
@[simp] theorem servoPeriodStart_permits (ax : Axis) : (s.servoPeriodStart ax).permits = s.permits := by
  unfold servoPeriodStart
  dsimp only
  (repeat' split) <;> simp [-wr_permits, -wrB_permits, -wrS_permits, permits_write]
@[simp] theorem putOutput_permits (ax : Axis) (u : Int) : (s.putOutput ax u).permits = s.permits := by
  unfold putOutput
  split <;> simp
@[simp] theorem lockRuns_permits (ax : Axis) (valid within : Bool) :
    (s.lockRuns ax valid within).permits = s.permits := by simp [lockRuns]
@[simp] theorem commitProgram_permits (ax : Axis) (t : Nat) : (s.commitProgram ax t).permits = s.permits := by
  simp [commitProgram]
@[simp] theorem outputInstant_permits (ax : Axis) (finished : Bool) :
    (s.outputInstant ax finished).permits = s.permits := by
  unfold outputInstant
  dsimp only
  (repeat' split) <;> simp [*]
@[simp] theorem acqTimeout_permits (ax : Axis) : (s.acqTimeout ax).permits = s.permits := by simp [acqTimeout]
@[simp] theorem parkSlew_permits : s.parkSlew.permits = s.permits := by simp [parkSlew]
@[simp] theorem rasterStart_permits (at0 : Nat) : (s.rasterStart at0).permits = s.permits := by simp [rasterStart]
@[simp] theorem profileWrite_permits : s.profileWrite.permits = s.permits := by simp [profileWrite]
@[simp] theorem rasterTimer_permits : s.rasterTimer.permits = s.permits := by simp [rasterTimer]
@[simp] theorem rasterAtBoundary_permits (b : Nat) : (s.rasterAtBoundary b).permits = s.permits := by
  simp [rasterAtBoundary]
@[simp] theorem encFault_permits : s.encFault.permits = s.permits := by simp [encFault]
@[simp] theorem encEdge_permits (a b : Bool) : (s.encEdge a b).permits = s.permits := by simp [encEdge]
@[simp] theorem encIndex_permits : s.encIndex.permits = s.permits := by simp [encIndex]
@[simp] theorem refCarry_permits (b rev : Nat) : (s.refCarry b rev).permits = s.permits := by simp [refCarry]
@[simp] theorem refAtBoundary_permits (b : Nat) (entry lengthChanged : Bool) :
    (s.refAtBoundary b entry lengthChanged).permits = s.permits := by simp [refAtBoundary]
@[simp] theorem setBus_permits (mv : Option Nat) : (s.setBus mv).permits = s.permits := by
  unfold setBus
  split <;> simp
@[simp] theorem busWrite_permits : s.busWrite.permits = s.permits := by simp [busWrite]
@[simp] theorem snoopBus_permits (tag code : Nat) : (s.snoopBus tag code).permits = s.permits := by simp [snoopBus]
@[simp] theorem pwmUpdate_permits : s.pwmUpdate.permits = s.permits := by simp [pwmUpdate]
@[simp] theorem alignDone_permits : s.alignDone.permits = s.permits := by simp [alignDone]
@[simp] theorem servoModeEntry_permits : s.servoModeEntry.permits = s.permits := by simp [servoModeEntry]

/-! ### The mirror angle pickoff (chapter 8) -/

@[simp] theorem chainStart_permits : s.chainStart.permits = s.permits := by simp [chainStart]
@[simp] theorem chainStop_permits : s.chainStop.permits = s.permits := by simp [chainStop]
@[simp] theorem angleRefresh_permits : s.angleRefresh.permits = s.permits := by simp [angleRefresh]
@[simp] theorem excWrite_permits : s.excWrite.permits = s.permits := by simp [excWrite]
@[simp] theorem demodBoundary_permits (peak : Nat) : (s.demodBoundary peak).permits = s.permits := by
  simp [demodBoundary]
@[simp] theorem requestReset_permits : s.requestReset.permits = s.permits := by simp [requestReset]
@[simp] theorem clipReset_permits : s.clipReset.permits = s.permits := by simp [clipReset]
@[simp] theorem rangeWrite_permits : s.rangeWrite.permits = s.permits := by simp [rangeWrite]
@[simp] theorem blankWrite_permits : s.blankWrite.permits = s.permits := by simp [blankWrite]
@[simp] theorem takeSample_permits (ahead : List (Nat × Nat)) (acc : State × List Int × Nat)
    (p : Nat × Nat × Int × Bool) :
    (takeSample ahead acc p).1.permits = acc.1.permits := by
  simp only [takeSample]
  split <;> simp
@[simp] theorem pkoGather_permits (ahead : List (Nat × Nat)) (l : List (Nat × Nat × Int × Bool)) :
    (s.pkoGather ahead l).permits = s.permits := by simp [pkoGather]
@[simp] theorem pickoffOutput_permits (ahead : List (Nat × Nat)) (samples : List (Int × Bool)) :
    (s.pickoffOutput ahead samples).permits = s.permits := by simp [pickoffOutput]
@[simp] theorem elecFault_permits (pin : Nat) : (s.elecFault pin).permits = s.permits := by simp [elecFault]
@[simp] theorem elecRecover_permits (pin : Nat) : (s.elecRecover pin).permits = s.permits := by simp [elecRecover]

/-! ### The landing and the port arbiters (chapter 12) -/

@[simp] theorem putRegion_permits (n : Nat) (r : RegionSt) : (s.putRegion n r).permits = s.permits := by
  simp [putRegion]
@[simp] theorem updRegion_permits (n : Nat) (f : RegionSt → RegionSt) : (s.updRegion n f).permits = s.permits := by
  simp [updRegion]
@[simp] theorem putPort_permits (p : Nat) (x : PortSt) : (s.putPort p x).permits = s.permits := by simp [putPort]
@[simp] theorem countDrop_permits (n shots recs items bytes : Nat) :
    (s.countDrop n shots recs items bytes).permits = s.permits := by simp [countDrop]
@[simp] theorem closeDg_permits (n : Nat) (flushed : Bool) : (s.closeDg n flushed).permits = s.permits := by
  unfold closeDg
  split <;> simp
@[simp] theorem putOpen_permits (n : Nat) (d : OpenDg) : (s.putOpen n d).permits = s.permits := by simp [putOpen]
@[simp] theorem packPiece_permits (n : Nat) (u : EchoUnit) (cont shot : Bool) (ws : List Nat) :
    (s.packPiece n u cont shot ws).1.permits = s.permits := by fun_cases packPiece <;> simp
@[simp] theorem packRecs_permits (n : Nat) (u : EchoUnit) (cont : Bool) (ws : List (List Nat)) :
    (s.packRecs n u cont ws).permits = s.permits := by
  induction ws generalizing cont s with
  | nil => rfl
  | cons r rs ih => exact (ih _ _).trans (packPiece_permits _ _ _ _ _ _)
@[simp] theorem packUnit_permits (n : Nat) (u : EchoUnit) : (s.packUnit n u).permits = s.permits := by simp [packUnit]
@[simp] theorem releaseFrame_permits (n k : Nat) : (s.releaseFrame n k).permits = s.permits := by simp [releaseFrame]
@[simp] theorem flushRegion_permits (n : Nat) : (s.flushRegion n).permits = s.permits := by simp [flushRegion]
@[simp] theorem flushAll_permits : s.flushAll.permits = s.permits := by simp [flushAll]
@[simp] theorem admitUnit_permits (n : Nat) (u : EchoUnit) : (s.admitUnit n u).permits = s.permits := by
  simp [admitUnit]
@[simp] theorem admitRecord_permits (ws : List Nat) (n : Nat) : (s.admitRecord ws n).permits = s.permits := by
  unfold admitRecord
  dsimp only
  (repeat' split) <;> simp [*]
@[simp] theorem telemetry_permits (ws : List Nat) : (s.telemetry ws).permits = s.permits := by simp [telemetry]
@[simp] theorem arbiterEvent_permits (kind p req items : Nat) :
    (s.arbiterEvent kind p req items).permits = s.permits := by simp [arbiterEvent]
@[simp] theorem packReport_permits (n sector : Nat) (r : List Nat) : (s.packReport n sector r).permits = s.permits := by
  fun_cases packReport <;> simp
@[simp] theorem admitReports_permits (n sector : Nat) (reports : List (List Nat)) :
    (s.admitReports n sector reports).permits = s.permits := by simp [admitReports]
@[simp] theorem segmentDg_permits (n seq line : Nat) (first : Bool) (g : Nat × List Nat) :
    (s.segmentDg n seq line first g).permits = s.permits := by simp [segmentDg]
@[simp] theorem admitLine_permits (n seq line : Nat) (final : Bool) (os : List Nat) :
    (s.admitLine n seq line final os).permits = s.permits := by
  unfold admitLine
  dsimp only
  (repeat' split) <;> simp [*]
@[simp] theorem admitTrailer_permits (n seq : Nat) (os : List Nat) : (s.admitTrailer n seq os).permits = s.permits := by
  simp [admitTrailer]
@[simp] theorem dropDg_permits (d : Datagram) : (s.dropDg d).permits = s.permits := by simp [dropDg]
@[simp] theorem discardRegion_permits (n : Nat) : (s.discardRegion n).permits = s.permits := by
  simp only [discardRegion]
  split <;> simp
@[simp] theorem clearRegionCounters_permits (n : Nat) : (s.clearRegionCounters n).permits = s.permits := by
  simp [clearRegionCounters]
@[simp] theorem regionZero_permits (n : Nat) : (s.regionZero n).permits = s.permits := by simp [regionZero]
@[simp] theorem resetRegion_permits (n : Nat) : (s.resetRegion n).permits = s.permits := by
  simp only [resetRegion]
  split <;> simp
@[simp] theorem regionFollows_permits (t : TxFrame) : (s.regionFollows t).permits = s.permits := by simp [regionFollows]
@[simp] theorem startTx_permits (p req : Nat) : (s.startTx p req).permits = s.permits := by
  unfold startTx
  dsimp only
  (repeat' split) <;> simp [*]
@[simp] theorem setDrained_permits (p : Nat) : (s.setDrained p).permits = s.permits := by simp [setDrained]
@[simp] theorem grant_permits (p : Nat) : (s.grant p).permits = s.permits := by
  unfold grant
  dsimp only
  (repeat' split) <;> simp [*]
@[simp] theorem countTx_permits (p bytes : Nat) : (s.countTx p bytes).permits = s.permits := by simp [countTx]
@[simp] theorem putLane_permits (l : Nat) (x : LaneSt) : (s.putLane l x).permits = s.permits := by simp [putLane]
@[simp] theorem frameOut_permits (l : Nat) (c : CtrlFrame) : (s.frameOut l c).permits = s.permits := by simp [frameOut]
@[simp] theorem emitCtrl_permits (l : Nat) (c : CtrlFrame) : (s.emitCtrl l c).permits = s.permits := by
  unfold emitCtrl
  dsimp only
  (repeat' split) <;> simp [*]
@[simp] theorem sendCtrl_permits (p : Nat) : (s.sendCtrl p).permits = s.permits := by simp [sendCtrl]
@[simp] theorem endGrant_permits (p : Nat) : (s.endGrant p).permits = s.permits := by simp [endGrant]
@[simp] theorem replyGone_permits : s.replyGone.permits = s.permits := by simp [replyGone]
@[simp] theorem repliesGone_permits (l : List StagedReply) : (s.repliesGone l).permits = s.permits := by
  simp [repliesGone]
@[simp] theorem frameEnd_permits (p : Nat) : (s.frameEnd p).permits = s.permits := by
  simp only [frameEnd]
  split <;> simp
@[simp] theorem abortTx_permits (p : Nat) : (s.abortTx p).permits = s.permits := by
  simp only [abortTx]
  split <;> simp
@[simp] theorem dropDatagrams_permits (acc : State × Nat) (n : Nat) :
    (dropDatagrams acc n).1.permits = acc.1.permits := by
  simp only [dropDatagrams]
  split <;> simp
@[simp] theorem wdtBite_permits (p : Nat) : (s.wdtBite p).permits = s.permits := by
  unfold wdtBite
  dsimp only
  (repeat' split) <;> simp [*]
@[simp] theorem starve_permits (p req : Nat) : (s.starve p req).permits = s.permits := by simp [starve]
@[simp] theorem stageReply_permits (l : Nat) (r : StagedReply) : (s.stageReply l r).permits = s.permits := by
  simp [stageReply]

/-! ### The store and its journal (chapter 17) -/

@[simp] theorem putHalf_permits (l : List JEntry) : (s.putHalf l).permits = s.permits := by simp [putHalf]
@[simp] theorem lifeFlush_permits : s.lifeFlush.permits = s.permits := by simp [lifeFlush]
@[simp] theorem lifeSecond_permits : s.lifeSecond.permits = s.permits := by simp [lifeSecond]
@[simp] theorem forecast_permits : s.forecast.permits = s.permits := by simp [forecast]
@[simp] theorem queueRefused_permits : s.queueRefused.permits = s.permits := by simp [queueRefused]
@[simp] theorem startCompaction_permits : s.startCompaction.permits = s.permits := by simp [startCompaction]
@[simp] theorem autoCompact_permits : s.autoCompact.permits = s.permits := by simp [autoCompact]
@[simp] theorem firstSuper_permits : s.firstSuper.permits = s.permits := by simp [firstSuper]
@[simp] theorem entryDone_permits (ok : Bool) : (s.entryDone ok).permits = s.permits := by
  unfold entryDone
  dsimp only
  (repeat' split) <;> simp [*]
@[simp] theorem writeSuper_permits (sb : Superblock) : (s.writeSuper sb).permits = s.permits := by simp [writeSuper]
@[simp] theorem compactFlip_permits : s.compactFlip.permits = s.permits := by
  obtain ⟨-, writes, -, flags, -, stores⟩ := permits_write
  unfold compactFlip
  split
  · refine (takeGroup_keepsFire _).1.trans ((flags _ _ _).trans ((calendarAdd_keepsFire _ _ _).1.trans
      ((lifeAdd_keepsFire _ _ _).1.trans ((count_keepsFire _ _ _).1.trans
        ((stores _ _).trans ((writes _ _ _).trans ?_))))))
    simp [-wr_permits, -wrB_permits, -wrS_permits, permits_write]
  · rfl

/-! ### Conversion and edge groups (chapter 3) -/

@[simp] theorem statResults_permits (u : Nat) : (s.statResults u).permits = s.permits := by simp [statResults]
@[simp] theorem statEnd_permits (u : Nat) : (s.statEnd u).permits = s.permits := by simp [statEnd]
@[simp] theorem statStart_permits (u : Nat) : (s.statStart u).permits = s.permits := by simp [statStart]
@[simp] theorem statAbort_permits (u : Nat) : (s.statAbort u).permits = s.permits := by simp [statAbort]
@[simp] theorem statTimeout_permits (u : Nat) : (s.statTimeout u).permits = s.permits := by simp [statTimeout]
@[simp] theorem statTake_permits (u : Nat) : (s.statTake u).permits = s.permits := by
  simp [statTake, -wr_permits, -wrB_permits, -wrS_permits, permits_write]
@[simp] theorem statSample_permits (u v : Nat) : (s.statSample u v).permits = s.permits := by simp [statSample]
@[simp] theorem offer_permits (u : Nat) (times : List (Option Nat)) : (s.offer u times).permits = s.permits := by
  unfold offer
  split <;> simp
@[simp] theorem statShots_permits (f : Nat) (g : OpenGroup) (u : Nat) (p : Pairing) :
    (s.statShots f g u p).permits = s.permits := by simp [statShots]
@[simp] theorem calSample_permits (f u : Nat) (times : List (Option Nat)) :
    (s.calSample f u times).permits = s.permits := by
  unfold calSample
  dsimp only
  (repeat' split) <;> simp [*]
@[simp] theorem statInj_permits (f : Nat) (times : List (Option Nat)) (u : Nat) :
    (s.statInj f times u).permits = s.permits := by simp [statInj]
@[simp] theorem completeGroup_permits (f : Nat) (openG : Bool) : (s.completeGroup f openG).permits = s.permits := by
  unfold completeGroup
  dsimp only
  (repeat' split) <;> simp [*]
@[simp] theorem binPairing_permits (f : Nat) (p : Pairing) : (s.binPairing f p).permits = s.permits := by
  fun_cases binPairing <;> simp
@[simp] theorem markEvent_permits (f : Nat) (p : Pairing) : (s.markEvent f p).permits = s.permits := by simp [markEvent]
@[simp] theorem openGroup_permits (f : Nat) (e : Edge) (ws : List Shot) : (s.openGroup f e ws).permits = s.permits := by
  unfold openGroup
  split <;> simp
@[simp] theorem updOpen_permits (f : Nat) (k : OpenGroup → OpenGroup) : (s.updOpen f k).permits = s.permits := by
  simp [updOpen]
@[simp] theorem markSat_permits (f : Nat) : (s.markSat f).permits = s.permits := by
  unfold markSat
  split <;> simp
@[simp] theorem placeEdge_permits (f n : Nat) (e : Edge) (ws : List Shot) :
    (s.placeEdge f n e ws).permits = s.permits := by simp [placeEdge]
@[simp] theorem tdcEdge_permits (f n c fine : Nat) (sat : Bool) : (s.tdcEdge f n c fine sat).permits = s.permits := by
  simp [tdcEdge]
@[simp] theorem windowGap_permits (f : Nat) (closing : Option (Nat × Nat)) :
    (s.windowGap f closing).permits = s.permits := by
  unfold windowGap
  dsimp only
  (repeat' split) <;> simp [*]
@[simp] theorem closeWin_permits (id : Nat) (cut : Bool) (sat : Nat) (w : ChanWin) :
    (s.closeWin id cut sat w).permits = s.permits := by simp [closeWin]
@[simp] theorem injWindowClose_permits (f : Nat) (sat : Bool) : (s.injWindowClose f sat).permits = s.permits := by
  unfold injWindowClose
  dsimp only
  (repeat' split) <;> simp [*]
@[simp] theorem showDll_permits : s.showDll.permits = s.permits := by simp [showDll]
@[simp] theorem unlockAll_permits : s.unlockAll.permits = s.permits := by
  simp [unlockAll, -putWord_permits, -wr_permits, -wrB_permits, -wrS_permits, permits_write]
@[simp] theorem dllLock_permits (f : Nat) : (s.dllLock f).permits = s.permits := by simp [dllLock]
@[simp] theorem showLast_permits (f : Nat) : (s.showLast f).permits = s.permits := by
  unfold showLast
  split <;> simp
@[simp] theorem lastLatch_permits (f : Nat) : (s.lastLatch f).permits = s.permits := by
  unfold lastLatch
  dsimp only
  split <;> simp [-putWord_permits, -wr_permits, -wrB_permits, -wrS_permits, permits_write]

/-! ### Geometry and envelopes (chapter 10) -/

@[simp] theorem poseLoad_permits : s.poseLoad.permits = s.permits := by simp [poseLoad]
@[simp] theorem poseMatrixDone_permits : s.poseMatrixDone.permits = s.permits := by
  simp [poseMatrixDone, -putWord_permits, -wr_permits, -wrB_permits, -wrS_permits, permits_write]
@[simp] theorem kappaWrite_permits : s.kappaWrite.permits = s.permits := by simp [kappaWrite]
@[simp] theorem kappaAtBoundary_permits : s.kappaAtBoundary.permits = s.permits := by simp [kappaAtBoundary]
@[simp] theorem envExchange_permits (mask : Nat) : (s.envExchange mask).permits = s.permits := by simp [envExchange]
@[simp] theorem updSector_permits (n : Nat) (f : Sector → Sector) : (s.updSector n f).permits = s.permits := by
  simp [updSector]
@[simp] theorem sectorStart_permits (frame : Nat) : (s.sectorStart frame).permits = s.permits := by simp [sectorStart]
@[simp] theorem sectorAtBoundary_permits (frame : Nat) : (s.sectorAtBoundary frame).permits = s.permits := by
  simp [sectorAtBoundary]
@[simp] theorem sectorClose_permits : s.sectorClose.permits = s.permits := by
  unfold sectorClose
  split <;> simp
@[simp] theorem noteReport_permits (x : Sector) (e : Nat) : (s.noteReport x e).permits = s.permits := by
  simp [noteReport]
@[simp] theorem envelopeReport_permits : s.envelopeReport.permits = s.permits := by
  unfold envelopeReport
  dsimp only
  (repeat' split) <;> simp [*]
@[simp] theorem sectorsDrop_permits : s.sectorsDrop.permits = s.permits := by simp [sectorsDrop]
@[simp] theorem addPoint_permits (n e : Nat) (ws : List Nat) (kappa : Int) (p : Vec) :
    (s.addPoint n e ws kappa p).permits = s.permits := by simp [addPoint]
@[simp] theorem formPoint_permits (vals : EchoVals) (ch range : Nat) (v : Int) (h : Nat) (invalid hard confirmed : Bool)
    (shot : Shot) :
    (s.formPoint vals ch range v h invalid hard confirmed shot).1.permits = s.permits := by
  unfold formPoint
  dsimp only
  (repeat' split) <;> simp [*]

/-! ### Echo formation (chapter 7) -/

@[simp] theorem formRecords_permits (v : EchoVals) (x : Shot) (win : ChanWin) (cs : List Cand) :
    (s.formRecords v x win cs).1.permits = s.permits := by simp [formRecords]
@[simp] theorem suppress_permits (v : EchoVals) (ch : Nat) (hasList : Bool) (acc : State × List Cand) (c : Cand) :
    (suppress v ch hasList acc c).1.permits = acc.1.permits := by fun_cases suppress <;> simp
@[simp] theorem formChannel_permits (v : EchoVals) (x : Shot) (win : ChanWin) :
    (s.formChannel v x win).1.permits = s.permits := by
  unfold formChannel
  split <;> split <;> simp
@[simp] theorem formUnit_permits (id : Nat) : (s.formUnit id).permits = s.permits := by
  unfold formUnit
  split <;> simp
@[simp] theorem formClosed_permits (x : Shot) : (s.formClosed x).permits = s.permits := by simp [formClosed]
@[simp] theorem formAhead_permits (k : Nat) : (s.formAhead k).permits = s.permits := by simp [formAhead]
@[simp] theorem closeShot_permits (cut : Bool) (sat : Nat) (x : Shot) :
    (s.closeShot cut sat x).permits = s.permits := by simp [closeShot]
@[simp] theorem windowClose_permits (e sat : Nat) : (s.windowClose e sat).permits = s.permits := by
  unfold windowClose
  split <;> simp
@[simp] theorem staveShotUnit_permits (e : Nat) : (s.staveShotUnit e).permits = s.permits := by
  unfold staveShotUnit
  dsimp only
  (repeat' split) <;> simp [*]

/-! ### The thermal manager (chapter 15) -/

@[simp] theorem putSensor_permits (n : Nat) (x : SensorSt) : (s.putSensor n x).permits = s.permits := by
  simp [putSensor]
@[simp] theorem putOctTherm_permits (g : Nat) (x : OctTherm) : (s.putOctTherm g x).permits = s.permits := by
  simp [putOctTherm]
@[simp] theorem setInForce_permits (n : Nat) : (s.setInForce n).permits = s.permits := by fun_cases setInForce <;> simp
@[simp] theorem integOct_permits (g : Nat) : (s.integOct g).permits = s.permits := by simp [integOct]
@[simp] theorem refreshOct_permits (g : Nat) : (s.refreshOct g).permits = s.permits := by simp [refreshOct]
@[simp] theorem refreshTemps_permits : s.refreshTemps.permits = s.permits := by simp [refreshTemps]
@[simp] theorem failSensor_permits (n : Nat) : (s.failSensor n).permits = s.permits := by simp [failSensor]
@[simp] theorem readmit_permits (n : Nat) : (s.readmit n).permits = s.permits := by simp [readmit]
@[simp] theorem disagree_permits (n : Nat) : (s.disagree n).permits = s.permits := by fun_cases disagree <;> simp
@[simp] theorem compare_permits (n : Nat) : (s.compare n).permits = s.permits := by simp [compare]
@[simp] theorem sensorResult_permits (n : Nat) (v : Int) (code : Nat) :
    (s.sensorResult n v code).permits = s.permits := by simp [sensorResult]
@[simp] theorem sensorVisit_permits (n code : Nat) (same : Bool) : (s.sensorVisit n code same).permits = s.permits := by
  simp [sensorVisit]
@[simp] theorem setLevel_permits (g l : Nat) : (s.setLevel g l).permits = s.permits := by simp [setLevel]
@[simp] theorem levelStep_permits (g : Nat) : (s.levelStep g).permits = s.permits := by simp [levelStep]
@[simp] theorem warnTest_permits (g : Nat) : (s.warnTest g).permits = s.permits := by simp [warnTest]
@[simp] theorem refreshRate_permits (g : Nat) : (s.refreshRate g).permits = s.permits := by simp [refreshRate]
@[simp] theorem windowOct_permits (g : Nat) : (s.windowOct g).permits = s.permits := by simp [windowOct]
@[simp] theorem thermWindow_permits : s.thermWindow.permits = s.permits := by simp [thermWindow]

/-! ### Emitter firing (chapter 5) -/

@[simp] theorem cutShot_permits (x : Shot) : (s.cutShot x).permits = s.permits := by simp [cutShot]
@[simp] theorem refreshLevel_permits (g : Nat) : (s.refreshLevel g).permits = s.permits := by simp [refreshLevel]
@[simp] theorem levelDac_permits (g : Nat) : (s.levelDac g).permits = s.permits := by simp [levelDac]
@[simp] theorem levelsZero_permits : s.levelsZero.permits = s.permits := by
  simp [levelsZero, -putWord_permits, -wr_permits, -wrB_permits, -wrS_permits, permits_write]
@[simp] theorem refreshDelay_permits (e : Nat) : (s.refreshDelay e).permits = s.permits := by simp [refreshDelay]
@[simp] theorem refreshCompensation_permits : s.refreshCompensation.permits = s.permits := by simp [refreshCompensation]
@[simp] theorem refreshProof_permits : s.refreshProof.permits = s.permits := by
  simp [refreshProof, -putWord_permits, -wr_permits, -wrB_permits, -wrS_permits, permits_write]
@[simp] theorem noteOff_permits (e : Nat) : (s.noteOff e).permits = s.permits := by simp [noteOff]
@[simp] theorem preShort_permits (e : Nat) : (s.preShort e).permits = s.permits := by simp [preShort]
@[simp] theorem emClear_permits (e : Nat) : (s.emClear e).permits = s.permits := by simp [emClear]
@[simp] theorem eyeSuppress_permits (em : Nat) : (s.eyeSuppress em).permits = s.permits := by simp [eyeSuppress]
@[simp] theorem charge_permits (em e : Nat) : (s.charge em e).permits = s.permits := by simp [charge]
@[simp] theorem eyeWindowEnd_permits : s.eyeWindowEnd.permits = s.permits := by simp [eyeWindowEnd]
@[simp] theorem openWin_permits (id : Nat) (acc : State × List ChanWin) (ch : Nat) :
    (openWin id acc ch).1.permits = acc.1.permits := by
  simp only [openWin]
  split <;> simp
@[simp] theorem putShot_permits (x : Shot) : (s.putShot x).permits = s.permits := by simp [putShot]
@[simp] theorem claimAt_permits (q : QueuedShot) : (s.claimAt q).permits = s.permits := by simp [claimAt]
@[simp] theorem notFired_permits (q : QueuedShot) (outcome : Nat) : (s.notFired q outcome).permits = s.permits := by
  simp [notFired]
@[simp] theorem enqueue_permits (q : QueuedShot) : (s.enqueue q).permits = s.permits := by simp [enqueue]
@[simp] theorem replan_permits (dom : Nat) : (s.replan dom).permits = s.permits := by simp [replan]
@[simp] theorem turnAway_permits (q : QueuedShot) (outcome : Nat) : (s.turnAway q outcome).permits = s.permits := by
  simp [turnAway]
@[simp] theorem noteEdge_permits (e c : Nat) : (s.noteEdge e c).permits = s.permits := by simp [noteEdge]
@[simp] theorem fired_permits (q : QueuedShot) : (s.fired q).permits = s.permits := by simp [fired]
@[simp] theorem launch_permits (q : QueuedShot) : (s.launch q).permits = s.permits := by fun_cases launch <;> simp
@[simp] theorem noteNominal_permits (t : Nat) : (s.noteNominal t).permits = s.permits := by simp [noteNominal]
@[simp] theorem launchLoop_permits (t k : Nat) : (s.launchLoop t k).permits = s.permits := by
  induction k generalizing s with
  | zero => rfl
  | succ n ih =>
    unfold launchLoop
    split
    · rfl
    · simp [ih]
@[simp] theorem launchDue_permits (t : Nat) : (s.launchDue t).permits = s.permits := by simp [launchDue]
@[simp] theorem arrive_permits (t : Nat) : (s.arrive t).permits = s.permits := by simp [arrive]
@[simp] theorem arriveFirst_permits (t : Nat) : (s.arriveFirst t).permits = s.permits := by simp [arriveFirst]
@[simp] theorem decideSlot_permits (j : SlotJob) (wMax : Nat) (late pre : Bool) :
    (s.decideSlot j wMax late pre).permits = s.permits := by simp [decideSlot]
@[simp] theorem badResult_permits (e kind : Nat) : (s.badResult e kind).permits = s.permits := by simp [badResult]
@[simp] theorem sweepCheck_permits : s.sweepCheck.permits = s.permits := by simp [sweepCheck]
@[simp] theorem csEvaluate_permits (e peak rise : Nat) : (s.csEvaluate e peak rise).permits = s.permits := by
  unfold csEvaluate
  split <;> simp
@[simp] theorem diagOne_permits (e : Nat) : (s.diagOne e).permits = s.permits := by simp [diagOne]
@[simp] theorem diagIntervalEnd_permits : s.diagIntervalEnd.permits = s.permits := by simp [diagIntervalEnd]
@[simp] theorem sweepStart_permits : s.sweepStart.permits = s.permits := by simp [sweepStart]
@[simp] theorem kerfGap_permits (f : Nat) : (s.kerfGap f).permits = s.permits := by simp [kerfGap]
@[simp] theorem kerfStart_permits : s.kerfStart.permits = s.permits := by
  unfold kerfStart
  split <;> simp
@[simp] theorem kerfEnd_permits : s.kerfEnd.permits = s.permits := by
  unfold kerfEnd
  split <;> simp
@[simp] theorem proofShot_permits (pre : Bool) : (s.proofShot pre).permits = s.permits := by
  unfold proofShot
  split <;> simp
@[simp] theorem swapExchange_permits : s.swapExchange.permits = s.permits := by simp [swapExchange]

/-! ### Calibration (chapter 16) -/

@[simp] theorem addPend_permits (g kinds : Nat) : (s.addPend g kinds).permits = s.permits := by simp [addPend]
@[simp] theorem refreshWait_permits : s.refreshWait.permits = s.permits := by
  simp [refreshWait, -putWord_permits, -wr_permits, -wrB_permits, -wrS_permits, permits_write]
@[simp] theorem calTest_permits (g : Nat) : (s.calTest g).permits = s.permits := by simp [calTest]
@[simp] theorem pkoTest_permits : s.pkoTest.permits = s.permits := by simp [pkoTest]
@[simp] theorem runBegin_permits (u : Nat) (r : CalRun) : (s.runBegin u r).permits = s.permits := by simp [runBegin]
@[simp] theorem runConversion_permits (g : Nat) : (s.runConversion g).permits = s.permits := by
  fun_cases runConversion <;> simp
@[simp] theorem runRelease_permits (u : Nat) : (s.runRelease u).permits = s.permits := by
  unfold runRelease
  split <;> simp
@[simp] theorem runStart_permits (g : Nat) : (s.runStart g).permits = s.permits := by
  simp only [runStart]
  split <;> simp
@[simp] theorem stepEnd_permits (g : Nat) : (s.stepEnd g).permits = s.permits := by
  unfold stepEnd
  dsimp only
  (repeat' split) <;> simp [*]
@[simp] theorem calReject_permits (order kind unit : Nat) : (s.calReject order kind unit).permits = s.permits := by
  simp [calReject]
@[simp] theorem putSkews_permits (f : Nat) (sk : List Int) : (s.putSkews f sk).permits = s.permits := by simp [putSkews]
@[simp] theorem putWidths_permits (f : Nat) (ws : List Nat) (src : Nat) :
    (s.putWidths f ws src).permits = s.permits := by simp [putWidths]
@[simp] theorem putWalk_permits (f : Nat) (w k : List Int) : (s.putWalk f w k).permits = s.permits := by
  simp [putWalk, -putWord_permits, -wr_permits, -wrB_permits, -wrS_permits, permits_write]
@[simp] theorem calTake_permits (f : Nat) (r : CalRun) (v : CalFirst) : (s.calTake f r v).permits = s.permits := by
  unfold calTake
  split <;> simp
@[simp] theorem stepJudged_permits (r : CalRun) (f kind fails : Nat) (v : CalFirst) :
    (s.stepJudged r f kind fails v).permits = s.permits := by
  unfold stepJudged
  split <;> simp
@[simp] theorem tdcStepDone_permits (g : Nat) (x : CdResult) : (s.tdcStepDone g x).permits = s.permits := by
  unfold tdcStepDone
  split <;> simp
@[simp] theorem injStepDone_permits (g f : Nat) : (s.injStepDone g f).permits = s.permits := by
  fun_cases injStepDone <;> simp
@[simp] theorem timingStepDone_permits (g f : Nat) : (s.timingStepDone g f).permits = s.permits := by
  fun_cases timingStepDone <;> simp
@[simp] theorem takeoverBack_permits (g : Nat) : (s.takeoverBack g).permits = s.permits := by simp [takeoverBack]
@[simp] theorem runAbandon_permits (cause u : Nat) : (s.runAbandon cause u).permits = s.permits := by
  unfold runAbandon
  split <;> simp
@[simp] theorem pkoAbandon_permits (cause : Nat) : (s.pkoAbandon cause).permits = s.permits := by simp [pkoAbandon]
@[simp] theorem calAbandon_permits (cause : Nat) : (s.calAbandon cause).permits = s.permits := by simp [calAbandon]
@[simp] theorem calQuality_permits : s.calQuality.permits = s.permits := by simp [calQuality]
@[simp] theorem pkoChain_permits : s.pkoChain.permits = s.permits := by simp [pkoChain]
@[simp] theorem pkoDone_permits (second : Bool) : (s.pkoDone second).permits = s.permits := by
  unfold pkoDone
  dsimp only
  (repeat' split) <;> simp [*]
@[simp] theorem starterTdc_permits (f : Nat) : (s.starterTdc f).permits = s.permits := by simp [starterTdc]
@[simp] theorem starterTiming_permits (f : Nat) : (s.starterTiming f).permits = s.permits := by simp [starterTiming]
@[simp] theorem starterInj_permits (g : Nat) : (s.starterInj g).permits = s.permits := by simp [starterInj]
@[simp] theorem starterPko_permits : s.starterPko.permits = s.permits := by simp [starterPko]
@[simp] theorem starterOct_permits (kinds : Nat) (acc : State × List JItem) (g : Nat) :
    (starterOct kinds acc g).1.permits = acc.1.permits := by simp [starterOct]
@[simp] theorem calStarter_permits (gs : List Nat) (kinds : Nat) : (s.calStarter gs kinds).permits = s.permits := by
  simp [calStarter, -wr_permits, -wrB_permits, -wrS_permits, permits_write]

/-! ### Cameras (chapter 11) -/

@[simp] theorem putCam_permits (p : Nat) (x : CamPort) : (s.putCam p x).permits = s.permits := by simp [putCam]
@[simp] theorem updCam_permits (p : Nat) (f : CamPort → CamPort) : (s.updCam p f).permits = s.permits := by
  simp [updCam]
@[simp] theorem updLastFrame_permits (p : Nat) (f : CamFrame → CamFrame) :
    (s.updLastFrame p f).permits = s.permits := by simp [updLastFrame]
@[simp] theorem camNext_permits (p : Nat) : (s.camNext p).permits = s.permits := by simp [camNext]
@[simp] theorem camStart_permits : s.camStart.permits = s.permits := by simp [camStart]
@[simp] theorem deliverLine_permits (p o : Nat) : (s.deliverLine p o).permits = s.permits := by
  unfold deliverLine
  dsimp only
  (repeat' split) <;> simp [*]
@[simp] theorem finishFrame_permits (p : Nat) : (s.finishFrame p).permits = s.permits := by
  unfold finishFrame
  dsimp only
  (repeat' split) <;> simp [*]
@[simp] theorem flushFrame_permits (p : Nat) : (s.flushFrame p).permits = s.permits := by
  unfold flushFrame
  split <;> simp
@[simp] theorem flushFrames_permits (p : Nat) : (s.flushFrames p).permits = s.permits := by simp [flushFrames]
@[simp] theorem camConsume_permits (p n : Nat) : (s.camConsume p n).permits = s.permits := by
  simp only [camConsume]
  split <;> simp
@[simp] theorem refreshLoad_permits : s.refreshLoad.permits = s.permits := by simp [refreshLoad]
@[simp] theorem pipelineTurn_permits : s.pipelineTurn.permits = s.permits := by
  unfold pipelineTurn
  split <;> simp
@[simp] theorem closeFrame_permits (p : Nat) (cut : Bool) : (s.closeFrame p cut).permits = s.permits := by
  unfold closeFrame
  split <;> simp
@[simp] theorem closeMissing_permits (p : Nat) : (s.closeMissing p).permits = s.permits := by simp [closeMissing]
@[simp] theorem csiFrameStart_permits (p fn vc : Nat) : (s.csiFrameStart p fn vc).permits = s.permits := by
  simp [csiFrameStart, -wr_permits, -wrB_permits, -wrS_permits, permits_write]
@[simp] theorem csiLine_permits (p vc dt : Nat) (pixels : List Nat) (crcOk : Bool) (used : Nat) :
    (s.csiLine p vc dt pixels crcOk used).permits = s.permits := by
  unfold csiLine
  extract_lets r x ctx n w fl
  have turned : r.permits = s.permits := by
    unfold r
    split <;> simp
  clear_value fl w n ctx x r
  cases camOpen x <;> simp [turned]
@[simp] theorem csiFrameEnd_permits (p vc : Nat) : (s.csiFrameEnd p vc).permits = s.permits := by simp [csiFrameEnd]
@[simp] theorem csiIgnored_permits (p : Nat) : (s.csiIgnored p).permits = s.permits := by simp [csiIgnored]
@[simp] theorem sotError_permits (p : Nat) : (s.sotError p).permits = s.permits := by simp [sotError]
@[simp] theorem hdrEcc_permits (p : Nat) : (s.hdrEcc p).permits = s.permits := by simp [hdrEcc]
@[simp] theorem feTimeout_permits (p : Nat) : (s.feTimeout p).permits = s.permits := by simp [feTimeout]
@[simp] theorem camEnable_permits (p : Nat) : (s.camEnable p).permits = s.permits := by simp [camEnable]
@[simp] theorem camClose_permits (p : Nat) : (s.camClose p).permits = s.permits := by simp [camClose]
@[simp] theorem camCloseAll_permits : s.camCloseAll.permits = s.permits := by simp [camCloseAll]
@[simp] theorem cciIssue_permits (p : Nat) : (s.cciIssue p).permits = s.permits := by simp [cciIssue]
@[simp] theorem cciStart_permits (p : Nat) : (s.cciStart p).permits = s.permits := by
  simp [cciStart, -wr_permits, -wrB_permits, -wrS_permits, permits_write]
@[simp] theorem cciComplete_permits (p : Nat) (nacked : Bool) : (s.cciComplete p nacked).permits = s.permits := by
  simp [cciComplete]
@[simp] theorem cciWriteDone_permits (p : Nat) (ack : Bool) : (s.cciWriteDone p ack).permits = s.permits := by
  simp [cciWriteDone]

/-! ### Network lanes (chapter 12) -/

@[simp] theorem setLink_permits (l : Nat) (up : Bool) : (s.setLink l up).permits = s.permits := by simp [setLink]
@[simp] theorem pcsLock_permits (l : Nat) (pcs : Bool) : (s.pcsLock l pcs).permits = s.permits := by simp [pcsLock]
@[simp] theorem laneChange_permits (l : Nat) (pcs anDone half : Bool) (speed : Nat) :
    (s.laneChange l pcs anDone half speed).permits = s.permits := by simp [laneChange]
@[simp] theorem laneDown_permits (l : Nat) : (s.laneDown l).permits = s.permits := by simp [laneDown]
@[simp] theorem lanesFollow_permits : s.lanesFollow.permits = s.permits := by simp [lanesFollow]
@[simp] theorem eqLock_permits (l : Nat) : (s.eqLock l).permits = s.permits := by simp [eqLock]
@[simp] theorem rxFrame_permits (l bytes : Nat) : (s.rxFrame l bytes).permits = s.permits := by simp [rxFrame]
@[simp] theorem rxPause_permits (l bytes : Nat) : (s.rxPause l bytes).permits = s.permits := by simp [rxPause]
@[simp] theorem rxDiscard_permits (l bytes : Nat) : (s.rxDiscard l bytes).permits = s.permits := by simp [rxDiscard]
@[simp] theorem sendControl_permits (l : Nat) (c : CtrlFrame) : (s.sendControl l c).permits = s.permits := by
  simp [sendControl]
@[simp] theorem arpRequest_permits (l target mac ip : Nat) : (s.arpRequest l target mac ip).permits = s.permits := by
  simp [arpRequest]
@[simp] theorem neighbourSolicit_permits (l target mac ip : Nat) :
    (s.neighbourSolicit l target mac ip).permits = s.permits := by simp [neighbourSolicit]
@[simp] theorem icmpEcho_permits (l : Nat) (v6 : Bool) (dst mac ip bytes : Nat) :
    (s.icmpEcho l v6 dst mac ip bytes).permits = s.permits := by simp [icmpEcho]
@[simp] theorem flushTimeout_permits (n : Nat) : (s.flushTimeout n).permits = s.permits := by simp [flushTimeout]
@[simp] theorem echoRelease_permits (n k : Nat) : (s.echoRelease n k).permits = s.permits := by simp [echoRelease]
@[simp] theorem budgetWrite_permits (copy : Nat) : (s.budgetWrite copy).permits = s.permits := by
  simp [budgetWrite, -putWord_permits, -wr_permits, -wrB_permits, -wrS_permits, permits_write]
@[simp] theorem budgetCheck_permits (copy : Nat) : (s.budgetCheck copy).1.permits = s.permits := by
  unfold budgetCheck
  dsimp only
  (repeat' split) <;> simp [-wr_permits, -wrB_permits, -wrS_permits, permits_write, -tick_permits]

/-! ### Modes (chapter 19) -/

@[simp] theorem recipeGone_permits : s.recipeGone.permits = s.permits := by simp [recipeGone]
@[simp] theorem recipeFail_permits (status : Nat) : (s.recipeFail status).permits = s.permits := by
  unfold recipeFail
  split <;> simp
@[simp] theorem closeNow_permits (x : Shot) : (s.closeNow x).permits = s.permits := by simp [closeNow]
@[simp] theorem dropQueued_permits (q : QueuedShot) : (s.dropQueued q).permits = s.permits := by simp [dropQueued]
@[simp] theorem framesStop_permits : s.framesStop.permits = s.permits := by simp [framesStop]
@[simp] theorem scheduleStop_permits : s.scheduleStop.permits = s.permits := by simp [scheduleStop]
@[simp] theorem flushIdle_permits : s.flushIdle.permits = s.permits := by simp [flushIdle]
@[simp] theorem cmdVdd_permits (mv : Nat) : (s.cmdVdd mv).permits = s.permits := by simp [cmdVdd]
@[simp] theorem injEndAll_permits : s.injEndAll.permits = s.permits := by simp [injEndAll]
@[simp] theorem powerFollow_permits : s.powerFollow.permits = s.permits := by simp [powerFollow]
@[simp] theorem hkStop_permits : s.hkStop.permits = s.permits := by simp [hkStop]
@[simp] theorem parkEntry_permits : s.parkEntry.permits = s.permits := by simp [parkEntry]
@[simp] theorem selftestEntry_permits : s.selftestEntry.permits = s.permits := by simp [selftestEntry]
@[simp] theorem entryRecipes_permits (m : Nat) : (s.entryRecipes m).permits = s.permits := by simp [entryRecipes]
@[simp] theorem unitFormed_permits (e : Nat) : (s.unitFormed e).permits = s.permits := by simp [unitFormed]

/-! ### The timebase (chapter 2) -/

@[simp] theorem refreshQuality_permits : s.refreshQuality.permits = s.permits := by simp [refreshQuality]
@[simp] theorem freqFollow_permits : s.freqFollow.permits = s.permits := by simp [freqFollow]
@[simp] theorem refreshXtal_permits : s.refreshXtal.permits = s.permits := by simp [refreshXtal]
@[simp] theorem xtalMeasure_permits (ppb : Int) : (s.xtalMeasure ppb).permits = s.permits := by simp [xtalMeasure]
@[simp] theorem xtalJournal_permits : s.xtalJournal.permits = s.permits := by simp [xtalJournal]
@[simp] theorem pllSwitch_permits (src : PllSource) : (s.pllSwitch src).permits = s.permits := by simp [pllSwitch]
@[simp] theorem firstSwitch_permits : s.firstSwitch.permits = s.permits := by simp [firstSwitch]
@[simp] theorem refValid_permits : s.refValid.permits = s.permits := by
  unfold refValid
  dsimp only
  (repeat' split) <;> simp [*]
@[simp] theorem refWarm_permits (level : Bool) : (s.refWarm level).permits = s.permits := by simp [refWarm]
@[simp] theorem pllLock_permits : s.pllLock.permits = s.permits := by simp [pllLock]
@[simp] theorem refReturn_permits : s.refReturn.permits = s.permits := by simp [refReturn]
@[simp] theorem xtalReturn_permits : s.xtalReturn.permits = s.permits := by simp [xtalReturn]
@[simp] theorem stepGo_permits : s.stepGo.permits = s.permits := by simp [stepGo]
@[simp] theorem stepApply_permits : s.stepApply.permits = s.permits := by
  unfold stepApply
  split <;> simp
@[simp] theorem stepNow_permits : s.stepNow.permits = s.permits := by simp [stepNow]
@[simp] theorem timeLatch_permits : s.timeLatch.permits = s.permits := by simp [timeLatch]
@[simp] theorem setSync_permits (v : Nat) : (s.setSync v).permits = s.permits := by simp [setSync]
@[simp] theorem syncSource_permits : s.syncSource.permits = s.permits := by simp [syncSource]
@[simp] theorem syncLost_permits : s.syncLost.permits = s.permits := by simp [syncLost]
@[simp] theorem syncExpire_permits : s.syncExpire.permits = s.permits := by simp [syncExpire]
@[simp] theorem offsetIn_permits (need : Nat) (o : Int) : (s.offsetIn need o).permits = s.permits := by simp [offsetIn]
@[simp] theorem ptpSend_permits (l : Nat) (m : PtpSent) : (s.ptpSend l m).permits = s.permits := by simp [ptpSend]
@[simp] theorem ptpAsk_permits (l : Nat) : (s.ptpAsk l).permits = s.permits := by simp [ptpAsk]
@[simp] theorem delayDone_permits (both : Int) : (s.delayDone both).permits = s.permits := by simp [delayDone]
@[simp] theorem syncComplete_permits (l : Nat) (diff : Int) : (s.syncComplete l diff).permits = s.permits := by
  simp [syncComplete]
theorem ptpReceive_permits {f : State → State} (h : ∀ s, (f s).permits = s.permits) (fits : Bool) (l : Nat)
    (m : PtpMsg) :
    (s.ptpReceive fits l m f).permits = s.permits := by simp [ptpReceive, h]
@[simp] theorem ptpSync_permits (l : Nat) (m : PtpMsg) : (s.ptpSync l m).permits = s.permits := by
  refine ptpReceive_permits s (fun s => ?_) _ _ _
  simp
@[simp] theorem ptpFollowUp_permits (l : Nat) (m : PtpMsg) : (s.ptpFollowUp l m).permits = s.permits := by
  refine ptpReceive_permits s (fun s => ?_) _ _ _
  split
  · split <;> simp
  · rfl
@[simp] theorem ptpDelayResp_permits (l : Nat) (m : PtpMsg) : (s.ptpDelayResp l m).permits = s.permits := by
  refine ptpReceive_permits s (fun s => ?_) _ _ _
  split <;> simp
@[simp] theorem ptpPdelayReq_permits (l : Nat) (m : PtpMsg) : (s.ptpPdelayReq l m).permits = s.permits := by
  refine ptpReceive_permits s (fun s => ?_) _ _ _
  simp
@[simp] theorem ptpPdelayResp_permits (l : Nat) (m : PtpMsg) : (s.ptpPdelayResp l m).permits = s.permits := by
  refine ptpReceive_permits s (fun s => ?_) _ _ _
  split <;> simp
@[simp] theorem ptpAnnounce_permits (l : Nat) (m : PtpMsg) : (s.ptpAnnounce l m).permits = s.permits := by
  refine ptpReceive_permits s (fun s => ?_) _ _ _
  simp
@[simp] theorem announceTimeout_permits : s.announceTimeout.permits = s.permits := by simp [announceTimeout]
@[simp] theorem ppsMiss_permits : s.ppsMiss.permits = s.permits := by simp [ppsMiss]
@[simp] theorem ppsAccept_permits (o : Int) : (s.ppsAccept o).permits = s.permits := by simp [ppsAccept]
@[simp] theorem ppsEdge_permits (rising : Bool) (eighth : Nat) : (s.ppsEdge rising eighth).permits = s.permits := by
  fun_cases ppsEdge <;> simp
@[simp] theorem ppsMissing_permits : s.ppsMissing.permits = s.permits := by simp [ppsMissing]
@[simp] theorem tuneWrite_permits : s.tuneWrite.permits = s.permits := by simp [tuneWrite]
@[simp] theorem tuneStep_permits : s.tuneStep.permits = s.permits := by simp [tuneStep]

/-! ### The frame boundary (R481) -/

@[simp] theorem refreshRequired_permits : s.refreshRequired.permits = s.permits := by simp [refreshRequired]
@[simp] theorem commitRate_permits : s.commitRate.permits = s.permits := by simp [commitRate]
@[simp] theorem followRate_permits : s.followRate.permits = s.permits := by simp [followRate]
@[simp] theorem showShed_permits : s.showShed.permits = s.permits := by simp [showShed]
@[simp] theorem restoreHold_permits : s.restoreHold.permits = s.permits := by
  unfold restoreHold
  split <;> simp
@[simp] theorem restoreLapse_permits : s.restoreLapse.permits = s.permits := by simp [restoreLapse]
@[simp] theorem shedAtBoundary_permits (k : Nat) : (s.shedAtBoundary k).permits = s.permits := by
  unfold shedAtBoundary
  dsimp only
  split
  · rfl
  · split <;> split <;> simp
@[simp] theorem throttleEm_permits (k e : Nat) : (s.throttleEm k e).permits = s.permits := by simp [throttleEm]
@[simp] theorem returnEm_permits (k e : Nat) : (s.returnEm k e).permits = s.permits := by simp [returnEm]
@[simp] theorem resumeAtBoundary_permits (k : Nat) : (s.resumeAtBoundary k).permits = s.permits := by
  simp [resumeAtBoundary]
@[simp] theorem swapAtBoundary_permits (k : Nat) : (s.swapAtBoundary k).permits = s.permits := by simp [swapAtBoundary]
@[simp] theorem epochAtBoundary_permits (k : Nat) (swapped : Bool) :
    (s.epochAtBoundary k swapped).permits = s.permits := by simp [epochAtBoundary]
@[simp] theorem memberActions_permits (k : Nat) : (s.memberActions k).permits = s.permits := by simp [memberActions]
@[simp] theorem stampAhead_permits (k : Nat) : (s.stampAhead k).permits = s.permits := by simp [stampAhead]
@[simp] theorem nextMarker_permits : s.nextMarker.permits = s.permits := by
  unfold nextMarker
  split <;> simp
@[simp] theorem frameStart_permits (k : Nat) : (s.frameStart k).permits = s.permits := by simp [frameStart]
@[simp] theorem frameBoundary_permits : s.frameBoundary.permits = s.permits := by simp [frameBoundary]
@[simp] theorem earlyExecute_permits (late pre : Bool) : (s.earlyExecute late pre).permits = s.permits := by
  unfold earlyExecute
  split
  · rfl
  · dsimp only
    split <;> simp
@[simp] theorem slotExecute_permits (late pre : Bool) : (s.slotExecute late pre).permits = s.permits := by
  unfold slotExecute
  split <;> simp
@[simp] theorem armCheck_permits : s.armCheck.permits = s.permits := by simp [armCheck]
@[simp] theorem trigEdge_permits (level : Bool) : (s.trigEdge level).permits = s.permits := by simp [trigEdge]
@[simp] theorem trigExpire_permits : s.trigExpire.permits = s.permits := by simp [trigExpire]

/-! ### The housekeeping converter (chapter 15) -/

@[simp] theorem sensorTemp_permits (n code : Nat) : (s.sensorTemp n code).2.permits = s.permits := by
  fun_cases sensorTemp <;> simp
@[simp] theorem tempRebase_permits (n g : Nat) : (s.tempRebase n g).permits = s.permits := by simp [tempRebase]
@[simp] theorem tempTrigger_permits (g : Nat) (r : Recipe) : (s.tempTrigger g r).permits = s.permits := by
  fun_cases tempTrigger <;> simp
@[simp] theorem hkPhase_permits (p : HkPhase) : (s.hkPhase p).permits = s.permits := by simp [hkPhase]
@[simp] theorem hkVisit_permits : s.hkVisit.permits = s.permits := by
  unfold hkVisit
  split <;> simp
@[simp] theorem hkRound_permits : s.hkRound.permits = s.permits := by simp [hkRound]
@[simp] theorem hkKick_permits : s.hkKick.permits = s.permits := by fun_cases hkKick <;> simp
@[simp] theorem hkNext_permits (wasInj : Bool) : (s.hkNext wasInj).permits = s.permits := by
  unfold hkNext
  split <;> simp
@[simp] theorem hkRoundStart_permits : s.hkRoundStart.permits = s.permits := by fun_cases hkRoundStart <;> simp
@[simp] theorem hkSettleDone_permits : s.hkSettleDone.permits = s.permits := by
  unfold hkSettleDone
  split <;> simp
@[simp] theorem hkStart_permits : s.hkStart.permits = s.permits := by simp [hkStart]

/-! ### The core supply (R21, R22, R466) -/

@[simp] theorem regFault_permits : s.regFault.permits = s.permits := by simp [regFault]
@[simp] theorem floorTest_permits (cannot : Bool) : (s.floorTest cannot).permits = s.permits := by simp [floorTest]
@[simp] theorem stepVdd_permits (counter mv : Nat) : (s.stepVdd counter mv).permits = s.permits := by simp [stepVdd]
@[simp] theorem avsStep_permits : s.avsStep.permits = s.permits := by simp [avsStep]
@[simp] theorem avsHold_permits : s.avsHold.permits = s.permits := by simp [avsHold]
@[simp] theorem periodBegins_permits (step : Nat) : (s.periodBegins step).permits = s.permits := by simp [periodBegins]
@[simp] theorem avsLoopPeriod_permits (measured : Nat) : (s.avsLoopPeriod measured).permits = s.permits := by
  simp [avsLoopPeriod]
@[simp] theorem pmbusCommandDone_permits (ack : Bool) : (s.pmbusCommandDone ack).permits = s.permits := by
  unfold pmbusCommandDone
  split <;> simp
@[simp] theorem pmbusStatus_permits (status : Nat) : (s.pmbusStatus status).permits = s.permits := by simp [pmbusStatus]
@[simp] theorem pmbAlert_permits (status : Nat) : (s.pmbAlert status).permits = s.permits := by simp [pmbAlert]
@[simp] theorem pmbAlertTimeout_permits : s.pmbAlertTimeout.permits = s.permits := by simp [pmbAlertTimeout]
@[simp] theorem loopWrite_permits : s.loopWrite.permits = s.permits := by simp [loopWrite]

/-! ### The schedule (chapter 5) -/

@[simp] theorem swapDo_permits : s.swapDo.permits = s.permits := by simp [swapDo]

/-! ### The Doley protocol (chapter 13) -/

@[simp] theorem commandBegins_permits : s.commandBegins.permits = s.permits := by simp [commandBegins]
@[simp] theorem commandEnds_permits : s.commandEnds.permits = s.permits := by simp [commandEnds]
@[simp] theorem fitReply_permits (src : Source) (r : Reply) : (s.fitReply src r).2.permits = s.permits := by
  fun_cases fitReply <;> simp
@[simp] theorem cordSend_permits (m : CordMsg) : (s.cordSend m).permits = s.permits := by simp [cordSend]
@[simp] theorem ownAnswer_permits (a : CordAnswer) : (s.ownAnswer a).permits = s.permits := by
  unfold ownAnswer
  split <;> simp
@[simp] theorem stepEnded_permits (status : Nat) : (s.stepEnded status).permits = s.permits := by
  unfold stepEnded
  split <;> simp
@[simp] theorem holdReset_permits (r : Reply) : (s.holdReset r).permits = s.permits := by simp [holdReset]
@[simp] theorem uartSend_permits (r : Reply) : (s.uartSend r).permits = s.permits := by simp [uartSend]
@[simp] theorem deliver_permits (src : Source) (r : Reply) : (s.deliver src r).permits = s.permits := by
  unfold deliver
  split <;> simp
@[simp] theorem keep_permits (core : Nat) (k : KeptReply) : (s.keep core k).permits = s.permits := by simp [keep]
@[simp] theorem sendReply_permits (src : Source) (r : Reply) : (s.sendReply src r).permits = s.permits := by
  simp [sendReply]
@[simp] theorem logRefusal_permits (q : Req) (opcode status address : Nat) :
    (s.logRefusal q opcode status address).permits = s.permits := by simp [logRefusal]
@[simp] theorem finish_permits (q : Req) (opcode : Nat) (r : OpResult) :
    (s.finish q opcode r).permits = r.state.permits := by simp [finish]
@[simp] theorem settleOne_permits (a : Nat × Source × Reply) : (s.settleOne a).permits = s.permits := by
  simp [settleOne]
@[simp] theorem settle_permits : s.settle.permits = s.permits := by simp [settle]
@[simp] theorem countBytes_permits (src : Source) (n : Nat) : (s.countBytes src n).permits = s.permits := by
  unfold countBytes
  split <;> simp
@[simp] theorem countPacket_permits (q : Req) : (s.countPacket q).permits = s.permits := by simp [countPacket]
@[simp] theorem putQueue_permits (core : Nat) (l : List QueuedReq) : (s.putQueue core l).permits = s.permits := by
  simp [putQueue]

/-! ### The tally (chapter 18) -/

@[simp] theorem snapshot_permits : s.snapshot.permits = s.permits := by simp [snapshot]
@[simp] theorem dumpDue_permits : s.dumpDue.permits = s.permits := by simp [dumpDue]
@[simp] theorem dumpPeriod_permits : s.dumpPeriod.permits = s.permits := by simp [dumpPeriod]
@[simp] theorem dumpDone_permits : s.dumpDone.permits = s.permits := by
  unfold dumpDone
  split <;> simp
@[simp] theorem bwPort_permits (p : Nat) : (s.bwPort p).permits = s.permits := by simp [bwPort]
@[simp] theorem bwWindow_permits : s.bwWindow.permits = s.permits := by simp [bwWindow]
@[simp] theorem sampleTick_permits : s.sampleTick.permits = s.permits := by simp [sampleTick]
@[simp] theorem opTallySnapshot_permits (q : Req) : (s.opTallySnapshot q).state.permits = s.permits := by
  simp [opTallySnapshot]
@[simp] theorem opTallyRead_permits (q : Req) : (s.opTallyRead q).state.permits = s.permits := by
  fun_cases opTallyRead <;> simp
@[simp] theorem opTallyDump_permits (q : Req) : (s.opTallyDump q).state.permits = s.permits := by simp [opTallyDump]

/-! ### Host accesses to registers -/

@[simp] theorem takeBudget_permits (v : State) : (s.takeBudget v).permits = s.permits := by
  simp [takeBudget, -putWord_permits, -wr_permits, -wrB_permits, -wrS_permits, permits_write]
@[simp] theorem checkWord_permits (p : State) (acc : State × Option (Nat × Nat)) (aw : Nat × Nat) :
    (checkWord p acc aw).1.permits = acc.1.permits := by
  unfold checkWord
  split
  case h_1 => rfl
  case h_2 s =>
    split
    case h_1 => rfl
    case h_2 =>
      split
      case h_1 => rfl
      case h_2 =>
        split
        case h_1 => rfl
        case h_2 => split <;> simp
@[simp] theorem checkWords_permits (ws : List (Nat × Nat)) : (s.checkWords ws).1.permits = s.permits := by
  have folded := permits_foldl_fst (checkWord_permits (s.viewAfter ws)) ws (s, none)
  unfold checkWords
  split
  · rfl
  · split
    · rfl
    · split
      case h_1 heq => rwa [heq] at folded
      case h_2 heq =>
        rw [heq] at folded
        split <;> simpa using folded
@[simp] theorem actTime_permits (a old w : Nat) : (s.actTime a old w).permits = s.permits := by simp [actTime]
@[simp] theorem actTdc_permits (a old w : Nat) : (s.actTdc a old w).permits = s.permits := by simp [actTdc]
@[simp] theorem actRxOct_permits (a old w : Nat) : (s.actRxOct a old w).permits = s.permits := by simp [actRxOct]
@[simp] theorem actRxFe_permits (a old : Nat) : (s.actRxFe a old).permits = s.permits := by simp [actRxFe]
@[simp] theorem actFire_permits (a old w : Nat) : (s.actFire a old w).permits = s.permits := by simp [actFire]
@[simp] theorem actAngle_permits (a w : Nat) : (s.actAngle a w).permits = s.permits := by simp [actAngle]
@[simp] theorem parkNow_permits (ax : Axis) : (s.parkNow ax).permits = s.permits := by simp [parkNow]
@[simp] theorem unparkNow_permits (ax : Axis) : (s.unparkNow ax).permits = s.permits := by simp [unparkNow]
@[simp] theorem swapBanks_permits (ax : Axis) : (s.swapBanks ax).permits = s.permits := by simp [swapBanks]
@[simp] theorem actAxis_permits (ax : Axis) (w : Nat) : (s.actAxis ax w).permits = s.permits := by simp [actAxis]
@[simp] theorem actServo_permits (a w : Nat) : (s.actServo a w).permits = s.permits := by simp [actServo]
@[simp] theorem applyEnv_permits (mask : Nat) : (s.applyEnv mask).permits = s.permits := by simp [applyEnv]
@[simp] theorem poseLoadWrite_permits : s.poseLoadWrite.permits = s.permits := by simp [poseLoadWrite]
@[simp] theorem actGeom_permits (a w : Nat) : (s.actGeom a w).permits = s.permits := by simp [actGeom]
@[simp] theorem actCam_permits (a old w : Nat) : (s.actCam a old w).permits = s.permits := by simp [actCam]
@[simp] theorem recipeEnabledNow_permits (n : Nat) : (s.recipeEnabledNow n).permits = s.permits := by
  unfold recipeEnabledNow
  split <;> simp
@[simp] theorem runChange_permits (before : State) : (s.runChange before).permits = s.permits := by simp [runChange]
@[simp] theorem beforeRead_permits (a : Nat) : (s.beforeRead a).permits = s.permits := by simp [beforeRead]
@[simp] theorem hostRead_permits (a : Nat) : (s.hostRead a).1.permits = s.permits := by
  unfold hostRead
  split <;> simp
@[simp] theorem hostReads_permits (ws : List Nat) : (s.hostReads ws).1.permits = s.permits := by
  induction ws generalizing s with
  | nil => rfl
  | cons a r ih => exact (ih _).trans (hostRead_permits _ _)

/-! ### The opcodes of registers, units and tables (chapter 13) -/

@[simp] theorem opRegRead_permits (q : Req) : (s.opRegRead q).state.permits = s.permits := by
  unfold opRegRead
  dsimp only
  (repeat' split) <;> simp [*]
@[simp] theorem opUnitRead_permits (q : Req) : (s.opUnitRead q).state.permits = s.permits := by
  unfold opUnitRead
  dsimp only
  (repeat' split) <;> simp [*]
@[simp] theorem checkUnit_permits (p : State) (a stride : Nat) (ws : List Nat)
    (acc : State × Option (Nat × Nat × Nat)) (i : Nat) :
    (checkUnit p a stride ws acc i).1.permits = acc.1.permits := by
  unfold checkUnit
  split
  case h_1 => rfl
  case h_2 s =>
    have folded := permits_foldl_fst (checkWord_permits p) (addrWords (a + stride * i) ws) (s, none)
    split
    case h_1 heq => rwa [heq] at folded
    case h_2 heq => rwa [heq] at folded
@[simp] theorem tabPut_permits (q : Req) (off : Nat) (ws : List Nat) : (s.tabPut q off ws).permits = s.permits := by
  simp [tabPut]
@[simp] theorem noteActive_permits (a : Nat) : (s.noteActive a).permits = s.permits := by simp [noteActive]
@[simp] theorem opTableRead_permits (q : Req) : (s.opTableRead q).state.permits = s.permits := by
  fun_cases opTableRead <;> simp
@[simp] theorem opTableWrite_permits (q : Req) : (s.opTableWrite q).state.permits = s.permits := by
  unfold opTableWrite
  dsimp only
  (repeat' split) <;> simp [*]
@[simp] theorem swapSchedule_permits : s.swapSchedule.state.permits = s.permits := by
  unfold swapSchedule
  split
  · rfl
  · simp
@[simp] theorem swapEnvelopes_permits (mask : Nat) : (s.swapEnvelopes mask).state.permits = s.permits := by
  fun_cases swapEnvelopes <;> simp
@[simp] theorem opTableSwap_permits (q : Req) : (s.opTableSwap q).state.permits = s.permits := by
  fun_cases opTableSwap <;> simp

/-! ### COMMIT (R335, R447) -/

@[simp] theorem commitCheck_permits : s.commitCheck.1.permits = s.permits := by
  unfold commitCheck
  split <;> simp
@[simp] theorem trialDone_permits : s.trialDone.permits = s.permits := by simp [trialDone]
@[simp] theorem trialTimeout_permits : s.trialTimeout.permits = s.permits := by simp [trialTimeout]
@[simp] theorem opCommit_permits (q : Req) : (s.opCommit q).state.permits = s.permits := by
  have checked := commitCheck_permits s
  unfold opCommit
  split
  · rfl
  · split
    case h_1 heq => rwa [heq] at checked
    case h_2 heq =>
      rw [heq] at checked
      simpa using checked

/-! ### Stored recipes (R309, R337 to R339) -/

@[simp] theorem setEnabled_permits (n : Nat) (b : Bool) : (s.setEnabled n b).permits = s.permits := by simp [setEnabled]
@[simp] theorem putRecipe_permits (n : Nat) (r : Option Recipe) : (s.putRecipe n r).permits = s.permits := by
  simp [putRecipe]
@[simp] theorem opRecipeStore_permits (q : Req) : (s.opRecipeStore q).state.permits = s.permits := by
  unfold opRecipeStore
  dsimp only
  (repeat' split) <;> simp [*]
@[simp] theorem opRecipeRead_permits (q : Req) : (s.opRecipeRead q).state.permits = s.permits := by
  unfold opRecipeRead
  split <;> simp
@[simp] theorem opRecipeEnable_permits (q : Req) : (s.opRecipeEnable q).state.permits = s.permits := by
  fun_cases opRecipeEnable <;> simp
@[simp] theorem opRecipeDelete_permits (q : Req) : (s.opRecipeDelete q).state.permits = s.permits := by
  unfold opRecipeDelete
  dsimp only
  (repeat' split) <;> simp [*]
@[simp] theorem opRecipeRun_permits (q : Req) : (s.opRecipeRun q).state.permits = s.permits := by
  unfold opRecipeRun
  split <;> simp

/-! ### Resets and start-up (chapter 19) -/

@[simp] theorem sampleStraps_permits (role : Bool) (id : Nat) : (s.sampleStraps role id).permits = s.permits := by
  simp [sampleStraps]
@[simp] theorem tripRelease_permits : s.tripRelease.permits = s.permits := by simp [tripRelease]
@[simp] theorem wdtRestart_permits (h : Half) : (s.wdtRestart h).permits = s.permits := by
  unfold wdtRestart
  split <;> simp
@[simp] theorem wdtKick_permits (h : Half) : (s.wdtKick h).permits = s.permits := by simp [wdtKick]
@[simp] theorem bootSelect_permits (boot : Option (List Nat)) : (s.bootSelect boot).permits = s.permits := by
  fun_cases bootSelect <;> simp
@[simp] theorem bootSlot_permits (bad0 bad1 : Bool) : (s.bootSlot bad0 bad1).1.permits = s.permits := by
  unfold bootSlot
  dsimp only
  (repeat' split) <;> simp [*]
@[simp] theorem replayReg_permits (p : Nat × Word) : (s.replayReg p).permits = s.permits := by
  fun_cases replayReg <;> simp
@[simp] theorem replayTab_permits (p : Nat × Word) : (s.replayTab p).permits = s.permits := by simp [replayTab]
@[simp] theorem replayItem_permits (p : Nat × List Nat) : (s.replayItem p).permits = s.permits := by
  unfold replayItem
  split <;> simp
@[simp] theorem replayRecipe_permits (p : Nat × List (Nat × List Nat)) : (s.replayRecipe p).permits = s.permits := by
  unfold replayRecipe
  split <;> simp
@[simp] theorem starterFe_permits (m : JMap) (f : Nat) : (s.starterFe m f).permits = s.permits := by simp [starterFe]
@[simp] theorem starterPoly_permits (m : JMap) (r : Nat) : (s.starterPoly m r).permits = s.permits := by
  simp [starterPoly]
@[simp] theorem starterFill_permits (m : JMap) : (s.starterFill m).permits = s.permits := by simp [starterFill]
@[simp] theorem feReplay_permits (f : Nat) : (s.feReplay f).permits = s.permits := by simp [feReplay]
@[simp] theorem octReplay_permits (g : Nat) : (s.octReplay g).permits = s.permits := by simp [octReplay]
@[simp] theorem followReplay_permits : s.followReplay.permits = s.permits := by simp [followReplay]
@[simp] theorem openJournal_permits : s.openJournal.permits = s.permits := by
  unfold openJournal
  split <;> simp
@[simp] theorem replayAll_permits : s.replayAll.permits = s.permits := by simp [replayAll]
@[simp] theorem lifeOpen_permits : s.lifeOpen.permits = s.permits := by simp [lifeOpen]
@[simp] theorem lifeLoad_permits : s.lifeLoad.permits = s.permits := by simp [lifeLoad]
@[simp] theorem slotRecord_permits (slot : Nat) (fell back : Bool) :
    (s.slotRecord slot fell back).permits = s.permits := by simp [slotRecord]
@[simp] theorem romSafe_permits : s.romSafe.permits = s.permits := by simp [romSafe]
@[simp] theorem resetRelease_permits (role : Bool) (id : Nat) (bad0 bad1 : Bool) :
    (s.resetRelease role id bad0 bad1).permits = s.permits := by
  unfold resetRelease
  split
  · rfl
  · extract_lets kind boot powered strapped time clocked opened selected back
    have kept : selected.permits = s.permits := by simp [selected, opened, clocked, strapped, powered]
    have slotted := bootSlot_permits selected bad0 bad1
    clear_value selected
    split
    case h_1 heq =>
      rw [heq] at slotted
      exact (romSafe_permits _).trans (slotted.trans kept)
    case h_2 heq =>
      rw [heq] at slotted
      simpa using slotted.trans kept
@[simp] theorem testResults_permits (fails : List (Nat × Nat)) : (s.testResults fails).permits = s.permits := by
  simp only [testResults]
  split <;> simp
@[simp] theorem stepSeven_permits : s.stepSeven.permits = s.permits := by simp [stepSeven]
@[simp] theorem wake_permits (how : Wake) : (s.wake how).permits = s.permits := by simp [wake]

/-! ### Cords (chapter 14) -/

@[simp] theorem rollCall_permits : s.rollCall.permits = s.permits := by simp [rollCall]
@[simp] theorem rollCallRx_permits (ms : List Nat) : (s.rollCallRx ms).permits = s.permits := by simp [rollCallRx]
@[simp] theorem leaveCord_permits : s.leaveCord.permits = s.permits := by simp [leaveCord]
@[simp] theorem takeSeeds_permits (seeds : List Nat) : (s.takeSeeds seeds).permits = s.permits := by simp [takeSeeds]
@[simp] theorem cordForms_permits (seeds : List Nat) : (s.cordForms seeds).permits = s.permits := by simp [cordForms]
@[simp] theorem rollCallReturn_permits (lead : Nat) (ms : List RollEntry) (seeds : List Nat) :
    (s.rollCallReturn lead ms seeds).permits = s.permits := by simp [rollCallReturn]
@[simp] theorem halfSend_permits (h : Half) : (s.halfSend h).permits = s.permits := by fun_cases halfSend <;> simp
@[simp] theorem halfOk_permits : s.halfOk.permits = s.permits := by simp [halfOk]
@[simp] theorem cordHbSend_permits : s.cordHbSend.permits = s.permits := by simp [cordHbSend]
@[simp] theorem markerSend_permits : s.markerSend.permits = s.permits := by simp [markerSend]
@[simp] theorem putStart_permits (start : Nat) (epoch forced : Bool) :
    (s.putStart start epoch forced).permits = s.permits := by simp [putStart]
@[simp] theorem markerTaken_permits (epoch forced : Bool) : (s.markerTaken epoch forced).permits = s.permits := by
  simp [markerTaken]
@[simp] theorem epochAnnounce_permits (n ev : Nat) : (s.epochAnnounce n ev).permits = s.permits := by
  simp [epochAnnounce]
@[simp] theorem announce_permits (before : State) : (s.announce before).permits = s.permits := by simp [announce]
@[simp] theorem relayDatagram_permits (ws octets : List Nat) : (s.relayDatagram ws octets).permits = s.permits := by
  unfold relayDatagram
  dsimp only
  (repeat' split) <;> simp [*]
@[simp] theorem cordTxEnd_permits : s.cordTxEnd.permits = s.permits := by
  unfold cordTxEnd
  dsimp only
  (repeat' split) <;> simp [*]
@[simp] theorem orderBack_permits : s.orderBack.permits = s.permits := by simp [orderBack]
@[simp] theorem txEnd_permits (p : Nat) : (s.txEnd p).permits = s.permits := by simp [txEnd]
@[simp] theorem relayTimeout_permits (p : Nat) : (s.relayTimeout p).permits = s.permits := by
  unfold relayTimeout
  split <;> simp
@[simp] theorem cordLink_permits (n : Nat) (up : Bool) : (s.cordLink n up).permits = s.permits := by simp [cordLink]

/-! ### The other opcodes (Table 13-5) -/

@[simp] theorem opModeGet_permits (q : Req) : (s.opModeGet q).state.permits = s.permits := by simp [opModeGet]
@[simp] theorem opReset_permits (q : Req) : (s.opReset q).state.permits = s.permits := by
  unfold opReset
  split <;> simp
@[simp] theorem opCalRun_permits (q : Req) : (s.opCalRun q).state.permits = s.permits := by
  unfold opCalRun
  simp
  split <;> simp
@[simp] theorem opCalStatus_permits (q : Req) : (s.opCalStatus q).state.permits = s.permits := by simp [opCalStatus]
@[simp] theorem opCalStarter_permits (q : Req) : (s.opCalStarter q).state.permits = s.permits := by simp [opCalStarter]
@[simp] theorem opImageWrite_permits (q : Req) : (s.opImageWrite q).state.permits = s.permits := by
  unfold opImageWrite
  dsimp only
  (repeat' split) <;> simp [*]
@[simp] theorem opImageActivate_permits (q : Req) : (s.opImageActivate q).state.permits = s.permits := by
  unfold opImageActivate
  dsimp only
  (repeat' split) <;> simp [*]
@[simp] theorem opLifeRead_permits (q : Req) : (s.opLifeRead q).state.permits = s.permits := by
  fun_cases opLifeRead <;> simp
@[simp] theorem opCompact_permits (q : Req) : (s.opCompact q).state.permits = s.permits := by
  unfold opCompact
  split <;> simp
@[simp] theorem opCordStatus_permits (q : Req) : (s.opCordStatus q).state.permits = s.permits := by
  unfold opCordStatus
  split <;> simp
@[simp] theorem opCordReset_permits (q : Req) : (s.opCordReset q).state.permits = s.permits := by
  fun_cases opCordReset <;> simp
@[simp] theorem opSelftestReport_permits (q : Req) : (s.opSelftestReport q).state.permits = s.permits := by
  simp [opSelftestReport]
@[simp] theorem opFaultRead_permits (q : Req) : (s.opFaultRead q).state.permits = s.permits := by simp [opFaultRead]
@[simp] theorem opFaultClear_permits (q : Req) : (s.opFaultClear q).state.permits = s.permits := by
  simp [opFaultClear]
@[simp] theorem opIdent_permits (q : Req) : (s.opIdent q).state.permits = s.permits := by simp [opIdent]
@[simp] theorem opTimeGet_permits (q : Req) : (s.opTimeGet q).state.permits = s.permits := by simp [opTimeGet]
@[simp] theorem opTimeOfDay_permits (q : Req) : (s.opTimeOfDay q).state.permits = s.permits := by
  fun_cases opTimeOfDay <;> simp

/-! ### Requests on their way (chapters 13 and 14) -/

@[simp] theorem recipeStart_permits : s.recipeStart.permits = s.permits := by
  unfold recipeStart
  dsimp only
  (repeat' split) <;> simp [*]
@[simp] theorem putRecipeRun_permits (r : RecipeRun) : (s.putRecipeRun r).permits = s.permits := by simp [putRecipeRun]
@[simp] theorem stepDone_permits (status : Nat) : (s.stepDone status).permits = s.permits := by
  unfold stepDone
  split <;> simp
@[simp] theorem recipeResume_permits : s.recipeResume.permits = s.permits := by fun_cases recipeResume <;> simp
@[simp] theorem recipeAcquire_permits (r : RecipeRun) (p : RecipeStep) : (s.recipeAcquire r p).permits = s.permits := by
  fun_cases recipeAcquire <;> simp
@[simp] theorem recipeRelease_permits (r : RecipeRun) (p : RecipeStep) : (s.recipeRelease r p).permits = s.permits := by
  fun_cases recipeRelease <;> simp
@[simp] theorem recipeWait_permits (r : RecipeRun) (p : RecipeStep) : (s.recipeWait r p).permits = s.permits := by
  fun_cases recipeWait <;> simp
@[simp] theorem countStep_permits (r : RecipeRun) : (s.countStep r).permits = s.permits := by
  unfold countStep
  split <;> simp
@[simp] theorem acquireTimeout_permits : s.acquireTimeout.permits = s.permits := by fun_cases acquireTimeout <;> simp
@[simp] theorem waitExpire_permits : s.waitExpire.permits = s.permits := by fun_cases waitExpire <;> simp
@[simp] theorem putTxn_permits (x : Option CordTxn) : (s.putTxn x).permits = s.permits := by simp [putTxn]
@[simp] theorem answerTo_permits (x : CordTxn) (log : Bool) (status address : Nat) (payload : List Nat) :
    (s.answerTo x log status address payload).permits = s.permits := by
  simp only [answerTo]
  split <;> simp
@[simp] theorem applyResolved_permits (x : CordTxn) : (s.applyResolved x).permits = s.permits := by
  unfold applyResolved
  split <;> simp
@[simp] theorem statusResolved_permits (x : CordTxn) : (s.statusResolved x).permits = s.permits := by
  simp [statusResolved]
@[simp] theorem checkAnswer_permits (sp : OpSpec) (q : Req) : (s.checkAnswer sp q).1.permits = s.permits := by
  simp [checkAnswer]
@[simp] theorem unknownOp_permits (op : Nat) (q : Req) : (s.unknownOp op q).permits = s.permits := by simp [unknownOp]
@[simp] theorem queueFull_permits (op : Nat) (q : Req) : (s.queueFull op q).permits = s.permits := by
  unfold queueFull
  split <;> simp
@[simp] theorem cordForget_permits : s.cordForget.permits = s.permits := by simp [cordForget]
@[simp] theorem echoReply_permits (src : Source) (r : Reply) (address : Nat) :
    (s.echoReply src r address).permits = s.permits := by simp [echoReply]
@[simp] theorem spiRead_permits (command clocked : Nat) : (s.spiRead command clocked).permits = s.permits := by
  unfold spiRead
  dsimp only
  (repeat' split) <;> simp [*]
@[simp] theorem uartError_permits : s.uartError.permits = s.permits := by simp [uartError]

end
end State
end Sys2Proof.Machine
end

section
/-! SUPPORT. Proofs of the emitter firing family: the operations that reach the refresh of FIRE_ALLOW leave it low while
LASER_PERMIT is (R119, R120). -/

namespace Sys2Proof.Machine

/-- R119: FIRE_ALLOW is low while LASER_PERMIT is low. -/
def Permits.Heeded (p : Permits) : Prop := p.allow = true → p.laser = true

@[simp] theorem Permits.heeded_ite (c : Prop) [Decidable c] (p q : Permits) :
    (if c then p else q).Heeded ↔ if c then p.Heeded else q.Heeded := by split <;> rfl

namespace State

/-! ### FIRE_ALLOW and the refresh (R119, R120) -/

theorem permits_time (s : State) (t : TimeSt) : ({ s with time := t } : State).permits = s.permits := rfl
theorem permits_cord (s : State) (c : CordSt) : ({ s with cord := c } : State).permits = s.permits := rfl
theorem permits_boot_cord (s : State) (b : Boot) (c : CordSt) :
    ({ s with
        boot := b
        cord := c } : State).permits = s.permits := rfl

theorem permitHeeded_iff {s : State} : s.permitHeeded = true ↔ s.permits.Heeded := by
  cases hl : s.permits.laser <;> simp [permitHeeded, Permits.Heeded, hl]

theorem allowNow_laser {s : State} (h : s.allowNow = true) : s.permits.laser = true := by
  simp only [allowNow, Bool.and_eq_true, and_assoc] at h
  exact h.1

/-- Every refresh makes FIRE_ALLOW the AND of its conditions, LASER_PERMIT among them. -/
theorem refreshAllow_permits (s : State) : s.refreshAllow.permits = { s.permits with allow := s.allowNow } := by
  simp [refreshAllow_eq]

@[simp] theorem refreshAllow_heeded (s : State) : s.refreshAllow.permits.Heeded := by
  rw [refreshAllow_permits]
  exact allowNow_laser

/-! ### What ends in a refresh -/

@[simp] theorem setPermits_heeded (b : Bool) (s : State) : (s.setPermits b).permits.Heeded := by simp [setPermits]
@[simp] theorem laserLow_heeded (s : State) : s.laserLow.permits.Heeded := by simp [laserLow]
@[simp] theorem laserHigh_heeded (s : State) : s.laserHigh.permits.Heeded := by simp [laserHigh]
@[simp] theorem enterReset_heeded (k : Nat) (s : State) : (s.enterReset k).permits.Heeded := by simp [enterReset]
@[simp] theorem setMode_heeded (m cause : Nat) (s : State) : (s.setMode m cause).permits.Heeded := by simp [setMode]
@[simp] theorem enterQuiet_heeded (m : Nat) (s : State) : (s.enterQuiet m).permits.Heeded := by simp [enterQuiet]
@[simp] theorem firingEntry_heeded (s : State) : s.firingEntry.permits.Heeded := by simp [firingEntry]
@[simp] theorem supplyBad_heeded (s : State) : s.supplyBad.permits.Heeded := by simp [supplyBad]
@[simp] theorem thermalTrip_heeded (s : State) : s.thermalTrip.permits.Heeded := by simp [thermalTrip]
@[simp] theorem resetFall_heeded (r : Bool) (s : State) : (s.resetFall r).permits.Heeded := by simp [resetFall]

/-! ### Modes and the timebase: what leaves a state that heeds LASER_PERMIT such a state (chapters 2 and 19) -/

section
variable {s : State} (h : s.permits.Heeded)
include h
@[simp] theorem permitHold_heeded : s.permitHold.permits.Heeded := by simp [permitHold, h]
@[simp] theorem resetRise_heeded (role : Bool) (id : Nat) : (s.resetRise role id).permits.Heeded := by
  simp [resetRise, h]
@[simp] theorem safeEnter_heeded (n : Nat) : (s.safeEnter n).permits.Heeded := by
  unfold safeEnter
  split
  · exact h
  · split <;> simp [h]
@[simp] theorem startTransition_heeded (m : Nat) : (s.startTransition m).permits.Heeded := by
  unfold startTransition
  split
  · exact safeEnter_heeded h 4
  · extract_lets _ _ _ r1 _ r2 r3
    have kept1 : r1.permits = s.permits :=
      Eq.trans (permits_boot_cord (wr F.DEV_MODE_TARGET m (wr F.DEV_MODE_TRANS 1 s)) _ _) (by simp only [permits_write])
    have kept2 : r2.permits = s.permits := by
      unfold r2
      split
      · exact ((wr_permits _ _ _).trans (permits_cord r1 _)).trans kept1
      · exact kept1
    have kept3 : r3.permits.Heeded := by
      unfold r3
      split
      · rw [rxPowerUp_permits, kept2]
        exact h
      · rw [kept2]
        exact h
    split
    · rw [framesStop_permits]
      exact kept3
    · split
      · exact kept3
      · exact kept3
@[simp] theorem transitionDone_heeded : s.transitionDone.permits.Heeded := by simp [transitionDone, h]
omit h in
@[simp] theorem timebaseLost_heeded : s.timebaseLost.permits.Heeded := by simp [timebaseLost]
@[simp] theorem refAbsent_heeded : s.refAbsent.permits.Heeded := by
  unfold refAbsent
  extract_lets _ _ r
  have kept : r.permits = s.permits :=
    (permits_time (wr F.TIME_STATUS_REF_PRESENT 0 s) _).trans (wr_permits _ _ _)
  clear_value r
  simp [kept, h, -wr_permits, permits_write]
@[simp] theorem refLost_heeded : s.refLost.permits.Heeded := by simp [refLost, h]
@[simp] theorem refWindow_heeded (hz : Nat) : (s.refWindow hz).permits.Heeded := by
  have valid (f : Fld) (v : Nat) : ((s.wr f v).refValid).permits.Heeded := by
    rw [refValid_permits, wr_permits]
    exact h
  have bad (r : State) (kept : r.permits = s.permits) :
      (r.wr F.TIME_STATUS_REF_FREQ_FAULT 1).refAbsent.permits.Heeded :=
    refAbsent_heeded (by rwa [wr_permits, kept])
  fun_cases refWindow
  case case1 =>
    rw [refValid_permits]
    exact h
  case case2 => exact bad _ (wr_permits _ _ _)
  case case3 => exact valid _ _
  case case4 => exact bad s rfl
  case case5 => exact valid _ _
  case case6 => exact bad _ (wr_permits _ _ _)
@[simp] theorem xtalFault_heeded : s.xtalFault.permits.Heeded := by
  unfold xtalFault
  extract_lets _ _ r
  have kept : r.permits = s.permits := wr_permits F.TIME_STATUS_XTAL_FAULT 1 s
  clear_value r
  simp [kept, h]
omit h in
@[simp] theorem shutdown_heeded (g : Nat) : (s.shutdown g).permits.Heeded := by simp [shutdown]

end
end State

namespace State

theorem heeded_foldl {α : Type} {f : State → α → State}
    (hf : ∀ s x, s.permits.Heeded → (f s x).permits.Heeded) (l : List α) {s : State} (h : s.permits.Heeded) :
    (l.foldl f s).permits.Heeded := by
  induction l generalizing s with
  | nil => exact h
  | cons x l ih => exact ih (hf s x h)

section
variable {s : State} (h : s.permits.Heeded)
include h

/-! ### Temperatures and the sensors' conversions (chapters 14 and 15) -/

@[simp] theorem shutOct_heeded (g : Nat) : (shutOct s g).permits.Heeded := by simp [shutOct, h]
@[simp] theorem shutTest_heeded : s.shutTest.permits.Heeded := heeded_foldl (fun _ g hs => shutOct_heeded hs g) _ h
@[simp] theorem tempResult_heeded (n code : Nat) : (s.tempResult n code).permits.Heeded := by simp [tempResult, h]
@[simp] theorem hkResult_heeded (tag code : Nat) : (s.hkResult tag code).permits.Heeded := by
  unfold hkResult
  extract_lets r0 r
  have kept0 : r0.permits = s.permits := by simp [r0]
  have kept : r.permits.Heeded := by simp [r, kept0, h, -wr_permits, permits_write]
  clear_value r
  simp [kept]
@[simp] theorem entryConversion_heeded (code : Nat) : (s.entryConversion code).permits.Heeded := by
  unfold entryConversion
  split
  · simp [h]
  · extract_lets r0 first same left sum todo _ r1 r2 r3
    have kept0 : r0.permits = s.permits := by simp [r0]
    have kept1 : r1.permits.Heeded := by
      rw [show r1.permits = r0.permits from rfl, kept0]
      exact h
    clear_value r1
    have kept2 : r2.permits.Heeded := by simp [r2, kept1]
    clear_value r2
    have kept3 : r3.permits.Heeded := by simp [r3, kept2]
    simp [kept3]
@[simp] theorem hostConversion_heeded (code : Nat) : (s.hostConversion code).permits.Heeded := by
  simp [hostConversion, h, -wr_permits, -wrB_permits, permits_write]
@[simp] theorem runSensorDone_heeded (n code : Nat) : (s.runSensorDone n code).permits.Heeded := by
  simp [runSensorDone, h, -wr_permits, -wrB_permits, permits_write]
@[simp] theorem hkConversionDone_heeded (code : Nat) : (s.hkConversionDone code).permits.Heeded := by
  unfold hkConversionDone
  split <;> simp [h]

/-! ### A host's writes to the registers -/

@[simp] theorem actRest_heeded (a old w : Nat) : (s.actRest a old w).permits.Heeded := by
  simp [actRest, h, -wr_permits, permits_write]
@[simp] theorem regAct_heeded (a old w : Nat) : (s.regAct a old w).permits.Heeded := by
  unfold regAct
  split <;> simp [h]
@[simp] theorem putHost_heeded (aw : Nat × Nat) : (s.putHost aw).permits.Heeded := by
  unfold putHost
  split
  · exact h
  · simp [h]
@[simp] theorem putWords_heeded (ws : List (Nat × Nat)) : (s.putWords ws).permits.Heeded := by
  have written : (ws.foldl putHost s).permits.Heeded := heeded_foldl (fun _ aw hs => putHost_heeded hs aw) ws h
  simp [putWords, written]
@[simp] theorem hostWrite_heeded (ws : List (Nat × Nat)) : (s.hostWrite ws).1.permits.Heeded := by
  have checked := congrArg Permits.Heeded (checkWords_permits s ws)
  unfold hostWrite
  split
  next heq => simpa [heq, h] using checked
  next heq => exact putWords_heeded (by simpa [heq, h] using checked) ws

/-! ### Modes, resets and the members' authority (chapters 12 and 19) -/

@[simp] theorem commandReset_heeded : s.commandReset.permits.Heeded := by simp [commandReset, h]
@[simp] theorem cordResetTaken_heeded : s.cordResetTaken.permits.Heeded := by simp [cordResetTaken, h]
@[simp] theorem watchdogBite_heeded (f : Half) : (s.watchdogBite f).permits.Heeded := by simp [watchdogBite, h]
@[simp] theorem autoMode_heeded : s.autoMode.permits.Heeded := by
  have configured := enterQuiet_heeded Mode.config s
  simp [autoMode, h, configured]
@[simp] theorem selftestDone_heeded (fails : List (Nat × Nat)) : (s.selftestDone fails).permits.Heeded := by
  simp [selftestDone, h]
@[simp] theorem wakeComplete_heeded : s.wakeComplete.permits.Heeded := by
  simp [wakeComplete, h]
omit h in
@[simp] theorem splitAuthority_heeded (cause extra : Nat) (s : State) :
    (s.splitAuthority cause extra).permits.Heeded := by
  simp [splitAuthority, -wr_permits, permits_write]
@[simp] theorem markerMissed_heeded : s.markerMissed.permits.Heeded := by simp [markerMissed, h]
@[simp] theorem syncMiss_heeded : s.syncMiss.permits.Heeded := by simp [syncMiss, h]
@[simp] theorem syncMarker_heeded (width : Nat) : (s.syncMarker width).permits.Heeded := by
  unfold syncMarker
  split
  · split <;> simp [h]
  · exact h
@[simp] theorem cordResetMarker_heeded : s.cordResetMarker.permits.Heeded := by simp [cordResetMarker, h]
@[simp] theorem followerHb_heeded (mac member : Nat) : (s.followerHb mac member).permits.Heeded := by
  simp [followerHb, h]
@[simp] theorem cordHeartbeat_heeded (mac member epoch : Nat) : (s.cordHeartbeat mac member epoch).permits.Heeded := by
  simp [cordHeartbeat, h]
@[simp] theorem cordHbTimeout_heeded : s.cordHbTimeout.permits.Heeded := by simp [cordHbTimeout, h]
@[simp] theorem halfHeartbeat_heeded (f : Half) (claim : Nat) : (s.halfHeartbeat f claim).permits.Heeded := by
  simp [halfHeartbeat, h]
@[simp] theorem halfTimeout_heeded (f : Half) : (s.halfTimeout f).permits.Heeded := by simp [halfTimeout, h]
end
end State

end Sys2Proof.Machine
end

section
/-! SUPPORT. Proofs of the emitter firing family: no request, whatever its way here, raises FIRE_ALLOW without
LASER_PERMIT (chapters 12 and 13). -/

namespace Sys2Proof.Machine

namespace State

/-! ### Requests (chapter 13) -/

theorem opRegWrite_heeded {s : State} (h : s.permits.Heeded) (q : Req) : (s.opRegWrite q).state.permits.Heeded := by
  have written := hostWrite_heeded h (addrWords (q.arg 0) (q.payload.drop 1))
  unfold opRegWrite
  split
  all_goals
    next heq =>
      rw [heq] at written
      exact written

theorem opRegModify_heeded {s : State} (h : s.permits.Heeded) (q : Req) : (s.opRegModify q).state.permits.Heeded := by
  unfold opRegModify
  dsimp only
  split
  · exact h
  next r _ =>
    have checked := congrArg Permits.Heeded
      (checkWords_permits s [(q.arg 0, modifyWord r.reg (s.word (q.arg 0)) (q.arg 1) (q.arg 2))])
    split
    next heq => simpa [heq, h] using checked
    next heq =>
      rw [OpResult.reply_state]
      exact putWords_heeded (by simpa [heq, h] using checked) _

theorem opUnitWrite_heeded {s : State} (h : s.permits.Heeded) (q : Req) : (s.opUnitWrite q).state.permits.Heeded := by
  unfold opUnitWrite
  extract_lets a ws
  split
  · exact h
  · exact h
  next u _ _ =>
    extract_lets is all
    have checked := permits_foldl_fst (checkUnit_permits (s.viewAfter all) a u.stride ws) is (s, none)
    split
    next heq =>
      rw [heq] at checked
      exact (congrArg Permits.Heeded checked).mpr h
    next r heq =>
      rw [heq] at checked
      have kept : r.permits.Heeded := (congrArg Permits.Heeded checked).mpr h
      split
      · simpa using kept
      · exact putWords_heeded kept _

theorem opModeSet_heeded {s : State} (h : s.permits.Heeded) (q : Req) : (s.opModeSet q).state.permits.Heeded := by
  simp [opModeSet, h]

end State

/-- The execution of an opcode's row keeps FIRE_ALLOW low while LASER_PERMIT is. -/
def OpSpec.Heeds (sp : OpSpec) : Prop := ∀ (q : Req) (s : State), s.permits.Heeded → (sp.core q s).state.permits.Heeded

/-- A row that writes no permit. -/
theorem OpSpec.Heeds.of_permits {sp : OpSpec}
    (kept : ∀ (s : State) (q : Req), (sp.core q s).state.permits = s.permits) : sp.Heeds := fun q s h => kept s q ▸ h

open State in
/-- Every row of Table 13-5 heeds LASER_PERMIT: a write, a mode change, or a row that writes no permit. -/
theorem opTable_heeds : ∀ sp ∈ opTable, sp.Heeds := by
  simp only [opTable, List.forall_mem_cons, List.not_mem_nil, false_imp_iff, implies_true, and_true]
  and_intros
  · exact .of_permits opRegRead_permits
  · exact fun q _ h => opRegWrite_heeded h q
  · exact fun q _ h => opRegModify_heeded h q
  · exact .of_permits opUnitRead_permits
  · exact fun q _ h => opUnitWrite_heeded h q
  · exact .of_permits opTableRead_permits
  · exact .of_permits opTableWrite_permits
  · exact .of_permits opTableSwap_permits
  · exact fun q _ h => opModeSet_heeded h q
  · exact .of_permits opModeGet_permits
  · exact .of_permits opReset_permits
  · exact .of_permits opCommit_permits
  · exact .of_permits opCalRun_permits
  · exact .of_permits opCalStatus_permits
  · exact .of_permits opCalStarter_permits
  · exact .of_permits opImageWrite_permits
  · exact .of_permits opImageActivate_permits
  · exact .of_permits opLifeRead_permits
  · exact .of_permits opCompact_permits
  · exact .of_permits opTallySnapshot_permits
  · exact .of_permits opTallyRead_permits
  · exact .of_permits opTallyDump_permits
  · exact .of_permits opCordStatus_permits
  · exact .of_permits opCordReset_permits
  · exact .of_permits opRecipeStore_permits
  · exact .of_permits opRecipeRead_permits
  · exact .of_permits opRecipeEnable_permits
  · exact .of_permits opRecipeDelete_permits
  · exact .of_permits opRecipeRun_permits
  · exact .of_permits opSelftestReport_permits
  · exact .of_permits opFaultRead_permits
  · exact .of_permits opFaultClear_permits
  · exact .of_permits opIdent_permits
  · exact .of_permits opTimeGet_permits
  · exact .of_permits opTimeOfDay_permits

theorem opSpec_heeds {op : Nat} {sp : OpSpec} (h : opSpec op = some sp) : sp.Heeds :=
  opTable_heeds sp (List.mem_of_find?_eq_some h)

namespace State

section
variable {s : State} (h : s.permits.Heeded)
include h

theorem runHere_heeded {sp : OpSpec} (hsp : sp.Heeds) (q : Req) : (s.runHere sp q).state.permits.Heeded := by
  unfold runHere
  split
  · simpa using h
  · have executed := hsp (asLocal q s) s.commandBegins (by simpa using h)
    simpa using executed

theorem ownApply_heeded {sp : OpSpec} (hsp : sp.Heeds) (q : Req) : (s.ownApply sp q).permits.Heeded := by
  simp [ownApply, runHere_heeded h hsp]

@[simp] theorem checkResolved_heeded (x : CordTxn) : (s.checkResolved x).permits.Heeded := by
  unfold checkResolved
  extract_lets stop commit r0 r
  have moved : r.permits.Heeded := by simpa [r, r0] using h
  have stopped (st a : Nat) (ws : List Nat) : (stop st a ws).permits.Heeded := by simpa [stop] using h
  split
  · exact stopped _ _ _
  · split
    · exact stopped _ _ _
    · split
      next => exact stopped _ _ _
      next sp hop =>
        exact ownApply_heeded moved (opSpec_heeds hop) _

@[simp] theorem resolveOne_heeded : s.resolveOne.permits.Heeded := by
  unfold resolveOne
  split
  · exact h
  · split
    · exact h
    · split
      · split
        · simpa using h
        · exact h
      · exact checkResolved_heeded h _
      · simpa using h
      · simpa using h

@[simp] theorem resolve_heeded : s.resolve.permits.Heeded := by simp [resolve, h]

@[simp] theorem beginTxn_heeded (x : CordTxn) (m : CordMsg) : (s.beginTxn x m).permits.Heeded := by
  simp [beginTxn, h]

theorem carryOut_heeded {sp : OpSpec} (hsp : sp.Heeds) (q : Req) : (s.carryOut sp q).permits.Heeded := by
  have run := runHere_heeded h hsp q
  unfold carryOut
  dsimp only
  (repeat' split) <;> simp [h, run]

/-! ### Packets and the queues of the two cores (R314 to R330) -/

theorem accept_heeded {run : State → State} (hrun : ∀ r : State, r.permits.Heeded → (run r).permits.Heeded) (op : Nat)
    (q : Req) : (s.accept op q run).permits.Heeded := by
  unfold accept
  (repeat' split) <;> simp [h, hrun]

theorem receiveWith_heeded {run : State → State} (hrun : ∀ r : State, r.permits.Heeded → (run r).permits.Heeded)
    (op : Nat) (q : Req) : (s.receiveWith op q run).permits.Heeded := by
  have counted : (s.countPacket q).permits.Heeded := by simpa using h
  unfold receiveWith
  split
  · exact h
  · split
    · split <;> simp [h]
    · dsimp only
      split
      · split
        · simpa using h
        · exact accept_heeded counted (fun r hr => by simpa using hr) op q
      · exact accept_heeded counted hrun op q

theorem request_heeded {sp : OpSpec} (hsp : sp.Heeds) (q : Req) : (s.request sp q).permits.Heeded :=
  receiveWith_heeded h (fun r hr => by simpa using carryOut_heeded hr hsp q) sp.opcode q

@[simp] theorem execQueued_heeded (x : QueuedReq) : (s.execQueued x).permits.Heeded := by
  refine accept_heeded h (fun r hr => ?_) x.opcode x.req
  split
  next sp hop => simpa using carryOut_heeded hr (opSpec_heeds hop) x.req
  next => simpa using hr

@[simp] theorem drainCore_heeded (core k : Nat) : (drainCore core k s).permits.Heeded := by
  induction k generalizing s with
  | zero => exact h
  | succ k ih =>
    unfold drainCore
    split
    · exact h
    · split
      · exact h
      · exact ih (execQueued_heeded (by simpa using h) _)

@[simp] theorem drain_heeded : s.drain.permits.Heeded := by simp [drain, h]

@[simp] theorem packetBytes_heeded (src : Source) (bs : List Nat) : (s.packetBytes src bs).permits.Heeded := by
  unfold packetBytes
  extract_lets f len q op head crc c
  have counted : c.permits = s.permits := by simp [c]
  split
  · simp [counted, h]
  · split
    · simp [counted, h]
    · split
      · simp [counted, h]
      · split
        next sp hop => exact request_heeded h (opSpec_heeds hop) q
        next => exact receiveWith_heeded h (fun r hr => by simpa using hr) op q

@[simp] theorem malformed_heeded (src : Source) (bs : List Nat) : (s.malformed src bs).permits.Heeded := by
  unfold malformed
  split
  · exact h
  · split
    · split <;> simp [h]
    · exact packetBytes_heeded h src bs

/-! ### Recipes (chapter 13) -/

@[simp] theorem recipeStep_heeded : s.recipeStep.permits.Heeded := by
  unfold recipeStep
  split
  · exact h
  next r p _ =>
    extract_lets z q
    have counted : z.permits.Heeded := by simpa [z] using h
    clear_value z
    (repeat' split)
    case' h_2 sp hop =>
      have carried := carryOut_heeded (s := z.putRecipeRun { r with wait := .reply }) (by simpa using counted)
        (opSpec_heeds hop) q
    all_goals simp [*]

theorem ownStep_heeded {act : RecipeRun → RecipeStep → State → State}
    (kept : ∀ z r p, (act r p z).permits = z.permits) (op : Nat) : (s.ownStep op act).permits.Heeded := by
  unfold ownStep
  split
  · simp [kept, h]
  · exact h

/-! ### The cord (chapter 12) -/

@[simp] theorem memberAnswer_heeded (a : CordAnswer) : (s.memberAnswer a).permits.Heeded := by
  unfold memberAnswer
  split <;> simp [h]

@[simp] theorem cordTimeout_heeded : s.cordTimeout.permits.Heeded := by
  unfold cordTimeout
  split
  · exact h
  · dsimp only
    split <;> simp [h]

@[simp] theorem cordRequest_heeded (op : Nat) (q : Req) : (s.cordRequest op q).permits.Heeded := by
  unfold cordRequest
  split
  · exact h
  · dsimp only
    split
    next => simp [h]
    next sp hop => simp [runHere_heeded h (opSpec_heeds hop)]

@[simp] theorem cordCheck_heeded (op : Nat) (q : Req) : (s.cordCheck op q).permits.Heeded := by
  unfold cordCheck
  dsimp only
  (repeat' split) <;> simp [h]

@[simp] theorem cordApply_heeded : s.cordApply.permits.Heeded := by
  unfold cordApply
  split
  · exact h
  next op q _ =>
    have forgot : s.cordForget.permits.Heeded := by simpa using h
    dsimp only
    split
    next => exact forgot
    next sp hop => simp [runHere_heeded forgot (opSpec_heeds hop)]

@[simp] theorem autoEntry_heeded (ms : List RollEntry) : (s.autoEntry ms).permits.Heeded := by
  have row : Op.modeSet.Heeds := opTable_heeds _ (by simp [opTable])
  simp [autoEntry, carryOut_heeded h row, h]

@[simp] theorem settleAll_heeded : s.settleAll.permits.Heeded := by simp [settleAll, h]

@[simp] theorem writeDone_heeded (ok : Bool) : (s.writeDone ok).permits.Heeded := by
  unfold writeDone
  extract_lets r _ z
  have settled : r.permits.Heeded := by simp [r, h]
  clear_value r
  refine cordResetTaken_heeded ?_
  unfold z
  split
  · refine safeEnter_heeded ?_ 3
    exact settled
  · exact settled

end
end State

end Sys2Proof.Machine
end

section
/-! SUPPORT. Proofs of the emitter firing family: every command heeds LASER_PERMIT (R119, R120). -/

namespace Sys2Proof.Machine

/-- A command completes in a state that heeds LASER_PERMIT. -/
def AnswersHeeded (o : Res) : Prop := answers o (fun r => r.permits.Heeded)

theorem requestOf_row {i : Instr} {sp : OpSpec} {q : Req} (h : requestOf i = some (sp, q)) : sp ∈ opTable := by
  cases i <;> simp only [requestOf, Option.some.injEq, Prod.mk.injEq, reduceCtorEq] at h <;>
    (obtain ⟨rfl, rfl⟩ := h; simp [opTable])

theorem regRead_heeds : Op.regRead.Heeds := opTable_heeds _ (by simp [opTable])
theorem regWrite_heeds : Op.regWrite.Heeds := opTable_heeds _ (by simp [opTable])

section
variable {t : Nat} {f : State → State} {i : Instr} {s : State} (h : s.permits.Heeded)
include h

theorem run_heeded (hf : ∀ r : State, r.permits.Heeded → (f r).permits.Heeded) : AnswersHeeded (run t f s) := by
  rw [run_gives]
  exact ⟨_, rfl, hf _ (by simpa using h)⟩

theorem live_heeded (hf : ∀ r : State, r.permits.Heeded → (f r).permits.Heeded) : AnswersHeeded (live t f s) := by
  unfold live
  refine run_heeded h fun r hr => ?_
  split
  · exact hr
  · exact hf r hr

theorem awake_heeded (hf : ∀ r : State, r.permits.Heeded → (f r).permits.Heeded) : AnswersHeeded (awake t f s) := by
  unfold awake
  refine live_heeded h fun r hr => ?_
  split
  · exact hr
  · exact hf r hr

theorem awakeFirst_heeded (hf : ∀ r : State, r.permits.Heeded → (f r).permits.Heeded) :
    AnswersHeeded (awakeFirst t f s) := by
  have first : (s.arriveFirst t).permits.Heeded := by simpa using h
  unfold awakeFirst
  extract_lets a b
  have acted : b.permits.Heeded := by
    unfold b
    split
    · exact first
    · exact hf a first
  exact ⟨_, rfl, (congrArg Permits.Heeded (State.launchDue_permits b t)).mpr acted⟩

/-! ### The commands -/

theorem run_request_heeded {sp : OpSpec} (row : sp.Heeds) (q : Req) :
    AnswersHeeded (run t (fun s => s.request sp q) s) :=
  run_heeded h fun _ hr => State.request_heeded hr row q

/-- The commands that act before the fire edges of their instant. -/
theorem exec_first_heeded (hf : actsFirst i = true) : AnswersHeeded (exec i s) := by
  cases i <;> simp only [actsFirst, Bool.false_eq_true] at hf
  all_goals exact awakeFirst_heeded h fun r hr => by simp [hr]

/-- The commands of the blocks that stop in PARK. -/
theorem exec_awake_heeded (hp : stopsInPark i = true) (hf : actsFirst i = false) : AnswersHeeded (exec i s) := by
  cases i <;> simp only [stopsInPark, actsFirst, Bool.false_eq_true, reduceCtorEq] at hp hf
  case acquire => exact awake_heeded h fun r hr => State.ownStep_heeded hr State.recipeAcquire_permits _
  case release => exact awake_heeded h fun r hr => State.ownStep_heeded hr State.recipeRelease_permits _
  case wait => exact awake_heeded h fun r hr => State.ownStep_heeded hr State.recipeWait_permits _
  all_goals exact awake_heeded h fun r hr => by simp [hr]

/-- The commands that act while the internal reset is held. -/
theorem exec_inReset_heeded (ha : actsInReset i = true) : AnswersHeeded (exec i s) := by
  cases i <;> simp only [actsInReset, Bool.false_eq_true] at ha
  all_goals exact run_heeded h fun r hr => by simp [hr]

/-- R119, R120: every command heeds LASER_PERMIT. -/
theorem exec_heeded : AnswersHeeded (exec i s) := by
  cases hq : requestOf i with
  | some p =>
    rw [exec_request hq]
    exact run_request_heeded h (opTable_heeds _ (requestOf_row hq)) _
  | none =>
    cases hw : writeOf i with
    | some p =>
      rw [exec_write hw]
      exact run_request_heeded h regWrite_heeds _
    | none =>
      cases hr : readOf i with
      | some p =>
        rw [exec_read hr]
        exact run_request_heeded h regRead_heeds _
      | none =>
        cases hf : actsFirst i with
        | true => exact exec_first_heeded h hf
        | false =>
          cases hp : stopsInPark i with
          | true => exact exec_awake_heeded h hp hf
          | false =>
            cases ha : actsInReset i with
            | true => exact exec_inReset_heeded h ha
            | false =>
              cases i <;> simp only [requestOf, writeOf, readOf, stopsInPark, actsInReset, actsFirst, reduceCtorEq]
                at hq hw hr hp ha hf
              case rxThresholdWrite => exact run_request_heeded h regWrite_heeds _
              case malformedPacket => exact run_heeded h fun r hr => by simp [hr]
              all_goals exact live_heeded h fun r hr => by simp [hr]

end

/-- Settles O8: every command that the queue brings heeds LASER_PERMIT, and the empty queue leaves the state as it
stands. -/
theorem everyStepHeedsLaserPermit : Obligations.EveryStepHeedsLaserPermit := by
  intro s r hs hr
  unfold step at hr
  split at hr
  case h_1 => exact Host.Outcome.next.inj hr ▸ hs
  case h_2 i rest _ =>
    obtain ⟨x, hx, heeded⟩ := exec_heeded (i := i) (s := { s with pending := rest }) (State.permitHeeded_iff.mp hs)
    obtain rfl : x = r := Host.Outcome.next.inj (hx.symm.trans hr)
    exact State.permitHeeded_iff.mpr heeded

end Sys2Proof.Machine
end

section
/-! SUPPORT. Proofs of the mirror angle pickoff family: the outputs of the decimation chain (R203 to R215), the ends of
the demodulator's periods with the resets that they make (R198, R201, R202, R204, R212), and the electrodes' faults
(R216, R217). -/

namespace Sys2Proof.Machine
namespace State

/-! ### Outputs of the chain (R203 to R215) -/

/-- R195: a chain that has stopped gives no output. -/
theorem pickoffOutput_stopped {a : State} {ahead : List (Nat × Nat)} {samples : List (Int × Bool)}
    (h : a.flag F.ANGLE_STATUS_RUNNING = false) : a.pickoffOutput ahead samples = a := if_pos (by simp [h])

section
variable {a b c d e f : State} {n blank inv : Nat} {ahead : List (Nat × Nat)} {samples : List (Int × Bool)}
  {l : List (Nat × Nat × Int × Bool)} {ds out : List Int} {hist : List (List Int)} {bad : Bool} {v : Int}
  (hrun : a.flag F.ANGLE_STATUS_RUNNING = true) (hn : n = 2 ^ a.rd F.ANGLE_DEC_STAGES) (hlen : samples.length = n)
  (hl : l = ((List.range n).zip samples).map (fun p => (p.1, a.now - 150 - 25 * (n - 1 - p.1), p.2.1, p.2.2)))
  (htake : (b, ds, blank) = l.foldl (takeSample ahead) (a.pkoGather ahead l, [], 0))
  (hchain : (out, hist) = chainRun b.chainTaps b.angle.stages ds.reverse)
  (hc : c = { b with angle := { b.angle with
    stages := hist, segs := b.angle.segs.take 8, resets := b.angle.resets.take 8 } })
  (hinv : inv = c.rd F.ANGLE_STATUS_INV_LEFT) (hd : d = c.wr F.ANGLE_STATUS_INV_LEFT (inv - 1))
  (hbad : bad = (decide (0 < inv) || (d.flag F.ANGLE_STATUS_ELEC_FAULT_P || d.flag F.ANGLE_STATUS_ELEC_FAULT_N) ||
    decide (d.rd F.ANGLE_BLANK_FILL_PCT * n < 100 * blank)))
  (hv : v = if bad then d.predicted .v (a.now - groupDelay (d.rd F.ANGLE_DEC_STAGES) : Int)
    else d.linearise (out.getLastD 0))
  (he : e = (((wrB F.ANGLE_OUT_INVALID bad { d with angle := { d.angle with
    outs := (⟨a.now, v, bad⟩ : PkoOut) :: d.angle.outs.take 15 } }).wrB F.ANGLE_OUT_FILLED (decide (0 < blank)))).wrS
    F.ANGLE_OUT_VALUE v)
  (hf : f = if bad = true then e.count ⟨0x07, 2⟩ 0 else e)
include hrun hn hlen hl htake hchain hc hinv hd hbad hv he hf

/-- The samples taken leave `b`, the stages `c`, the countdown of INV_LEFT `d` and the registers of the output `e`;
`f` has counted an invalid output. A filled one is counted, and axis V has one output more. -/
theorem pickoffOutput_runs : a.pickoffOutput ahead samples =
    updAxis .v (fun x => { x with outs := x.outs + 1 }) (if 0 < blank then f.count ⟨0x07, 3⟩ 0 else f) := by
  have whole : (!a.flag F.ANGLE_STATUS_RUNNING || samples.length != 2 ^ a.rd F.ANGLE_DEC_STAGES) = false := by
    simp [hrun, hlen, hn]
  subst hf he hv hbad hd hinv hc hn
  unfold pickoffOutput
  simp only [whole, ← hl, ← htake, ← hchain]
  rfl

end

/-! ### Resets and the ends of the demodulator's periods (R198, R201, R202, R204, R212) -/

theorem requestReset_stopped {a : State} (h : a.flag F.ANGLE_STATUS_RUNNING = false) : a.requestReset = a :=
  if_neg (by simp [h])

theorem requestReset_runs {a : State} (h : a.flag F.ANGLE_STATUS_RUNNING = true) :
    a.requestReset = { a with angle := { a.angle with resetDue := true } } := if_pos h

theorem clipReset_stopped {a : State} (h : a.flag F.ANGLE_STATUS_RUNNING = false) : a.clipReset = a :=
  if_neg (by simp [h])

/-- R201: clipping requests a reset and is counted. -/
theorem clipReset_runs {a : State} (h : a.flag F.ANGLE_STATUS_RUNNING = true) :
    a.clipReset = count ⟨0x07, 1⟩ 0 { a with angle := { a.angle with resetDue := true } } := by
  rw [← requestReset_runs h]
  exact if_pos h

theorem demodBoundary_stopped {a : State} {peak : Nat} (h : a.flag F.ANGLE_STATUS_RUNNING = false) :
    a.demodBoundary peak = a := if_pos (by simp [h])

section
variable {a b c : State} {peak r inv : Nat} {exc : Bool} {g : ExcSeg} {rest : List ExcSeg}
  (hrun : a.flag F.ANGLE_STATUS_RUNNING = true) (hg : a.angle.segs = g :: rest)
  (hexc : exc = (a.flag F.ANGLE_STATUS_EXC_PEND && a.excChanged))
  (hnew : exc = true ∨ g.gain ≠ a.rdS F.ANGLE_TRIM_GAIN ∨ g.offset ≠ a.rdS F.ANGLE_TRIM_OFFSET →
    b = { a.wr F.ANGLE_STATUS_EXC_PEND 0 with angle := { a.angle with
      segs := a.excRegs a.now :: a.angle.segs, amp := a.rd F.ANGLE_EXC_AMP } })
  (hsame : exc = false → g.gain = a.rdS F.ANGLE_TRIM_GAIN → g.offset = a.rdS F.ANGLE_TRIM_OFFSET →
    b = a.wr F.ANGLE_STATUS_EXC_PEND 0)
  (hr : r = if a.angle.resetDue then b.nextRange peak else b.rd F.ANGLE_STATUS_RANGE_NOW)
  (hinv : inv = invAfter (b.rd F.ANGLE_STATUS_INV_LEFT) exc a.angle.resetDue (r != b.rd F.ANGLE_STATUS_RANGE_NOW)
    a.angle.startDue)
  (hc : c = (b.wr F.ANGLE_STATUS_RANGE_NOW r).wr F.ANGLE_STATUS_INV_LEFT inv)

include hnew hsame in
/-- R198, R204: the excitation and the trim come into force together, at the period's end that finds either new. -/
theorem excitation_taken_if_new : b =
    if (exc || (g.gain != a.rdS F.ANGLE_TRIM_GAIN || g.offset != a.rdS F.ANGLE_TRIM_OFFSET)) = true then
      { a.wr F.ANGLE_STATUS_EXC_PEND 0 with angle := { a.angle with
        segs := a.excRegs a.now :: a.angle.segs, amp := a.rd F.ANGLE_EXC_AMP } }
    else a.wr F.ANGLE_STATUS_EXC_PEND 0 := by
  split
  case isTrue h => exact hnew (by simpa using h)
  case isFalse h =>
    have same : exc = false ∧ g.gain = a.rdS F.ANGLE_TRIM_GAIN ∧ g.offset = a.rdS F.ANGLE_TRIM_OFFSET := by
      simpa using h
    obtain ⟨hexc, hgain, hoffset⟩ := same
    exact hsame hexc hgain hoffset

include hrun hg hexc hnew hsame hr hinv hc

/-- R202, R212: the range and INV_LEFT that a period's end leaves, and the reset that it makes where one is due. -/
theorem demodBoundary_runs : a.demodBoundary peak =
    if a.angle.resetDue = true then count ⟨0x07, 0⟩ 0 { c with angle := { c.angle with
      resets := c.now :: c.angle.resets, resetDue := false, startDue := false } }
    else c := by
  have taken := excitation_taken_if_new hnew hsame
  have due : b.angle.resetDue = a.angle.resetDue ∧ b.angle.startDue = a.angle.startDue := by
    rw [taken]
    split <;> exact ⟨rfl, rfl⟩
  subst hc hinv hr hexc
  rw [← due.1, ← due.2]
  subst taken
  unfold demodBoundary
  simp only [hrun, hg, wr_angle]
  rfl

end

/-! ### The electrodes (R216, R217) -/

/-- R216: once `b` shows the electrode's bit, the fault of either is shown, raised and logged with both bits. -/
theorem elecFault_logged {a b : State} {pin : Nat}
    (hb : b = if pin = 0 then a.wr F.ANGLE_STATUS_ELEC_FAULT_P 1 else a.wr F.ANGLE_STATUS_ELEC_FAULT_N 1) :
    a.elecFault pin = ((b.wr F.ANGLE_STATUS_ELEC_FAULT 1).raise Irq.angleElecFault).logEvent Ev.angleElecFault
      (b.rd F.ANGLE_STATUS_ELEC_FAULT_P + 2 * b.rd F.ANGLE_STATUS_ELEC_FAULT_N) := by
  subst hb
  rfl

/-- R217: an electrode in fault that recovers leaves at least six invalid outputs. -/
theorem elecRecover_clears {a : State} {pin : Nat} {x : Fld}
    (hx : x = if pin = 0 then F.ANGLE_STATUS_ELEC_FAULT_P else F.ANGLE_STATUS_ELEC_FAULT_N) (h : a.flag x = true) :
    a.elecRecover pin = (a.wr x 0).wr F.ANGLE_STATUS_INV_LEFT (max (a.rd F.ANGLE_STATUS_INV_LEFT) 6) := by
  subst hx
  exact if_pos h

end State

/-- Settles O31: no output of a stopped chain; of a running one the output with its counts, and then the fire edges. -/
theorem pickoffOutputsComplete : Obligations.PickoffOutputsComplete := by
  refine fun t n blank inv samples ds out hist bad v l s a b c d e f h => ⟨?stopped,
    fun hrun hn hlen hl htake hchain hc hinv hd hbad hv he hf => ?output⟩
  case stopped => exact fun hs => awakeFirstAt_eq h (State.pickoffOutput_stopped hs)
  case output =>
    have runs := State.pickoffOutput_runs hrun hn hlen hl htake hchain hc hinv hd hbad hv he hf
    refine ⟨fun hblank => ?filled, fun hblank => ?whole⟩
    case filled => exact awakeFirstAt_eq h (runs.trans (congrArg _ (if_pos hblank)))
    case whole => exact awakeFirstAt_eq h (runs.trans (congrArg _ (if_neg hblank.not_gt)))

/-- Settles O32: the period's end by what it finds pending and due, the requests of a reset by whether the chain runs,
and each electrode's fault and recovery. -/
theorem electrodeCommandsComplete : Obligations.ElectrodeCommandsComplete := by
  refine ⟨fun t peak r inv exc g rest s a b c h => ⟨fun hs => ?stopped, fun hrun => ⟨?timer, ?clip,
    fun hg hexc hnew hsame hr hinv hc => ?boundary⟩⟩, fun t s a b c h => ⟨?faultP, ?faultN, ?recoverP, ?recoverN⟩⟩
  case stopped =>
    exact ⟨awakeAt_eq h (State.demodBoundary_stopped hs), awakeAt_eq h (State.requestReset_stopped hs),
      awakeAt_eq h (State.clipReset_stopped hs)⟩
  case timer => exact awakeAt_eq h (State.requestReset_runs hrun)
  case clip => exact awakeAt_eq h (State.clipReset_runs hrun)
  case boundary =>
    have runs := State.demodBoundary_runs (peak := peak) hrun hg hexc hnew hsame hr hinv hc
    refine ⟨fun hno => ?noReset, fun hdue => ?resets⟩
    case noReset => exact awakeAt_eq h (runs.trans (if_neg (by simp [hno])))
    case resets => exact awakeAt_eq h (runs.trans (if_pos hdue))
  case faultP => exact fun hb => awakeAt_eq h (State.elecFault_logged (pin := 0) hb)
  case faultN => exact fun hc => awakeAt_eq h (State.elecFault_logged (pin := 1) hc)
  case recoverP => exact fun hp => awakeAt_eq h (State.elecRecover_clears (pin := 0) rfl hp)
  case recoverN => exact fun hn => awakeAt_eq h (State.elecRecover_clears (pin := 1) rfl hn)

end Sys2Proof.Machine
end

section
/-! SUPPORT. Proofs of the scan servo family: the starts and output instants of the servo periods with their timers
(R222 to R238), and the encoder, the bridge and the alignment of axis H (R239 to R244). -/

namespace Sys2Proof.Machine
namespace State

/-! ### Period starts (R220, R222, R230 to R232) -/

/-- R220: with too few pickoff outputs since the last, no period of axis V starts. -/
theorem servoPeriodStart_waits {a : State} (h : a.servo.v.outs < a.rd F.SERVO_V_CFG_V_DIV) :
    a.servoPeriodStart .v = a := if_pos (by simp [periodDue, h])

/-- R220: a period of axis H is always due, and one of axis V once its outputs are complete. -/
theorem periodDue_of_outs {a : State} {ax : Axis} (h : ax = .v → a.rd F.SERVO_V_CFG_V_DIV ≤ a.servo.v.outs) :
    a.periodDue ax = true := by
  cases ax with
  | v => simpa [periodDue] using h rfl
  | h => rfl

section
variable {a b c d e f : State} {ax : Axis}
  (hdue : a.periodDue ax = true)
  (hv : ax = .v → b = (a.countN ⟨0x08, 1⟩ ax.num 1).updAxis .v (fun x => { x with outs := 0 }))
  (hh : ax = .h → b = (a.countN ⟨0x08, 1⟩ ax.num 1).hPeriodStart)
  (hc : c = if b.flag (F.SERVO_AXIS_STATUS_SWAP_PEND ax.num) then b.bankSwap ax else b)
  (he : e = ((c.axAcquire ax).wr (F.SERVO_AXIS_STATUS_COAST_RUN ax.num) 0).wr (F.SERVO_AXIS_STATUS_OVR_RUN ax.num) 0)
  (hd : d = if c.axMayRun ax && (c.axState ax == AxOff || (c.axis ax).unpark) then
    (if ax = .h ∧ e.flag F.SERVO_H_BUS_GATE_FAULT then e.axFault .h 5 else e) else c)
include hdue hv hh hc he hd

/-- The period's count leaves `b`, a pending bank `c`, and an entry to ACQUIRE `d`: an open loop starts no program. -/
theorem servoPeriodStart_open (ho : d.axClosed ax = false) : a.servoPeriodStart ax = d := by
  subst hd he hc
  unfold servoPeriodStart
  cases ax with
  | v =>
    obtain rfl := hv rfl
    exact (if_neg (by simp [hdue])).trans (if_neg (Bool.eq_false_iff.mp ho))
  | h =>
    obtain rfl := hh rfl
    exact (if_neg (by simp [hdue])).trans (if_neg (Bool.eq_false_iff.mp ho))

/-- With the loop closed the measurement leaves `f`, whose program starts where the loop is still closed. -/
theorem servoPeriodStart_closed (hcl : d.axClosed ax = true) (hf : f = d.coast ax (d.measure ax).isSome) :
    a.servoPeriodStart ax = if f.axClosed ax = true then f.updAxis ax (fun x => { x with
      prog := some f.now
      meas := d.measure ax
      phase := f.rd (F.SERVO_AXIS_CTRL_OUT_PHASE ax.num) }) else f := by
  subst hf hd he hc
  unfold servoPeriodStart
  cases ax with
  | v =>
    obtain rfl := hv rfl
    exact (if_neg (by simp [hdue])).trans (if_pos hcl)
  | h =>
    obtain rfl := hh rfl
    exact (if_neg (by simp [hdue])).trans (if_pos hcl)

end

/-! ### Output instants (R223, R227) -/

theorem outputInstant_idle {a : State} {ax : Axis} {fin : Bool} (h : (a.axis ax).prog = none) :
    a.outputInstant ax fin = a := by
  unfold outputInstant
  simp only [h]

section
variable {a b c : State} {ax : Axis} {t0 k : Nat}
  (hp : (a.axis ax).prog = some t0) (hv : ax = .v → b = a) (hh : ax = .h → b = a.refTimer)
include hp hv hh

/-- R227: the program that started at `t0` commits at the output instant of its period. -/
theorem outputInstant_finished : a.outputInstant ax true =
    (b.commitProgram ax (t0 + (a.axis ax).phase * a.axPeriod ax / 256)).updAxis ax
      (fun x => { x with prog := none, meas := none }) := by
  unfold outputInstant
  simp only [hp]
  cases ax with
  | v =>
    obtain rfl := hv rfl
    rfl
  | h =>
    obtain rfl := hh rfl
    rfl

/-- R223: an unfinished program is an overrun, and the third in a row parks the axis. -/
theorem outputInstant_overrun (hk : k = min (b.rd (F.SERVO_AXIS_STATUS_OVR_RUN ax.num) + 1) 3)
    (hc : c = ((b.wr (F.SERVO_AXIS_STATUS_OVR_RUN ax.num) k).bump (F.SERVO_AXIS_OVR_OVERRUNS ax.num)).count ⟨0x08, 0⟩
      ax.num) :
    a.outputInstant ax false =
      (if k = 3 then c.axPark ax 1 else c).updAxis ax (fun x => { x with prog := none, meas := none }) := by
  subst hc hk
  unfold outputInstant
  simp only [hp]
  cases ax with
  | v =>
    obtain rfl := hv rfl
    rfl
  | h =>
    obtain rfl := hh rfl
    rfl

end

/-! ### Timers of the axes and of the raster (R231, R233, R237, R238) -/

/-- R231: ACQ_MS does not run while axis H is aligned. -/
theorem acqTimeout_faults {a : State} {ax : Axis} (hs : a.axState ax = AxAcquire)
    (hal : ax = .h → a.servo.aligning = false) : a.acqTimeout ax = a.axFault ax 4 := by
  have runs : (!(ax == .h && a.servo.aligning)) = true := by
    cases ax with
    | v => rfl
    | h => simp [hal rfl]
  exact if_pos ⟨hs, runs⟩

section
variable {a : State}

/-- R233: the drive of a stopped axis V that stands below its centre rises, and never past it. -/
theorem parkSlew_rises (ho : a.axClosed .v = false)
    (hlt : a.rd F.SERVO_V_STATUS_DAC_CODE < a.rd F.SERVO_V_DRIVE_CENTRE_CODE) :
    a.parkSlew = a.wr F.SERVO_V_STATUS_DAC_CODE (min (a.rd F.SERVO_V_DRIVE_CENTRE_CODE)
      (a.rd F.SERVO_V_STATUS_DAC_CODE + a.rd F.SERVO_V_DRIVE_PARK_SLEW)) :=
  (if_neg (Bool.eq_false_iff.mp ho)).trans (congrArg (a.wr _) (if_pos hlt))

/-- R233: the drive that stands at or above its centre falls, and never past it. -/
theorem parkSlew_falls (ho : a.axClosed .v = false)
    (hle : a.rd F.SERVO_V_DRIVE_CENTRE_CODE ≤ a.rd F.SERVO_V_STATUS_DAC_CODE) :
    a.parkSlew = a.wr F.SERVO_V_STATUS_DAC_CODE (max (a.rd F.SERVO_V_DRIVE_CENTRE_CODE)
      (a.rd F.SERVO_V_STATUS_DAC_CODE - a.rd F.SERVO_V_DRIVE_PARK_SLEW)) :=
  (if_neg (Bool.eq_false_iff.mp ho)).trans (congrArg (a.wr _) (if_neg hle.not_gt))

/-- R237: outside the schedule's frames the raster restarts on its own timer. -/
theorem rasterTimer_restarts (hm : a.servo.profile.mode = true) (hs : a.rasterBySchedule = false)
    (hr : a.mode = Mode.config ∨ a.firing = true) : a.rasterTimer =
      a.rasterStart (if a.servo.raster then a.servo.rasterAt + a.servo.rasterP else a.now) :=
  if_pos (by simp [hm, hs, hr])

/-! ### The encoder (R239) -/

section
variable {b : State} {p q : Bool} {d : Nat}
  (hd : d = (quadPhase p q + 4 - quadPhase a.servo.encA a.servo.encB) % 4)
  (hb : b = { a with servo := { a.servo with encA := p, encB := q } })
include hd hb

/-- R239: levels that stand where they stood only become the accepted ones, which `b` holds. -/
theorem encEdge_still (h : d = 0) : a.encEdge p q = b := by
  subst hd hb
  exact if_pos h

theorem encEdge_double (h : d = 2) : a.encEdge p q = b.encFault := by
  subst hd hb
  exact (if_neg (by omega)).trans (if_pos h)

/-- R239: a single step counts, in the direction that its own and DIR give together. -/
theorem encEdge_counts (h : d = 1 ∨ d = 3) : a.encEdge p q = b.wr F.SERVO_H_POS_COUNT
    (if ((d == 1) != b.flag F.SERVO_H_ENC_DIR) = true then (b.rd F.SERVO_H_POS_COUNT + 1) % b.rd F.SERVO_H_ENC_CPR
      else (b.rd F.SERVO_H_POS_COUNT + b.rd F.SERVO_H_ENC_CPR - 1) % b.rd F.SERVO_H_ENC_CPR) := by
  subst hd hb
  exact (if_neg (by omega)).trans (if_neg (by omega))

theorem encEdge_up (h : d = 1 ∧ b.flag F.SERVO_H_ENC_DIR = false ∨ d = 3 ∧ b.flag F.SERVO_H_ENC_DIR = true) :
    a.encEdge p q =
      b.wr F.SERVO_H_POS_COUNT ((b.rd F.SERVO_H_POS_COUNT + 1) % b.rd F.SERVO_H_ENC_CPR) := by
  rw [encEdge_counts hd hb (h.imp And.left And.left)]
  refine congrArg (b.wr _) (if_pos ?_)
  rcases h with ⟨rfl, hdir⟩ | ⟨rfl, hdir⟩ <;> simp [hdir]

theorem encEdge_down (h : d = 1 ∧ b.flag F.SERVO_H_ENC_DIR = true ∨ d = 3 ∧ b.flag F.SERVO_H_ENC_DIR = false) :
    a.encEdge p q = b.wr F.SERVO_H_POS_COUNT
      ((b.rd F.SERVO_H_POS_COUNT + b.rd F.SERVO_H_ENC_CPR - 1) % b.rd F.SERVO_H_ENC_CPR) := by
  rw [encEdge_counts hd hb (h.imp And.left And.left)]
  refine congrArg (b.wr _) (if_neg ?_)
  rcases h with ⟨rfl, hdir⟩ | ⟨rfl, hdir⟩ <;> simp [hdir]

end

/-- R239: the first index sets the count. -/
theorem encIndex_first (h : a.flag F.SERVO_H_POS_ENC_REF = false) :
    a.encIndex = (a.wr F.SERVO_H_POS_COUNT 0).wr F.SERVO_H_POS_ENC_REF 1 := if_pos (by simp [h])

/-- R239: a later index is checked against the count, whichever way round it is the nearer. -/
theorem encIndex_later (h : a.flag F.SERVO_H_POS_ENC_REF = true) : a.encIndex =
    if a.rd F.SERVO_H_ENC_ENC_TOL < min (a.rd F.SERVO_H_POS_COUNT) (a.rd F.SERVO_H_ENC_CPR - a.rd F.SERVO_H_POS_COUNT)
    then a.encFault.wr F.SERVO_H_POS_COUNT 0 else a := if_neg (by simp [h])

/-! ### The bridge and the alignment (R242 to R244) -/

theorem pwmUpdate_open (h : a.axClosed .h = false) : a.pwmUpdate = a := if_pos (by simp [h])

section
variable {per : Nat} {ds : List Nat} {th : Int}
  (hcl : a.axClosed .h = true) (hper : per = 1000000 / a.rd F.SERVO_H_PWM_PWM_KHZ)
include hcl hper

/-- R242: the loop's output drives the phases at the electrical angle of `th`, predicted in COAST and counted else. -/
theorem pwmUpdate_drives (hal : a.servo.aligning = false)
    (hcoast : a.axState .h = AxCoast → th = a.predicted .h a.now)
    (hcount : a.axState .h ≠ AxCoast → th = a.encAngle (a.rd F.SERVO_H_POS_COUNT))
    (hds : ds = [0, 1, 2].map (dutyNs per
      (ratClamp (-1) 1 (mkRat (a.rdS (F.SERVO_AXIS_OUT_OUT 1)) (a.rd F.SERVO_H_BUS_VBUS)))
      ((a.rd F.SERVO_H_COMM_POLES : Int) * th + a.rd F.SERVO_H_COMM_COMM_OFS * 16) (2 ^ 20))) :
    a.pwmUpdate = { a with servo := { a.servo with
      duties := ds
      phases := ds.map (phaseOut per (a.rd F.SERVO_H_PWM_DEAD_NS)) } } := by
  have angle : th = if a.axState .h = AxCoast then a.predicted .h a.now
      else (a.encAngle (a.rd F.SERVO_H_POS_COUNT) : Int) := by
    split
    case isTrue h => exact hcoast h
    case isFalse h => exact hcount h
  subst hds angle hper
  unfold pwmUpdate
  simp only [hcl, hal]
  rfl

/-- R244: while the rotor is aligned, ALIGN_MV stands at an electrical angle of 0. -/
theorem pwmUpdate_aligns (hal : a.servo.aligning = true)
    (hds : ds = [0, 1, 2].map (dutyNs per
      (ratClamp (-1) 1 (mkRat (a.rd F.SERVO_H_ALIGN_ALIGN_MV) (a.rd F.SERVO_H_BUS_VBUS))) 0 (2 ^ 20))) :
    a.pwmUpdate = { a with servo := { a.servo with
      duties := ds
      phases := ds.map (phaseOut per (a.rd F.SERVO_H_PWM_DEAD_NS)) } } := by
  subst hds hper
  unfold pwmUpdate
  simp only [hcl, hal]
  rfl

end

/-- R243: without a result the voltage in use is VBUS_NOM, and shows as stale. -/
theorem setBus_stale : a.setBus none =
    (a.wr F.SERVO_H_BUS_VBUS (a.rd F.SERVO_H_BRIDGE_VBUS_NOM)).wr F.SERVO_H_BUS_BRIDGE_STALE 1 := rfl

theorem gateFault_high : a.gateFault true = a.wrB F.SERVO_H_BUS_GATE_FAULT false := rfl

/-- R244: a low level faults axis H in every state but OFF. -/
theorem gateFault_low : a.gateFault false = if (a.wrB F.SERVO_H_BUS_GATE_FAULT true).axState .h = AxOff
    then a.wrB F.SERVO_H_BUS_GATE_FAULT true else (a.wrB F.SERVO_H_BUS_GATE_FAULT true).axFault .h 5 := by
  simp [gateFault]

theorem alignDone_aligned (hs : a.axState .h = AxAcquire) (hal : a.servo.aligning = true) : a.alignDone =
    { a.wr F.SERVO_H_POS_COUNT ((List.range (a.rd F.SERVO_H_ENC_CPR)).foldl
        (fun b c => if a.elecDistance c < a.elecDistance b then c else b) 0) with
      servo := { a.servo with aligning := false } } := if_pos ⟨hs, hal⟩

end
end State

/-- An effect on the arrived state that is known equal to `r` is what a command of every mode gives. -/
theorem run_eq {t : Nat} {f : State → State} {s r : State} (e : f (s.arrive t) = r) : run t f s = gives t s r := by
  rw [run_gives, e]

/-- Settles O33: a period's start by whether it is due and its loop closed, its output instant by whether the program
has finished, and each timer by what it finds. -/
theorem servoPeriodsComplete : Obligations.ServoPeriodsComplete := by
  refine ⟨fun t ax s a b c d e f h => ⟨fun hw => ?waits, fun hout hv hh hc he hd => ?starts⟩,
    fun t t0 k ax fin s a b c h => ⟨fun hp => ?idle, fun hp hv hh => ⟨?commits, fun hk hc => ?overruns⟩⟩,
    fun t ax s a h => ⟨fun hs hal => ?acquire, fun ho hlt => ?rises, fun ho hle => ?falls, fun hm hs hr => ?raster⟩⟩
  case waits => exact awakeAt_eq h (State.servoPeriodStart_waits hw)
  case starts =>
    have due := State.periodDue_of_outs hout
    refine ⟨fun ho => awakeAt_eq h (State.servoPeriodStart_open due hv hh hc he hd ho), fun hcl hf => ?_⟩
    have measured := State.servoPeriodStart_closed due hv hh hc he hd hcl hf
    refine ⟨fun hopen => ?stops, fun hclosed => ?runs⟩
    case stops => exact awakeAt_eq h (measured.trans (if_neg (Bool.eq_false_iff.mp hopen)))
    case runs => exact awakeAt_eq h (measured.trans (if_pos hclosed))
  case idle => exact awakeAt_eq h (State.outputInstant_idle hp)
  case commits => exact awakeAt_eq h (State.outputInstant_finished hp hv hh)
  case overruns =>
    have overrun := State.outputInstant_overrun hp hv hh hk hc
    refine ⟨fun hlt => ?counted, fun hthird => ?parked⟩
    case counted => exact awakeAt_eq h (overrun.trans (congrArg _ (if_neg hlt.ne)))
    case parked => exact awakeAt_eq h (overrun.trans (congrArg _ (if_pos hthird)))
  case acquire => exact awakeAt_eq h (State.acqTimeout_faults hs hal)
  case rises => exact awakeAt_eq h (State.parkSlew_rises ho hlt)
  case falls => exact awakeAt_eq h (State.parkSlew_falls ho hle)
  case raster => exact awakeAt_eq h (State.rasterTimer_restarts hm hs hr)

/-- Settles O34: an edge by the step it makes, an index by whether it is the first, the phases by what drives them, and
GATE_FAULT_N, which acts in PARK too, by its level. -/
theorem encoderAndBridgeCommandsComplete : Obligations.EncoderAndBridgeCommandsComplete := by
  refine ⟨fun t d p q s a b h hd hb => ⟨fun h0 => ?still, fun h2 => ?double, fun hu => ?up, fun hdn => ?down,
      fun hf => ?first, fun hr => ⟨fun hin => ?within, fun hout => ?beyond⟩⟩,
    fun t per ds th s a h => ⟨fun hper => ⟨fun hcl hal hcoast hcount hds => ?drives, fun hcl hal hds => ?aligns⟩,
      fun ho => ?stopped, ?stale, fun z hz => ?gate, fun hs hal => ?aligned⟩⟩
  case still => exact awakeAt_eq h (State.encEdge_still hd hb h0)
  case double => exact awakeAt_eq h (State.encEdge_double hd hb h2)
  case up => exact awakeAt_eq h (State.encEdge_up hd hb hu)
  case down => exact awakeAt_eq h (State.encEdge_down hd hb hdn)
  case first => exact awakeAt_eq h (State.encIndex_first hf)
  case within => exact awakeAt_eq h ((State.encIndex_later hr).trans (if_neg hin.not_gt))
  case beyond => exact awakeAt_eq h ((State.encIndex_later hr).trans (if_pos hout))
  case drives => exact awakeAt_eq h (State.pwmUpdate_drives hcl hper hal hcoast hcount hds)
  case aligns => exact awakeAt_eq h (State.pwmUpdate_aligns hcl hper hal hds)
  case stopped => exact awakeAt_eq h (State.pwmUpdate_open ho)
  case stale => exact awakeAt_eq h State.setBus_stale
  case gate =>
    subst hz
    refine ⟨?high, fun hoff => ?off, fun hon => ?faults⟩
    case high => exact run_eq State.gateFault_high
    case off => exact run_eq (State.gateFault_low.trans (if_pos hoff))
    case faults => exact run_eq (State.gateFault_low.trans (if_neg hon))
  case aligned => exact awakeAt_eq h (State.alignDone_aligned hs hal)

end Sys2Proof.Machine
end

section
/-! SUPPORT. Proofs of the geometry and envelope family: the pose matrix (R252), the close of a sector (R258), and its
reports (R260 to R263). -/

namespace Sys2Proof.Machine
namespace State

variable {a b c : State} {x : Sector} {es : List Nat} {others : List Sector}

/-! ### The pose matrix (R248, R252) -/

/-- R252: a computation under way leaves the nine elements of R248, and BUSY clear. -/
theorem poseMatrixDone_busy (h : a.flag F.GEOM_POSE_CTRL_BUSY = true) :
    a.poseMatrixDone = ((List.range 9).foldl
      (fun c n => c.wrS (F.GEOM_MATRIX_M n) (matrixElem a.geom.pose (n / 3) (n % 3))) a).wr F.GEOM_POSE_CTRL_BUSY 0 :=
  if_pos h

/-! ### The close of a sector (R258) -/

/-- R258: the oldest ended sector still open closes once all its windows have and none of its slots is to come. -/
theorem sectorClose_closes (hx : a.geom.sectors.find? (fun x => a.sectorOver x && !x.closed) = some x)
    (hclosed : (a.sectorShots x).all (fun z => z.closed) = true) (howes : a.sectorOwes x = false) :
    a.sectorClose = a.updSector x.number (fun x => { x with closed := true, sec := a.sec, ns := a.nsec }) := by
  unfold sectorClose
  simp only [hx]
  exact if_pos (by simp [hclosed, howes])

/-! ### Envelope reports (R260 to R263) -/

section
variable (hx : a.geom.sectors.find? (fun x => x.closed) = some x) (hshots : a.sectorShots x = [])
  (hes : es = (List.range 4).filter (fun e => envEn (x.envs.getD e []))) (hb : b = es.foldl (noteReport x) a)
  (hothers : others = b.geom.sectors.filter (fun y => y.number != x.number))
  (hc : c = { b with geom := { b.geom with
    sectors := others
    busy := (if x.lost || others.any (fun y => y.bank == x.bank && !y.lost) then b.geom.busy
      else b.geom.busy.set x.bank false) } })
include hx hshots hes hb hothers hc

/-- R261 to R263: with the units of the oldest closed sector formed, its reports are noted in `b`, and `c` is without
the sector and its use of the bank; the reports enter the region of their stream, where there is one. -/
theorem envelopeReport_formed : a.envelopeReport = (c.regionOfStream 3).elim c
    (fun n => c.admitReports n x.number (es.map (reportWords a.memberNo x))) := by
  subst hc hothers hb hes
  unfold envelopeReport
  simp only [hx]
  refine (if_pos (by simp [hshots])).trans ?_
  split
  case h_1 n hn => rw [hn]; rfl
  case h_2 hn => rw [hn]; rfl

end
end State

/-- Settles O35: a computed matrix, a sector's close, and a sector's reports by whether a region carries them. -/
theorem geometryCommandsComplete : Obligations.GeometryCommandsComplete := by
  refine fun t x es others s a b c h => ⟨fun hbusy => ?matrix, fun hx hclosed howes => ?closes,
    fun hx hshots hes hb hothers hc => ?reports⟩
  case matrix => exact awakeAt_eq h (State.poseMatrixDone_busy hbusy)
  case closes => exact awakeAt_eq h (State.sectorClose_closes hx hclosed howes)
  case reports =>
    have formed := State.envelopeReport_formed hx hshots hes hb hothers hc
    refine ⟨fun n hn => ?landed, fun hn => ?nowhere⟩
    case landed => exact awakeAt_eq h (formed.trans (by rw [hn]; rfl))
    case nowhere => exact awakeAt_eq h (formed.trans (by rw [hn]; rfl))

end Sys2Proof.Machine
end

section
/-! SUPPORT. Proofs of the camera port family: the packets of a port (R266 to R268), its frames' start, lines and end
(R270, R273, R275, R277, R278), the turns of the pipeline (R272) and the relay's writes (R279 to R281). -/

namespace Sys2Proof.Machine
namespace State

variable {a b c : State} {p vc fn : Nat}

/-! ### A port that does not receive, and packets of another channel (R266, R268) -/

section
variable (h : a.camReceives p = false)
include h

theorem csiFrameStart_deaf : a.csiFrameStart p fn vc = a := if_pos (by simp [h])
theorem csiFrameEnd_deaf : a.csiFrameEnd p vc = a := if_pos (by simp [h])
theorem csiIgnored_deaf : a.csiIgnored p = a := if_neg (Bool.eq_false_iff.mp h)
theorem sotError_deaf : a.sotError p = a := if_neg (Bool.eq_false_iff.mp h)
theorem hdrEcc_deaf : a.hdrEcc p = a := if_neg (Bool.eq_false_iff.mp h)
theorem feTimeout_deaf : a.feTimeout p = a := if_neg (Bool.eq_false_iff.mp h)

end

section
variable (h : a.camReceives p = true)
include h

theorem csiIgnored_counts : a.csiIgnored p = a.count ⟨0x0A, 1⟩ p := if_pos h
theorem sotError_shows : a.sotError p = a.wr (F.CAM_PORT_STATUS_SOT_ERR p) 1 := if_pos h

/-- R266: a frame start of another virtual channel is an ignored packet. -/
theorem csiFrameStart_otherChannel (hv : vc ≠ a.rd (F.CAM_PORT_CFG_VC p)) :
    a.csiFrameStart p fn vc = a.count ⟨0x0A, 1⟩ p := (if_neg (by simp [h])).trans (if_pos hv)

theorem csiFrameEnd_otherChannel (hv : vc ≠ a.rd (F.CAM_PORT_CFG_VC p)) :
    a.csiFrameEnd p vc = a.count ⟨0x0A, 1⟩ p := (if_neg (by simp [h])).trans (if_pos hv)

/-! ### Errors of an open frame (R267, R270) -/

/-- R267: a header error is counted, and marks the frame that is open. -/
theorem hdrEcc_counts (hb : b = a.count ⟨0x0A, 2⟩ p) : a.hdrEcc p = if (camOpen (b.camPort p)).isSome = true
    then b.updLastFrame p (fun f => { f with flags := f.flags ||| 2 ^ 7 }) else b := by
  subst hb
  exact if_pos h

theorem feTimeout_closes : a.feTimeout p = a.closeMissing p := if_pos h

end

/-- Table 11-2: with no frame open, none misses its end. -/
theorem closeMissing_none (h : camOpen (a.camPort p) = none) : a.closeMissing p = a := if_neg (by simp [h])

theorem closeMissing_open (h : camOpen (a.camPort p) ≠ none) : a.closeMissing p =
    (a.updLastFrame p (fun f => { f with flags := f.flags ||| 2 ^ 5 })).closeFrame p false :=
  if_pos (Option.isSome_iff_ne_none.mpr h)

/-! ### A frame's start (R270, R275, R277, R278, R280) -/

/-- R275: a frame starts sooner after the port's last one than FPS_MAX allows. -/
def startsEarly (s : State) (p : Nat) (x : CamPort) : Bool :=
  x.lastFs.any (fun n => decide ((s.now - n) * s.rd (F.CAM_PORT_CFG_FPS_MAX p) < 1000000000))

/-- R280: the settings that may yet be in force after the port's next frame start. -/
def keptSettings (x : CamPort) : List CamSettings :=
  (x.settings.reverse.find? (fun i => decide (i.from0 ≤ x.nextSeq))).elim x.settings
    (fun i => x.settings.dropWhile (fun j => j != i))

section
variable {x : CamPort} {ctx : List Nat} {keep : List CamSettings} {f : CamFrame}

/-- A frame start counts, and before that as too early where it is. -/
theorem counted_by_startsEarly
    (hfast : ∀ n, x.lastFs = some n → (b.now - n) * b.rd (F.CAM_PORT_CFG_FPS_MAX p) < 1000000000 →
      c = (b.count ⟨0x0A, 6⟩ p).count ⟨0x0A, 0⟩ p)
    (hslow : (∀ n, x.lastFs = some n → 1000000000 ≤ (b.now - n) * b.rd (F.CAM_PORT_CFG_FPS_MAX p)) →
      c = b.count ⟨0x0A, 0⟩ p) :
    c = (if b.startsEarly p x then b.count ⟨0x0A, 6⟩ p else b).count ⟨0x0A, 0⟩ p := by
  by_cases h : b.startsEarly p x = true
  · obtain ⟨n, hn, early⟩ := (Option.any_eq_true _ _).mp h
    rw [if_pos h]
    exact hfast n hn (of_decide_eq_true early)
  · rw [if_neg h]
    exact hslow fun n hn => Nat.le_of_not_lt fun early =>
      h ((Option.any_eq_true _ _).mpr ⟨n, hn, decide_eq_true early⟩)

theorem eq_keptSettings
    (hsome : ∀ i, x.settings.reverse.find? (fun i => decide (i.from0 ≤ x.nextSeq)) = some i →
      keep = x.settings.dropWhile (fun j => j != i))
    (hnone : x.settings.reverse.find? (fun i => decide (i.from0 ≤ x.nextSeq)) = none → keep = x.settings) :
    keep = keptSettings x := by
  unfold keptSettings
  cases h : x.settings.reverse.find? (fun i => decide (i.from0 ≤ x.nextSeq)) with
  | none => exact hnone h
  | some i => exact hsome i h

/-- With a frame left open closed in `b` and the start counted in `c`, the port opens the frame `f`. -/
theorem csiFrameStart_opens (hr : a.camReceives p = true) (hv : vc = a.rd (F.CAM_PORT_CFG_VC p))
    (hb : b = a.closeMissing p) (hx : x = b.camPort p)
    (hc : c = (if b.startsEarly p x then b.count ⟨0x0A, 6⟩ p else b).count ⟨0x0A, 0⟩ p)
    (hctx : ctx = if x.ctxNew then c.camTable p else x.ctx)
    (hf : f = {
      seq := x.nextSeq % 2 ^ 32
      settings := (settingsFor x x.nextSeq).id
      exp := (settingsFor x x.nextSeq).exp
      flags := b2n (settingsFor x x.nextSeq).nacked * 2 ^ 8 + b2n x.ctxNew * 2 ^ 9 + c.rd F.TIME_STATUS_QUALITY * 2 ^ 10
      fn := fn, tFs := c.sec * 1000000000 + c.nsec, ctx := ctx, got := 0, lines := [], used := 0, closed := false
      cut := false, luma := [] }) :
    a.csiFrameStart p fn vc = ((c.putCam p { x with
      nextSeq := x.nextSeq + 1
      opened := true
      frames := x.frames ++ [f]
      ctx := ctx
      ctxNew := false
      lastFs := some c.now
      settings := keptSettings x }).wr (F.CAM_PORT_SEQ_SEQ p) f.seq).wr (F.CAM_PORT_STATUS_ID_NOW p)
        (settingsFor x x.nextSeq).id := by
  subst hf hctx hc hx hb
  refine (if_neg (by simp [hr])).trans ((if_neg (not_not.mpr hv)).trans ?_)
  extract_lets s x fps fast s' ctx set f keep
  have early : fast = s.startsEarly p x := by
    unfold fast startsEarly
    cases x.lastFs <;> rfl
  have kept : keep = keptSettings x := by
    unfold keep keptSettings
    cases x.settings.reverse.find? (fun i => decide (i.from0 ≤ x.nextSeq)) <;> rfl
  clear_value keep
  subst kept
  clear_value fast
  subst early
  rfl

end

/-! ### Lines and frame ends (R266, R267, R270, R273, Table 11-2) -/

/-- Table 11-2: the flags that a line of these pixels sets in its frame. -/
def lineFlags (ctx pixels : List Nat) (crcOk : Bool) : Nat :=
  b2n (decide (pixels.length < ctxWidth ctx)) * 2 + b2n (decide (ctxWidth ctx < pixels.length)) * 4 + b2n (!crcOk) * 2 ^ 6

/-- What a line does to the open frame `f` of the port `x`: it cuts the frame where the stripe buffer is full, is beyond
HEIGHT, or is kept. -/
def openLine (p : Nat) (x : CamPort) (f : CamFrame) (pixels : List Nat) (crcOk : Bool) (s : State) : State :=
  if 64 ≤ camBuffered x then s.closeFrame p true
  else if ctxHeight f.ctx ≤ f.got then s.updLastFrame p (fun g => { g with
    got := g.got + 1
    flags := g.flags ||| lineFlags f.ctx pixels crcOk ||| 2 ^ 4 })
  else (s.updLastFrame p (fun g => { g with
    got := g.got + 1
    lines := g.lines ++ [fitLine f.ctx f.got
      (pixels.map (fun v => if ctxRaw12 f.ctx then v % 4096 else v % 1024 * 4))]
    flags := g.flags ||| lineFlags f.ctx pixels crcOk })).camStart

section
variable {x : CamPort} {ctx pixels : List Nat} {crcOk : Bool} {dt used : Nat}
  (hstill : a.cam.turn = none → b = a) (hturn : ∀ q, a.cam.turn = some q → b = a.camConsume q used)
include hstill hturn

/-- After the lines that the pipeline takes, a port that does not receive ignores the packet. -/
theorem csiLine_deaf (hr : b.camReceives p = false) : a.csiLine p vc dt pixels crcOk used = b := by
  unfold csiLine
  cases h : a.cam.turn with
  | none =>
    obtain rfl := hstill h
    exact if_pos (by simp [hr])
  | some q =>
    obtain rfl := hturn q h
    exact if_pos (by simp [hr])

/-- A port that receives judges the packet by its open frame's context, or by its own. -/
theorem csiLine_heard (hr : b.camReceives p = true) (hx : x = b.camPort p)
    (hctx : ctx = (camOpen x).elim x.ctx CamFrame.ctx) : a.csiLine p vc dt pixels crcOk used =
      if vc ≠ b.rd (F.CAM_PORT_CFG_VC p) ∨ dt ≠ (if ctxRaw12 ctx then 0x2C else 0x2B) then b.count ⟨0x0A, 1⟩ p
      else (camOpen x).elim (b.count ⟨0x0A, 3⟩ p) (fun f => b.openLine p x f pixels crcOk) := by
  subst hctx hx
  unfold csiLine
  extract_lets r y ctx n w fl
  have turned : r = b := by
    unfold r
    cases h : a.cam.turn with
    | none => exact (hstill h).symm
    | some q => exact (hturn q h).symm
  clear_value r
  subst turned
  refine (if_neg (by simp [hr])).trans ?_
  cases ho : camOpen y with
  | none =>
    have own : ctx = y.ctx := by unfold ctx; rw [ho]
    clear_value ctx
    subst own
    rfl
  | some f =>
    have opened : ctx = f.ctx := by unfold ctx; rw [ho]
    clear_value ctx
    subst opened
    rfl

end

/-- R270: a frame's end closes the open frame; without one it is stray, once the port has opened a frame. -/
theorem csiFrameEnd_heard (hr : a.camReceives p = true) (hv : vc = a.rd (F.CAM_PORT_CFG_VC p)) :
    a.csiFrameEnd p vc = if (camOpen (a.camPort p)).isSome = true then a.closeFrame p false
      else if (!(a.camPort p).opened) = true then a else a.count ⟨0x0A, 3⟩ p :=
  (if_neg (by simp [hr])).trans (if_neg (not_not.mpr hv))

/-! ### The pipeline's turns (R272) -/

section
variable {q : Nat} (ht : a.cam.turn = some q)
include ht

/-- R272: with MUX the turn stays while the port's oldest frame is open. -/
theorem pipelineTurn_waits {f : CamFrame} (hm : a.flag F.CAM_CTRL_MUX = true)
    (hf : (a.camPort q).frames.head? = some f) (hopen : f.closed = false) : a.pipelineTurn = a := by
  obtain ⟨rest, hfs⟩ := List.head?_eq_some_iff.mp hf
  unfold pipelineTurn
  simp only [ht, hfs]
  exact if_pos (by simp [hm, hopen])

theorem pipelineTurn_ends {f : CamFrame} (h : a.flag F.CAM_CTRL_MUX = false ∨ (a.camPort q).frames = [] ∨
      ((a.camPort q).frames.head? = some f ∧ f.closed = true)) :
    a.pipelineTurn = (a.camConsume q 4096).camNext (1 - q) := by
  unfold pipelineTurn
  simp only [ht]
  refine if_neg ?_
  rcases h with hm | hnil | ⟨hf, hclosed⟩
  · simp [hm]
  · simp [hnil]
  · obtain ⟨rest, hfs⟩ := List.head?_eq_some_iff.mp hf
    simp [hfs, hclosed]

end

/-! ### The relay's writes (R279 to R281) -/

section
variable (hbusy : a.flag (F.CAM_CCI_CTRL_BUSY p) = true)
include hbusy

/-- R279, R280: an acknowledged write counts, and is the last of its relay or followed by the next. -/
theorem cciWriteDone_acked (hb : b = a.bump (F.CAM_CCI_STATUS_DONE p)) : a.cciWriteDone p true =
    if (b.camPort p).cciLeft - 1 = 0 then b.cciComplete p false
    else (b.updCam p (fun x => { x with cciLeft := (b.camPort p).cciLeft - 1 })).cciIssue p := by
  subst hb
  exact if_neg (by simp [hbusy])

/-- R281: a write that is not acknowledged is reported, and ends its relay. -/
theorem cciWriteDone_failed (hc : c = (a.wr (F.CAM_CCI_STATUS_NACK p) 1).raise Irq.camCciFail) :
    a.cciWriteDone p false = (c.logEvent Ev.camCciFail (p * 2 ^ 8 + c.rd (F.CAM_CCI_STATUS_DONE p))).cciComplete p true := by
  subst hc
  exact if_neg (by simp [hbusy])

end
end State

/-- Settles O36: each packet and error by whether the port receives, by its channel and by the frame that is open, and
a frame's start by what it counts and what stays in force. -/
theorem cameraFramesStart : Obligations.CameraFramesStart := by
  refine ⟨fun t fn p vc s a b h => ⟨fun hr => ?deaf, fun hr => ⟨?ignored, ?sot,
      fun hb => ⟨fun hn => ?eccIdle, fun ho => ?eccMarks⟩, fun hn => ?timeoutIdle, fun ho => ?timeoutCloses,
      fun hv => ⟨?startElsewhere, ?endElsewhere⟩⟩⟩,
    fun t fn p vc x ctx keep f s a b c h hr hv hb hx hfast hslow hctx hf hsome hnone => ?opens⟩
  case deaf =>
    exact ⟨awakeAt_eq h (State.csiFrameStart_deaf hr), awakeAt_eq h (State.csiFrameEnd_deaf hr),
      awakeAt_eq h (State.csiIgnored_deaf hr), awakeAt_eq h (State.sotError_deaf hr),
      awakeAt_eq h (State.hdrEcc_deaf hr), awakeAt_eq h (State.feTimeout_deaf hr)⟩
  case ignored => exact awakeAt_eq h (State.csiIgnored_counts hr)
  case sot => exact awakeAt_eq h (State.sotError_shows hr)
  case eccIdle => exact awakeAt_eq h ((State.hdrEcc_counts hr hb).trans (if_neg (by simp [hn])))
  case eccMarks =>
    exact awakeAt_eq h ((State.hdrEcc_counts hr hb).trans (if_pos (Option.isSome_iff_ne_none.mpr ho)))
  case timeoutIdle => exact awakeAt_eq h ((State.feTimeout_closes hr).trans (State.closeMissing_none hn))
  case timeoutCloses => exact awakeAt_eq h ((State.feTimeout_closes hr).trans (State.closeMissing_open ho))
  case startElsewhere => exact awakeAt_eq h (State.csiFrameStart_otherChannel hr hv)
  case endElsewhere => exact awakeAt_eq h (State.csiFrameEnd_otherChannel hr hv)
  case opens =>
    have counted := State.counted_by_startsEarly hfast hslow
    obtain rfl := State.eq_keptSettings hsome hnone
    exact awakeAt_eq h (State.csiFrameStart_opens hr hv hb hx counted hctx hf)

/-- Settles O37: a line by the channel and type of its packet and by what the open frame still takes, a frame's end by
whether one is open, a turn by MUX and the oldest frame, and a relay's write by its acknowledgement. -/
theorem cameraLinesAndFrameEndsComplete : Obligations.CameraLinesAndFrameEndsComplete := by
  refine ⟨fun t dt used p vc pixels ctx crcOk f x s a b h hstill hturn hx => ⟨fun hr => ?deaf, fun hr hopen hown => ?heard⟩,
    fun t p q vc f s a b c h => ⟨fun hr hv => ?frameEnd,
      fun ht => ⟨fun hm hf hopen => ?turnWaits, fun he => ?turnEnds⟩,
      fun hbusy => ⟨fun hb => ⟨fun hlast => ?relayed, fun hmore => ?nextWrite⟩, fun hc => ?refused⟩⟩⟩
  case deaf => exact awakeAt_eq h (State.csiLine_deaf hstill hturn hr)
  case heard =>
    have hctx : ctx = (State.camOpen x).elim x.ctx CamFrame.ctx := by
      cases ho : State.camOpen x with
      | none => exact hown ho
      | some f => exact hopen f ho
    have heard := State.csiLine_heard (p := p) (vc := vc) (dt := dt) (pixels := pixels) (crcOk := crcOk) hstill hturn
      hr hx hctx
    refine ⟨fun hbad => ?irregular, fun hv hdt => ?regular⟩
    case irregular => exact awakeAt_eq h (heard.trans (if_pos hbad))
    case regular =>
      have taken := heard.trans (if_neg (not_or.mpr ⟨not_not.mpr hv, not_not.mpr hdt⟩))
      refine ⟨fun ho => ?stray, fun ho hfull => ?cut, fun ho hroom hover => ?beyond, fun ho hroom hin => ?kept⟩
      case stray =>
        rw [ho] at taken
        exact awakeAt_eq h taken
      all_goals
        rw [ho] at taken
        obtain rfl := hopen f ho
      case cut => exact awakeAt_eq h (taken.trans (if_pos hfull))
      case beyond => exact awakeAt_eq h (taken.trans ((if_neg hroom.not_ge).trans (if_pos hover)))
      case kept => exact awakeAt_eq h (taken.trans ((if_neg hroom.not_ge).trans (if_neg hin.not_ge)))
  case frameEnd =>
    have ended := State.csiFrameEnd_heard hr hv
    refine ⟨fun ho => ?closes, fun hn hopened => ?strayEnd, fun hn hnever => ?first⟩
    case closes => exact awakeAt_eq h (ended.trans (if_pos (Option.isSome_iff_ne_none.mpr ho)))
    case strayEnd => exact awakeAt_eq h (ended.trans ((if_neg (by simp [hn])).trans (if_neg (by simp [hopened]))))
    case first => exact awakeAt_eq h (ended.trans ((if_neg (by simp [hn])).trans (if_pos (by simp [hnever]))))
  case turnWaits => exact awakeAt_eq h (State.pipelineTurn_waits ht hm hf hopen)
  case turnEnds => exact awakeAt_eq h (State.pipelineTurn_ends ht he)
  case relayed =>
    exact awakeAt_eq h ((State.cciWriteDone_acked hbusy hb).trans (if_pos (Nat.sub_eq_zero_of_le hlast)))
  case nextWrite =>
    exact awakeAt_eq h ((State.cciWriteDone_acked hbusy hb).trans (if_neg (Nat.sub_ne_zero_of_lt hmore)))
  case refused => exact awakeAt_eq h (State.cciWriteDone_failed hbusy hc)

end Sys2Proof.Machine
end

section
/-! SUPPORT. Proofs of the network landing family: a lane's link and equaliser (R285, R286), the frames that it discards
(R287, R288), and those that it answers (R288). -/

namespace Sys2Proof.Machine
namespace State

variable {a b c d e : State} {l speed bytes target mac ip : Nat} {pcs anDone half up : Bool}

/-! ### The link (R285) -/

theorem setLink_same (h : c.flag (F.NET_LANE_STATUS_LINK l) = up) : c.setLink l up = c := if_pos h

theorem setLink_gained (h : c.flag (F.NET_LANE_STATUS_LINK l) ≠ true) : c.setLink l true =
    ((c.wrB (F.NET_LANE_STATUS_LINK l) true).raise Irq.netLink).count ⟨0x0B, 4⟩ l := if_neg h

theorem setLink_lost (h : c.flag (F.NET_LANE_STATUS_LINK l) ≠ false) : c.setLink l false =
    (((c.wrB (F.NET_LANE_STATUS_LINK l) false).raise Irq.netLink).count ⟨0x0B, 4⟩ l).abortTx l := if_neg h

/-- R285: a change of PCS or auto-negotiation shows in `b`, a lane that is up shows its speed as well, and LINK
follows. -/
theorem laneChange_eq_setLink (hup : up = a.linkNow l pcs anDone half) (he : e = a.pcsLock l (pcs && a.laneMayUp l))
    (hb : b = (e.wrB (F.NET_LANE_STATUS_AN_DONE l)
      ((a.flag (F.NET_LANE_CFG_AN_EN l) && a.rd (F.NET_LANE_CFG_MODE l) != 0) && anDone && pcs)).wrB
      (F.NET_LANE_STATUS_HALF_DUP l) (e.sgmiiAn l && half && pcs))
    (hdown : up = false → c = b)
    (hspeed : up = true → d = b.wr (F.NET_LANE_STATUS_SPEED l) (if a.rd (F.NET_LANE_CFG_MODE l) = 0 then 3
        else if b.sgmiiAn l then min speed 2 else 2) ∧
      c = (if d.sgmiiAn l then d.putLane l { d.laneSt l with speed := some (min speed 2) } else d)) :
    a.laneChange l pcs anDone half speed = c.setLink l up := by
  subst hb he
  unfold laneChange
  rw [← hup]
  cases up with
  | false =>
    rw [hdown rfl]
    exact congrArg (setLink l false) (if_neg Bool.false_ne_true)
  | true =>
    obtain ⟨rfl, rfl⟩ := hspeed rfl
    exact congrArg (setLink l true) (if_pos rfl)

/-! ### The equaliser (R286) -/

theorem pcsLock_lost (hlock : (a.laneSt l).pcs = true) (hfree : a.flag (F.NET_LANE_CFG_EQ_FREEZE l) = false) :
    a.pcsLock l false = (a.putLane l { a.laneSt l with pcs := false, taps := [0, 0, 0, 0, 0, 0] }).wr
      (F.NET_LANE_STATUS_EQ_LOCK l) 0 := if_pos (by simp [hlock, hfree])

theorem pcsLock_frozen (h : a.flag (F.NET_LANE_CFG_EQ_FREEZE l) = true) :
    a.pcsLock l pcs = a.putLane l { a.laneSt l with pcs := pcs } := if_neg (by simp [h])

theorem eqLock_down (h : a.laneMayUp l = false) : a.eqLock l = a := if_neg (Bool.eq_false_iff.mp h)

/-- R286: the equaliser of a lane that may be up locks, on new taps unless EQ_FREEZE holds those that stand. -/
theorem eqLock_locks (h : a.laneMayUp l = true) : a.eqLock l =
    (if a.flag (F.NET_LANE_CFG_EQ_FREEZE l) then a
      else (a.putLane l { a.laneSt l with taps := (List.range 6).map (fun i => Config.eqTap i a.free) }).tick).wr
        (F.NET_LANE_STATUS_EQ_LOCK l) 1 := if_pos h

/-! ### Received frames (R287, R288) -/

theorem rxPause_down (h : a.flag (F.NET_LANE_STATUS_LINK l) = false) : a.rxPause l bytes = a :=
  if_neg (Bool.eq_false_iff.mp h)

section
variable (h : a.flag (F.NET_LANE_STATUS_LINK l) = true)
include h

theorem rxPause_counts : a.rxPause l bytes = (a.countN ⟨0x0B, 2⟩ l bytes).count ⟨0x0B, 5⟩ l := if_pos h
theorem rxDiscard_counts : a.rxDiscard l bytes = (a.countN ⟨0x0B, 2⟩ l bytes).count ⟨0x0B, 6⟩ l := if_pos h

theorem arpRequest_heard : a.arpRequest l target mac ip =
    if a.laneIp4 l ≠ 0 ∧ target = a.laneIp4 l then (a.rxFrame l 64).sendControl l ⟨.arp, mac, ip, none, 64⟩
    else a.rxDiscard l 64 := if_neg (by simp [h])

theorem neighbourSolicit_heard : a.neighbourSolicit l target mac ip =
    if target = a.laneIp6 l then (a.rxFrame l 90).sendControl l ⟨.neighbour, mac, ip, none, 90⟩
    else a.rxDiscard l 90 := if_neg (by simp [h])

section
variable {v6 : Bool} {x : LaneSt}

/-- R288: an echo request to another address is discarded. -/
theorem icmpEcho_elsewhere
    (hto : v6 = true ∧ target ≠ a.laneIp6 l ∨ v6 = false ∧ (a.laneIp4 l = 0 ∨ target ≠ a.laneIp4 l)) :
    a.icmpEcho l v6 target mac ip bytes = a.rxDiscard l bytes := by
  refine (if_neg (by simp [h])).trans (if_neg ?_)
  rcases hto with ⟨rfl, hne⟩ | ⟨rfl, hne⟩
  · exact hne
  · exact fun ⟨hset, heq⟩ => hne.elim hset fun hne => hne heq

variable (hto : v6 = true ∧ target = a.laneIp6 l ∨ v6 = false ∧ a.laneIp4 l ≠ 0 ∧ target = a.laneIp4 l)
  (hx : x = a.laneSt l)
include hto hx

/-- R288: an echo request to the lane's own address is answered up to 100 times in the second that its count began. -/
theorem icmpEcho_own {n at0 : Nat}
    (hn : n = if decide (x.icmpAt + 1000000000 ≤ a.now) || x.icmpN == 0 then 0 else x.icmpN)
    (hat : at0 = if decide (x.icmpAt + 1000000000 ≤ a.now) || x.icmpN == 0 then a.now else x.icmpAt) :
    a.icmpEcho l v6 target mac ip bytes = if n < 100
      then ((a.putLane l { x with icmpAt := at0, icmpN := n + 1 }).rxFrame l bytes).sendControl l
        ⟨.echoReply, mac, ip, none, max 64 bytes⟩
      else a.rxDiscard l bytes := by
  subst hn hat hx
  refine (if_neg (by simp [h])).trans (if_pos ?_)
  rcases hto with ⟨rfl, heq⟩ | ⟨rfl, hset, heq⟩
  · exact heq
  · exact ⟨hset, heq⟩

/-- R288: once a second has passed, and at the first request, the count begins anew. -/
theorem icmpEcho_anew (hanew : x.icmpAt + 1000000000 ≤ a.now ∨ x.icmpN = 0) :
    a.icmpEcho l v6 target mac ip bytes =
      ((a.putLane l { x with icmpAt := a.now, icmpN := 1 }).rxFrame l bytes).sendControl l
        ⟨.echoReply, mac, ip, none, max 64 bytes⟩ := by
  have anew : (decide (x.icmpAt + 1000000000 ≤ a.now) || x.icmpN == 0) = true := by simpa using hanew
  exact (icmpEcho_own h hto hx (if_pos anew).symm (if_pos anew).symm).trans (if_pos (by decide))

/-- R288: within the second, the count goes on. -/
theorem icmpEcho_within (hsoon : a.now < x.icmpAt + 1000000000) (hbegun : 0 < x.icmpN) :
    a.icmpEcho l v6 target mac ip bytes = if x.icmpN < 100
      then ((a.putLane l { x with icmpN := x.icmpN + 1 }).rxFrame l bytes).sendControl l
        ⟨.echoReply, mac, ip, none, max 64 bytes⟩
      else a.rxDiscard l bytes := by
  have same : ¬ (decide (x.icmpAt + 1000000000 ≤ a.now) || x.icmpN == 0) = true := by
    simp [hsoon.not_ge, hbegun.ne']
  exact icmpEcho_own h hto hx (if_neg same).symm (if_neg same).symm

end
end
end State

/-- Settles O38: a lane's change by whether it is up and whether LINK follows, the equaliser by EQ_FREEZE, and each
received frame by its address and by the echoes of the present second. -/
theorem laneCommandsComplete : Obligations.LaneCommandsComplete := by
  refine ⟨fun t speed l k pcs anDone half up s a b c d e h =>
      ⟨fun hl hup he hb hdown hspeed => ?change, State.pcsLock_lost, State.pcsLock_frozen, fun hl => ?cord,
        fun hup hfrozen => ?frozen, fun hup hfree => ?locks, fun hdown => ?idle⟩,
    fun t bytes l s a h => ⟨fun hlink => ?pause, fun hdown => ?deaf⟩,
    fun t target mac ip bytes l v6 x s a b h hlink hb => ?received⟩
  case change =>
    have linked := State.laneChange_eq_setLink hup he hb hdown hspeed
    refine ⟨fun hsame => ?same, fun hnew hon => ?gained, fun hnew hoff => ?lost⟩
    case same => exact awakeAt_eq h ((if_pos hl).trans (linked.trans (State.setLink_same hsame)))
    case gained =>
      subst hon
      exact awakeAt_eq h ((if_pos hl).trans (linked.trans (State.setLink_gained hnew)))
    case lost =>
      subst hoff
      exact awakeAt_eq h ((if_pos hl).trans (linked.trans (State.setLink_lost hnew)))
  case cord => exact awakeAt_eq h (if_neg hl.not_gt)
  case frozen => exact awakeAt_eq h ((State.eqLock_locks hup).trans (by rw [if_pos hfrozen]))
  case locks => exact awakeAt_eq h ((State.eqLock_locks hup).trans (by rw [if_neg (Bool.eq_false_iff.mp hfree)]))
  case idle => exact awakeAt_eq h (State.eqLock_down hdown)
  case pause => exact awakeAt_eq h (State.rxPause_counts hlink)
  case deaf => exact awakeAt_eq h (State.rxPause_down hdown)
  case received =>
    subst hb
    refine ⟨?discard, fun hset hown => ?arp, fun hother => ?arpElsewhere, fun hown => ?neighbour,
      fun hother => ?neighbourElsewhere,
      fun hto hx => ⟨fun hsoon hbegun hfew => ?echo, fun hsoon hmany => ?echoLimit, fun hanew => ?echoAnew⟩,
      fun hto => ?echoElsewhere⟩
    case discard => exact awakeAt_eq h (State.rxDiscard_counts hlink)
    case arp => exact awakeAt_eq h ((State.arpRequest_heard hlink).trans (if_pos ⟨hset, hown⟩))
    case arpElsewhere =>
      exact awakeAt_eq h ((State.arpRequest_heard hlink).trans
        (if_neg fun ⟨hset, hown⟩ => hother.elim hset fun hne => hne hown))
    case neighbour => exact awakeAt_eq h ((State.neighbourSolicit_heard hlink).trans (if_pos hown))
    case neighbourElsewhere => exact awakeAt_eq h ((State.neighbourSolicit_heard hlink).trans (if_neg hother))
    case echo => exact awakeAt_eq h ((State.icmpEcho_within hlink hto hx hsoon hbegun).trans (if_pos hfew))
    case echoLimit =>
      have beyond := (State.icmpEcho_within (bytes := bytes) (mac := mac) (ip := ip) hlink hto hx hsoon
        (Nat.lt_of_lt_of_le (by decide) hmany)).trans (if_neg hmany.not_gt)
      exact awakeAt_eq h (beyond.trans (State.rxDiscard_counts hlink))
    case echoAnew => exact awakeAt_eq h (State.icmpEcho_anew hlink hto hx hanew)
    case echoElsewhere =>
      exact awakeAt_eq h ((State.icmpEcho_elsewhere hlink hto).trans (State.rxDiscard_counts hlink))

end Sys2Proof.Machine
end

section
/-! SUPPORT. Proofs of the network landing family: the close of a datagram and the release of echoes (R294 to R298), the
grants and the frames of a port (R301, R303, R357), and its watchdog (R305, R306). -/

namespace Sys2Proof.Machine
namespace State

variable {a b c d e g : State} {n p : Nat} {f : TxFrame}

/-! ### Regions (R294 to R298) -/

theorem closeDg_none {flushed : Bool} (h : (a.region n).openDg = none) : a.closeDg n flushed = a := by
  unfold closeDg
  rw [h]

theorem closeDg_some {flushed : Bool} {x : OpenDg} (h : (a.region n).openDg = some x) : a.closeDg n flushed =
    a.updRegion n (fun r => { r with openDg := none, closed := r.closed ++ [a.closedDg n x flushed] }) := by
  unfold closeDg
  rw [h]

theorem echoRelease_enabled {k : Nat} (hen : a.flag (F.LAND_REGION_EN n) = true)
    (hecho : a.rd (F.LAND_REGION_STREAM n) = 0) : a.echoRelease n k = a.releaseFrame n k :=
  if_pos (by simp [hen, hecho])

/-! ### Grants (R303) -/

theorem grant_barred (h : a.flag (F.LAND_PORT_STATUS_GRANTED p) = true ∨ a.flag (F.LAND_PORT_CTRL_FREEZE p) = true ∨
    a.flag (F.NET_LANE_STATUS_LINK p) = false) : a.grant p = a :=
  if_pos (by rcases h with h | h | h <;> simp [h])

section
variable (hgranted : a.flag (F.LAND_PORT_STATUS_GRANTED p) = false)
  (hfreeze : a.flag (F.LAND_PORT_CTRL_FREEZE p) = false) (hlink : a.flag (F.NET_LANE_STATUS_LINK p) = true)
include hgranted hfreeze hlink

theorem grant_unrequested (h : (grantOrder (a.rd (F.LAND_PORT_STATUS_OWNER p))).find? (a.requests p) = none) :
    a.grant p = a := by
  unfold grant
  rw [h]
  exact if_neg (by simp [hgranted, hfreeze, hlink])

theorem grant_starts {req : Nat}
    (h : (grantOrder (a.rd (F.LAND_PORT_STATUS_OWNER p))).find? (a.requests p) = some req)
    (hb : b = (a.wr (F.LAND_PORT_STATUS_GRANTED p) 1).wr (F.LAND_PORT_STATUS_OWNER p) req) :
    a.grant p = (b.putPort p { b.port p with sent := 0, burst := b.rd (F.LAND_BURST_BURST req) }).startTx p req := by
  subst hb
  unfold grant
  rw [h]
  exact if_neg (by simp [hgranted, hfreeze, hlink])

end

/-! ### The end of a lane's frame (R301, R303) -/

theorem regionFollows_kept (h : f.resets = false) : a.regionFollows f = a := if_neg (Bool.eq_false_iff.mp h)

theorem regionFollows_zeroed (h : f.resets = true) : a.regionFollows f =
    (a.clearRegionCounters f.dg.region).updRegion f.dg.region (fun r => { r with seq := 0 }) := if_pos h

theorem frameEnd_idle (h : (a.port p).tx = none) : a.frameEnd p = a := by
  simp only [frameEnd, h]

/-- R301, R303: with the frame counted in `e`, its space freed in `g`, the reset of its region done in `c` and the
control frames sent in `d`, the grant goes on while its owner requests within its burst, or ends. -/
theorem frameEnd_sent {x : PortSt} (hx : x = a.port p) (htx : x.tx = some f)
    (hb : b = (a.countTx p f.frameBytes).countN ⟨0x0C, 2⟩ (16 + p) 1)
    (he : e = if f.reset = true then b.replyGone else b)
    (hg : g = if f.dg.region < 16 then e.updRegion f.dg.region (fun r => { r with fill := r.fill - f.dg.bytes }) else e)
    (hc : c = g.regionFollows f)
    (hd : d = (c.putPort p { c.port p with tx := none, sent := x.sent + ceilDiv f.frameBytes 64 }).sendCtrl p) :
    a.frameEnd p = if d.requests p f.requester = true ∧ x.sent + ceilDiv f.frameBytes 64 < x.burst
      then d.startTx p f.requester else d.endGrant p := by
  subst hd hc hg he hb hx
  unfold frameEnd
  extract_lets x
  rw [show x.tx = some f from htx]

/-! ### The end of a frame on CORD0 (R357) -/

theorem cordTxEnd_barred (h : a.isFollower = false ∨ a.flag (F.CORD_LINK_LINK 0) = false) : a.cordTxEnd = a :=
  if_pos (by rcases h with h | h <;> simp [h])

section
variable {dg : Datagram} {rest : List Datagram} (hfollower : a.isFollower = true)
  (hlink : a.flag (F.CORD_LINK_LINK 0) = true)
include hfollower hlink

/-- R357: a datagram of this member leaves first, with its region's SEQ. -/
theorem cordTxEnd_own (hn : a.relaySource = some n) (hdg : (a.region n).closed = dg :: rest) :
    a.cordTxEnd = (a.putRegion n { a.region n with
      closed := rest
      fill := (a.region n).fill - dg.bytes
      seq := ((a.region n).seq + 1) % 2 ^ 32 }).cordSend (.relay { dg with words := withSeq dg (a.region n).seq }) := by
  unfold cordTxEnd
  simp only [hn, hdg]
  exact if_neg (by simp [hfollower, hlink])

theorem cordTxEnd_through (hn : a.relaySource = none) (hdg : a.cord.through = dg :: rest) :
    a.cordTxEnd = cordSend (.relay dg) { a with cord := { a.cord with through := rest } } := by
  unfold cordTxEnd
  simp only [hn, hdg]
  exact if_neg (by simp [hfollower, hlink])

end

/-! ### The port watchdog and starvation (R305, R306) -/

/-- R306: a bite drops the frame in progress, `k0` items, and all that the port's owner has waiting, `k1` items or
replies; it ends the grant and is reported. -/
theorem wdtBite_bites {owner k0 k1 : Nat} (hlink : a.flag (F.NET_LANE_STATUS_LINK p) = true)
    (hgranted : a.flag (F.LAND_PORT_STATUS_GRANTED p) = true) (howner : owner = a.rd (F.LAND_PORT_STATUS_OWNER p))
    (hframe : ∀ x, (a.port p).tx = some x → g = (if x.reset = true then a.replyGone else a) ∧
      k0 = x.dg.items ∧ b = (g.dropDg x.dg).regionFollows x)
    (hidle : (a.port p).tx = none → k0 = 0 ∧ b = a)
    (hreplies : owner = 4 → k1 = (a.port p).replies.length ∧
      c = (b.countN ⟨0x0B, 8⟩ p k1).repliesGone (a.port p).replies)
    (hqueued : owner ≠ 4 → (c, k1) = (b.regionsOf p owner).foldl dropDatagrams (b, 0))
    (hd : d = if owner = 4 then c.putPort p { c.port p with replies := [] } else c)
    (he : e = (((d.endGrant p).wr (F.LAND_PORT_STATUS_WDT_BITE p) 1).wr (F.LAND_PORT_STATUS_WDT_REQ p) owner).raise
      Irq.landWdt) :
    a.wdtBite p =
      ((e.logEvent Ev.landWdt (p * 2 ^ 8 + owner)).arbiterEvent 1 p owner (k0 + k1)).count ⟨0x0C, 0⟩ (16 + p) := by
  unfold wdtBite
  refine (if_pos (by simp [hgranted, hlink])).trans ?_
  extract_lets req x
  have owner_eq : owner = req := howner
  clear_value req
  subst owner_eq
  split
  next s k hframed =>
    have framed : (s, k) = (b, k0) := by
      rw [← hframed]
      cases htx : (a.port p).tx with
      | none =>
        obtain ⟨rfl, rfl⟩ := hidle htx
        rfl
      | some x =>
        obtain ⟨rfl, rfl, rfl⟩ := hframe x htx
        rfl
    obtain ⟨rfl, rfl⟩ := Prod.mk.inj framed
    split
    next s' k' hwaited =>
      have waited : (s', k') = (c, k1) := by
        rw [← hwaited]
        by_cases h4 : owner = 4
        · obtain ⟨rfl, rfl⟩ := hreplies h4
          exact if_pos h4
        · exact (if_neg h4).trans (hqueued h4).symm
      obtain ⟨rfl, rfl⟩ := Prod.mk.inj waited
      rw [he, hd]

theorem starve_reports {req : Nat} (hlink : a.flag (F.NET_LANE_STATUS_LINK p) = true) (hreq : a.requests p req = true)
    (hfreeze : a.flag (F.LAND_PORT_CTRL_FREEZE p) = false)
    (hother : a.flag (F.LAND_PORT_STATUS_GRANTED p) = false ∨ a.rd (F.LAND_PORT_STATUS_OWNER p) ≠ req) :
    a.starve p req = (((a.setIn (F.LAND_PORT_STATUS_STARVE p) req).raise Irq.landStarve).arbiterEvent 2 p req 0).count
      ⟨0x0C, 1⟩ (16 + p) := by
  refine if_pos ?_
  rcases hother with h | h <;> simp [hlink, hreq, hfreeze, h]

end State

/-- Settles O39: a region by its open datagram, a grant by who requests, a frame's end by whether the grant goes on and
on CORD0 by whose datagram is next, and a bite by the port's frame and its owner. -/
theorem landingCommandsComplete : Obligations.LandingCommandsComplete := by
  refine ⟨fun t k req n p x s a b h => ⟨fun hopen => ?closes, fun hnone => ?nothingOpen, fun hen hecho => ?releases,
      fun hgranted hfreeze hlink => ⟨fun hnone => ?unrequested, fun hreq hb => ?grants⟩, fun hbar => ?barred⟩,
    fun t n p x f dg rest s a b c d e g h => ⟨fun hp hx => ⟨fun hidle => ?idlePort,
        fun htx hb he hregion hreply hkept hreset hd => ?sent⟩,
      fun hp hfollower hlink => ⟨fun hn hdg => ?ownRelay, fun hn hdg => ?passesThrough⟩, fun hp hbar => ?noRelay⟩,
    fun t k0 k1 owner p req s a b c d e g h hlink =>
      ⟨fun hgranted howner hframe hidle hreplies hqueued hd he => ?bites,
      fun hreq hfreeze hother => ?starves⟩⟩
  case closes => exact awakeAt_eq h (State.closeDg_some hopen)
  case nothingOpen => exact awakeAt_eq h (State.closeDg_none hnone)
  case releases => exact awakeAt_eq h (State.echoRelease_enabled hen hecho)
  case unrequested => exact awakeAt_eq h (State.grant_unrequested hgranted hfreeze hlink hnone)
  case grants => exact awakeAt_eq h (State.grant_starts hgranted hfreeze hlink hreq hb)
  case barred => exact awakeAt_eq h (State.grant_barred hbar)
  case idlePort =>
    subst hx
    exact awakeAt_eq h ((if_pos hp).trans (congrArg State.orderBack (State.frameEnd_idle hidle)))
  case sent =>
    have freed : g = if f.dg.region < 16 then e.updRegion f.dg.region (fun r => { r with fill := r.fill - f.dg.bytes })
        else e := by
      split
      case isTrue hin => exact hregion hin
      case isFalse hout => exact hreply (Nat.le_of_not_lt hout)
    have followed : c = g.regionFollows f := by
      cases hr : f.resets with
      | false => exact (hkept hr).trans (State.regionFollows_kept hr).symm
      | true => exact (hreset hr).trans (State.regionFollows_zeroed hr).symm
    have sent := State.frameEnd_sent hx htx hb he freed followed hd
    refine ⟨fun hmore hleft => ?goesOn, fun hdone => ?ends⟩
    case goesOn =>
      exact awakeAt_eq h ((if_pos hp).trans (congrArg State.orderBack (sent.trans (if_pos ⟨hmore, hleft⟩))))
    case ends =>
      have ended : ¬ (d.requests p f.requester = true ∧ x.sent + ceilDiv f.frameBytes 64 < x.burst) := by
        rintro ⟨hmore, hleft⟩
        rcases hdone with hnone | hburst
        · exact Bool.eq_false_iff.mp hnone hmore
        · exact hburst.not_gt hleft
      exact awakeAt_eq h ((if_pos hp).trans (congrArg State.orderBack (sent.trans (if_neg ended))))
  case ownRelay =>
    exact awakeAt_eq h ((if_neg hp.not_lt).trans (State.cordTxEnd_own hfollower hlink hn hdg))
  case passesThrough =>
    exact awakeAt_eq h ((if_neg hp.not_lt).trans (State.cordTxEnd_through hfollower hlink hn hdg))
  case noRelay => exact awakeAt_eq h ((if_neg hp.not_lt).trans (State.cordTxEnd_barred hbar))
  case bites =>
    exact awakeAt_eq h (State.wdtBite_bites hlink hgranted howner hframe hidle hreplies hqueued hd he)
  case starves => exact awakeAt_eq h (State.starve_reports hlink hreq hfreeze hother)

end Sys2Proof.Machine
end

section
/-! SUPPORT. Proofs of the network landing family: a relayed datagram on the master and on a follower, and the link
timeout (R302, R310, R357). -/

namespace Sys2Proof.Machine
namespace State

variable {a b : State} {n p : Nat} {words octets : List Nat}

section
variable (hruns : a.cordRuns = true)
include hruns

/-- R302: the master admits a relayed datagram whole to its member's relay region, or discards it there. -/
theorem relayDatagram_master {d : Datagram} (hmaster : a.isMaster = true)
    (hn : a.relayRegion (words.headD 0 / 2 ^ 53 % 8) = some n) (hd : d = relayedDg n (markRelayed words) octets) :
    a.relayDatagram words octets = if a.hasRoom n d.bytes = true
      then ((a.countN ⟨0x0C, 6⟩ n d.bytes).count ⟨0x0E, 2⟩ 0).updRegion n
        (fun r => { r with closed := r.closed ++ [d], fill := r.fill + d.bytes })
      else a.countDrop n 0 0 1 d.bytes := by
  subst hd
  unfold relayDatagram
  rw [hn]
  exact (if_neg (by simp [hruns])).trans (if_pos hmaster)

/-- R357: a follower passes a relayed datagram through behind those that wait. -/
theorem relayDatagram_follower (hmaster : a.isMaster = false) (hfollower : a.isFollower = true) :
    a.relayDatagram words octets =
      count ⟨0x0E, 2⟩ 0 { a with cord := { a.cord with through := a.cord.through ++ [relayedDg 16 words octets] } } :=
  (if_neg (by simp [hruns])).trans ((if_neg (Bool.eq_false_iff.mp hmaster)).trans (if_pos hfollower))

end

/-- R310: a relayed frame whose bytes stop is dropped with its grant, and forwarding goes on unordered. -/
theorem relayTimeout_ends {f : TxFrame} (htx : (a.port p).tx = some f) (hreq : f.requester = 5)
    (hb : b = ((a.dropDg f.dg).regionFollows f).endGrant p) :
    a.relayTimeout p =
      ((b.arbiterEvent 3 p 5 f.dg.items).bump (F.CORD_LINK_TIMEOUTS 1)).wr (F.CORD_LINK_UNORDERED 1) 1 := by
  subst hb
  unfold relayTimeout
  rw [htx]
  exact if_neg (not_not.mpr hreq)

end State

/-- Settles O40: a relayed datagram by the member's place in the cord and, on the master, by the room of its relay
region, and the timeout of a relayed frame. -/
theorem relayCommandsComplete : Obligations.RelayCommandsComplete := by
  refine fun t n p words octets d f s a b h => ⟨fun hruns hmaster hn hd =>
      ⟨fun hroom => ?admitted, fun hfull => ?discarded⟩,
    fun hruns hmaster hfollower => ?passed, fun htx hreq hb => ?timedOut⟩
  case admitted => exact awakeAt_eq h ((State.relayDatagram_master hruns hmaster hn hd).trans (if_pos hroom))
  case discarded =>
    exact awakeAt_eq h ((State.relayDatagram_master hruns hmaster hn hd).trans (if_neg (Bool.eq_false_iff.mp hfull)))
  case passed => exact awakeAt_eq h (State.relayDatagram_follower hruns hmaster hfollower)
  case timedOut => exact awakeAt_eq h (State.relayTimeout_ends htx hreq hb)

end Sys2Proof.Machine
end

section
/-! SUPPORT. Proofs of the commands family: every command completes and the queue drains, power-on, and what the held
reset and PARK do not hear (R436, R452). -/

namespace Sys2Proof.Machine

/-! ### The step -/

theorem step_front (c : Instr) (rest : List Instr) (s : State) :
    step { s with pending := c :: rest } = exec c { s with pending := rest } := rfl

theorem step_idle {s : State} (h : s.pending = []) : step s = .next s := by
  simp only [step, h]

theorem step_of_pending {s : State} {c : Instr} {rest : List Instr} (h : s.pending = c :: rest) :
    step s = exec c { s with pending := rest } := by
  simp only [step, h]

/-- Settles O1: the queue is matched once. -/
theorem stepRunsTheFrontCommand : Obligations.StepRunsTheFrontCommand :=
  ⟨step_front, fun _ => step_idle⟩

/-- An event completes, whether it acts first, stops in PARK, acts in a held reset or none of these. -/
theorem exec_event_completes {i : Instr} {s : State} (hq : requestOf i = none) (hw : writeOf i = none)
    (hr : readOf i = none) : answers (exec i s) (fun r => r.pending = s.pending ∧ r.now = max s.now i.time) := by
  cases hf : actsFirst i with
  | true =>
    cases i <;> simp only [actsFirst, Bool.false_eq_true] at hf
    all_goals exact awakeFirst_answers _ _ s
  | false =>
    cases hp : stopsInPark i with
    | true =>
      obtain ⟨f, e⟩ := exec_awake hp hf
      exact e s ▸ awake_answers _ f s
    | false =>
      cases ha : actsInReset i with
      | true =>
        cases i <;> simp only [actsInReset, Bool.false_eq_true] at ha
        all_goals exact run_answers _ _ s
      | false =>
        cases i <;> simp only [requestOf, writeOf, readOf, stopsInPark, actsInReset, actsFirst, reduceCtorEq]
          at hq hw hr hp ha hf
        case rxThresholdWrite => exact run_answers _ _ s
        case malformedPacket => exact run_answers _ _ s
        all_goals exact live_answers _ _ s

/-- Every command completes: a packet's commands run at once, the others as the blocks that they speak to. -/
theorem exec_completes (i : Instr) (s : State) :
    answers (exec i s) (fun r => r.pending = s.pending ∧ r.now = max s.now i.time) := by
  cases hq : requestOf i with
  | some p => exact exec_request hq s ▸ run_answers _ _ s
  | none =>
    cases hw : writeOf i with
    | some p => exact exec_write hw s ▸ run_answers _ _ s
    | none =>
      cases hr : readOf i with
      | some p => exact exec_read hr s ▸ run_answers _ _ s
      | none => exact exec_event_completes hq hw hr

/-- Settles O3: by how the command runs. -/
theorem everyCommandCompletes : Obligations.EveryCommandCompletes := exec_completes

theorem step_drains {s : State} {c : Instr} {rest : List Instr} (h : s.pending = c :: rest) :
    answers (step s) (fun r => r.pending = rest ∧ r.now = max s.now c.time) :=
  step_of_pending h ▸ exec_completes c { s with pending := rest }

/-- As many steps as commands wait empty the queue. -/
theorem run_drains (l : List Instr) : ∀ s : State, s.pending = l →
    ∃ r, core.run l.length s = .next r ∧ r.pending = [] ∧ r.now = l.foldl (fun n c => max n c.time) s.now := by
  induction l with
  | nil => exact fun s h => ⟨s, rfl, h, rfl⟩
  | cons c rest ih =>
    intro s h
    obtain ⟨x, hx, hrest, hnow⟩ := step_drains h
    obtain ⟨r, hr, hempty, hlast⟩ := ih x hrest
    refine ⟨r, ?_, hempty, by rw [hlast, hnow, List.foldl_cons]⟩
    have first : core.step s = .next x := hx
    simp only [List.length_cons, Host.Core.run, first]
    exact hr

/-- Settles O4: one command for one step, and by induction all of them. -/
theorem queueDrains : Obligations.QueueDrains :=
  ⟨fun _ _ _ h => step_drains h, fun s => run_drains s.pending s rfl⟩

/-! ### Power-on -/

/-- Settles O2: the stores of the reset state are empty, so that every word is its reset value. -/
theorem resetLeavesEveryRegisterAtItsResetValue : Obligations.ResetLeavesEveryRegisterAtItsResetValue := by
  refine ⟨rfl, rfl, State.word_of_nil rfl, State.tab_of_nil rfl, rfl, ?_, ?_, ?_, ?_, rfl, rfl, rfl, rfl, rfl, rfl, ?_,
    Sparse.wf_nil _, Sparse.wf_nil _, Sparse.wf_nil _⟩
  all_goals decide

/-- Settles O9: each of the three is a finite check of the reset state. -/
theorem powerOnIsDark : Obligations.PowerOnIsDark := by
  refine ⟨?_, ?_, ?_⟩ <;> decide

/-! ### The held reset and PARK (R436, R452) -/

/-- R452: in PARK a command of a block that stops there has no effect beyond its arrival. -/
theorem exec_park {i : Instr} {s : State} (h : (s.arrive i.time).mode = Mode.park) (hp : stopsInPark i = true)
    (hf : actsFirst i = false) : exec i s = gives i.time s (s.arrive i.time) := by
  obtain ⟨f, e⟩ := exec_awake hp hf
  rw [e, awake_park h]

/-- The same of a command that acts before the fire edges of its own instant. -/
theorem exec_park_first {i : Instr} {s : State} (h : (s.arriveFirst i.time).mode = Mode.park) (hf : actsFirst i = true) :
    exec i s = gives i.time s ((s.arriveFirst i.time).launchDue i.time) := by
  cases i <;> simp only [actsFirst, Bool.false_eq_true] at hf <;> exact awakeFirst_stops (.inr h)

/-- Settles O5: the held reset and PARK, each for the commands that act after the fire edges and before them. -/
theorem heldResetAndParkIgnoreCommands : Obligations.HeldResetAndParkIgnoreCommands := by
  refine ⟨⟨?_, ?_⟩, ?_, ?_⟩
  · rintro i s a rfl held
    exact exec_held held
  · rintro i s a rfl held
    exact exec_held_first held
  · rintro i s a rfl parked
    exact exec_park parked
  · rintro i s a rfl parked
    exact exec_park_first parked

end Sys2Proof.Machine
end

section
/-! SUPPORT. Proofs of the commands family: counters (R426, R429), interrupts (R458) and the fault log (R326, R328). -/

namespace Sys2Proof.Machine

open State

/-! ### Counters (R426, R429) -/

section
variable {c : Ctr} {inst : Nat} {s : State}

theorem counterWord_of_chained (h : (tallyChained c.block inst).contains c.index = true) (m : Sparse Nat) :
    counterWord m c.block inst c.index false = Sparse.get m 0 (ctrId c inst) % 2 ^ 48 := by
  simp only [counterWord, h, if_true, b2n, Bool.false_eq_true, if_false, Nat.zero_mul, Nat.zero_add]

theorem counterWord_of_single (h : (tallyChained c.block inst).contains c.index = false)
    (high : c.index = 0 ∨ (tallyChained c.block inst).contains (c.index - 1) = false) (m : Sparse Nat) (snap : Bool) :
    counterWord m c.block inst c.index snap = b2n (Sparse.get m 0 (ctrId c inst) == 2 ^ 48 - 1) * 2 ^ 63 +
      b2n snap * 2 ^ 61 + Sparse.get m 0 (ctrId c inst) % 2 ^ 48 := by
  have below : ¬ (c.index ≥ 1 ∧ (tallyChained c.block inst).contains (c.index - 1) = true) := by
    rintro ⟨one, chained⟩
    rcases high with zero | single
    · omega
    · rw [single] at chained
      cases chained
  simp only [counterWord, h, below, Bool.false_eq_true, if_false]

/-- One event of a chained pair steps the 96-bit count. -/
theorem get_count_of_chained (h : (tallyChained c.block inst).contains c.index = true) :
    Sparse.get (s.count c inst).tally.live 0 (ctrId c inst) = (Sparse.get s.tally.live 0 (ctrId c inst) + 1) % 2 ^ 96 := by
  simp only [count, countN, h, if_true, Sparse.get_put_same]

/-- One event of any other counter steps it, up to 2^48 − 1. -/
theorem get_count_of_single (h : (tallyChained c.block inst).contains c.index = false) :
    Sparse.get (s.count c inst).tally.live 0 (ctrId c inst) =
      min (Sparse.get s.tally.live 0 (ctrId c inst) + 1) (2 ^ 48 - 1) := by
  simp only [count, countN, h, Bool.false_eq_true, if_false]
  split <;> exact Sparse.get_put_same _ _ _ _

/-- A counter that stops sets SAT_ANY. -/
theorem flag_satAny_of_stop (h : (tallyChained c.block inst).contains c.index = false)
    (full : 2 ^ 48 - 1 ≤ Sparse.get s.tally.live 0 (ctrId c inst) + 1) :
    (s.count c inst).flag F.TALLY_STATUS_SAT_ANY = true := by
  simp only [count, countN, h, Bool.false_eq_true, if_false, Nat.not_lt.mpr full, flag]
  rw [rd_wr_same _ (by decide) (by decide) (by decide)]
  rfl

end

/-- Settles O54: the chained counter by its 96-bit count, any other by its stop. -/
theorem countersChainOrStop : Obligations.CountersChainOrStop := by
  intro c inst s
  refine ⟨fun k other => tally_countN_ne other 1 s, fun chained => ?_, fun single => ⟨get_count_of_single single,
    flag_satAny_of_stop single, fun high snap => ?_⟩⟩
  · rw [counterWord_of_chained chained, counterWord_of_chained chained, get_count_of_chained chained]
    generalize Sparse.get s.tally.live 0 (ctrId c inst) = v
    refine ⟨by omega, ?_⟩
    by_cases wraps : v % 2 ^ 48 = 2 ^ 48 - 1
    · have e : (v % 2 ^ 48 == 2 ^ 48 - 1) = true := beq_iff_eq.mpr wraps
      rw [e, b2n, if_pos rfl]
      omega
    · have e : (v % 2 ^ 48 == 2 ^ 48 - 1) = false := beq_eq_false_iff_ne.mpr wraps
      rw [e, b2n, if_neg Bool.false_ne_true]
      omega
  · rw [counterWord_of_single single high, get_count_of_single single]
    generalize Sparse.get s.tally.live 0 (ctrId c inst) = v
    have e : (min (v + 1) (2 ^ 48 - 1) == 2 ^ 48 - 1) = decide (2 ^ 48 - 1 ≤ v + 1) := by
      rw [Bool.eq_iff_iff, beq_iff_eq, decide_eq_true_iff]
      exact min_eq_right_iff
    rw [e, Nat.mod_eq_of_lt (by omega)]

/-! ### Interrupts (R458) -/

theorem testBit_bitsOf_zero {w hi m : Nat} (h : m ≤ hi) : (bitsOf w hi 0).testBit m = bitOf w m := by
  simp only [bitsOf, bitOf, Nat.pow_zero, Nat.div_one, Nat.testBit_mod_two_pow]
  rw [decide_eq_true (show m < hi + 1 - 0 by omega), Bool.true_and]

/-- A field's bits after one of them has been set. -/
theorem bitOf_setIn {f : Fld} {n m : Nat} (s : State) (h : f.lo = 0) (h' : f.hi < 32) (hn : n ≤ f.hi) (hm : m ≤ f.hi) :
    bitOf ((s.setIn f n).word f.addr) m = (bitOf (s.word f.addr) m || decide (n = m)) := by
  have room : setBit (s.rd f) n < 2 ^ (f.hi + 1 - f.lo) :=
    Nat.or_lt_two_pow (rd_lt s f) (Nat.pow_lt_pow_right (by decide) (by omega))
  have field : (s.setIn f n).rd f = setBit (s.rd f) n := rd_wr_same s (by omega) h' room
  calc bitOf ((s.setIn f n).word f.addr) m = ((s.setIn f n).rd f).testBit m := by
        rw [rd, h, testBit_bitsOf_zero hm]
    _ = ((s.rd f).testBit m || decide (n = m)) := by rw [field, setBit, Nat.testBit_or, Nat.testBit_two_pow]
    _ = (bitOf (s.word f.addr) m || decide (n = m)) := by rw [rd, h, testBit_bitsOf_zero hm]

/-- Raising an interrupt sets its bit alone. -/
theorem bitOf_raise {n m : Nat} (s : State) (hn : n < 21) (hm : m < 21) :
    bitOf ((s.raise n).word A.DEV_INT_STATUS) m = (bitOf (s.word A.DEV_INT_STATUS) m || decide (n = m)) := by
  rw [word_raise (by decide) (by decide) (by decide) (by decide)]
  exact bitOf_setIn (f := F.DEV_INT_STATUS_INT) s rfl (by decide) (Nat.le_of_lt_succ hn) (Nat.le_of_lt_succ hm)

/-- INT_N is high where no bit is both set and enabled. -/
theorem intN_iff (s : State) : s.intN = true ↔
    ∀ m, m < 21 → bitOf (s.word A.DEV_INT_STATUS) m = true → bitOf (s.word A.DEV_INT_EN) m = false := by
  have status {m : Nat} (h : m < 21) : (s.rd F.DEV_INT_STATUS_INT).testBit m = bitOf (s.word A.DEV_INT_STATUS) m :=
    testBit_bitsOf_zero (Nat.le_of_lt_succ h)
  have enabled {m : Nat} (h : m < 21) : (s.rd F.DEV_INT_EN_EN).testBit m = bitOf (s.word A.DEV_INT_EN) m :=
    testBit_bitsOf_zero (Nat.le_of_lt_succ h)
  rw [intN, beq_iff_eq]
  constructor
  · intro none m hm set
    have both := congrArg (Nat.testBit · m) none
    simp only [Nat.testBit_and, status hm, enabled hm, set, Bool.true_and, Nat.zero_testBit] at both
    exact both
  · intro clear
    refine Nat.zero_of_testBit_eq_false fun m => ?_
    rw [Nat.testBit_and]
    by_cases hm : m < 21
    · rw [status hm, enabled hm, Bool.and_eq_false_imp]
      exact clear m hm
    · have small : s.rd F.DEV_INT_STATUS_INT < 2 ^ m :=
        (rd_lt s _).trans_le (Nat.pow_le_pow_right (by decide) (Nat.not_lt.mp hm))
      rw [Nat.testBit_lt_two_pow small, Bool.false_and]

/-- Settles O55: the word of DEV_INT_STATUS after the raise, bit by bit, and INT_N by the bits. -/
theorem raisingAnInterruptSetsItsBit : Obligations.RaisingAnInterruptSetsItsBit := by
  refine fun n s hn => ⟨?_, fun m hm other => ?_, intN_iff s⟩
  · rw [bitOf_raise s hn hn, decide_eq_true rfl, Bool.or_true]
  · rw [bitOf_raise s hn hm, decide_eq_false (Ne.symm other), Bool.or_false]

/-! ### The fault log (R326, R328) -/

/-- An entry becomes the newest of a ring that has room. -/
theorem logEntry_of_room {s : State} (room : s.cmd.faults.length < 16) (address code source core seq opcode : Nat) :
    s.logEntry address code source core seq opcode =
      ({ s with cmd := { s.cmd with faults := s.cmd.faults ++
          [(⟨address % 2 ^ 32, code, source, core, seq, opcode, s.sec, s.nsec, s.frac⟩ : FaultEntry)] } } : State).wr
        F.CMD_STATUS_FAULT_ENTRIES (s.cmd.faults.length + 1) := by
  simp only [logEntry, room, if_true, List.length_append, List.length_singleton]

/-- A full ring loses its oldest for the newest. -/
theorem logEntry_of_full {s : State} (full : s.cmd.faults.length = 16) (address code source core seq opcode : Nat) :
    (s.logEntry address code source core seq opcode).cmd.faults = s.cmd.faults.tail ++
      [⟨address % 2 ^ 32, code, source, core, seq, opcode, s.sec, s.nsec, s.frac⟩] := by
  simp only [logEntry, full, Nat.lt_irrefl, if_false, List.drop_one]
  unfold bump
  split <;> rfl

/-- Settles O56: by whether the ring has room. -/
theorem faultLogKeepsTheNewestSixteen : Obligations.FaultLogKeepsTheNewestSixteen := by
  rintro address code source core seq opcode s r e bound rfl rfl
  refine ⟨?_, fun room => ?_, fun full => logEntry_of_full full ..⟩
  · rcases Nat.lt_or_eq_of_le bound with room | full
    · rw [logEntry_of_room room, wr_cmd, List.length_append]
      exact room
    · rw [logEntry_of_full full, List.length_append, List.length_tail, full, List.length_singleton]
  · rw [logEntry_of_room room]
    exact ⟨rfl, rd_wr_same _ (by decide) (by decide) ((Nat.succ_lt_succ room).trans (by decide))⟩

end Sys2Proof.Machine
end

section
/-! SUPPORT. Proofs of the commands family: steps 4 to 8 of Table 13-3 (R319, R440). -/

namespace Sys2Proof.Machine

open State

/-- Settles O10: every row receives its packet in the same way. -/
theorem acceptedRequestsRunTheirOpcode : Obligations.AcceptedRequestsRunTheirOpcode := by
  intro i sp q s b row runs
  rw [exec_request row]
  exact request_runs runs

namespace State

theorem countN_cord (c : Ctr) (inst n : Nat) (s : State) : (s.countN c inst n).cord = s.cord := by
  unfold countN
  dsimp only
  split
  · rfl
  · split <;> rfl

theorem countPacket_cord (q : Req) (s : State) : (s.countPacket q).cord = s.cord := by
  unfold countPacket countBytes
  dsimp only
  split
  · rw [countN_cord, count, countN_cord]
  · exact countN_cord _ _ _ s

theorem coreBusy_countPacket (q : Req) (core : Nat) (s : State) : (s.countPacket q).coreBusy core = s.coreBusy core := by
  unfold coreBusy
  rw [countPacket_cord]

variable {a b : State} {sp : OpSpec} {q : Req} {k : KeptReply}

/-- A packet that is received, addressed to the device and finds its core idle goes on to step 4 of Table 13-3. -/
theorem request_of_idle (received : a.receives q.src = true) (addressed : a.addressed q.src = true)
    (idle : a.coreBusy q.src.core = false) :
    a.request sp q = (a.countPacket q).accept sp.opcode q (fun s => (s.carryOut sp q).recipeResume) := by
  rw [← coreBusy_countPacket q] at idle
  simp only [request, receiveWith, received, addressed, idle, Bool.not_true, Bool.false_eq_true, if_false]

/-- A repeated request is counted, and the kept reply sent again, or not where it is OK and QUIET asks for none. -/
theorem accept_of_duplicate {run : State → State} {op : Nat} (reply : q.flags % 2 = 0) (h : b.duplicateOf q = some k) :
    b.accept op q run = if k.reply.status = St.ok ∧ q.flags / 2 % 2 = 1 then b.count ⟨0x0D, 3⟩ q.src.core
      else (b.count ⟨0x0D, 3⟩ q.src.core).deliver q.src k.reply := by
  have request : ¬ q.flags % 2 = 1 := by omega
  simp only [accept, request, h, if_false]

/-- A request of a right header goes on to step 8. -/
theorem accept_of_new {run : State → State} {op : Nat} (flags : q.flags = 0) (status : q.status = 0)
    (version : q.version = 1 ∨ q.version = 2) (h : b.duplicateOf q = none) : b.accept op q run = run b := by
  have known : ¬ (q.version ≠ 1 ∧ q.version ≠ 2) := by omega
  simp [accept, flags, status, known, h]

/-- A kept reply is found by its source, its SEQUENCE and its age. -/
theorem duplicateOf_some (h : b.duplicateOf q = some k) :
    sameSource k.src q.src = true ∧ k.seq = q.seq ∧ b.now ≤ k.formedAt + 2000000000 := by
  have found := List.find?_some h
  simp only [Bool.and_eq_true, beq_iff_eq, decide_eq_true_eq] at found
  exact ⟨found.1.1, found.1.2, found.2⟩

/-- A request that steps 8 to 12 refuse here is answered with the refusal. -/
theorem carryOut_refused {status address : Nat} (here : b.route sp.opcode q = .here)
    (refused : b.checks8to12 sp q = some (status, address)) :
    (b.carryOut sp q).recipeResume = b.concluded sp q (OpResult.refuse status address b) := by
  simp only [carryOut, here, runHere, refused, concluded]

/-- In SELFTEST and before the self-test's end a request is answered here. -/
theorem route_of_testing (h : b.testing = true) (op : Nat) (q : Req) : b.route op q = .here := by
  simp [route, h]

theorem checks8to12_of_testing (h : b.testing = true) : b.checks8to12 sp q = some (St.busy, 0) := by
  simp only [checks8to12, h, if_true]

/-- SAFE refuses what Table 13-5 does not mark SAFE. -/
theorem checks8to12_of_safe (mode : b.mode = Mode.safe) (up : b.boot.phase = BootPhase.up) (unmarked : sp.safe = false) :
    b.checks8to12 sp q = some (St.safe, 0) := by
  have ready : b.testing = false := by
    unfold testing
    rw [mode, up]
    rfl
  simp only [checks8to12, ready, mode, up, unmarked, Bool.false_eq_true, if_false, reduceCtorEq, false_and, Bool.not_false,
    and_self, ne_eq, not_false_eq_true, if_true]

theorem testing_iff : b.testing = true ↔ b.boot.phase = BootPhase.starting ∨ b.mode = Mode.selftest := by
  rw [testing, Bool.or_eq_true, beq_iff_eq, beq_iff_eq, or_comm]

end State

/-- Settles O57: the kept reply is found at step 5 of Table 13-3. -/
theorem repeatedRequestsAreNotExecuted : Obligations.RepeatedRequestsAreNotExecuted := by
  rintro i sp q s b k row received addressed idle reply rfl kept
  obtain ⟨source, seq, recent⟩ := duplicateOf_some kept
  refine ⟨source, seq, recent, fun ok quiet => ?_, fun loud => ?_⟩
  all_goals rw [exec_request row, run_gives, request_of_idle received addressed idle, accept_of_duplicate reply kept]
  · rw [if_pos ⟨ok, quiet⟩]
  · rw [if_neg (by rintro ⟨ok, quiet⟩; rcases loud with h | h <;> omega)]

/-- A new request of a right header that steps 8 to 12 refuse here is concluded with the refusal. -/
theorem exec_refused {i : Instr} {sp : OpSpec} {q : Req} {s b : State} {status address : Nat}
    (row : requestOf i = some (sp, q)) (received : (s.arrive i.time).receives q.src = true)
    (addressed : (s.arrive i.time).addressed q.src = true) (idle : (s.arrive i.time).coreBusy q.src.core = false)
    (flags : q.flags = 0) (zero : q.status = 0) (version : q.version = 1 ∨ q.version = 2)
    (hb : b = (s.arrive i.time).countPacket q) (new : b.duplicateOf q = none) (here : b.route sp.opcode q = .here)
    (refused : b.checks8to12 sp q = some (status, address)) :
    exec i s = gives i.time s (b.concluded sp q (OpResult.refuse status address b)) := by
  subst hb
  rw [exec_request row, run_gives, request_of_idle received addressed idle, accept_of_new flags zero version new,
    carryOut_refused here refused]

/-- Settles O58: step 8 of Table 13-3, in SELFTEST and in SAFE. -/
theorem selfTestAndSafeRefuse : Obligations.SelfTestAndSafeRefuse := by
  intro i sp q s b row received addressed idle flags zero version hb new
  refine ⟨fun busy => ?_, fun safe unmarked up here => ?_⟩
  · have testing : b.testing = true := testing_iff.mpr busy
    exact exec_refused row received addressed idle flags zero version hb new (route_of_testing testing _ _)
      (checks8to12_of_testing testing)
  · exact exec_refused row received addressed idle flags zero version hb new here (checks8to12_of_safe safe up unmarked)

end Sys2Proof.Machine
end

section
/-! SUPPORT. Proofs of the commands family: the mode and calibration opcodes (R334, R335, R388, R402, R446). -/

namespace Sys2Proof.Machine

namespace State

variable {q : Req} {s c : State}

/-- R446: a listed transition that nothing refuses starts. -/
theorem opModeSet_starts (hv : q.version = 2) (hm : q.arg 0 ≤ 7) (ht : s.flag F.DEV_MODE_TRANS = false)
    (hl : transitionListed s.mode (q.arg 0) = true)
    (exit : s.mode = Mode.safe → q.arg 0 ≠ Mode.safe → s.exitRefused (q.arg 0) = false)
    (entry : firingMode (q.arg 0) = true → s.flag F.DEV_STATUS_COMMITTED = true ∧
      s.entryRefused (q.arg 0) (decide (q.path / 2 ^ 28 = 15)) = false) :
    opModeSet q s = OpResult.ok (s.startTransition (q.arg 0)) := by
  have leaves : ¬ (s.mode = Mode.safe ∧ q.arg 0 ≠ Mode.safe ∧ s.exitRefused (q.arg 0) = true) := by
    rintro ⟨safe, other, refused⟩
    exact Bool.false_ne_true ((exit safe other).symm.trans refused)
  have enters : (firingMode (q.arg 0) && (!s.flag F.DEV_STATUS_COMMITTED ||
      s.entryRefused (q.arg 0) (decide (q.version ≠ 1) && decide (q.path / 2 ^ 28 = 15)))) = false := by
    cases firing : firingMode (q.arg 0) with
    | false => rfl
    | true =>
      obtain ⟨committed, accepted⟩ := entry firing
      simpa [committed, hv] using accepted
  have first : ¬ q.version = 1 := by omega
  simp only [opModeSet, Nat.not_lt.mpr hm, first, false_and, ht, hl, leaves, enters, if_false, Bool.false_eq_true,
    Bool.not_true]

/-- R334: a confirmed RESET is owed. -/
theorem opReset_owed (h : q.arg 0 = 0xA5A5) :
    opReset q s = OpResult.ok { s with boot := { s.boot with resetDue := .command, replyEnd := s.now } } := by
  simp only [opReset, resetWordArg, h, ne_eq, not_true_eq_false, if_false]

/-- R335: COMMIT in CONFIG, with its checks passed and room in the journal. -/
theorem opCommit_ok (mode : s.mode = Mode.config) (passed : s.commitCheck = (c, none))
    (room : c.commitItems ≠ [] → c.journalFull = false) :
    opCommit q s = OpResult.ok ((c.wr F.DEV_STATUS_COMMITTED 1).trialDone.commitRate.journal c.commitItems) := by
  have fits : (!c.commitItems.isEmpty && c.journalFull) = false := by
    cases items : c.commitItems with
    | nil => rfl
    | cons x l => rw [room (by simp [items]), Bool.and_false]
  simp only [opCommit, mode, ne_eq, not_true_eq_false, if_false, passed, fits, Bool.false_eq_true]

/-- A kind mask without PICKOFF is good for every path. -/
theorem kindsOk_of_small {k : Nat} (low : 1 ≤ k) (high : k < 8) (p : UPath) : kindsOk k p = true := by
  have octants : bitOf k 3 = false := Nat.testBit_lt_two_pow high
  simp only [kindsOk, octants, show 0 < k from low, show k < 16 by omega, decide_true, Bool.not_false, Bool.true_or,
    Bool.and_true]

theorem lt_of_kindsOk {k : Nat} {p : UPath} (h : kindsOk k p = true) : k < 16 := by
  simp only [kindsOk, Bool.and_eq_true, decide_eq_true_eq] at h
  exact h.1.2

theorem bitOf_three_of_kinds {k : Nat} (low : 8 ≤ k) (high : k < 16) : bitOf k 3 = true := by
  simp only [bitOf, Nat.testBit_eq_decide_div_mod_eq, decide_eq_true_eq]
  omega

/-- R388: what CAL_RUN makes pending, where no octant that it addresses is refused. -/
theorem opCalRun_ok (kinds : kindsOk (q.arg 0) (UPath.ofNat q.path) = true)
    (free : (UPath.ofNat q.path).octants.all (fun g => (s.calRefusal g).isNone) = true)
    (pends : c = if q.arg 0 % 8 = 0 then s
      else (UPath.ofNat q.path).octants.foldl (fun s g => s.addPend g (q.arg 0 % 8)) s) :
    opCalRun q s = OpResult.ok (if bitOf (q.arg 0) 3 then (c.wr F.CAL_DEV_PKO_PEND 1).pkoPoll else c).refreshWait := by
  have none : (UPath.ofNat q.path).octants.find? (fun g => (s.calRefusal g).isSome) = none := by
    rw [List.find?_eq_none]
    intro g hg
    rw [List.all_eq_true] at free
    rw [Option.isNone_iff_eq_none.mp (free g hg)]
    exact Bool.false_ne_true
  simp only [opCalRun, kinds, Bool.not_true, Bool.false_eq_true, if_false, none, pends]

/-- R402: the starter set of the octants addressed comes into force. -/
theorem opCalStarter_ok (kinds : kindsOk (q.arg 0) (UPath.ofNat q.path) = true)
    (still : s.quiet = true ∨ s.mode = Mode.service) (room : s.journalFull = false) :
    opCalStarter q s = OpResult.ok (s.calStarter (UPath.ofNat q.path).octants (q.arg 0)) := by
  have allowed : (s.quiet || s.mode == Mode.service) = true := by
    rw [Bool.or_eq_true, beq_iff_eq]
    exact still
  simp only [opCalStarter, kinds, allowed, room, Bool.not_true, Bool.false_eq_true, if_false]

end State

/-- Settles O15: each opcode's answer, given what the statement asks of the packet and of the state. -/
theorem modeAndCalibrationOpcodesComplete : Obligations.ModeAndCalibrationOpcodesComplete := by
  refine ⟨fun t q s b c => ⟨?modeSet, ?modeGet, ?reset, ?commit⟩,
    fun t q s b c => ⟨?calRun, ?calPickoff, ?calStatus, ?calStarter⟩⟩
  case modeSet =>
    intro h hv hm ht hl exit entry
    exact exec_gives_result_two (i := .modeSet t q) rfl hv h (State.opModeSet_starts hv hm ht hl exit entry)
  case modeGet =>
    intro h
    exact exec_gives_result (i := .modeGet t q) rfl h rfl
  case reset =>
    intro h confirmed
    exact exec_gives_result (i := .reset t q) rfl h (State.opReset_owed ((asLocal_arg q b 0).trans confirmed))
  case commit =>
    intro h mode passed room
    exact exec_gives_result (i := .commit t q) rfl h (State.opCommit_ok (q := asLocal q b) mode passed room)
  case calRun =>
    intro h hv low high free
    have kinds := State.kindsOk_of_small low high (UPath.ofNat q.path)
    have octants : bitOf (q.arg 0) 3 = false := Nat.testBit_lt_two_pow high
    refine exec_gives_result_two (i := .calRun t q) rfl hv h ((State.opCalRun_ok kinds free rfl).trans ?_)
    simp only [octants, Bool.false_eq_true, if_false, Nat.mod_eq_of_lt high, show ¬ q.arg 0 = 0 by omega]
  case calPickoff =>
    rintro h hv low kinds free rfl
    have high := State.lt_of_kindsOk kinds
    refine exec_gives_result_two (i := .calRun t q) rfl hv h ((State.opCalRun_ok kinds free rfl).trans ?_)
    have rest : q.arg 0 % 8 = q.arg 0 - 8 := by omega
    have none : q.arg 0 - 8 = 0 ↔ q.arg 0 = 8 := by omega
    simp only [State.bitOf_three_of_kinds low high, if_true, rest, none]
  case calStatus =>
    intro h hv
    exact exec_gives_result_two (i := .calStatus t q) rfl hv h rfl
  case calStarter =>
    intro h hv kinds still room
    exact exec_gives_result_two (i := .calStarter t q) rfl hv h (State.opCalStarter_ok kinds still room)

end Sys2Proof.Machine
end

section
/-! SUPPORT. Proofs of the commands family: the opcodes of the store, of the reports and of the recipes (R328, R336 to
R340, R352, R358, R412, R417 to R420, R429 to R431, R443). -/

namespace Sys2Proof.Machine

/-! These opcodes read no path: they answer alike on a packet and on its local form (R343). -/

theorem imageWrite_core (q : Req) (b : State) : Op.imageWrite.core (asLocal q b) b = State.opImageWrite q b := by
  simp [Op.imageWrite, plain, State.opImageWrite]

theorem imageActivate_core (q : Req) (b : State) : Op.imageActivate.core (asLocal q b) b = State.opImageActivate q b := by
  simp [Op.imageActivate, plain, State.opImageActivate]

theorem lifeRead_core (q : Req) (b : State) : Op.lifeRead.core (asLocal q b) b = State.opLifeRead q b := by
  simp [Op.lifeRead, plain, State.opLifeRead]

theorem tallyRead_core (q : Req) (b : State) : Op.tallyRead.core (asLocal q b) b = State.opTallyRead q b := by
  simp [Op.tallyRead, plain, State.opTallyRead]

theorem cordReset_core (q : Req) (b : State) : Op.cordReset.core (asLocal q b) b = State.opCordReset q b := by
  simp [Op.cordReset, plain, State.opCordReset]

theorem timeOfDay_core (q : Req) (b : State) : Op.timeOfDay.core (asLocal q b) b = State.opTimeOfDay q b := by
  simp [Op.timeOfDay, plain, State.opTimeOfDay]

theorem recipeStore_core (q : Req) (b : State) : Op.recipeStore.core (asLocal q b) b = State.opRecipeStore q b := by
  simp [Op.recipeStore, plain, State.opRecipeStore]

theorem recipeRead_core (q : Req) (b : State) : Op.recipeRead.core (asLocal q b) b = State.opRecipeRead q b := by
  simp [Op.recipeRead, plain, State.opRecipeRead]

theorem recipeEnable_core (q : Req) (b : State) : Op.recipeEnable.core (asLocal q b) b = State.opRecipeEnable q b := by
  simp [Op.recipeEnable, plain, State.opRecipeEnable]

theorem recipeDelete_core (q : Req) (b : State) : Op.recipeDelete.core (asLocal q b) b = State.opRecipeDelete q b := by
  simp [Op.recipeDelete, plain, State.opRecipeDelete]

theorem recipeRun_core (q : Req) (b : State) : Op.recipeRun.core (asLocal q b) b = State.opRecipeRun q b := by
  simp [Op.recipeRun, plain, State.opRecipeRun]

namespace State

variable {q : Req} {s : State} {r : Recipe}

/-! ### The store (R412, R417, R418, R420) -/

section
variable (slot : q.arg 0 ≤ 1) (aligned : q.arg 1 % 4 = 0)
  (fits : q.arg 1 + 4 * (q.payload.drop 2).length ≤ 2097152) (spare : s.slotInUse (q.arg 0) = false)
  (still : s.quiet = true ∨ s.mode = Mode.service ∨ s.boot.phase = BootPhase.romSafe)
include slot aligned fits spare still

/-- R417: what an image write of a right form into the slot not in use passes. -/
theorem imageWrite_passes :
    ¬ (1 < q.arg 0 ∨ q.arg 1 % 4 ≠ 0 ∨ 2097152 < q.arg 1 + 4 * (q.payload.drop 2).length) ∧
    s.slotInUse (q.arg 0) = false ∧ (s.quiet || s.mode == Mode.service || s.boot.phase == BootPhase.romSafe) = true := by
  refine ⟨by omega, spare, ?_⟩
  simp only [Bool.or_eq_true, beq_iff_eq, or_assoc]
  exact still

theorem opImageWrite_stores (other : s.nvs.pendingSel.map (fun x => x.slot) ≠ some (q.arg 0)) :
    opImageWrite q s = OpResult.ok { s with nvs := { s.nvs with
      slots := putImage (q.arg 0) (q.arg 1 / 4) (q.payload.drop 2) s.nvs.slots } } := by
  obtain ⟨form, free, allowed⟩ := imageWrite_passes slot aligned fits spare still
  simp only [opImageWrite, form, free, allowed, Bool.not_true, Bool.false_eq_true, if_false]
  cases sel : s.nvs.pendingSel with
  | none => rfl
  | some x =>
    rw [sel] at other
    have apart : (x.slot == q.arg 0) = false := beq_eq_false_iff_ne.mpr fun e => other (congrArg some e)
    simp only [apart, Bool.false_eq_true, if_false]

theorem opImageWrite_cancels (same : s.nvs.pendingSel.map (fun x => x.slot) = some (q.arg 0)) :
    opImageWrite q s = OpResult.ok (wr F.NVS_BOOT_NEXT_SLOT (s.rd F.NVS_BOOT_SLOT)
      { s with nvs := { s.nvs with
        slots := putImage (q.arg 0) (q.arg 1 / 4) (q.payload.drop 2) s.nvs.slots
        pendingSel := none } }) := by
  obtain ⟨form, free, allowed⟩ := imageWrite_passes slot aligned fits spare still
  obtain ⟨x, sel, slot'⟩ := Option.map_eq_some_iff.mp same
  simp only [opImageWrite, form, free, allowed, sel, slot', beq_self_eq_true, Bool.not_true, Bool.false_eq_true, if_false,
    if_true]
  rfl

end

/-- R418: an image whose CRC matches is selected, and the selection journalled. -/
theorem opImageActivate_selects (slot : q.arg 0 ≤ 1) (aligned : q.arg 1 % 4 = 0) (some1 : 1 ≤ q.arg 1)
    (fits : q.arg 1 ≤ 2097152) (spare : s.slotInUse (q.arg 0) = false)
    (crc : slotCrc s.nvs.slots (q.arg 0) (q.arg 1) = q.arg 2) (room : s.journalFull = false) :
    opImageActivate q s = OpResult.ok (((wr F.NVS_BOOT_NEXT_SLOT (q.arg 0)
        { s with nvs := { s.nvs with pendingSel := some ⟨q.arg 0, q.arg 1, q.arg 2⟩ } }).calendarAdd 2 (q.arg 0)).journal
      [⟨6, 0, [q.arg 0, q.arg 1, q.arg 2]⟩]) := by
  have form : ¬ (1 < q.arg 0 ∨ q.arg 1 % 4 ≠ 0 ∨ q.arg 1 = 0 ∨ 2097152 < q.arg 1) := by omega
  simp only [opImageActivate, form, spare, crc, room, ne_eq, not_true_eq_false, Bool.false_eq_true, if_false]

theorem opLifeRead_words (some1 : 1 ≤ q.arg 1) (most : q.arg 1 ≤ 2048) (inside : q.arg 0 + q.arg 1 ≤ 262144) :
    opLifeRead q s = OpResult.reply ((List.range (q.arg 1)).map (fun i => s.lifeWord (q.arg 0 + i))) s := by
  have form : ¬ (q.arg 1 = 0 ∨ 2048 < q.arg 1 ∨ 262144 < q.arg 0 + q.arg 1) := by omega
  simp only [opLifeRead, form, if_false]

theorem opCompact_starts (idle : s.flag F.NVS_STATUS_COMPACTING = false) :
    opCompact q s = OpResult.ok s.startCompaction := by
  simp only [opCompact, idle, Bool.false_eq_true, if_false]

/-! ### Reports (R336, R352, R358, R429) -/

/-- R429: the counters of the sequence that a counter of the map begins. -/
theorem opTallyRead_counters {l : List (Nat × Nat)} (some1 : 1 ≤ q.arg 1) (most : q.arg 1 ≤ 1024)
    (zero : q.arg 0 / 16 % 16 = 0) (unit : q.arg 0 / 2 ^ 8 % 2 ^ 16 < tallyInst (q.arg 0 / 2 ^ 24))
    (index : q.arg 0 % 16 < tallyCount (q.arg 0 / 2 ^ 24) (q.arg 0 / 2 ^ 8 % 2 ^ 16))
    (row : counterSeq (q.arg 0 / 2 ^ 24) (q.arg 0 / 2 ^ 8 % 2 ^ 16) (q.arg 0 % 16) (q.arg 1) = some l) :
    opTallyRead q s = OpResult.reply (l.flatMap (fun p => split64 (counterWord
      (if tallyClassC (q.arg 0 / 2 ^ 24) then s.tally.snap else s.tally.live)
      (q.arg 0 / 2 ^ 24) p.1 p.2 (tallyClassC (q.arg 0 / 2 ^ 24))))) s := by
  have form : ¬ (q.arg 1 = 0 ∨ 1024 < q.arg 1 ∨ q.arg 0 / 16 % 16 ≠ 0 ∨
      tallyInst (q.arg 0 / 2 ^ 24) ≤ q.arg 0 / 2 ^ 8 % 2 ^ 16 ∨
      tallyCount (q.arg 0 / 2 ^ 24) (q.arg 0 / 2 ^ 8 % 2 ^ 16) ≤ q.arg 0 % 16) := by omega
  simp only [opTallyRead, form, if_false, row]

theorem opCordStatus_word (strapped : s.flag F.CORD_STRAPS_ROLE = true) :
    opCordStatus q s = OpResult.reply [s.cordWord] s := by
  simp only [opCordStatus, strapped, if_true]

/-- R358: the master owes the marker. -/
theorem opCordReset_owed (confirmed : q.arg 0 = 0xA5A5) (master : s.isMaster = true) :
    opCordReset q s = OpResult.ok { s with
      boot := { s.boot with replyEnd := s.now }
      cord := { s.cord with resetOwed := true } } := by
  simp only [opCordReset, resetWordArg, confirmed, master, ne_eq, not_true_eq_false, if_false, if_true]

/-- R336: the second of the next pulse. -/
theorem opTimeOfDay_second (source : s.rd F.TIME_SYNC_CTRL_SYNC_SRC = 2) (high : q.arg 0 < 2 ^ 16) :
    opTimeOfDay q s = OpResult.ok { s with time := { s.time with todSec := some (q.arg 0 * 2 ^ 32 + q.arg 1) } } := by
  simp only [opTimeOfDay, source, Nat.not_le.mpr high, ne_eq, not_true_eq_false, if_false]

/-! ### Recipes (R337, R338, R340) -/

/-- R337: a recipe of the right form is stored, enabled or disabled, and journalled. -/
theorem opRecipeStore_stores (form : parseRecipe q.payload = some r) (ranks : s.ranksOk [] r.steps = true)
    (idle : s.recipeBusy r.number = false) (room : s.journalFull = false) :
    opRecipeStore q s = OpResult.ok
      ((if bitOf (q.arg 2) 0 then ((s.putRecipe r.number (some r)).setEnabled r.number true).recipeEnabledNow r.number
        else (s.putRecipe r.number (some r)).setEnabled r.number false).journal (recipeItems r.number r.words)) := by
  simp only [opRecipeStore, form, ranks, idle, room, Bool.not_true, Bool.false_eq_true, if_false]
  cases bitOf (q.arg 2) 0 <;> rfl

theorem opRecipeRead_words (held : s.recipe? (q.arg 0) = some r) : opRecipeRead q s = OpResult.reply r.words s := by
  simp only [opRecipeRead, held]

theorem opRecipeEnable_writes (number : q.arg 0 < 64) (value : q.arg 1 < 2)
    (held : q.arg 1 = 1 → s.recipe? (q.arg 0) = some r) :
    opRecipeEnable q s = OpResult.ok (s.setEnabled (q.arg 0) (q.arg 1 == 1)) := by
  have form : ¬ (64 ≤ q.arg 0 ∨ 2 ≤ q.arg 1 ∨ (q.arg 1 = 1 ∧ (s.recipe? (q.arg 0)).isNone)) := by
    rintro (h | h | ⟨enable, none⟩)
    · omega
    · omega
    · rw [held enable] at none
      cases none
  simp only [opRecipeEnable, form, if_false]

theorem opRecipeDelete_deletes {c : State} (held : s.recipe? (q.arg 0) = some r) (room : s.journalFull = false)
    (taken : c = (s.setEnabled (q.arg 0) false).putRecipe (q.arg 0) none) :
    opRecipeDelete q s = OpResult.ok
      ((wr F.CMD_RECIPE_QUEUED (c.cmd.queue.filter (fun x => x != q.arg 0)).length
        { c with cmd := { c.cmd with queue := c.cmd.queue.filter (fun x => x != q.arg 0) } }).journal
          [⟨4, q.arg 0, [0]⟩]) := by
  simp only [opRecipeDelete, held, room, taken, Option.isNone_some, Bool.false_eq_true, if_false]

theorem opRecipeRun_queues (held : s.recipe? (q.arg 0) = some r) :
    opRecipeRun q s = OpResult.ok (s.queueRecipe (q.arg 0)) := by
  simp only [opRecipeRun, held, Option.isNone_some, Bool.false_eq_true, if_false]

end State

/-- Settles O16: each opcode's answer, given what the statement asks of the packet and of the state. -/
theorem storeOpcodesComplete : Obligations.StoreOpcodesComplete := by
  refine fun t q s b => ⟨?write, ?cancel, ?activate, ?lifeRead, ?compact⟩
  case write =>
    intro h slot aligned fits spare still other
    exact exec_gives_result (i := .nvsImageWrite t q) rfl h
      ((imageWrite_core q b).trans (State.opImageWrite_stores slot aligned fits spare still other))
  case cancel =>
    intro h slot aligned fits spare still same
    exact exec_gives_result (i := .nvsImageWrite t q) rfl h
      ((imageWrite_core q b).trans (State.opImageWrite_cancels slot aligned fits spare still same))
  case activate =>
    intro h slot aligned some1 fits spare crc room
    exact exec_gives_result (i := .nvsImageActivate t q) rfl h
      ((imageActivate_core q b).trans (State.opImageActivate_selects slot aligned some1 fits spare crc room))
  case lifeRead =>
    intro h some1 most inside
    exact exec_gives_result (i := .nvsLifeRead t q) rfl h
      ((lifeRead_core q b).trans (State.opLifeRead_words some1 most inside))
  case compact =>
    intro h idle
    exact exec_gives_result (i := .nvsCompact t q) rfl h (State.opCompact_starts (q := asLocal q b) idle)

/-- Settles O17: each opcode's answer; those that ask nothing of the packet or of the state answer as they are defined. -/
theorem reportOpcodesComplete : Obligations.ReportOpcodesComplete := by
  refine ⟨fun t q s b l => ⟨fun h => ?snapshot, ?tallyRead, fun h => ?dump⟩, fun t q s b => ⟨?cordStatus, ?cordReset⟩,
    fun t q s b => ⟨fun h => ?selftest, fun h => ?faultRead, fun h => ?faultClear, fun h => ?ident, fun h => ?timeGet,
      ?timeOfDay⟩⟩
  case snapshot => exact exec_gives_result (i := .tallySnapshot t q) rfl h rfl
  case tallyRead =>
    intro h some1 most zero unit index row
    exact exec_gives_result (i := .tallyRead t q) rfl h
      ((tallyRead_core q b).trans (State.opTallyRead_counters some1 most zero unit index row))
  case dump => exact exec_gives_result (i := .tallyDump t q) rfl h rfl
  case cordStatus =>
    intro h strapped
    exact exec_gives_result (i := .cordStatus t q) rfl h (State.opCordStatus_word (q := asLocal q b) strapped)
  case cordReset =>
    intro h confirmed master
    exact exec_gives_result (i := .cordReset t q) rfl h
      ((cordReset_core q b).trans (State.opCordReset_owed confirmed master))
  case selftest => exact exec_gives_result (i := .selftestReport t q) rfl h rfl
  case faultRead => exact exec_gives_result (i := .faultLogRead t q) rfl h rfl
  case faultClear => exact exec_gives_result (i := .faultLogClear t q) rfl h rfl
  case ident => exact exec_gives_result (i := .ident t q) rfl h rfl
  case timeGet => exact exec_gives_result (i := .timeGet t q) rfl h rfl
  case timeOfDay =>
    intro h source high
    exact exec_gives_result (i := .timeOfDay t q) rfl h
      ((timeOfDay_core q b).trans (State.opTimeOfDay_second source high))

/-- Settles O18: each opcode's answer, given what the statement asks of the packet and of the state. -/
theorem recipeOpcodesComplete : Obligations.RecipeOpcodesComplete := by
  refine fun t q s b c r => ⟨?store, ?read, ?enable, ?delete, ?run⟩
  case store =>
    intro h form ranks idle room
    exact exec_gives_result (i := .recipeStore t q) rfl h
      ((recipeStore_core q b).trans (State.opRecipeStore_stores form ranks idle room))
  case read =>
    intro h held
    exact exec_gives_result (i := .recipeRead t q) rfl h ((recipeRead_core q b).trans (State.opRecipeRead_words held))
  case enable =>
    intro h number value held
    exact exec_gives_result (i := .recipeEnable t q) rfl h
      ((recipeEnable_core q b).trans (State.opRecipeEnable_writes number value held))
  case delete =>
    intro h held room taken
    exact exec_gives_result (i := .recipeDelete t q) rfl h
      ((recipeDelete_core q b).trans (State.opRecipeDelete_deletes held room taken))
  case run =>
    intro h held
    exact exec_gives_result (i := .recipeRun t q) rfl h ((recipeRun_core q b).trans (State.opRecipeRun_queues held))

end Sys2Proof.Machine
end

section
/-! SUPPORT. Proofs of the commands family: the steps of a running recipe (R337, R340 to R342). -/

namespace Sys2Proof.Machine

namespace State

variable {s a : State} {r : RecipeRun} {p : RecipeStep} {w n : Nat}

/-- A step of the recipe's own opcodes acts as that opcode's row says. -/
theorem ownStep_eq {op : Nat} {act : RecipeRun → RecipeStep → State → State} (present : a.presentStep = some (r, p))
    (same : p.opcode = op) : a.ownStep op act = act r p (a.countStep r) := by
  simp only [ownStep, present, same, if_true]

theorem ownStepRefusal_none {ok : Bool} (one : p.payload = [w]) (path : s.pathValid p.path = true) (good : ok = true) :
    s.ownStepRefusal p ok = none := by
  simp only [ownStepRefusal, one, path, good, List.length_singleton, ne_eq, not_true_eq_false, Bool.not_true,
    Bool.false_eq_true, if_false]

section
variable (one : p.payload = [w]) (path : s.pathValid p.path = true)
include one path

theorem recipeAcquire_takes (good : resourceOk w = true) (free : s.resourceBusy (resourceOf w).1 (resourceOf w).2 = false) :
    s.recipeAcquire r p = (s.putRecipeRun { r with held := r.held ++ [resourceOf w] }).stepDone St.ok := by
  have first : p.payload.headD 0 = w := by rw [one]; rfl
  simp only [recipeAcquire, first, ownStepRefusal_none one path good, free, Bool.false_eq_true, if_false]

theorem recipeAcquire_waits (good : resourceOk w = true) (held : s.resourceBusy (resourceOf w).1 (resourceOf w).2 = true)
    (ready : r.wait = .ready) :
    s.recipeAcquire r p = s.putRecipeRun { r with wait := .acquire (resourceOf w).1 (resourceOf w).2 s.now } := by
  have first : p.payload.headD 0 = w := by rw [one]; rfl
  simp only [recipeAcquire, first, ownStepRefusal_none one path good, held, ready, if_true]

theorem recipeRelease_gives (good : resourceOk w = true) : s.recipeRelease r p =
    (s.putRecipeRun { r with held := r.held.filter (fun h => h != resourceOf w) }).stepDone St.ok := by
  have first : p.payload.headD 0 = w := by rw [one]; rfl
  simp only [recipeRelease, first, ownStepRefusal_none one path good]

theorem recipeWait_delays (low : 1 ≤ w) (high : w ≤ 1000000) :
    s.recipeWait r p = s.putRecipeRun { r with wait := .delay (s.now + 1000 * w) } := by
  have first : p.payload.headD 0 = w := by rw [one]; rfl
  have good : (decide (1 ≤ w) && decide (w ≤ 1000000)) = true := by
    rw [Bool.and_eq_true, decide_eq_true_eq, decide_eq_true_eq]
    exact ⟨low, high⟩
  simp only [recipeWait, first, ownStepRefusal_none one path good]

end

/-! ### Ends of steps (R337, R341, R342) -/

theorem waitExpire_next (run : a.cmd.run = some r) (delay : r.wait = .delay n) (more : r.step + 1 < r.steps.length) :
    a.waitExpire = (a.putRecipeRun { r with step := r.step + 1, wait := .ready }).wr F.CMD_RECIPE_STEP (r.step + 1) := by
  simp only [waitExpire, stepDone, run, delay, Nat.not_le.mpr more, ne_eq, not_true_eq_false, if_false]

theorem waitExpire_last (run : a.cmd.run = some r) (delay : r.wait = .delay n) (last : r.steps.length ≤ r.step + 1) :
    a.waitExpire = a.recipeGone := by
  simp only [waitExpire, stepDone, run, delay, last, ne_eq, not_true_eq_false, if_false, if_true]

theorem acquireTimeout_fails {k since : Nat} (run : a.cmd.run = some r) (waits : r.wait = .acquire n k since) :
    a.acquireTimeout = a.recipeFail St.busy := by
  have busy : St.busy ≠ St.ok := by decide
  simp only [acquireTimeout, stepDone, run, waits, busy, ne_eq, not_false_eq_true, if_true]

/-! ### The start of a recipe and of a step (R340) -/

theorem recipeStart_takes {rest : List Nat} {x : Recipe} {b c : State} (idle : a.cmd.run = none)
    (queue : a.cmd.queue = n :: rest) (runs : a.recipesRun = true) (stored : a.recipe? n = some x)
    (hb : b = wr F.CMD_RECIPE_QUEUED rest.length { a with cmd := { a.cmd with queue := rest } })
    (hc : c = { b with cmd := { b.cmd with run := some ⟨n, 0, x.steps, [], .ready⟩ } }) :
    a.recipeStart =
      (((c.wr F.CMD_RECIPE_RUNNING 1).wr F.CMD_RECIPE_NUMBER n).wr F.CMD_RECIPE_STEP 0).recipeEnabledNow n := by
  subst hb hc
  unfold recipeStart
  split
  case h_1 n' rest' _ front =>
    obtain ⟨rfl, rfl⟩ := List.cons.inj (queue.symm.trans front)
    rw [if_pos runs]
    extract_lets _ b
    have kept : b.recipe? n = some x := stored
    rw [kept]
  case h_2 other => exact absurd queue (other n rest idle)

/-- A step of an opcode of Table 13-5 is carried out as a request with SOURCE recipe. -/
theorem recipeStep_requests {sp : OpSpec} (present : a.presentStep = some (r, p)) (row : opSpec p.opcode = some sp) :
    a.recipeStep = ((((a.countStep r).putRecipeRun { r with wait := .reply }).carryOut sp
      ⟨.recipe, 2, 0, 0, 0, p.path, p.payload⟩).recipeResume).drain := by
  have other {op : Nat} (own : opSpec op = none) : ¬ p.opcode = op := by
    rintro rfl
    rw [own] at row
    cases row
  simp only [recipeStep, present, other (op := Op.acquire) rfl, other (op := Op.release) rfl, other (op := Op.wait) rfl,
    if_false, row]

theorem recipeStep_acquire (present : a.presentStep = some (r, p)) (same : p.opcode = Op.acquire) :
    a.recipeStep = a.ownStep Op.acquire recipeAcquire := by
  rw [ownStep_eq present same]
  simp only [recipeStep, present, same, if_true]

theorem recipeStep_release (present : a.presentStep = some (r, p)) (same : p.opcode = Op.release) :
    a.recipeStep = a.ownStep Op.release recipeRelease := by
  have other : Op.release ≠ Op.acquire := by decide
  rw [ownStep_eq present same]
  simp only [recipeStep, present, same, other, if_true, if_false]

theorem recipeStep_wait (present : a.presentStep = some (r, p)) (same : p.opcode = Op.wait) :
    a.recipeStep = a.ownStep Op.wait recipeWait := by
  have other : Op.wait ≠ Op.acquire ∧ Op.wait ≠ Op.release := by decide
  rw [ownStep_eq present same]
  simp only [recipeStep, present, same, other, if_true, if_false]

end State

/-- Two commands of stopping blocks with one effect on the state that they meet. -/
theorem awakeAt_congr {t : Nat} {f g : State → State} {s a : State} (h : State.AwakeAt t s a) (e : f a = g a) :
    awake t f s = awake t g s := by
  rw [awakeAt_gives h, awakeAt_gives h, e]

/-- Settles O19: the steps of the recipe's own opcodes, the ends of steps that wait, and the start of a recipe and of a
step. -/
theorem recipesComplete : Obligations.RecipesComplete := by
  refine ⟨?own, ?ends, ?starts⟩
  case own =>
    rintro t w s a d r p h present one rfl path
    refine ⟨fun same good free => ?acquire, fun same good held ready => ?waits, fun same good => ?release,
      fun same low high => ?wait⟩
    case acquire =>
      exact awakeAt_eq h ((State.ownStep_eq present same).trans (State.recipeAcquire_takes one path good free))
    case waits =>
      exact awakeAt_eq h ((State.ownStep_eq present same).trans (State.recipeAcquire_waits one path good held ready))
    case release => exact awakeAt_eq h ((State.ownStep_eq present same).trans (State.recipeRelease_gives one path good))
    case wait => exact awakeAt_eq h ((State.ownStep_eq present same).trans (State.recipeWait_delays one path low high))
  case ends =>
    intro t n k since s a r h run
    exact ⟨fun delay more => awakeAt_eq h (State.waitExpire_next run delay more),
      fun delay last => awakeAt_eq h (State.waitExpire_last run delay last),
      fun waits => awakeAt_eq h (State.acquireTimeout_fails run waits)⟩
  case starts =>
    intro t n rest s a b c d x r p sp h
    refine ⟨fun idle queue runs stored hb hc => ?start, ?step, fun present same => ?acquire, fun present same => ?release,
      fun present same => ?wait⟩
    case start => exact awakeAt_eq h (State.recipeStart_takes idle queue runs stored hb hc)
    case step =>
      rintro present row rfl
      exact awakeAt_eq h (State.recipeStep_requests present row)
    case acquire => exact awakeAt_congr h (State.recipeStep_acquire present same)
    case release => exact awakeAt_congr h (State.recipeStep_release present same)
    case wait => exact awakeAt_congr h (State.recipeStep_wait present same)

end Sys2Proof.Machine
end

section
/-! SUPPORT. Proofs of the commands family: the transactions of the SPI, the frames of the UART, and steps 1 to 3 of
Table 13-3 (R322, R323, R334). -/

namespace Sys2Proof.Machine

namespace State

variable {a : State} {r : Reply} {rest : List Reply} {bs : List Nat} {k : Nat}

/-! ### The SPI and the UART (R322, R323) -/

theorem spiRead_unknown {clocked : Nat} (other : k ≠ 0xA5) : a.spiRead k clocked = a := by
  simp only [spiRead, other, ne_eq, not_false_eq_true, if_true]

theorem spiRead_empty (none : a.cmd.spiQ = []) : a.spiRead 0xA5 k = { a with cmd := { a.cmd with miso := [0, 0] } } := by
  simp only [spiRead, none, ne_eq, not_true_eq_false, if_false]
  rfl

theorem spiRead_part (queue : a.cmd.spiQ = r :: rest) (hbs : bs = replyOctets r) (short : k < bs.length) :
    a.spiRead 0xA5 k = { a with cmd := { a.cmd with miso := octets 2 bs.length ++ bs.take k } } := by
  subst hbs
  simp only [spiRead, queue, Nat.not_le.mpr short, ne_eq, not_true_eq_false, if_false]

/-- A reply that has been clocked whole leaves the queue, and a reset that waits for it may follow. -/
theorem spiRead_whole (queue : a.cmd.spiQ = r :: rest) (hbs : bs = replyOctets r) (all : bs.length ≤ k) :
    a.spiRead 0xA5 k =
      if toReset r && a.boot.resetReply then
        replyGone { a with cmd := { a.cmd with miso := octets 2 bs.length ++ bs, spiQ := rest } }
      else { a with cmd := { a.cmd with miso := octets 2 bs.length ++ bs, spiQ := rest } } := by
  subst hbs
  simp only [spiRead, queue, all, List.take_of_length_le all, ne_eq, not_true_eq_false, if_false, if_true]

theorem uartError_counts (received : a.receives .uart = true) : a.uartError = a.count ⟨0x0D, 5⟩ 1 := by
  simp only [uartError, received, if_true]

/-! ### Steps 1 to 3 of Table 13-3 -/

/-- A host's packet that is received and addressed to the device is judged by its bytes. -/
theorem malformed_judged {src : Source} (received : a.receives src = true) (host : src.isHost = true)
    (addressed : a.addressed src = true) (bs : List Nat) : a.malformed src bs = a.packetBytes src bs := by
  simp only [malformed, received, host, addressed, Bool.and_true, Bool.not_true, Bool.false_eq_true, if_false]

/-- Step 1: a packet shorter than its frame is dropped and counted. -/
theorem packetBytes_short {src : Source} (short : bs.length < 24) :
    a.packetBytes src bs = (a.countBytes src bs.length).count ⟨0x0D, 2⟩ src.core := by
  simp only [packetBytes, short, if_true]

/-- The reply of steps 2 and 3 with a status: the header of the packet `bs` of the version, flags, sequence and path that
`q` holds. -/
def echoed (q : Req) (bs : List Nat) (status : Nat) : Reply :=
  ⟨q.version, q.flags ||| 1, beNat ((bs.drop 2).take 2), q.seq, q.path, status, beNat ((bs.drop 16).take 4), []⟩

/-- The request that the bytes of a packet spell. -/
def spelled (src : Source) (bs : List Nat) : Req :=
  ⟨src, beNat ((bs.drop 0).take 1), beNat ((bs.drop 1).take 1), beNat ((bs.drop 14).take 2), beNat ((bs.drop 4).take 4),
    beNat ((bs.drop 8).take 4), bytesWords ((bs.drop 20).take (bs.length - 24))⟩

section
variable {src : Source} {len crc : Nat} (whole : 24 ≤ bs.length) (hlen : len = beNat ((bs.drop 12).take 2))
include whole hlen

/-- Step 2: a LENGTH that does not fit is answered BAD_LENGTH. -/
theorem packetBytes_badLength (misfit : len % 4 ≠ 0 ∨ 8192 < len ∨ len ≠ bs.length - 24) :
    a.packetBytes src bs = (a.countBytes src bs.length).echoReply src (echoed (spelled src bs) bs St.badLength) len := by
  subst hlen
  simp only [packetBytes, Nat.not_lt.mpr whole, if_false]
  exact if_pos misfit

/-- Step 3: a wrong CRC is answered CRC. -/
theorem packetBytes_badCrc (words : len % 4 = 0) (most : len ≤ 8192) (fits : len = bs.length - 24)
    (hcrc : crc = beNat ((bs.drop (bs.length - 4)).take 4)) (wrong : crc32c (bs.take (bs.length - 4)) ≠ crc) :
    a.packetBytes src bs = (a.countBytes src bs.length).echoReply src (echoed (spelled src bs) bs St.crc) crc := by
  have right : ¬ (len % 4 ≠ 0 ∨ 8192 < len ∨ len ≠ bs.length - 24) := by omega
  subst hlen
  simp only [packetBytes, Nat.not_lt.mpr whole, if_false]
  refine (if_neg right).trans ?_
  subst hcrc
  exact if_pos wrong

end

end State

/-- Settles O20: a transaction by its command byte and by what it clocks, a frame by the transport, a packet by the step
that it fails. -/
theorem transportCommandsComplete : Obligations.TransportCommandsComplete := by
  refine ⟨?serial, ?packets⟩
  case serial =>
    intro t k s a r rest bs h
    refine ⟨fun other => ?unknown, fun none => ?empty, fun queue hbs short => ?part, fun queue hbs all stays => ?whole,
      fun queue hbs all waits reply => ?reset, fun received => ?frame, fun received => ?gap⟩
    case unknown => exact liveAt_eq h (State.spiRead_unknown other)
    case empty => exact liveAt_eq h (State.spiRead_empty none)
    case part => exact liveAt_eq h (State.spiRead_part queue hbs short)
    case whole =>
      have nothing : (State.toReset r && a.boot.resetReply) = false := by
        rcases stays with e | e <;> rw [e]
        · exact Bool.and_false _
        · exact Bool.false_and _
      exact liveAt_eq h ((State.spiRead_whole queue hbs all).trans (by rw [nothing, if_neg Bool.false_ne_true]))
    case reset =>
      exact liveAt_eq h ((State.spiRead_whole queue hbs all).trans (by rw [reply, waits]; rfl))
    case frame => exact liveAt_eq h (State.uartError_counts received)
    case gap => exact liveAt_eq h (State.uartError_counts received)
  case packets =>
    rintro t len crc src bs s a b q r rfl received host addressed
    have judged : exec (.malformedPacket t src bs) s = gives t s ((s.arrive t).packetBytes src bs) :=
      (run_gives t _ s).trans (congrArg (gives t s) (State.malformed_judged received host addressed bs))
    refine ⟨fun short => ?short, ?whole⟩
    case short => rw [judged, State.packetBytes_short short]
    case whole =>
      rintro whole hlen rfl rfl
      refine ⟨?badLength, ?badCrc⟩
      case badLength =>
        rintro misfit rfl
        exact judged.trans (congrArg (gives t s) (State.packetBytes_badLength whole hlen misfit))
      case badCrc =>
        rintro words most fits hcrc wrong rfl
        exact judged.trans (congrArg (gives t s) (State.packetBytes_badCrc whole hlen words most fits hcrc wrong))

end Sys2Proof.Machine
end

section
/-! SUPPORT. Proofs of the commands family: roll calls, and the requests of a cord on the members and on the coordinator
(R347 to R349, R352, R356). -/

namespace Sys2Proof.Machine

namespace State

variable {a b c d : State}

/-! ### Roll calls (R347, R356) -/

theorem rollCall_sends (master : a.isMaster = true) (runs : a.cordRuns = true) :
    a.rollCall = (a.cordSend (.rollCall [a.memberNo])).count ⟨0x0E, 0⟩ 0 := by
  simp only [rollCall, master, runs, Bool.and_self, if_true]

section
variable {ms : List Nat} (follower : a.isFollower = true) (runs : a.cordRuns = true)
  (up : a.flag (F.CORD_LINK_LINK 0) = true)
include follower runs up

theorem rollCallRx_passes (down : a.flag (F.CORD_LINK_LINK 1) = true) :
    a.rollCallRx ms = a.cordSend (.rollCall (ms ++ [a.memberNo])) := by
  simp only [rollCallRx, follower, runs, up, down, Bool.and_self, if_true]

theorem rollCallRx_returns (last : a.flag (F.CORD_LINK_LINK 1) = false) :
    a.rollCallRx ms = a.cordSend (.rollReturn (ms ++ [a.memberNo])) := by
  simp only [rollCallRx, follower, runs, up, last, Bool.and_self, if_true, Bool.false_eq_true, if_false]

end

section
variable {lead mask : Nat} {rs l : List RollEntry} {seeds : List Nat} (strapped : a.flag F.CORD_STRAPS_ROLE = true)
  (runs : a.cordRuns = true) (hl : l = a.beforeDown (rollPrefix 0 rs))
include strapped runs hl

/-- A follower that the roll call does not show leaves the cord. -/
theorem rollCallReturn_absent (follower : a.isMaster = false) (absent : l.any (fun e => e.1 == a.memberNo) = false) :
    a.rollCallReturn lead rs seeds = a.leaveCord := by
  subst hl
  simp only [rollCallReturn, strapped, runs, follower, absent, Bool.and_self, Bool.or_self, Bool.not_true, Bool.not_false,
    Bool.false_eq_true, if_true, if_false]

/-- A member that is present shows who is, and the cord forms, stays as it is or has changed. -/
theorem rollCallReturn_present (present : a.isMaster = true ∨ l.any (fun e => e.1 == a.memberNo) = true)
    (hmask : mask = l.foldl (fun w e => setBit w e.1) 1)
    (hb : b = (a.wr F.CORD_STATUS_PRESENT mask).wr F.CORD_STATUS_SIZE (l.length + 1))
    (hd : d = if b.isMaster then b.cordSend (.formed mask) else b)
    (hc : c = { d with cord := { d.cord with
      modes := (((0, lead, false) :: l).filter (fun e => e.1 != d.memberNo)).map (fun e => (e.1, e.2.1)) } }) :
    a.rollCallReturn lead rs seeds = if a.formed then
      (if mask = a.rd F.CORD_STATUS_PRESENT then c else c.raise Irq.cordMembers) else c.cordForms seeds := by
  have shown : (a.isMaster || l.any (fun e => e.1 == a.memberNo)) = true := by
    rw [Bool.or_eq_true]
    exact present
  subst hc hd hb hmask hl
  simp only [rollCallReturn, strapped, runs, shown, Bool.and_self, Bool.not_true, Bool.false_eq_true, if_false]

end

/-! ### Requests on a member (R348, R349, R352) -/

section
variable {op : Nat} {q u : Req} {sp : OpSpec} {w : CordAnswer}

theorem cordRequest_executes (formed : a.inFormed = true) (row : opSpec op = some sp) :
    a.cordRequest op q = (a.finish (inCord q) op (a.runHere sp (inCord q))).announce a := by
  simp only [cordRequest, formed, row, Bool.not_true, Bool.false_eq_true, if_false]

theorem cordCheck_answers (formed : a.inFormed = true) (other : op ≠ 0x0800) (row : opSpec op = some sp)
    (checks : (b, w) = a.checkAnswer sp (inCord q)) :
    a.cordCheck op q = cordSend (.answer w) { b with cord := { b.cord with checked := some (op, inCord q) } } := by
  simp only [cordCheck, formed, other, row, ← checks, Bool.not_true, Bool.false_eq_true, if_false]

theorem cordCheck_status (formed : a.inFormed = true) :
    a.cordCheck 0x0800 q = a.cordSend (.answer ⟨a.memberNo, St.ok, [a.cordWord], 0⟩) := by
  simp only [cordCheck, formed, Bool.not_true, Bool.false_eq_true, if_false, if_true]

theorem cordApply_executes (checked : a.cord.checked = some (op, u)) (row : opSpec op = some sp)
    (hb : b = { a with cord := { a.cord with checked := none } }) :
    a.cordApply = (b.finish u op (b.runHere sp u)).announce b := by
  subst hb
  simp only [cordApply, checked, row]
  rfl

end

/-! ### Answers and the timeout on the coordinator (R348, R349, R352) -/

theorem memberAnswer_taken {x : CordTxn} {w : CordAnswer} (txn : a.cord.txn = some x)
    (member : x.members.contains w.member = true) (new : x.answers.any (fun b => b.member == w.member) = false) :
    a.memberAnswer w = (((a.putTxn (some { x with answers := x.answers ++ [w] })).resolve).announce a).drain := by
  simp only [memberAnswer, txn, member, new, Bool.not_false, Bool.and_self, if_true]

/-- What the timeout of a transaction leaves, by the phase that it was in. -/
def timedOut (x : CordTxn) (c : State) : State :=
  match x.phase with
  | .forward _ => c.answerTo x true St.cordTimeout 0 []
  | .check => ((c.cordSend .abort).count ⟨0x0E, 1⟩ 0).answerTo x true St.cordTimeout 0 []
  | .apply => c.answerTo x true St.cordTimeout 0
      (if readOpcodes.contains x.opcode then [] else [x.answers.foldl (fun w a => setBit w a.member) 0])
  | .status => c.statusResolved x

theorem cordTimeout_ends {x : CordTxn} (txn : a.cord.txn = some x)
    (hc : c = { a with nvs := { a.nvs with await := a.nvs.await.filter (fun w => w.2.1 != Source.device) } }) :
    a.cordTimeout = (c.timedOut x).recipeResume.drain := by
  subst hc
  cases phase : x.phase <;> simp only [cordTimeout, txn, timedOut, phase]

end State

/-- Settles O41: roll calls by the member's place in the cord and by what they show, requests by what the member is
asked, and the coordinator's transaction by its phase. -/
theorem cordRequestsComplete : Obligations.CordRequestsComplete := by
  refine ⟨?rolls, ?requests⟩
  case rolls =>
    intro t lead mask ms rs l seeds s a b d c h
    refine ⟨fun master runs => ?send, fun follower runs up => ⟨fun down => ?pass, fun last => ?turn⟩,
      fun strapped runs hl => ⟨fun follower absent => ?absent, fun present hmask hb hd hc => ?present⟩⟩
    case send => exact awakeAt_eq h (State.rollCall_sends master runs)
    case pass => exact awakeAt_eq h (State.rollCallRx_passes follower runs up down)
    case turn => exact awakeAt_eq h (State.rollCallRx_returns follower runs up last)
    case absent =>
      exact awakeAt_eq h (congrArg (State.autoEntry rs) (State.rollCallReturn_absent strapped runs hl follower absent))
    case present =>
      have shows := State.rollCallReturn_present (seeds := seeds) strapped runs hl present hmask hb hd hc
      refine ⟨fun apart => ?forms, fun formed same => ?same, fun formed other => ?changed⟩
      all_goals refine awakeAt_eq h (congrArg (State.autoEntry rs) (shows.trans ?_))
      case forms => rw [apart, if_neg Bool.false_ne_true]
      case same => rw [formed, if_pos rfl, if_pos same.symm]
      case changed => rw [formed, if_pos rfl, if_neg other.symm]
  case requests =>
    intro t op member status address mask payload q u sp x w s a b c h
    refine ⟨fun formed row => ?request, fun formed other row checks => ?check, fun formed => ?status,
      fun checked row hb => ?apply, ?abort, ?applyTimeout, fun txn mem new => ?answer, fun txn hc hmask => ?timeout⟩
    case request => exact awakeAt_eq h (State.cordRequest_executes formed row)
    case check => exact awakeAt_eq h (State.cordCheck_answers formed other row checks)
    case status => exact awakeAt_eq h (State.cordCheck_status formed)
    case apply => exact awakeAt_eq h (State.cordApply_executes checked row hb)
    case abort => exact awakeAt_gives h
    case applyTimeout => exact awakeAt_gives h
    case answer => exact awakeAt_eq h (State.memberAnswer_taken (w := ⟨member, status, payload, address⟩) txn mem new)
    case timeout =>
      have ends : exec (.cordTimeout t) s = gives t s (c.timedOut x).recipeResume.drain :=
        awakeAt_eq h (State.cordTimeout_ends txn hc)
      subst hmask
      refine ⟨fun m phase => ?_, fun phase => ?_, fun phase => ?_, fun phase => ?_⟩
      all_goals rw [ends, State.timedOut, phase]

end Sys2Proof.Machine
end

section
/-! SUPPORT. Proofs of the commands family: the markers and the epochs of a cord (R353 to R355, R358). -/

namespace Sys2Proof.Machine

namespace State

variable {a b c d : State} {n width : Nat} {epoch forced : Bool}

/-! ### The master's marker (R353, R358) -/

theorem markerSend_reset (master : a.isMaster = true) (owed : a.cord.resetOwed = true) (left : a.replyOwed = false) :
    a.markerSend = a.cordSend (.marker 24) := by
  simp only [markerSend, master, owed, left, Bool.not_false, Bool.and_self, if_true]

theorem markerSend_frame (none : a.cord.resetOwed = false ∨ a.replyOwed = true) (coming : a.frameComing = true)
    (hn : n = if a.entering = true then a.cord.marked else max a.cord.marked a.fire.nextFrame)
    (hb : b = a.cordSend (.marker a.markerWidth)) :
    a.markerSend = { b with cord := { b.cord with marked := n + 1 } } := by
  have frame : (a.isMaster && a.cord.resetOwed && !a.replyOwed) = false := by
    rcases none with e | e <;> rw [e]
    · rw [Bool.and_false, Bool.false_and]
    · exact Bool.and_false _
  subst hb hn
  simp only [markerSend, frame, coming, Bool.false_eq_true, if_false, if_true, markFrame]

/-! ### A follower's marker (R353, R355) -/

theorem markerFree_iff : a.markerFree = true ↔
    a.acq.due = none ∨ a.cord.later = none ∧ a.rd F.FIRE_FRAME_ACTIVE_ACTIVE_NS < 1500 := by
  simp only [markerFree, Bool.or_eq_true, Bool.and_eq_true, Option.isNone_iff_eq_none, decide_eq_true_eq]

section
variable (follower : a.isFollower = true) (inUse : a.formed = true ∨ a.firing = true) (runs : a.cordRuns = true)
  (free : a.markerFree = true)
include follower inUse runs free

/-- What a marker that a follower may take passes. -/
theorem syncMarker_passes : (a.isFollower && (a.formed || a.firing) && a.cordRuns && a.markerFree) = true := by
  simp only [follower, runs, free, Bool.true_and, Bool.and_true, Bool.or_eq_true]
  exact inUse

theorem syncMarker_unknown (kind : markerKind width = none) : a.syncMarker width = a := by
  simp only [syncMarker, syncMarker_passes follower inUse runs free, kind, if_true]

theorem syncMarker_taken (kind : markerKind width = some (epoch, forced)) (inTime : a.markerOff = false) :
    a.syncMarker width = a.markerTaken epoch forced := by
  simp only [syncMarker, syncMarker_passes follower inUse runs free, kind, inTime, if_true, Bool.false_eq_true, if_false]

theorem syncMarker_missed (kind : markerKind width = some (epoch, forced)) (off : a.markerOff = true)
    (markers : a.byMarkers = true) : a.syncMarker width = a.markerMissed := by
  simp only [syncMarker, syncMarker_passes follower inUse runs free, kind, off, markers, if_true]

end

/-! ### A marker missed (R355) -/

theorem bump_acq (f : Fld) (s : State) : (s.bump f).acq = s.acq := by
  unfold bump
  split <;> rfl

theorem bump_cord (f : Fld) (s : State) : (s.bump f).cord = s.cord := by
  unfold bump
  split <;> rfl

theorem syncMiss_misses (markers : a.byMarkers = true) (free : a.markerFree = true)
    (due : a.acq.due.isSome = true ∨ 0 < a.fire.nextFrame) : a.syncMiss = a.markerMissed := by
  have known : (a.acq.due.isSome || decide (0 < a.fire.nextFrame)) = true := by
    rw [Bool.or_eq_true, decide_eq_true_eq]
    exact due
  simp only [syncMiss, markers, free, known, Bool.and_self, if_true]

/-- The frame starts on the follower's own time, and the second miss in a row loses the master. -/
theorem markerMissed_eq (hd : d = { (a.bump F.CORD_EPOCH_SYNC_MISS).putStart a.markerDue false false with
      cord := { ((a.bump F.CORD_EPOCH_SYNC_MISS).putStart a.markerDue false false).cord with
        missRun := a.cord.missRun + 1 } }) :
    a.markerMissed = if a.cord.missRun = 0 then d else d.cordFault.splitAuthority 6 0 := by
  subst hd
  simp only [markerMissed, show a.cord.missRun + 1 < 2 ↔ a.cord.missRun = 0 by omega]

/-- The miss of the next frame's marker. -/
theorem markerMissed_next (none : a.acq.due = none) (hc : c = a.bump F.CORD_EPOCH_SYNC_MISS)
    (hd : d = { c with
      cord := { c.cord with epochDue := false, missRun := a.cord.missRun + 1 }
      acq := { c.acq with due := some (a.fire.frameC + a.rd F.FIRE_FRAME_ACTIVE_ACTIVE_NS), forced := false } }) :
    a.markerMissed = if a.cord.missRun = 0 then d else d.cordFault.splitAuthority 6 0 := by
  refine markerMissed_eq ?_
  subst hc hd
  have own : a.markerDue = a.fire.frameC + a.rd F.FIRE_FRAME_ACTIVE_ACTIVE_NS := by
    simp only [markerDue, none, ownStart]
  have first : ¬ (a.bump F.CORD_EPOCH_SYNC_MISS).acq.due.isSome = true := by
    rw [bump_acq, none]
    exact Bool.false_ne_true
  rw [own, putStart, if_neg first]

/-- The miss of the marker of the frame after the next. -/
theorem markerMissed_later (due : a.acq.due = some n) (hc : c = a.bump F.CORD_EPOCH_SYNC_MISS)
    (hd : d = { c with cord := { c.cord with
      later := some (n + a.rd F.FIRE_FRAME_ACTIVE_ACTIVE_NS, false, false)
      missRun := a.cord.missRun + 1 } }) :
    a.markerMissed = if a.cord.missRun = 0 then d else d.cordFault.splitAuthority 6 0 := by
  refine markerMissed_eq ?_
  subst hc hd
  have own : a.markerDue = n + a.rd F.FIRE_FRAME_ACTIVE_ACTIVE_NS := by simp only [markerDue, due]
  have first : (a.bump F.CORD_EPOCH_SYNC_MISS).acq.due.isSome = true := by
    rw [bump_acq, due]
    rfl
  rw [own, putStart, if_pos first]

/-! ### The cord reset and the epochs (R354, R358) -/

theorem cordResetMarker_taken (runs : a.cordRuns = true)
    (heard : a.isFollower = true ∧ a.formed = true ∨ a.isMaster = true ∧ a.cord.resetOwed = true) :
    a.cordResetMarker = cordResetTaken { a with
      boot := { a.boot with resetDue := .cord }
      cord := { a.cord with resetOwed := false } } := by
  have taken : (a.cordRuns && ((a.isFollower && a.formed) || (a.isMaster && a.cord.resetOwed))) = true := by
    simp only [runs, Bool.true_and, Bool.or_eq_true, Bool.and_eq_true]
    exact heard
  simp only [cordResetMarker, taken, if_true]

theorem epochAnnounce_taken {ev : Nat} (follower : a.isFollower = true) (formed : a.formed = true)
    (runs : a.cordRuns = true) :
    a.epochAnnounce n ev = { a with cord := { a.cord with announced := some (n % 2 ^ 16, ev) } } := by
  simp only [epochAnnounce, follower, formed, runs, Bool.and_self, if_true]

end State

end Sys2Proof.Machine
end

section
/-! SUPPORT. Proofs of the commands family: the heartbeats of the checkers and of the cord (R359 to R361). -/

namespace Sys2Proof.Machine

namespace State

variable {a b c : State} {h : Half} {mac member epoch : Nat}

/-! ### The checkers (R359) -/

theorem halfSend_north (runs : a.cordRuns = true) (speaks : a.cord.muteN ≤ a.now) :
    a.halfSend .north = { a with cord := { a.cord with
      hbSeqN := a.cord.hbSeqN + 1
      beatN := some ⟨a.rd F.CORD_AUTH_HOLDER, a.cord.hbSeqN⟩ } } := by
  have sends : (a.cordRuns && decide (a.muteTill .north ≤ a.now)) = true := by
    rw [runs, Bool.true_and, decide_eq_true_eq]
    exact speaks
  simp only [halfSend, sends, if_true]
  rfl

theorem halfSend_south (runs : a.cordRuns = true) (speaks : a.cord.muteS ≤ a.now) :
    a.halfSend .south = { a with cord := { a.cord with
      hbSeqS := a.cord.hbSeqS + 1
      beatS := some ⟨a.rd F.CORD_AUTH_HOLDER, a.cord.hbSeqS⟩ } } := by
  have sends : (a.cordRuns && decide (a.muteTill .south ≤ a.now)) = true := by
    rw [runs, Bool.true_and, decide_eq_true_eq]
    exact speaks
  simp only [halfSend, sends, if_true]
  rfl

theorem halfSend_mute (mute : a.now < a.muteTill h) : a.halfSend h = a := by
  have silent : (a.cordRuns && decide (a.muteTill h ≤ a.now)) = false := by
    rw [decide_eq_false (Nat.not_le.mpr mute), Bool.and_false]
  simp only [halfSend, silent, Bool.false_eq_true, if_false]

theorem halfHeartbeat_judged {claim : Nat} (runs : a.cordRuns = true) (hb : b = a.wr (hbOk (otherHalf h)) 1) :
    a.halfHeartbeat h claim =
      if claim = b.rd F.CORD_AUTH_HOLDER then b.halfOk else (b.halfFault h).splitAuthority 1 0 := by
  subst hb
  simp only [halfHeartbeat, runs, if_true]

theorem halfTimeout_faults (runs : a.cordRuns = true) :
    a.halfTimeout h = ((a.wr (hbOk (otherHalf h)) 0).halfFault h).splitAuthority 2 (otherHalf h).num := by
  simp only [halfTimeout, runs, if_true]

/-! ### The cord (R360, R361) -/

theorem cordHbSend_sends (master : a.isMaster = true) (formed : a.formed = true) (runs : a.cordRuns = true) :
    a.cordHbSend = a.cordSend (.heartbeat baseMac a.memberNo (a.rd F.CORD_EPOCH_EPOCH)) := by
  simp only [cordHbSend, master, formed, runs, Bool.and_self, if_true]

theorem cordHbTimeout_faults (follower : a.isFollower = true) (inUse : a.formed = true ∨ a.firing = true)
    (runs : a.cordRuns = true) : a.cordHbTimeout = a.cordFault.splitAuthority 3 0 := by
  have use : (a.formed || a.firing) = true := by
    rw [Bool.or_eq_true]
    exact inUse
  simp only [cordHbTimeout, follower, use, runs, Bool.and_self, if_true]

section
variable (strapped : a.flag F.CORD_STRAPS_ROLE = true) (runs : a.cordRuns = true)
  (hb : b = a.cordSend (.heartbeat mac member epoch))
include strapped runs hb

/-- The master judges a heartbeat by its sender's identity. -/
theorem cordHeartbeat_master (master : b.isMaster = true) : a.cordHeartbeat mac member epoch =
    if mac = baseMac ∧ member = b.memberNo then b else b.cordFault.splitAuthority 4 0 := by
  subst hb
  simp only [cordHeartbeat, strapped, runs, master, Bool.and_self, if_true]

/-- A follower judges it by whether there are two masters, and by its sender's number. -/
theorem cordHeartbeat_follower (follower : b.isMaster = false)
    (hc : c = { b with cord := { b.cord with lastHb := some (mac, b.now) } }) : a.cordHeartbeat mac member epoch =
    if b.twoMasters mac then c.cordFault.splitAuthority 4 0
    else if member ≠ 0 then c.cordFault.splitAuthority 5 0
    else { c with cord := { c.cord with cordOkSince := some (c.cord.cordOkSince.getD c.now) } } := by
  subst hb hc
  simp only [cordHeartbeat, strapped, runs, follower, followerHb, Bool.and_self, if_true, Bool.false_eq_true, if_false]

end

end State

/-- Settles O42: markers by the member's place in the cord and by their time, heartbeats by their sender and receiver. -/
theorem cordSyncCommandsComplete : Obligations.CordSyncCommandsComplete := by
  refine ⟨?markers, ?heartbeats⟩
  case markers =>
    intro t width n ev due epoch forced s a b c d h
    refine ⟨fun master owed left => ?reset, fun none coming hn hb => ?frame, fun follower inUse runs free => ?marker,
      fun markers hc => ⟨fun none started hdue hd => ?next, fun some1 none short hd => ?later⟩,
      fun runs heard => ?resetMarker, fun follower formed runs => ?epoch⟩
    case reset => exact awakeAt_eq h (State.markerSend_reset master owed left)
    case frame => exact awakeAt_eq h (State.markerSend_frame none coming hn hb)
    case marker =>
      have free := State.markerFree_iff.mpr free
      refine ⟨fun kind => ?unknown, fun kind => ⟨fun inTime => ?taken, fun off markers => ?missed⟩⟩
      case unknown => exact awakeAt_eq h (State.syncMarker_unknown follower inUse runs free kind)
      case taken => exact awakeAt_eq h (State.syncMarker_taken follower inUse runs free kind inTime)
      case missed => exact awakeAt_eq h (State.syncMarker_missed follower inUse runs free kind off markers)
    case next =>
      subst hdue
      have misses := (State.syncMiss_misses markers (State.markerFree_iff.mpr (.inl none)) (.inr started)).trans
        (State.markerMissed_next none hc hd)
      exact ⟨fun first => awakeAt_eq h (misses.trans (if_pos first)),
        fun second => awakeAt_eq h (misses.trans (if_neg (Nat.ne_of_gt second)))⟩
    case later =>
      have misses := (State.syncMiss_misses markers (State.markerFree_iff.mpr (.inr ⟨none, short⟩))
        (.inl (Option.isSome_of_eq_some some1))).trans (State.markerMissed_later some1 hc hd)
      exact ⟨fun first => awakeAt_eq h (misses.trans (if_pos first)),
        fun second => awakeAt_eq h (misses.trans (if_neg (Nat.ne_of_gt second)))⟩
    case resetMarker => exact awakeAt_eq h (State.cordResetMarker_taken runs heard)
    case epoch => exact awakeAt_eq h (State.epochAnnounce_taken follower formed runs)
  case heartbeats =>
    intro t mac member epoch half claim s a b c h runs
    refine ⟨fun speaks => ?north, fun speaks => ?south, fun mute => ?mute,
      fun hb => ⟨fun same => ?agrees, fun other => ?claims⟩, ?timeout, fun master formed => ?sends, fun follower inUse => ?lost,
      fun strapped hb => ⟨fun master mac' member' => ?own, fun master other => ?foreign, fun follower hc => ?follower⟩⟩
    case north => exact awakeAt_eq h (State.halfSend_north runs speaks)
    case south => exact awakeAt_eq h (State.halfSend_south runs speaks)
    case mute => exact awakeAt_eq h (State.halfSend_mute mute)
    case agrees => exact awakeAt_eq h ((State.halfHeartbeat_judged runs hb).trans (if_pos same))
    case claims => exact awakeAt_eq h ((State.halfHeartbeat_judged runs hb).trans (if_neg other))
    case timeout => exact awakeAt_eq h (State.halfTimeout_faults runs)
    case sends => exact awakeAt_eq h (State.cordHbSend_sends master formed runs)
    case lost => exact awakeAt_eq h (State.cordHbTimeout_faults follower inUse runs)
    case own => exact awakeAt_eq h ((State.cordHeartbeat_master strapped runs hb master).trans (if_pos ⟨mac', member'⟩))
    case foreign =>
      refine awakeAt_eq h ((State.cordHeartbeat_master strapped runs hb master).trans (if_neg ?_))
      rintro ⟨mac', member'⟩
      exact other.elim (· mac') (· member')
    case follower =>
      have judged := State.cordHeartbeat_follower strapped runs hb follower hc
      refine ⟨fun two => ?two, fun one stranger => ?stranger, fun one master => ?master⟩
      case two => exact awakeAt_eq h (judged.trans (if_pos two))
      case stranger =>
        exact awakeAt_eq h (judged.trans ((if_neg (Bool.eq_false_iff.mp one)).trans (if_pos stranger)))
      case master =>
        exact awakeAt_eq h (judged.trans ((if_neg (Bool.eq_false_iff.mp one)).trans (if_neg (not_not_intro master))))

end Sys2Proof.Machine
end

section
/-! SUPPORT. Proofs of the commands family: the housekeeping converter (R366, R368 to R371), the thermal windows and the
trip (R376 to R378, R383). -/

namespace Sys2Proof.Machine

namespace State

variable {a b c d : State} {code first left sum : Nat} {same : Bool} {e : HkEntry} {rest : List HkEntry}

/-! ### The converter (R366, R368 to R371) -/

theorem hkRoundStart_starts (on : a.hk.on = true) (done : a.hk.todo = []) (idle : a.hk.phase = .idle) :
    a.hkRoundStart = hkVisit { a with hk := { a.hk with todo := a.hkEntries, left := 0, lateRound := false } } := by
  have none : a.hk.todo.isEmpty = true := List.isEmpty_iff.mpr done
  unfold hkRoundStart
  rw [if_neg (by rw [on]; exact Bool.false_ne_true), if_pos none]
  split
  · rfl
  · next other => exact absurd idle other

theorem hkRoundStart_late (on : a.hk.on = true) (busy : a.hk.todo ≠ []) :
    a.hkRoundStart = count ⟨0x0F, 2⟩ 0 { a with hk := { a.hk with lateRound := true } } := by
  have left : a.hk.todo.isEmpty = false := List.isEmpty_eq_false_iff.mpr busy
  simp only [hkRoundStart, on, left, Bool.not_true, Bool.false_eq_true, if_false]

theorem hkSettleDone_converts {j : HkJob} (settles : a.hk.phase = .settling j) :
    a.hkSettleDone = { a with hk := { a.hk with phase := .converting j } } := by
  simp only [hkSettleDone, settles, hkPhase]

/-- A conversion of the visited entry: its counts, its result, the end of a sensor's visit, and what the converter does
next. -/
theorem hkConversionDone_entry (entry : a.hk.phase = .converting .entry) (todo : a.hk.todo = e :: rest)
    (hfirst : first = (a.count ⟨0x0F, 0⟩ 0).hk.firstCode.getD code)
    (hsame : same = ((a.count ⟨0x0F, 0⟩ 0).hk.allSame && first == code))
    (hleft : left = (a.count ⟨0x0F, 0⟩ 0).hk.left - 1) (hsum : sum = (a.count ⟨0x0F, 0⟩ 0).hk.sum + code)
    (hb : b = { a.count ⟨0x0F, 0⟩ 0 with hk := { (a.count ⟨0x0F, 0⟩ 0).hk with
      todo := (if left = 0 then rest else e :: rest)
      left := left
      sum := sum
      firstCode := some first
      allSame := same } })
    (hc : c = if !e.avg then b.hkResult e.tag code
      else if left = 0 then b.hkResult e.tag (roundEven sum e.count).toNat else b)
    (hd : d = if left = 0 ∧ 0xE0 ≤ e.tag ∧ e.tag < 0xE0 + 29 then
      ((c.sensorVisit (e.tag - 0xE0) first same).refreshTemps).shutTest else c) :
    a.hkConversionDone code = d.hkNext false := by
  subst hd hc hb hsum hleft hsame hfirst
  simp only [hkConversionDone, entry, entryConversion, todo]

theorem hkConversionDone_host (host : a.hk.phase = .converting .host)
    (hb : b = (((a.count ⟨0x0F, 4⟩ 0).wr F.HK_STATUS_INJ_PEND 0).wr F.HK_INJECT_RESULT_CODE code).wr
      F.HK_INJECT_RESULT_DONE 1)
    (hc : c = ((b.hkResult (b.rd F.HK_INJECT_TAG) code).runRelease 0).runRelease 1) :
    a.hkConversionDone code = (c.wrB F.HK_STATUS_INJ_PEND c.calOwed).hkNext true := by
  subst hc hb
  simp only [hkConversionDone, host, hostConversion]

/-! ### Thermal windows (R376 to R378) -/

theorem thermWindow_eq (on : a.hk.on = true) (hb : b = (List.range 8).foldl windowOct a) :
    a.thermWindow = if b.firing then { b with therm := { b.therm with windows := b.therm.windows + 1 } }
      else (List.range 8).foldl levelStep { b with therm := { b.therm with windows := b.therm.windows + 1 } } := by
  simp only [thermWindow, on, if_true, ← hb]
  rfl

end State

/-- Settles O43: a round's start by whether the one before has ended, and a conversion by whose it is. -/
theorem housekeepingCommandsComplete : Obligations.HousekeepingCommandsComplete := by
  intro t code left sum first same j e rest s a b c d h
  refine ⟨fun on done idle => ?starts, fun on busy => ?late, fun settles => ?settled,
    fun entry todo hfirst hsame hleft hsum hb single last more hd => ?entry, fun host hb hc => ?host⟩
  case starts => exact awakeAt_eq h (State.hkRoundStart_starts on done idle)
  case late => exact awakeAt_eq h (State.hkRoundStart_late on busy)
  case settled => exact awakeAt_eq h (State.hkSettleDone_converts settles)
  case entry =>
    refine awakeAt_eq h (State.hkConversionDone_entry entry todo hfirst hsame hleft hsum hb ?_ hd)
    cases avg : e.avg with
    | false => exact single avg
    | true =>
      by_cases zero : left = 0
      · exact (last avg zero).trans (if_pos zero).symm
      · exact (more avg zero).trans (if_neg zero).symm
  case host => exact awakeAt_eq h (State.hkConversionDone_host host hb hc)

/-- Settles O44: a window by whether the mode fires; the trip and its release act in every state. -/
theorem thermalCommandsComplete : Obligations.ThermalCommandsComplete := by
  refine fun t s a b => ⟨fun h on hb => ⟨fun fires => ?firing, fun still => ?still⟩, ?trip⟩
  case firing => exact awakeAt_eq h ((State.thermWindow_eq on hb).trans (if_pos fires))
  case still => exact awakeAt_eq h ((State.thermWindow_eq on hb).trans (if_neg (Bool.eq_false_iff.mp still)))
  case trip =>
    rintro rfl
    exact ⟨run_gives t _ s, run_gives t _ s⟩

end Sys2Proof.Machine
end

section
/-! SUPPORT. Proofs of the commands family: the start of a calibration run, its TIMING steps and the pickoff runs (R389,
R390, R395, R397, R399, R401). -/

namespace Sys2Proof.Machine

namespace State

variable {a b c : State}

/-! ### The start of a run (R389, R390) -/

/-- The run that CAL_RUN_START begins on an octant: it waits for the host's conversion, or owes its own. -/
def startedRun (g kinds mode : Nat) (host : Bool) : CalRun :=
  { oct := g, kinds := kinds, mode := mode, waits := host, owed := if host then 0 else 3, start := 0, todo := [],
    began := false, temp := 0, delayNs := 0, delayFine := 0, ref := 0, ofsStep := 0, walkStep := 0, nativeTdc := true,
    cdLog2 := 0, meas := none, first := none }

/-- A pending run that nothing holds back, and that no earlier one of its half precedes, starts. -/
theorem runStart_starts {g kinds : Nat} {host : Bool} (hb : b = a.refreshWait) (pend : b.calPend g = some kinds)
    (ready : b.calWait g = 0)
    (first : ∀ p ∈ b.cal.pend.takeWhile (fun p => p.1 != g), p.1 / 4 = g / 4 → b.calWait p.1 ≠ 0)
    (idle : b.calRun (g / 4) = none) (hhost : host = (b.flag F.HK_STATUS_INJ_PEND && !b.calOwed)) :
    a.runStart g =
      if host then b.putRun (g / 4) (some (startedRun g kinds b.mode host))
      else (b.putRun (g / 4) (some (startedRun g kinds b.mode host))).wr F.HK_STATUS_INJ_PEND 1 := by
  have none : (b.cal.pend.takeWhile (fun p => p.1 != g)).any (fun p => p.1 / 4 == g / 4 && b.calWait p.1 == 0) = false := by
    rw [List.any_eq_false]
    intro p hp both
    rw [Bool.and_eq_true, beq_iff_eq, beq_iff_eq] at both
    exact first p hp both.1 both.2
  subst hb hhost
  simp only [runStart, pend, ready, none, idle, Option.isSome_none, ne_eq, not_true_eq_false, Bool.false_eq_true, or_self,
    if_false, startedRun]

/-! ### The verdict on a measurement (R397) -/

section
variable {first : Option CalFirst} {v w : CalFirst} {fails : Nat}

theorem verdict_fails (h : fails ≠ 0) : a.verdict first fails v = .reject fails := by
  simp only [verdict, h, ne_eq, not_false_eq_true, if_true]

theorem verdict_single (single : a.calRepeats = false) : a.verdict first 0 v = .accept v := by
  simp only [verdict, single, ne_eq, not_true_eq_false, if_false, Bool.not_false, if_true]

theorem verdict_again (repeats : a.calRepeats = true) : a.verdict none 0 v = .again v := by
  simp only [verdict, repeats, ne_eq, not_true_eq_false, if_false, Bool.not_true, Bool.false_eq_true]

theorem verdict_agrees (repeats : a.calRepeats = true) (agrees : agree w v = true) :
    a.verdict (some w) 0 v = .accept (meanOf w v) := by
  simp only [verdict, repeats, agrees, ne_eq, not_true_eq_false, if_false, Bool.not_true, Bool.false_eq_true, if_true]

theorem verdict_differs (repeats : a.calRepeats = true) (differs : agree w v = false) :
    a.verdict (some w) 0 v = .reject 0xFF := by
  simp only [verdict, repeats, differs, ne_eq, not_true_eq_false, if_false, Bool.not_true, Bool.false_eq_true]

end

/-! ### The TIMING step (R395, Table 16-2) -/

section
variable {r : CalRun} {g f sd : Nat} {late : Bool} {o : Int} {w k : List Int}

theorem timingFails_late (h : late = true) : a.timingFails r f late sd o w k = 1 := by
  simp only [timingFails, h, if_true]

theorem timingFails_spread (inTime : late = false) (h : 4096 < sd) : a.timingFails r f late sd o w k = 2 := by
  simp only [timingFails, inTime, h, Bool.false_eq_true, if_false, if_true]

section
variable (inTime : late = false) (spread : sd ≤ 4096)
include inTime spread

theorem timingFails_widths (h : strictUp w = false) : a.timingFails r f late sd o w k = 3 := by
  simp only [timingFails, inTime, Nat.not_lt.mpr spread, h, Bool.false_eq_true, if_false, Bool.not_false, if_true]

variable (widths : strictUp w = true)
include widths

theorem timingFails_walkRange (h : ∃ v ∈ k, v < -4096 ∨ 4096 < v) : a.timingFails r f late sd o w k = 4 := by
  have outside : k.all (fun v => decide (-4096 ≤ v) && decide (v ≤ 4096)) = false := by
    obtain ⟨v, hv, far⟩ := h
    rw [List.all_eq_false]
    refine ⟨v, hv, ?_⟩
    rw [Bool.and_eq_true, decide_eq_true_eq, decide_eq_true_eq]
    omega
  simp only [timingFails, inTime, Nat.not_lt.mpr spread, widths, outside, Bool.false_eq_true, if_false, Bool.not_true,
    Bool.not_false, if_true]

variable (range : ∀ v ∈ k, -4096 ≤ v ∧ v ≤ 4096)
include range

/-- Past the first four limits a TIMING result is judged by its distances. -/
theorem timingFails_near : a.timingFails r f late sd o w k =
    if !listNear r.ofsStep [o] [a.rdS (F.ECHO_FE_OFFSET_OFFSET f)] then 5
    else if !a.walkAtReset f &&
        !listNear r.walkStep k ((List.range 8).map (fun n => a.rdS (F.ECHO_FE_WALK_WALK f n))) then 6
    else 0 := by
  have inside : k.all (fun v => decide (-4096 ≤ v) && decide (v ≤ 4096)) = true := by
    rw [List.all_eq_true]
    intro v hv
    rw [Bool.and_eq_true, decide_eq_true_eq, decide_eq_true_eq]
    exact range v hv
  simp only [timingFails, inTime, Nat.not_lt.mpr spread, widths, inside, Bool.false_eq_true, if_false, Bool.not_true]

theorem timingFails_offset (h : listNear r.ofsStep [o] [a.rdS (F.ECHO_FE_OFFSET_OFFSET f)] = false) :
    a.timingFails r f late sd o w k = 5 := by
  rw [timingFails_near inTime spread widths range, h]
  rfl

variable (offset : listNear r.ofsStep [o] [a.rdS (F.ECHO_FE_OFFSET_OFFSET f)] = true)
include offset

theorem timingFails_walk (moved : a.walkAtReset f = false)
    (h : listNear r.walkStep k ((List.range 8).map (fun n => a.rdS (F.ECHO_FE_WALK_WALK f n))) = false) :
    a.timingFails r f late sd o w k = 6 := by
  rw [timingFails_near inTime spread widths range, offset, moved, h]
  rfl

theorem timingFails_none (h : a.walkAtReset f = true ∨
      listNear r.walkStep k ((List.range 8).map (fun n => a.rdS (F.ECHO_FE_WALK_WALK f n))) = true) :
    a.timingFails r f late sd o w k = 0 := by
  rw [timingFails_near inTime spread widths range, offset]
  rcases h with e | e <;> rw [e]
  · rfl
  · rw [Bool.not_true, Bool.and_false]
    rfl

end

variable {m : CalMeas} (step : a.stepOn g 1 f = some r) (meas : r.meas = some m)
include step meas

/-- The step waits for the end of its statistics runs. -/
theorem timingStepDone_waits (more : measEnded a.now 1 m = (false, late)) : a.timingStepDone g f = a := by
  simp only [timingStepDone, step, meas, more, Bool.false_eq_true, if_false]

/-- A step whose runs have ended is judged by the offset, the widths and the walk that their means give. -/
theorem timingStepDone_judged
    (hw : w = (List.range 8).map (fun n => roundEven (partMean m (2 * n + 1) : Nat) 256))
    (hk : k = (List.range 8).map (fun n => roundEven ((partMean m (2 * n) : Int) - (partMean m 14 : Int)) 256))
    (ho : o = Config.starter 3 f 0 + roundEven ((partMean m 14 : Int) - 256 * (r.ref + Config.starter 4 f 0)) 256)
    (ended : measEnded a.now 1 m = (true, late)) :
    a.timingStepDone g f = a.stepJudged r f 1 (a.timingFails r f late (partSd m 14) o w k) (.timing o w k) := by
  subst hw hk ho
  simp only [timingStepDone, step, meas, ended, if_true]

end

end State

end Sys2Proof.Machine
end

section
/-! SUPPORT. Proofs of the commands family: the pickoff runs (R397, R399, R401). -/

namespace Sys2Proof.Machine

namespace State

variable {a : State} {second : Bool} {gain ofs : Int} {order : Nat}

/-- The end of a pickoff run: its temperature is shown and journalled, and what is pending is asked for. -/
def pkoEnds (s : State) : State :=
  (((s.wr F.CAL_DEV_PKO_BUSY 0).wrS F.CAL_DEV_PKO_T_LAST s.dieMean).journal [⟨5, 5 * 2 ^ 24, [ofS 32 s.dieMean]⟩]).pkoPoll

/-- A pickoff run's trim, written as it is taken. -/
def pkoTrims (gain ofs : Int) (s : State) : State :=
  ((s.count ⟨0x11, 0⟩ 0).wrS F.ANGLE_TRIM_GAIN gain).wrS F.ANGLE_TRIM_OFFSET ofs

/-- A pickoff run's trim, taken and journalled. -/
def pkoTakes (gain ofs : Int) (s : State) : State :=
  (s.pkoTrims gain ofs).journal [⟨1, A.ANGLE_TRIM, [(s.pkoTrims gain ofs).word A.ANGLE_TRIM]⟩]

/-- The order of the first limit that a pickoff result fails, else 0 (R401). -/
def pkoFails (gain ofs : Int) (s : State) : Nat :=
  if s.cal.pko.sqB < 1000000 * 2 ^ 20 then 1
  else if !(listNear 1311 [gain] [0] && listNear 64 [ofs] [0]) then 2
  else if !(listNear 328 [gain] [s.rdS F.ANGLE_TRIM_GAIN] && listNear 16 [ofs] [s.rdS F.ANGLE_TRIM_OFFSET]) then 3
  else 0

theorem pkoFails_weak (weak : a.cal.pko.sqB < 1000000 * 2 ^ 20) : a.pkoFails gain ofs = 1 := if_pos weak

section
variable (strong : 1000000 * 2 ^ 20 ≤ a.cal.pko.sqB)
include strong

theorem pkoFails_range (far : listNear 1311 [gain] [0] = false ∨ listNear 64 [ofs] [0] = false) :
    a.pkoFails gain ofs = 2 := by
  refine (if_neg (Nat.not_lt.mpr strong)).trans (if_pos ?_)
  rw [Bool.not_eq_true', Bool.and_eq_false_iff]
  exact far

variable (range : listNear 1311 [gain] [0] = true ∧ listNear 64 [ofs] [0] = true)
include range

theorem pkoFails_step (far : listNear 328 [gain] [a.rdS F.ANGLE_TRIM_GAIN] = false ∨
    listNear 16 [ofs] [a.rdS F.ANGLE_TRIM_OFFSET] = false) : a.pkoFails gain ofs = 3 := by
  refine (if_neg (Nat.not_lt.mpr strong)).trans ((if_neg ?_).trans (if_pos ?_))
  · rw [range.1, range.2]
    exact Bool.false_ne_true
  · rw [Bool.not_eq_true', Bool.and_eq_false_iff]
    exact far

theorem pkoFails_none (gainNear : listNear 328 [gain] [a.rdS F.ANGLE_TRIM_GAIN] = true)
    (ofsNear : listNear 16 [ofs] [a.rdS F.ANGLE_TRIM_OFFSET] = true) : a.pkoFails gain ofs = 0 := by
  refine (if_neg (Nat.not_lt.mpr strong)).trans ((if_neg ?_).trans (if_neg ?_))
  · rw [range.1, range.2]
    exact Bool.false_ne_true
  · rw [gainNear, ofsNear]
    exact Bool.false_ne_true

end

/-- A run that is not in progress, not full or of the other turn goes on. -/
theorem pkoDone_waits (h : a.flag F.CAL_DEV_PKO_BUSY = false ∨ a.cal.pko.pairs < 2 ^ 20 ∨ a.cal.pkoFirst.isSome ≠ second) :
    a.pkoDone second = a := by
  unfold pkoDone
  refine if_pos ?_
  simp only [Bool.or_eq_true, Bool.not_eq_true', decide_eq_true_eq, bne_iff_ne, or_assoc]
  exact h

section
variable (busy : a.flag F.CAL_DEV_PKO_BUSY = true) (full : 2 ^ 20 ≤ a.cal.pko.pairs)
  (turn : a.cal.pkoFirst.isSome = second)
include busy full turn

/-- What a run that is judged passes. -/
theorem pko_passes : ¬ (!a.flag F.CAL_DEV_PKO_BUSY || decide (a.cal.pko.pairs < 2 ^ 20) ||
    a.cal.pkoFirst.isSome != second) = true := by
  rw [busy, turn, decide_eq_false (Nat.not_lt.mpr full), bne_self_eq_false]
  exact Bool.false_ne_true

variable (hgain : gain = (roundSqrt (65536 * 65536 * a.cal.pko.sqA) (max a.cal.pko.sqB 1) : Int) - 65536)
  (hofs : ofs = roundEven (a.cal.pko.sumA - a.cal.pko.sumB) (max a.cal.pko.whole 1))
include hgain hofs

/-- A result that fails is rejected, and ends the run. -/
theorem pkoDone_fails (fails : a.pkoFails gain ofs = order) (some1 : order ≠ 0) :
    a.pkoDone second = (a.calReject order 3 0x1FF).pkoEnds := by
  subst hgain hofs fails
  exact (if_neg (pko_passes busy full turn)).trans (if_pos some1)

variable (passes : a.pkoFails gain ofs = 0)
include passes

/-- A result that is not repeated is taken. -/
theorem pkoDone_single (single : a.calRepeats = false) : a.pkoDone second = (a.pkoTakes gain ofs).pkoEnds := by
  subst hgain hofs
  exact (if_neg (pko_passes busy full turn)).trans ((if_neg (not_not_intro passes)).trans (if_pos (by rw [single]; rfl)))

/-- The first of two results is kept, and the sums begin again. -/
theorem pkoDone_first (repeats : a.calRepeats = true) (none : a.cal.pkoFirst = none) :
    a.pkoDone second = { a with cal := { a.cal with pko := PkoSums.init, pkoFirst := some (gain, ofs) } } := by
  subst hgain hofs
  refine (if_neg (pko_passes busy full turn)).trans ((if_neg (not_not_intro passes)).trans
    ((if_neg (by rw [repeats]; exact Bool.false_ne_true)).trans ?_))
  rw [none]

variable {g o : Int} (repeats : a.calRepeats = true) (first : a.cal.pkoFirst = some (g, o))
include repeats first

/-- The second of two results is taken by their means where they agree. -/
theorem pkoDone_agrees (near : listNear 33 [gain] [g] = true) (near' : listNear 2 [ofs] [o] = true) :
    a.pkoDone second = (a.pkoTakes (mean2 gain g) (mean2 ofs o)).pkoEnds := by
  subst hgain hofs
  refine (if_neg (pko_passes busy full turn)).trans ((if_neg (not_not_intro passes)).trans
    ((if_neg (by rw [repeats]; exact Bool.false_ne_true)).trans ?_))
  rw [first]
  exact if_pos (by rw [near, near']; rfl)

/-- Two results that differ are rejected. -/
theorem pkoDone_differs (far : listNear 33 [gain] [g] = false ∨ listNear 2 [ofs] [o] = false) :
    a.pkoDone second = (a.calReject 0xFF 3 0x1FF).pkoEnds := by
  subst hgain hofs
  refine (if_neg (pko_passes busy full turn)).trans ((if_neg (not_not_intro passes)).trans
    ((if_neg (by rw [repeats]; exact Bool.false_ne_true)).trans ?_))
  rw [first]
  exact if_neg (by rw [Bool.not_eq_true, Bool.and_eq_false_iff]; exact far)

end

end State

/-- Settles O45: a run's start by whose conversion comes first, a TIMING step by the first limit that it fails and by
whether results are repeated, a pickoff run likewise. -/
theorem calibrationRunsComplete : Obligations.CalibrationRunsComplete := by
  refine ⟨?start, ?timing, ?pickoff⟩
  case start =>
    intro t g kinds host s a b h hb pend ready first idle hhost
    have starts := State.runStart_starts hb pend ready first idle hhost
    refine ⟨fun waits => ?waits, fun owes => ?owes⟩
    case waits => exact awakeAt_eq h (congrArg State.hkKick (starts.trans (by rw [waits]; rfl)))
    case owes => exact awakeAt_eq h (congrArg State.hkKick (starts.trans (by rw [owes]; rfl)))
  case timing =>
    intro t g f r m late w k o s a h step meas hw hk ho
    refine ⟨fun more => ?waits, fun ended => ?ended⟩
    case waits => exact awakeAt_eq h (State.timingStepDone_waits step meas more)
    case ended =>
      have judged := State.timingStepDone_judged step meas hw hk ho ended
      have rejects {order : Nat} (fails : a.timingFails r f late (State.partSd m 14) o w k = order) (some1 : order ≠ 0) :
          exec (.calTimingStepDone t g f) s = gives t s ((a.calReject order 1 f).stepEnd r.oct) :=
        awakeAt_eq h (judged.trans (State.stepJudged_reject (fails ▸ State.verdict_fails (fails ▸ some1))))
      refine ⟨fun isLate => ?late, fun inTime spread => ?spread, fun inTime spread widths => ?widths,
        fun inTime spread widths far => ?walkRange, fun inTime spread widths range far => ?offset,
        fun inTime spread widths range offset moved far => ?walk, fun inTime spread widths range offset near => ?passes⟩
      case late => exact rejects (State.timingFails_late isLate) (by decide)
      case spread => exact rejects (State.timingFails_spread inTime spread) (by decide)
      case widths => exact rejects (State.timingFails_widths inTime spread widths) (by decide)
      case walkRange => exact rejects (State.timingFails_walkRange inTime spread widths far) (by decide)
      case offset => exact rejects (State.timingFails_offset inTime spread widths range far) (by decide)
      case walk => exact rejects (State.timingFails_walk inTime spread widths range offset moved far) (by decide)
      case passes =>
        rw [State.timingFails_none inTime spread widths range offset near] at judged
        refine ⟨fun single => ?single, fun repeats none => ?again, fun v repeats some1 => ⟨fun agrees => ?agrees,
          fun differs => ?differs⟩⟩
        case single => exact awakeAt_eq h (judged.trans (State.stepJudged_accept (State.verdict_single single)))
        case again =>
          refine awakeAt_eq h (judged.trans ((State.stepJudged_again (none ▸ State.verdict_again repeats)).trans ?_))
          rw [meas]
          rfl
        case agrees =>
          exact awakeAt_eq h (judged.trans (State.stepJudged_accept (some1 ▸ State.verdict_agrees repeats agrees)))
        case differs =>
          exact awakeAt_eq h (judged.trans (State.stepJudged_reject (some1 ▸ State.verdict_differs repeats differs)))
  case pickoff =>
    rintro t second x gain ofs g0 o0 order s a b c h rfl
    refine ⟨fun more => ?waits, fun busy full turn hgain hofs => ⟨fun limits hb => ?fails,
      fun strong gainIn ofsIn gainNear ofsNear => ?passes⟩⟩
    case waits => exact awakeAt_eq h (State.pkoDone_waits more)
    case fails =>
      subst hb
      have fails : a.pkoFails gain ofs = order ∧ order ≠ 0 := by
        rcases limits with ⟨weak, rfl⟩ | ⟨strong, far, rfl⟩ | ⟨strong, gainIn, ofsIn, far, rfl⟩
        · exact ⟨State.pkoFails_weak weak, by decide⟩
        · exact ⟨State.pkoFails_range strong far, by decide⟩
        · exact ⟨State.pkoFails_step strong ⟨gainIn, ofsIn⟩ far, by decide⟩
      exact awakeAt_eq h (State.pkoDone_fails busy full turn hgain hofs fails.1 fails.2)
    case passes =>
      have passes := State.pkoFails_none strong ⟨gainIn, ofsIn⟩ gainNear ofsNear
      refine ⟨fun g1 o1 first repeats far hb => ?differs, fun repeats none => ?first, fun taken hb hc => ?taken⟩
      case differs =>
        subst hb
        exact awakeAt_eq h (State.pkoDone_differs busy full turn hgain hofs passes repeats first far)
      case first => exact awakeAt_eq h (State.pkoDone_first busy full turn hgain hofs passes repeats none)
      case taken =>
        subst hc hb
        rcases taken with ⟨single, rfl, rfl⟩ | ⟨repeats, g1, o1, first, near, near', rfl, rfl⟩
        · exact awakeAt_eq h (State.pkoDone_single busy full turn hgain hofs passes single)
        · exact awakeAt_eq h (State.pkoDone_agrees busy full turn hgain hofs passes repeats first near near')

end Sys2Proof.Machine
end

section
/-! SUPPORT. Proofs of the commands family: the journal's writes and its compaction (R409, R411, R412, R415, R419). -/

namespace Sys2Proof.Machine

namespace State

variable {a b c d z : State} {w : JWrite} {j : JItem} {rest : List JItem}

/-! ### The entry in progress (R409, R415) -/

/-- What follows a write of the journal: the entry to SAFE that waited for it, and a cord reset that is due. -/
theorem writeDone_calm {ok : Bool} (hd : d = (a.entryDone ok).settleAll) (calm : d.nvs.safeWait = false) :
    a.writeDone ok = d.cordResetTaken := by
  subst hd
  simp only [writeDone, calm, Bool.false_eq_true, if_false]

theorem writeDone_safe {ok : Bool} (hd : d = (a.entryDone ok).settleAll) (waits : d.nvs.safeWait = true) :
    a.writeDone ok = cordResetTaken (safeEnter 3 { d with nvs := { d.nvs with safeWait := false } }) := by
  subst hd
  simp only [writeDone, waits, if_true]

section
variable (writing : a.nvs.writing = some w) (todo : w.todo = j :: rest) (hb : b = a.firstSuper)
include writing todo hb

/-- An entry written well takes its place and its number, and the group goes on or gives way to the next. -/
theorem entryDone_good
    (hc : c = b.putHalf (b.half ++ [⟨j.typ, rest.isEmpty, j.key, b.nvs.nextSeq, w.first, j.payload, true⟩])) :
    a.entryDone true = (autoCompact { (c.count ⟨0x12, 2⟩ 0).lifeAdd 164 1 with
      nvs := { ((c.count ⟨0x12, 2⟩ 0).lifeAdd 164 1).nvs with
        nextSeq := ((c.count ⟨0x12, 2⟩ 0).lifeAdd 164 1).nvs.nextSeq + 1
        writing := (if rest.isEmpty then none else some { w with todo := rest, attempts := 0 }) } }).takeGroup := by
  subst hc hb
  simp only [entryDone, writing, todo, if_true]

section
variable (hc : c = b.putHalf (b.half ++ [⟨j.typ, rest.isEmpty, j.key, b.nvs.nextSeq, w.first, j.payload, false⟩]))
include hc

/-- A failed entry keeps its place and is written again. -/
theorem entryDone_again (more : w.attempts + 1 < 3) :
    a.entryDone false = { c with nvs := { c.nvs with writing := some { w with attempts := w.attempts + 1 } } } := by
  subst hc hb
  simp only [entryDone, writing, todo, more, Bool.false_eq_true, if_false, if_true]

/-- The third failure in a row abandons the group. -/
theorem entryDone_abandons (third : 3 ≤ w.attempts + 1) :
    a.entryDone false = (abandonGroup w.group { c with nvs := { c.nvs with writing := none } }).takeGroup := by
  subst hc hb
  simp only [entryDone, writing, todo, Nat.not_lt.mpr third, Bool.false_eq_true, if_false]

end

end

/-! ### The flip of a compaction (R411, R412, Table 17-2) -/

theorem compactFlip_idle (idle : a.flag F.NVS_STATUS_COMPACTING = false) : a.compactFlip = a := by
  simp only [compactFlip, idle, Bool.false_eq_true, if_false]

/-- The other half, with the image of the latest valid values and behind it the good entries since the snapshot, becomes
the active one. -/
theorem compactFlip_flips {gen other : Nat} {image kept l : List JEntry}
    (compacting : a.flag F.NVS_STATUS_COMPACTING = true) (hz : z = a.firstSuper)
    (himage : image = asEntries 1 1 (latest (z.half.take z.nvs.snapLen)).image)
    (hkept : kept = (z.half.drop z.nvs.snapLen).filter (fun e => e.ok)) (hl : l = image ++ copied image.length kept)
    (hgen : gen = z.rd F.NVS_GEN_GENERATION + 1) (hother : other = 1 - z.rd F.NVS_STATUS_HALF)
    (hb : b = ((((z.writeSuper ⟨gen, other, halfBytes image, image.length⟩).wr F.NVS_GEN_GENERATION gen).wr
      F.NVS_STATUS_HALF other).putHalf l).wr F.NVS_STATUS_COMPACTING 0)
    (hc : c = lifeAdd 166 1 (count ⟨0x12, 0⟩ 0 { b with nvs := { b.nvs with
      nextSeq := l.length + 1
      snapLen := 0
      writing := b.nvs.writing.map (fun (w : JWrite) => { w with first := regroup image.length kept w.first }) } }))
    (hd : d = (c.calendarAdd 7 (gen % 2 ^ 16)).wrB F.NVS_STATUS_FULL (halfBytes l ≥ compactAt)) :
    a.compactFlip = d.takeGroup := by
  subst hd hc hb hother hgen hl hkept himage hz
  simp only [compactFlip, compacting, if_true]

end State

/-- Settles O47: a write by whether it went well and by the failures before it, the flip by whether one is due. -/
theorem journalCommandsComplete : Obligations.JournalCommandsComplete := by
  refine ⟨fun t w j rest s a b c d h writing todo hb => ⟨fun hc hd => ?good, fun hc again third => ?failed⟩,
    fun t gen other image kept l s a b c d z h =>
      ⟨fun idle => ?idle, fun compacting hz himage hkept hl hgen hother hb hc hd => ?flips⟩⟩
  case good =>
    rw [show d = (a.entryDone true).settleAll by rw [hd, State.entryDone_good writing todo hb hc]]
    exact ⟨fun calm => liveAt_eq h (State.writeDone_calm rfl calm),
      fun waits => liveAt_eq h (State.writeDone_safe rfl waits)⟩
  case failed =>
    have settled : d = (a.entryDone false).settleAll := by
      rcases Nat.lt_or_ge (w.attempts + 1) 3 with more | abandoned
      · rw [again more, State.entryDone_again writing todo hb hc more]
      · rw [third abandoned, State.entryDone_abandons writing todo hb hc abandoned]
    exact ⟨fun calm => liveAt_eq h (State.writeDone_calm settled calm),
      fun waits => liveAt_eq h (State.writeDone_safe settled waits)⟩
  case idle => exact liveAt_eq h (congrArg State.settleAll (State.compactFlip_idle idle))
  case flips =>
    exact liveAt_eq h (congrArg State.settleAll
      (State.compactFlip_flips compacting hz himage hkept hl hgen hother hb hc hd))

end Sys2Proof.Machine
end

section
/-! SUPPORT. The commands family: a sample whose statement names another recipe than the one that runs (R435). -/

namespace Sys2Proof.Machine

namespace State

/-- A sample's record in entry `n`, written into `s` (R435). -/
def noted (n run recipe step number : Nat) (s : State) : State :=
  ((((wr (F.TALLY_SAMPLE_VALID n) 1 s).wr (F.TALLY_SAMPLE_RUNNING n) run).wr (F.TALLY_SAMPLE_RECIPE n) recipe).wr
    (F.TALLY_SAMPLE_STEP n) step).wr (F.TALLY_SAMPLE_SAMPLE n) number

/-- What a sample leaves, with its record. -/
def sampled (n run recipe step number : Nat) (s : State) : State :=
  ((s.noted n run recipe step number).wr F.TALLY_SAMPLE_STATUS_NEXT ((n + 1) % 16)).count ⟨0x13, 3⟩ 0

/-- The record shows whether a recipe runs. -/
theorem rd_running_sampled {run : Nat} (recipe step number : Nat) (s : State) (h : run < 2) :
    (s.sampled 0 run recipe step number).rd (F.TALLY_SAMPLE_RUNNING 0) = run := by
  unfold sampled rd
  rw [word_count (by decide), word_wr_ne (by decide)]
  change (s.noted 0 run recipe step number).rd (F.TALLY_SAMPLE_RUNNING 0) = run
  unfold noted
  rw [rd_wr_beside _ _ (by decide) (by decide) (by decide) (by decide),
    rd_wr_beside _ _ (by decide) (by decide) (by decide) (by decide),
    rd_wr_beside _ _ (by decide) (by decide) (by decide) (by decide)]
  exact rd_wr_same _ (by decide) (by decide) h

/-- Started up, with sampling enabled and recipe 0 running. -/
def sampling : State :=
  wr F.TALLY_SAMPLE_CFG_EN 1 { Tests.up with cmd := { Tests.up.cmd with run := some ⟨0, 0, [], [], .ready⟩ } }

theorem sampling_heard : AwakeAt 0 sampling sampling := Tests.awakeAt_zero (by decide)

/-- The record's number of a sample of `sampling`. -/
def samplingNumber : Nat := sampling.counter ⟨0x13, 3⟩ 0 % 2 ^ 16

/-- The sample of `sampling` shows that a recipe runs. -/
theorem sampleTick_sampling : sampling.sampleTick = sampled 0 1 0 (min (0 + sampling.fresh % 4) 0) samplingNumber
    { sampling with free := sampling.free + 1 } := by
  have next : sampling.rd F.TALLY_SAMPLE_STATUS_NEXT = 0 := by decide
  refine (if_pos (by decide)).trans ?_
  rw [next]
  rfl

end State

/-- Two answers that are one leave the same registers. -/
theorem regs_of_gives {t : Nat} {s r r' : State} (h : gives t s r = gives t s r') : r.regs = r'.regs := by
  unfold gives at h
  have same := congrArg State.regs (Host.Outcome.next.inj h)
  exact same

/-- Refutes O48: of a sample the statement says what RUNNING, RECIPE and STEP are where no recipe runs and where the
recipe `r` that it names is the one that runs. In `sampling` recipe 0 runs and `r` is another: the statement then holds
for any values, and with 0 for RUNNING it denies what the sample shows. -/
theorem not_lifeAndTallyCommandsComplete : ¬ Obligations.LifeAndTallyCommandsComplete := by
  rintro ⟨-, tally⟩
  have other : State.sampling.cmd.run ≠ some ⟨1, 0, [], [], .ready⟩ := by decide
  have runs : State.sampling.cmd.run ≠ none := by decide
  obtain ⟨-, -, -, -, -, -, notes⟩ := tally 0 0 0 0 0 ⟨1, 0, [], [], .ready⟩ ⟨0, 0, 0, 0, []⟩ State.sampling State.sampling
    State.sampling _ State.sampling_heard
  have denied : exec (.sampleTick 0) State.sampling = gives 0 State.sampling (State.sampled 0 0 0 0 State.samplingNumber
      { State.sampling with free := State.sampling.free + 1 }) :=
    notes (by decide) (by decide) (fun e => absurd e other) (fun e => absurd e runs) rfl
  have shown := awakeAt_eq State.sampling_heard State.sampleTick_sampling
  have same := regs_of_gives (shown.symm.trans denied)
  have running := State.rd_congr same (F.TALLY_SAMPLE_RUNNING 0)
  rw [State.rd_running_sampled _ _ _ _ Nat.one_lt_two, State.rd_running_sampled _ _ _ _ Nat.zero_lt_two] at running
  exact absurd running (by decide)

end Sys2Proof.Machine
end

section
/-! SUPPORT. Proofs of the commands family: supplies, RESET_N, the release of the internal reset, command resets and
watchdogs (R334, R345, R436, R438, R439, R441, R456). -/

namespace Sys2Proof.Machine

namespace State

variable {a b c d e : State} {role : Bool} {id slot : Nat} {bad0 bad1 fell : Bool} {h : Half}

/-! ### RESET_N (R438) -/

theorem resetFall_pulse (hb : b = refreshAllow { a with boot := { a.boot with resetN := false } }) (resets : Bool) :
    a.resetFall resets = if resets then b.enterReset 1 else b.calPoll := by
  subst hb
  rfl

theorem resetRise_held (held : a.boot.phase = BootPhase.held) :
    a.resetRise role id = sampleStraps role id { a with boot := { a.boot with resetN := true } } :=
  if_pos held

theorem resetRise_live (live : a.boot.phase ≠ BootPhase.held) :
    a.resetRise role id = refreshAllow { a with boot := { a.boot with resetN := true } } :=
  if_neg live

/-! ### The release (R436, R439, R441) -/

theorem resetRelease_blocked (h : a.boot.phase ≠ BootPhase.held ∨ a.boot.resetN = false ∨ a.boot.tripped = true) :
    a.resetRelease role id bad0 bad1 = a := if_pos h

/-- Steps 1 to 5 of Table 19-1 from the slot chosen, on the state `e` in which the journal has been opened and the
selection taken. -/
def startsFrom (a e : State) (p : State × Option (Nat × Bool)) : State :=
  match p with
  | (s, none) => s.romSafe
  | (s, some (slot, fell)) =>
    let s := { s with boot := { s.boot with phase := .starting } }
    let s := ((s.wdtRestart .north).wdtRestart .south).replayAll
    let s := if a.boot.kind < 2 then s.syncSource else s
    let s := (s.lifeLoad).slotRecord slot fell (decide (a.boot.kind = 3) && e.nvs.trialAt.isSome)
    s.freqFollow.hkStart.selftestEntry

/-- A release samples the straps after kinds 0 and 4, opens the journal and chooses the slot. -/
theorem resetRelease_starts (held : a.boot.phase = BootPhase.held) (high : a.boot.resetN = true)
    (cool : a.boot.tripped = false) (hb : b = { a with boot := { a.boot with supplyOk := true } })
    (hc : c = if a.boot.kind = 0 ∨ a.boot.kind = 4 then b.sampleStraps role id else b)
    (hd : d = if a.boot.kind < 2 then { c with time := { c.time with dev := 0, locked := true } } else c)
    (he : e = d.openJournal.bootSelect (replay d.openJournal.half).boot) :
    a.resetRelease role id bad0 bad1 = startsFrom a e (e.bootSlot bad0 bad1) := by
  have free : ¬ (a.boot.phase ≠ BootPhase.held ∨ a.boot.resetN = false ∨ a.boot.tripped = true) := by
    rw [held, high, cool]
    decide
  subst he hd hc hb
  exact if_neg free

/-! ### Command resets and watchdogs (R334, R456) -/

theorem commandReset_taken (due : a.boot.resetDue = .command) (idle : a.nvsIdle = true) (left : a.replyOwed = false)
    (waited : a.boot.replyEnd + 1000000 ≤ a.now) : a.commandReset = a.lifeFlush.enterReset 2 :=
  if_pos ⟨due, idle, left, waited⟩

theorem commandReset_waits (h : a.boot.resetDue ≠ .command ∨ a.nvsIdle = false ∨ a.replyOwed = true ∨
    a.now < a.boot.replyEnd + 1000000) : a.commandReset = a := by
  refine if_neg ?_
  rintro ⟨due, idle, left, waited⟩
  rcases h with other | busy | owed | early
  · exact other due
  · exact Bool.false_ne_true (busy.symm.trans idle)
  · exact Bool.false_ne_true (left.symm.trans owed)
  · omega

theorem wdtKick_restarts (runs : a.wdtRuns = true) : a.wdtKick h = a.wdtRestart h := if_pos runs

theorem wdtKick_stopped (stopped : a.wdtRuns = false) : a.wdtKick h = a := if_neg (Bool.eq_false_iff.mp stopped)

theorem watchdogBite_stopped (stopped : a.wdtRuns = false) : a.watchdogBite h = a := by
  refine if_neg ?_
  rw [stopped]
  exact Bool.false_ne_true

theorem watchdogBite_early (early : a.now < a.wdtAt h + a.rd F.DEV_WDT_TIMEOUT_MS * 1000000) : a.watchdogBite h = a := by
  refine if_neg ?_
  rw [decide_eq_false (Nat.not_le.mpr early), Bool.and_false]
  exact Bool.false_ne_true

/-- A watchdog that nobody has restarted resets with kind 3. -/
theorem watchdogBite_resets (runs : a.wdtRuns = true)
    (late : a.wdtAt h + a.rd F.DEV_WDT_TIMEOUT_MS * 1000000 ≤ a.now)
    (hb : b = (a.setPermits false).logEntry h.num Ev.watchdogReset 0x0B h.num 0 0)
    (hc : c = if b.nvs.writing.isSome then b.entryDone true else b) : a.watchdogBite h = c.lifeFlush.enterReset 3 := by
  subst hc hb
  refine if_pos ?_
  rw [runs, decide_eq_true late]
  rfl

end State

/-- Settles O50: RESET_N by the phase, a release by what holds it back and by the slot found, a command reset by what it
waits for, and a watchdog by its time. -/
theorem resetCommandsComplete : Obligations.ResetCommandsComplete := by
  refine ⟨?pins, ?release, ?resets⟩
  case pins =>
    rintro t role id s a b rfl
    refine ⟨run_gives t _ s, fun hb => ⟨?short, ?long⟩, fun held => ?held, fun live => ?live⟩
    case short => exact run_eq ((State.resetFall_pulse hb false).trans (if_neg Bool.false_ne_true))
    case long => exact run_eq ((State.resetFall_pulse hb true).trans (if_pos rfl))
    case held => exact run_eq (State.resetRise_held held)
    case live => exact run_eq (State.resetRise_live live)
  case release =>
    rintro t slot role fell id bad0 bad1 s a b c d e rfl
    refine ⟨fun blocked => run_eq (State.resetRelease_blocked blocked), fun held high cool hb hc hd he => ?_⟩
    have starts : exec (.resetRelease t role id bad0 bad1) s = _ :=
      run_eq (State.resetRelease_starts held high cool hb hc hd he)
    cases found : e.bootSlot bad0 bad1 with
    | mk r choice =>
      rw [found] at starts
      refine ⟨?rom, ?start⟩
      case rom =>
        rintro rfl
        exact starts
      case start =>
        rintro rfl
        exact ⟨_, _, rfl, rfl, starts⟩
  case resets =>
    intro t half s a b c h
    refine ⟨fun due idle left waited => ?taken, fun more => ?waits,
      fun runs => ⟨?kick, fun early => ?early, fun late hb hc => ?bite⟩, fun stopped => ⟨?kickStopped, ?biteStopped⟩⟩
    case taken => exact liveAt_eq h (State.commandReset_taken due idle left waited)
    case waits => exact liveAt_eq h (State.commandReset_waits more)
    case kick => exact liveAt_eq h (State.wdtKick_restarts runs)
    case early => exact liveAt_eq h (State.watchdogBite_early early)
    case bite => exact liveAt_eq h (State.watchdogBite_resets runs late hb hc)
    case kickStopped => exact liveAt_eq h (State.wdtKick_stopped stopped)
    case biteStopped => exact liveAt_eq h (State.watchdogBite_stopped stopped)

end Sys2Proof.Machine
end

section
/-! SUPPORT. What every step keeps (R319, R320, R322, R328, R340, R445): the canonical form of the stores, the bounds
  of
the queues and the codes of MODE and TARGET. Here the notion, and the writes of the stores; then each of the model's
operations, in the order of its files. -/

namespace Sys2Proof.Machine

/-- The lengths that `State.sound` bounds: the fault log, the kept replies and the input queue of each core, the SPI
reply queue and the recipe queue. -/
def CmdSt.lengths (c : CmdSt) : List Nat :=
  [c.faults.length, c.keptN.length, c.keptS.length, c.inN.length, c.inS.length, c.spiQ.length, c.queue.length]

/-- The lengths of a command processor are within the bounds of `State.sound`. -/
def CmdSt.Bounded (c : CmdSt) : Prop := List.Forall₂ (· ≤ ·) c.lengths [16, 8, 8, 8, 8, 4, 8]

theorem CmdSt.bounded_iff {c : CmdSt} :
    c.Bounded ↔ c.faults.length ≤ 16 ∧ c.keptN.length ≤ 8 ∧ c.keptS.length ≤ 8 ∧ c.inN.length ≤ 8 ∧ c.inS.length ≤ 8
      ∧ c.spiQ.length ≤ 4 ∧ c.queue.length ≤ 8 := by
  simp [CmdSt.Bounded, CmdSt.lengths]

/-- MODE and TARGET in a word of DEV_MODE are codes of Table 19-2. -/
def ModeCodes (w : Nat) : Prop := bitsOf w 7 0 ≤ 7 ∧ bitsOf w 15 8 ≤ 7

namespace State

/-- What `State.sound` asks, taken apart. -/
structure Sound (s : State) : Prop where
  regs : Sparse.wf resetWord s.regs = true
  tabs : Sparse.wf tabReset s.tabs = true
  live : Sparse.wf (fun _ => 0) s.tally.live = true
  cmd : s.cmd.Bounded
  codes : ModeCodes (s.word A.DEV_MODE)

theorem sound_iff {s : State} : s.sound = true ↔ s.Sound := by
  have parts : s.Sound ↔ Sparse.wf resetWord s.regs = true ∧ Sparse.wf tabReset s.tabs = true ∧
      Sparse.wf (fun _ => 0) s.tally.live = true ∧ s.cmd.Bounded ∧ ModeCodes (s.word A.DEV_MODE) :=
    ⟨fun ⟨a, b, c, d, e⟩ => ⟨a, b, c, d, e⟩, fun ⟨a, b, c, d, e⟩ => ⟨a, b, c, d, e⟩⟩
  rw [parts]
  simp only [sound, CmdSt.bounded_iff, ModeCodes, Bool.and_eq_true, decide_eq_true_eq, and_assoc]
  rfl

/-- The core of an opcode keeps the forms. -/
def KeepsForms (sp : OpSpec) : Prop := ∀ (q : Req) (s : State), s.Sound → (sp.core q s).state.Sound

section
variable {s r : State}

/-! ### How proofs are put together -/

section
variable {pending : List Instr} {now free : Nat} {boot : Boot} {permits : Permits} {time : TimeSt}
  {regions : List RegionSt}
  {ports : List PortSt} {lanes : List LaneSt} {cord : CordSt} {nvs : NvsSt} {hk : HkSt} {therm : ThermSt} {rx : RxSt}
  {stats : List StatUnit} {fire : FireSt} {acq : AcqSt} {angle : AngleSt} {servo : ServoSt} {geom : GeomSt}
    {cam : CamSt}
  {cal : CalSt} {pwr : PwrSt} (h : s.Sound)
include h

/-- An update of what `State.sound` does not speak of. -/
theorem Sound.frame : (State.mk pending now free s.regs s.tabs boot permits time s.tally regions ports lanes s.cmd
    cord nvs
    hk therm rx stats fire acq angle servo geom cam cal pwr).Sound :=
  ⟨h.regs, h.tabs, h.live, h.cmd, h.codes⟩

/-- The same, and of the command processor. -/
theorem Sound.frameCmd {cmd : CmdSt} (hc : cmd.Bounded) :
    (State.mk pending now free s.regs s.tabs boot permits time s.tally
    regions ports lanes cmd cord nvs hk therm rx stats fire acq angle servo geom cam cal pwr).Sound :=
  ⟨h.regs, h.tabs, h.live, hc, h.codes⟩

/-- The same, and of the command processor beside its queues and its log. -/
theorem Sound.frameRun {miso : List Nat} {uartOut : Option UartFrame} {lastReply : Option (Source × Reply)}
    {recipes : List Recipe} {run : Option RecipeRun} {boundaries : Nat} {tempBase : List TempBase} :
    (State.mk pending now free s.regs s.tabs boot permits time s.tally regions ports lanes
    ⟨s.cmd.faults, s.cmd.keptN, s.cmd.keptS, s.cmd.spiQ, s.cmd.inN, s.cmd.inS, miso, uartOut, lastReply, recipes,
      s.cmd.queue, run, boundaries, tempBase⟩
    cord nvs hk therm rx stats fire acq angle servo geom cam cal pwr).Sound :=
  h.frameCmd h.cmd

/-- The same, and of the tally beside the live counters. -/
theorem Sound.frameTally {snap : Sparse Nat} {dump : Option DumpLatch} {dumpNo : Nat} {dumpAt : Option Nat}
    {bwCount : List Nat} : (State.mk pending now free s.regs s.tabs boot permits time
    ⟨s.tally.live, snap, dump, dumpNo, dumpAt, bwCount⟩
    regions ports lanes s.cmd cord nvs hk therm rx stats fire acq angle servo geom cam cal pwr).Sound :=
  ⟨h.regs, h.tabs, h.live, h.cmd, h.codes⟩
end

section
variable {l : List Nat} (h : s.Sound)
include h

/-! The queues and the log of the command processor, each replaced by one within its bound. -/

theorem Sound.withFaults {l : List FaultEntry} (fits : l.length ≤ 16) : ({ s.cmd with faults :=
    l } : CmdSt).Bounded := by
  obtain ⟨-, others⟩ := CmdSt.bounded_iff.mp h.cmd
  exact CmdSt.bounded_iff.mpr ⟨fits, others⟩

theorem Sound.withKeptN {l : List KeptReply} (fits : l.length ≤ 8) : ({ s.cmd with keptN := l } : CmdSt).Bounded := by
  obtain ⟨faults, -, others⟩ := CmdSt.bounded_iff.mp h.cmd
  exact CmdSt.bounded_iff.mpr ⟨faults, fits, others⟩

theorem Sound.withKeptS {l : List KeptReply} (fits : l.length ≤ 8) : ({ s.cmd with keptS := l } : CmdSt).Bounded := by
  obtain ⟨faults, keptN, -, others⟩ := CmdSt.bounded_iff.mp h.cmd
  exact CmdSt.bounded_iff.mpr ⟨faults, keptN, fits, others⟩

theorem Sound.withInN {l : List QueuedReq} (fits : l.length ≤ 8) : ({ s.cmd with inN := l } : CmdSt).Bounded := by
  obtain ⟨faults, keptN, keptS, -, others⟩ := CmdSt.bounded_iff.mp h.cmd
  exact CmdSt.bounded_iff.mpr ⟨faults, keptN, keptS, fits, others⟩

theorem Sound.withInS {l : List QueuedReq} (fits : l.length ≤ 8) : ({ s.cmd with inS := l } : CmdSt).Bounded := by
  obtain ⟨faults, keptN, keptS, inN, -, others⟩ := CmdSt.bounded_iff.mp h.cmd
  exact CmdSt.bounded_iff.mpr ⟨faults, keptN, keptS, inN, fits, others⟩

theorem Sound.withSpiQ {l : List Reply} (fits : l.length ≤ 4) : ({ s.cmd with spiQ := l } : CmdSt).Bounded := by
  obtain ⟨faults, keptN, keptS, inN, inS, -, queue⟩ := CmdSt.bounded_iff.mp h.cmd
  exact CmdSt.bounded_iff.mpr ⟨faults, keptN, keptS, inN, inS, fits, queue⟩

theorem Sound.withQueue (fits : l.length ≤ 8) : ({ s.cmd with queue := l } : CmdSt).Bounded := by
  obtain ⟨faults, keptN, keptS, inN, inS, spiQ, -⟩ := CmdSt.bounded_iff.mp h.cmd
  exact CmdSt.bounded_iff.mpr ⟨faults, keptN, keptS, inN, inS, spiQ, fits⟩

/-- The fault log is within its bound. -/
theorem Sound.faults_le : s.cmd.faults.length ≤ 16 := by
  obtain ⟨fits, _⟩ := CmdSt.bounded_iff.mp h.cmd
  exact fits

/-- The queue of recipes is within its bound. -/
theorem Sound.queue_le : s.cmd.queue.length ≤ 8 := by
  obtain ⟨_, _, _, _, _, _, fits⟩ := CmdSt.bounded_iff.mp h.cmd
  exact fits

/-- The queue of SPI replies is within its bound. -/
theorem Sound.spiQ_le : s.cmd.spiQ.length ≤ 4 := by
  obtain ⟨_, _, _, _, _, fits, _⟩ := CmdSt.bounded_iff.mp h.cmd
  exact fits

/-- A core's input queue is within its bound. -/
theorem Sound.inQueue_le {core : Nat} : (s.inQueue core).length ≤ 8 := by
  obtain ⟨_, _, _, inN, inS, _, _⟩ := CmdSt.bounded_iff.mp h.cmd
  unfold State.inQueue
  split
  · exact inN
  · exact inS
end

theorem Sound.then (h : s.Sound) (k : s.Sound → r.Sound) : r.Sound := k h

theorem Sound.ite {c : Prop} {d : Decidable c} (hs : s.Sound) (hr : r.Sound) : (if c then s else r).Sound := by
  split
  · exact hs
  · exact hr

theorem Sound.foldl {α : Type} {f : State → α → State} {l : List α} (h : s.Sound)
    (hf : ∀ {s : State} {x : α}, s.Sound → (f s x).Sound) : (l.foldl f s).Sound := by
  induction l generalizing s with
  | nil => exact h
  | cons x l ih => exact ih (hf h)

/-- A fold that carries something beside the state. -/
theorem Sound.foldl_fst {α β : Type} {f : State × β → α → State × β} {l : List α} {p : State × β}
    (h : p.1.Sound) (hf : ∀ {p : State × β} {x : α}, p.1.Sound → (f p x).1.Sound) : (l.foldl f p).1.Sound := by
  induction l generalizing p with
  | nil => exact h
  | cons x l ih => exact ih (hf h)

/-! ### Registers, tables and counters -/

section
variable {a b k n hi lo v i : Nat} {x : Int} {y : Bool} {f : Fld} (h : s.Sound)
include h

/-- A write of a register above DEV_MODE. -/
theorem Sound.putAbove (ha : A.DEV_MODE < a) : (s.putWord a v).Sound where
  regs := wf_putWord a v h.regs
  tabs := h.tabs
  live := h.live
  cmd := h.cmd
  codes := (word_putWord_ne (Nat.ne_of_lt ha) s v).symm ▸ h.codes

omit h in
theorem above (b : Nat) : A.DEV_MODE < b + 8 := Nat.lt_of_lt_of_le (by decide) (Nat.le_add_left 8 b)

/-! A register at a fixed address, at one with an index, and at one with two. -/

theorem Sound.putWord : (s.putWord (b + 8) v).Sound := h.putAbove (above b)
theorem Sound.putWordAt : (s.putWord (b + 8 + k) v).Sound := h.putAbove (Nat.lt_add_right k (above b))
theorem Sound.putWordAt₂ : (s.putWord (b + 8 + k + n) v).Sound :=
  h.putAbove (Nat.lt_add_right n (Nat.lt_add_right k (above b)))
theorem Sound.wr : (s.wr ⟨b + 8, hi, lo⟩ v).Sound := h.putWord
theorem Sound.wrAt : (s.wr ⟨b + 8 + k, hi, lo⟩ v).Sound := h.putWordAt
theorem Sound.wrAt₂ : (s.wr ⟨b + 8 + k + n, hi, lo⟩ v).Sound := h.putWordAt₂
theorem Sound.wrS : (s.wrS ⟨b + 8, hi, lo⟩ x).Sound := h.wr
theorem Sound.wrSAt : (s.wrS ⟨b + 8 + k, hi, lo⟩ x).Sound := h.wrAt
theorem Sound.wrSAt₂ : (s.wrS ⟨b + 8 + k + n, hi, lo⟩ x).Sound := h.wrAt₂
theorem Sound.wrB : (s.wrB ⟨b + 8, hi, lo⟩ y).Sound := h.wr
theorem Sound.wrBAt : (s.wrB ⟨b + 8 + k, hi, lo⟩ y).Sound := h.wrAt
theorem Sound.wrBAt₂ : (s.wrB ⟨b + 8 + k + n, hi, lo⟩ y).Sound := h.wrAt₂
theorem Sound.setIn : (s.setIn ⟨b + 8, hi, lo⟩ i).Sound := h.wr
theorem Sound.setInAt : (s.setIn ⟨b + 8 + k, hi, lo⟩ i).Sound := h.wrAt
theorem Sound.clearIn : (s.clearIn ⟨b + 8, hi, lo⟩ i).Sound := h.wr
theorem Sound.bump : (s.bump ⟨b + 8, hi, lo⟩).Sound := .ite h.wr h
theorem Sound.bumpAt : (s.bump ⟨b + 8 + k, hi, lo⟩).Sound := .ite h.wrAt h
end

/-- A write that leaves codes of Table 19-2 where it is of DEV_MODE. -/
theorem Sound.putCodes {a v : Nat} (h : s.Sound) (hv : a = A.DEV_MODE → ModeCodes (v % 2 ^ 32)) :
    (s.putWord a v).Sound where
  regs := wf_putWord a v h.regs
  tabs := h.tabs
  live := h.live
  cmd := h.cmd
  codes := by
    by_cases e : a = A.DEV_MODE
    · rw [e, word_putWord_same]
      exact hv e
    · exact (word_putWord_ne (Ne.symm e) s v).symm ▸ h.codes

/-- The fields of DEV_MODE are read-only. -/
theorem devMode_readOnly {r : RegAt} (hr : findReg A.DEV_MODE = some r) :
    r.reg.maskOf .rw = 0 ∧ r.reg.maskOf .w1c = 0 ∧ r.reg.maskOf .rdc = 0 := by
  have found : (findReg A.DEV_MODE).map (fun r => (r.reg.maskOf .rw, r.reg.maskOf .w1c, r.reg.maskOf .rdc)) =
      some (0, 0, 0) := by decide
  rw [hr] at found
  simpa using found

theorem Sound.codes_at {a : Nat} (h : s.Sound) (e : a = A.DEV_MODE) : ModeCodes (s.word a % 2 ^ 32) := by
  rw [e, Nat.mod_eq_of_lt (s.word_lt _)]
  exact h.codes

/-- The word that a register holds after a write of its RW fields has the codes of the word before it. -/
theorem ModeCodes.merge {a w old : Nat} {x : RegAt} (hr : findReg a = some x)
    (hold : a = A.DEV_MODE → ModeCodes (old % 2 ^ 32))
    (e : a = A.DEV_MODE) : ModeCodes (x.reg.merge old w % 2 ^ 32) := by
  subst e
  obtain ⟨rw0, -, -⟩ := devMode_readOnly hr
  simpa [RegDef.merge, rw0] using hold rfl

theorem Sound.putMerge {a w : Nat} {x : RegAt} (h : s.Sound) (hr : findReg a = some x) :
    (s.putWord a (x.reg.merge (s.word a) w)).Sound :=
  h.putCodes (ModeCodes.merge hr h.codes_at)

/-! MODE, TARGET and TRANS. -/

theorem Sound.wrMode {m : Nat} (h : s.Sound) (hm : m ≤ 7) : (s.wr F.DEV_MODE_MODE m).Sound where
  regs := wf_wr _ _ h.regs
  tabs := h.tabs
  live := h.live
  cmd := h.cmd
  codes := by
    have hs : (s.wr F.DEV_MODE_MODE m).rd F.DEV_MODE_MODE = m :=
      rd_wr_same s (by decide) (by decide) (Nat.lt_of_le_of_lt hm (by decide))
    have ht : (s.wr F.DEV_MODE_MODE m).rd F.DEV_MODE_TARGET = s.rd F.DEV_MODE_TARGET :=
      rd_wr_beside s m (by decide) (by decide) (by decide) (.inr (by decide))
    exact ⟨hs.trans_le hm, ht.trans_le h.codes.2⟩

theorem Sound.wrTarget {m : Nat} (h : s.Sound) (hm : m ≤ 7) : (s.wr F.DEV_MODE_TARGET m).Sound where
  regs := wf_wr _ _ h.regs
  tabs := h.tabs
  live := h.live
  cmd := h.cmd
  codes := by
    have hs : (s.wr F.DEV_MODE_TARGET m).rd F.DEV_MODE_TARGET = m :=
      rd_wr_same s (by decide) (by decide) (Nat.lt_of_le_of_lt hm (by decide))
    have ht : (s.wr F.DEV_MODE_TARGET m).rd F.DEV_MODE_MODE = s.rd F.DEV_MODE_MODE :=
      rd_wr_beside s m (by decide) (by decide) (by decide) (.inl (by decide))
    exact ⟨ht.trans_le h.codes.1, hs.trans_le hm⟩

theorem Sound.wrTrans {v : Nat} (h : s.Sound) : (s.wr F.DEV_MODE_TRANS v).Sound where
  regs := wf_wr _ _ h.regs
  tabs := h.tabs
  live := h.live
  cmd := h.cmd
  codes := by
    have hm : (s.wr F.DEV_MODE_TRANS v).rd F.DEV_MODE_MODE = s.rd F.DEV_MODE_MODE :=
      rd_wr_beside s v (by decide) (by decide) (by decide) (.inl (by decide))
    have ht : (s.wr F.DEV_MODE_TRANS v).rd F.DEV_MODE_TARGET = s.rd F.DEV_MODE_TARGET :=
      rd_wr_beside s v (by decide) (by decide) (by decide) (.inl (by decide))
    exact ⟨hm.trans_le h.codes.1, ht.trans_le h.codes.2⟩

theorem Sound.putTab {t u o v : Nat} (h : s.Sound) : (s.putTab t u o v).Sound :=
  ⟨h.regs, wf_putTab t u o v h.tabs, h.live, h.cmd, h.codes⟩

theorem Sound.putTabs {t u o : Nat} {ws : List Nat} (h : s.Sound) : (s.putTabs t u o ws).Sound := by
  induction ws generalizing o s with
  | nil => exact h
  | cons v vs ih => exact ih h.putTab

/-- A counter's new value. -/
theorem Sound.putCounter {k v : Nat} (h : s.Sound) :
    ({ s with tally := { s.tally with live := Sparse.put s.tally.live 0 k v } } : State).Sound :=
  ⟨h.regs, h.tabs, Sparse.wf_put (d := fun _ => 0) v h.live, h.cmd, h.codes⟩

/-- A state set beside something else. -/
theorem Sound.pair {β : Type} {b : β} (h : s.Sound) : (s, b).1.Sound := h

theorem Sound.beside {β : Type} {b : β} (h : s.Sound) : (b, s).2.Sound := h

/-- The state of an opcode that is executed. -/
theorem Sound.ok (h : s.Sound) : (OpResult.ok s).state.Sound := h

/-- A state taken from beside something else. -/
theorem Sound.of_eq {β : Type} {p : State × β} {b : β} (e : p = (r, b)) (h : p.1.Sound) : r.Sound := by
  subst e
  exact h

end
end State
end Sys2Proof.Machine
end

section
/-! SUPPORT. The shared operations, the receiver and the angle path keep the forms (for O7). -/

namespace Sys2Proof.Machine
namespace State

section
variable {s r : State}

/-! ### The shared operations -/

theorem Sound.uncommit (h : s.Sound) : s.uncommit.Sound := .ite h.wr h
theorem Sound.pass {t : Nat} (h : s.Sound) : (s.pass t).Sound := .ite h.frame h
theorem Sound.tick (h : s.Sound) : s.tick.Sound := h.frame

theorem Sound.countN {c : Ctr} {inst n : Nat} (h : s.Sound) : (s.countN c inst n).Sound :=
  .ite h.putCounter (.ite h.putCounter h.putCounter.wr)

theorem Sound.count {c : Ctr} {inst : Nat} (h : s.Sound) : (s.count c inst).Sound := h.countN

theorem Sound.logEntry {address code source core seq opcode : Nat} (h : s.Sound) :
    (s.logEntry address code source core seq opcode).Sound := by
  obtain ⟨faults, others⟩ := CmdSt.bounded_iff.mp h.cmd
  unfold State.logEntry
  extract_lets e l
  split
  case isTrue room =>
    have fits : l.length ≤ 16 := by
      rw [List.length_append]
      exact room
    exact (h.frameCmd (cmd := { s.cmd with faults := l }) (CmdSt.bounded_iff.mpr ⟨fits, others⟩)).wr
  case isFalse full =>
    have fits : (s.cmd.faults.drop 1 ++ [e]).length ≤ 16 := by
      rw [List.length_append, List.length_drop, List.length_singleton]
      omega
    exact (h.frameCmd (cmd := { s.cmd with faults := s.cmd.faults.drop 1 ++ [e] })
      (CmdSt.bounded_iff.mpr ⟨fits, others⟩)).bump

theorem Sound.logEvent {code address : Nat} (h : s.Sound) : (s.logEvent code address).Sound := h.logEntry

theorem Sound.queueRecipe {n : Nat} (h : s.Sound) : (s.queueRecipe n).Sound := by
  obtain ⟨faults, keptN, keptS, inN, inS, spiQ, -⟩ := CmdSt.bounded_iff.mp h.cmd
  unfold State.queueRecipe
  split
  · exact h.count
  · split
    · exact h.count.logEvent
    case isFalse room =>
      extract_lets q
      have fits : q.length ≤ 8 := by
        rw [List.length_append]
        exact Nat.not_le.mp room
      exact (h.frameCmd (cmd := { s.cmd with queue := q })
        (CmdSt.bounded_iff.mpr ⟨faults, keptN, keptS, inN, inS, spiQ, fits⟩)).wr

theorem Sound.triggerOne {p : Recipe → Bool} {r : Recipe} (h : s.Sound) : (s.triggerOne p r).Sound :=
  .ite h.queueRecipe h

theorem Sound.triggerRecipes {p : Recipe → Bool} (h : s.Sound) : (s.triggerRecipes p).Sound :=
  h.foldl fun h => h.triggerOne

theorem Sound.raise {bit : Nat} (h : s.Sound) : (s.raise bit).Sound := h.setIn.count.triggerRecipes

/-! ### The receiver front end (chapter 4) -/

theorem Sound.putFe {f : Nat} {x : FeSt} (h : s.Sound) : (s.putFe f x).Sound := h.frame
theorem Sound.updFe {f : Nat} {g : FeSt → FeSt} (h : s.Sound) : (s.updFe f g).Sound := h.putFe
theorem Sound.putRxOct {g : Nat} {x : RxOct} (h : s.Sound) : (s.putRxOct g x).Sound := h.frame

theorem Sound.showHeld {l : Nat} {atMax atMin : Bool} (h : s.Sound) : (s.showHeld l atMax atMin).Sound :=
  h.wrBAt.wrBAt

theorem Sound.loopRestart {f : Nat} (h : s.Sound) : (s.loopRestart f).Sound := h.updFe.wrAt.showHeld

theorem Sound.applyCfg {f : Nat} (h : s.Sound) : (s.applyCfg f).Sound :=
  h.putFe.wrAt.then fun h1 => .ite h1 h1.updFe.wrAt.count.loopRestart

theorem Sound.applyThr {f : Nat} (h : s.Sound) : (s.applyThr f).Sound := h.updFe.wrAt
theorem Sound.changeCfg {f : Nat} (h : s.Sound) : (s.changeCfg f).Sound := .ite h.applyCfg h.updFe.wrAt
theorem Sound.changeThr {f : Nat} (h : s.Sound) : (s.changeThr f).Sound := .ite h.applyThr h.updFe.wrAt
theorem Sound.gainStall {f : Nat} (h : s.Sound) : (s.gainStall f).Sound := .ite h.setIn.raise h

theorem Sound.takeGap {f : Nat} (h : s.Sound) : (s.takeGap f).Sound := by
  unfold State.takeGap
  exact h.updFe

theorem Sound.leaveGap {f : Nat} (h : s.Sound) : (s.leaveGap f).Sound :=
  (Sound.ite h.putRxOct h).then fun h1 => .ite h1.takeGap h1

theorem Sound.switchBack {g : Nat} (h : s.Sound) : (s.switchBack g).Sound := by
  unfold State.switchBack
  split
  · exact h
  · exact h.putFe.wrAt.wrAt.putFe.wrAt

theorem Sound.switchTo {g ch : Nat} (h : s.Sound) : (s.switchTo g ch).Sound :=
  h.switchBack.putFe.updFe.wrAt.wrAt.wrAt.showHeld.wrAt.wrAt.wrAt

theorem Sound.requestSwitch {g : Nat} {r : SwitchReq} (h : s.Sound) : (s.requestSwitch g r).Sound := h.putRxOct.wrAt
theorem Sound.dropSwitch {g : Nat} (h : s.Sound) : (s.dropSwitch g).Sound := h.putRxOct.wrAt

theorem Sound.xbarSwitch {g : Nat} (h : s.Sound) : (s.xbarSwitch g).Sound := by
  unfold State.xbarSwitch
  split
  · exact h
  · exact h.dropSwitch.switchTo
  · exact h.dropSwitch.switchBack
  · exact h.dropSwitch.switchBack.requestSwitch

theorem Sound.xbarTimeout {g : Nat} (h : s.Sound) : (s.xbarTimeout g).Sound := .ite h.xbarSwitch h

theorem Sound.gapStart {f : Nat} (h : s.Sound) : (s.gapStart f).Sound :=
  (Sound.ite h.updFe.applyCfg h.updFe).then fun h2 => (Sound.ite h2.applyThr h2).then fun h3 => .ite h3.xbarSwitch h3

theorem Sound.xbarSubst {g : Nat} {enOld : Bool} {chOld : Nat} (h : s.Sound) : (s.xbarSubst g enOld chOld).Sound := by
  unfold State.xbarSubst
  extract_lets _ _
  refine .ite (.ite h.requestSwitch h) ?_
  refine .ite ?_ h
  split
  · exact h.dropSwitch
  · exact .ite h.requestSwitch h

theorem Sound.background {f : Nat} (h : s.Sound) : (s.background f).Sound := .ite h.updFe.count h

theorem Sound.adaptPeriod {f : Nat} (h : s.Sound) : (s.adaptPeriod f).Sound :=
  .ite h (.ite (.ite h.putFe.wrAt.wrBAt.wrBAt.showHeld h.putFe.wrAt.wrBAt.wrBAt.showHeld.wrSAt.changeThr)
    h.putFe.wrAt.wrBAt.wrBAt.showHeld)

theorem Sound.dcUpdate {f est : Nat} (h : s.Sound) : (s.dcUpdate f est).Sound :=
  .ite h.updFe (h.updFe.wrAt.then fun h1 => .ite h1.wrBAt.setIn h1.wrBAt.clearIn)

theorem Sound.refreshBias {g : Nat} (h : s.Sound) : (s.refreshBias g).Sound := h.putRxOct.wrBAt.wrBAt
theorem Sound.biasStep {g : Nat} (h : s.Sound) : (s.biasStep g).Sound := .ite h.wrAt.wrBAt h
theorem Sound.biasOffOne {g : Nat} (h : s.Sound) : (s.biasOffOne g).Sound := h.wrAt.wrAt
theorem Sound.biasOff (h : s.Sound) : s.biasOff.Sound := h.foldl fun h => h.biasOffOne
theorem Sound.rxPowerUp (h : s.Sound) : s.rxPowerUp.Sound := .ite h (h.frame.foldl fun h => h.refreshBias)
theorem Sound.rxPowerDown (h : s.Sound) : s.rxPowerDown.Sound := h.frame.biasOff
theorem Sound.injStart {g : Nat} (h : s.Sound) : (s.injStart g).Sound := h.putRxOct.wrAt
theorem Sound.injEnd {g : Nat} (h : s.Sound) : (s.injEnd g).Sound := h.putRxOct.wrAt
theorem Sound.putRun {u : Nat} {r : Option CalRun} (h : s.Sound) : (s.putRun u r).Sound := .ite h.frame h.frame
theorem Sound.injOpen {f : Nat} (h : s.Sound) : (s.injOpen f).Sound := h.leaveGap.updFe.frame

theorem Sound.injFire {g : Nat} {fs : List Nat} {p : InjPulse} (h : s.Sound) : (s.injFire g fs p).Sound :=
  .ite ((h.foldl fun h => h.injOpen).putRxOct) h.bumpAt

theorem Sound.calPulse {g f kind : Nat} {r : CalRun} {m : CalMeas} (h : s.Sound) : (s.calPulse g f kind r m).Sound :=
  .ite h h.injFire

theorem Sound.hostPulse {g : Nat} (h : s.Sound) : (s.hostPulse g).Sound :=
  .ite (.ite h.injFire (.ite h.injFire.injEnd h.injFire.putRxOct)) h

theorem Sound.injPulse {g : Nat} (h : s.Sound) : (s.injPulse g).Sound := by
  unfold State.injPulse
  split
  · refine .ite ?_ h.hostPulse
    split
    · exact h.calPulse
    · exact h
  · exact h.hostPulse

/-! ### Histograms, code groups and peak lists (chapter 6) -/

theorem Sound.putEm {e : Nat} {x : EmSt} (h : s.Sound) : (s.putEm e x).Sound := h.frame
theorem Sound.updEm {e : Nat} {f : EmSt → EmSt} (h : s.Sound) : (s.updEm e f).Sound := h.putEm
theorem Sound.updShot {id : Nat} {f : Shot → Shot} (h : s.Sound) : (s.updShot id f).Sound := h.frame
theorem Sound.updWin {id ch : Nat} {f : ChanWin → ChanWin} (h : s.Sound) : (s.updWin id ch f).Sound := h.updShot
theorem Sound.addBin {ch bank b : Nat} (h : s.Sound) : (s.addBin ch bank b).Sound := h.frame
theorem Sound.clearBank {ch bank : Nat} (h : s.Sound) : (s.clearBank ch bank).Sound := h.frame

theorem Sound.handBank {e : Nat} {g : CodeGroup} {ch : Nat} (h : s.Sound) : (s.handBank e g ch).Sound :=
  .ite h ((Sound.ite h h.countN.setIn).frame)

theorem Sound.closeGroup {e num : Nat} (h : s.Sound) : (s.closeGroup e num).Sound := by
  unfold State.closeGroup
  split
  · exact h
  · exact .ite (h.updEm.foldl fun h => h.handBank) h

theorem Sound.updGroup {e num : Nat} {f : CodeGroup → CodeGroup} (h : s.Sound) : (s.updGroup e num f).Sound := h.updEm
theorem Sound.dropListsOf {chs : List Nat} (h : s.Sound) : (s.dropListsOf chs).Sound := h.frame

theorem Sound.followLost {e num : Nat} (h : s.Sound) : (s.followLost e num).Sound := by
  unfold State.followLost
  exact h.dropListsOf.updEm

theorem Sound.claimBanks {e num : Nat} (h : s.Sound) : (s.claimBanks e num).Sound :=
  h.followLost.updEm.then fun h1 => .ite h1 h1.updGroup.countN.setIn

theorem Sound.startGroup {e k wMax : Nat} (h : s.Sound) : (s.startGroup e k wMax).Sound := h.updEm

theorem Sound.endGroups {e n : Nat} {p : CodeGroup → Bool} (h : s.Sound) : (s.endGroups e n p).Sound :=
  h.putEm.foldl fun h => h.closeGroup

theorem Sound.dropLists {e : Nat} (h : s.Sound) : (s.dropLists e).Sound := h.dropListsOf

theorem Sound.groupEvent {e k : Nat} (h : s.Sound) : (s.groupEvent e k).Sound := by
  unfold State.groupEvent
  extract_lets _ z1
  have h1 : z1.Sound := h.dropLists
  clear_value z1
  split
  · exact h1.endGroups
  · exact h1.updEm.endGroups

theorem Sound.enterGroup {e k wMax : Nat} (h : s.Sound) : (s.enterGroup e k wMax).Sound :=
  .ite h.endGroups.updEm.startGroup (.ite h.startGroup h)

theorem Sound.peakListDone {ch : Nat} (h : s.Sound) : (s.peakListDone ch).Sound := by
  unfold State.peakListDone
  split
  · exact h
  · exact h.frame.clearBank.then fun h2 => .ite h2.frame h2

theorem Sound.spyLatch (h : s.Sound) : s.spyLatch.Sound := by
  unfold State.spyLatch
  extract_lets _
  split
  · exact h.wr.wr.wr.foldl fun h => h.putWordAt
  · exact h.wr.wr.wr.foldl fun h => h.putWordAt

theorem Sound.extTrigEdge {level : Bool} (h : s.Sound) : (s.extTrigEdge level).Sound :=
  .ite h.wrB (.ite h.wrB.wr.frame h.wrB.count)

theorem Sound.trigTimeout (h : s.Sound) : s.trigTimeout.Sound := .ite h.wr.frame h
theorem Sound.trigStart (h : s.Sound) : s.trigStart.Sound := .ite h (.ite h.wr.count h.wr.count)
theorem Sound.armTrigger (h : s.Sound) : s.armTrigger.Sound := .ite h.wr h

/-! ### The scan servo engine (chapter 9) -/

theorem Sound.putAxis {ax : Axis} {x : AxisSt} (h : s.Sound) : (s.putAxis ax x).Sound := by
  unfold State.putAxis
  split
  · exact h.frame
  · exact h.frame

theorem Sound.updAxis {ax : Axis} {f : AxisSt → AxisSt} (h : s.Sound) : (s.updAxis ax f).Sound := h.putAxis
theorem Sound.rasterEnds {at0 : Nat} (h : s.Sound) : (s.rasterEnds at0).Sound := .ite h.frame h.frame

theorem Sound.bankSwap {ax : Axis} (h : s.Sound) : (s.bankSwap ax).Sound :=
  .ite h.wrAt.wrAt h.wrAt.wrAt.wrSAt.wrAt.bumpAt

theorem Sound.hOff (h : s.Sound) : s.hOff.Sound := h.frame

theorem Sound.axStop {ax : Axis} {st cause : Nat} (h : s.Sound) : (s.axStop ax st cause).Sound :=
  (Sound.ite h.wrAt.wrAt.updAxis.hOff h.wrAt.wrAt.updAxis).then fun h3 => .ite h3.bankSwap h3

theorem Sound.axPark {ax : Axis} {cause : Nat} (h : s.Sound) : (s.axPark ax cause).Sound := h.axStop.raise.logEvent
theorem Sound.axFault {ax : Axis} {cause : Nat} (h : s.Sound) : (s.axFault ax cause).Sound := h.axStop.raise.logEvent

theorem Sound.axAcquire {ax : Axis} (h : s.Sound) : (s.axAcquire ax).Sound := by
  unfold State.axAcquire
  extract_lets _ z1 z2
  have h1 : z1.Sound := h.wrAt.wrAt.wrAt
  clear_value z1
  have h2 : z2.Sound := h1.updAxis
  clear_value z2
  split
  · exact h2
  · exact h2.wr.frame

theorem Sound.axRefresh {ax : Axis} (h : s.Sound) : (s.axRefresh ax).Sound := .ite h h.axStop
theorem Sound.servoRefresh (h : s.Sound) : s.servoRefresh.Sound := h.axRefresh.axRefresh
theorem Sound.servoSwap {ax : Axis} (h : s.Sound) : (s.servoSwap ax).Sound := .ite h.wrAt h.wrAt.bankSwap
theorem Sound.refStart {b : Nat} (h : s.Sound) : (s.refStart b).Sound := h.frame
theorem Sound.refTimer (h : s.Sound) : s.refTimer.Sound := .ite h.refStart h
theorem Sound.hPeriodStart (h : s.Sound) : s.hPeriodStart.Sound := h.frame.refTimer

theorem Sound.coast {ax : Axis} {valid : Bool} (h : s.Sound) : (s.coast ax valid).Sound :=
  .ite (.ite h.wrAt.wrAt h.wrAt) (.ite h.wrAt (.ite h.wrAt.axFault h.wrAt.wrAt.count))

theorem Sound.servoPeriodStart {ax : Axis} (h : s.Sound) : (s.servoPeriodStart ax).Sound := by
  unfold State.servoPeriodStart
  extract_lets z1 z2 z3 fresh z z4 m z5 t ph
  have h1 : z1.Sound := h.countN
  have h2 : z2.Sound := by
    cases ax
    · exact h1.updAxis
    · exact h1.hPeriodStart
  have h3 : z3.Sound := .ite h2.bankSwap h2
  have h4 : z.Sound := h3.axAcquire.wrAt.wrAt
  have h5 : z4.Sound := .ite (.ite h4.axFault h4) h3
  have h6 : z5.Sound := h5.coast
  exact .ite h (.ite (.ite h6.updAxis h6) h5)

theorem Sound.putOutput {ax : Axis} {u : Int} (h : s.Sound) : (s.putOutput ax u).Sound := by
  unfold State.putOutput
  extract_lets z1
  have h1 : z1.Sound := h.wrSAt
  clear_value z1
  split
  · exact h1.wr
  · exact h1

theorem Sound.lockRuns {ax : Axis} {valid within : Bool} (h : s.Sound) : (s.lockRuns ax valid within).Sound :=
  .ite h.updAxis.wrAt.updAxis (.ite h.updAxis.axAcquire h.updAxis)

theorem Sound.commitProgram {ax : Axis} {t : Nat} (h : s.Sound) : (s.commitProgram ax t).Sound :=
  .ite h.putAxis.wrSAt.wrAt
    ((Sound.ite h.putAxis.wrSAt.wrAt.wrBAt h.putAxis.wrSAt.wrAt.wrBAt.wrSAt).putOutput.lockRuns)

theorem Sound.outputInstant {ax : Axis} {finished : Bool} (h : s.Sound) : (s.outputInstant ax finished).Sound := by
  unfold State.outputInstant
  split
  · exact h
  · extract_lets n t z k y w
    have h1 : z.Sound := by
      cases ax
      · exact h
      · exact h.refTimer
    have h2 : y.Sound := h1.wrAt.bumpAt.count
    have h3 : w.Sound := .ite h1.commitProgram (.ite h2.axPark h2)
    exact h3.updAxis

theorem Sound.acqTimeout {ax : Axis} (h : s.Sound) : (s.acqTimeout ax).Sound := .ite h.axFault h
theorem Sound.parkSlew (h : s.Sound) : s.parkSlew.Sound := .ite h h.wr
theorem Sound.rasterStart {at0 : Nat} (h : s.Sound) : (s.rasterStart at0).Sound := h.rasterEnds.frame.wr.wrB

theorem Sound.profileWrite (h : s.Sound) : s.profileWrite.Sound :=
  .ite h.wr (.ite h.frame (.ite h.rasterStart h.frame))

theorem Sound.rasterTimer (h : s.Sound) : s.rasterTimer.Sound := .ite h.rasterStart h
theorem Sound.rasterAtBoundary {b : Nat} (h : s.Sound) : (s.rasterAtBoundary b).Sound := .ite (.ite h.rasterStart h) h
theorem Sound.encFault (h : s.Sound) : s.encFault.Sound := h.wr.frame

theorem Sound.encEdge {a b : Bool} (h : s.Sound) : (s.encEdge a b).Sound :=
  .ite h.frame (.ite h.frame.encFault h.frame.wr)

theorem Sound.encIndex (h : s.Sound) : s.encIndex.Sound := .ite h.wr.wr (.ite h.encFault.wr h)
theorem Sound.refCarry {b rev : Nat} (h : s.Sound) : (s.refCarry b rev).Sound := h.frame

theorem Sound.refAtBoundary {b : Nat} {entry lengthChanged : Bool} (h : s.Sound) :
    (s.refAtBoundary b entry lengthChanged).Sound :=
  .ite (.ite h.refStart (.ite h.refStart (.ite h.frame.refCarry h.frame))) (.ite h.refCarry h)

theorem Sound.setBus {mv : Option Nat} (h : s.Sound) : (s.setBus mv).Sound := by
  unfold State.setBus
  split
  · exact .ite h.wr.wr h.wr.wr
  · exact h.wr.wr

theorem Sound.busWrite (h : s.Sound) : s.busWrite.Sound := .ite h.setBus h
theorem Sound.snoopBus {tag code : Nat} (h : s.Sound) : (s.snoopBus tag code).Sound := .ite h.setBus h
theorem Sound.pwmUpdate (h : s.Sound) : s.pwmUpdate.Sound := .ite h h.frame
theorem Sound.alignDone (h : s.Sound) : s.alignDone.Sound := .ite h.wr.frame h
theorem Sound.gateFault {level : Bool} (h : s.Sound) : (s.gateFault level).Sound := .ite h.wrB h.wrB.axFault

theorem Sound.servoModeEntry (h : s.Sound) : s.servoModeEntry.Sound :=
  h.rasterEnds.then fun h1 => .ite h1 (.ite ((Sound.ite h1.rasterStart h1).refStart) h1)

/-! ### The mirror angle pickoff (chapter 8) -/

theorem Sound.chainStart (h : s.Sound) : s.chainStart.Sound := h.frame.updAxis.wr.wr.wr.wr
theorem Sound.chainStop (h : s.Sound) : s.chainStop.Sound := h.wr.wr.frame.servoRefresh
theorem Sound.angleRefresh (h : s.Sound) : s.angleRefresh.Sound := .ite h.chainStart (.ite h.chainStop h)
theorem Sound.excWrite (h : s.Sound) : s.excWrite.Sound := .ite h.wr h

theorem Sound.demodBoundary {peak : Nat} (h : s.Sound) : (s.demodBoundary peak).Sound :=
  .ite h ((Sound.ite h.wr.frame h.wr).then fun h2 => .ite h2.wr.wr.frame.count h2.wr.wr)

theorem Sound.requestReset (h : s.Sound) : s.requestReset.Sound := .ite h.frame h
theorem Sound.clipReset (h : s.Sound) : s.clipReset.Sound := .ite h.requestReset.count h
theorem Sound.rangeWrite (h : s.Sound) : s.rangeWrite.Sound := .ite h.requestReset h
theorem Sound.blankWrite (h : s.Sound) : s.blankWrite.Sound := h.frame

theorem Sound.pkoGather {ahead : List (Nat × Nat)} {l : List (Nat × Nat × Int × Bool)} (h : s.Sound) :
    (s.pkoGather ahead l).Sound :=
  .ite h.frame h

theorem Sound.takeSample {ahead : List (Nat × Nat)} {p : State × List Int × Nat} {x : Nat × Nat × Int × Bool}
    (h : p.1.Sound) : (State.takeSample ahead p x).1.Sound := by
  unfold State.takeSample
  dsimp only
  split
  · exact h.pair
  · exact h.frame.pair

theorem Sound.pickoffOutput {ahead : List (Nat × Nat)} {samples : List (Int × Bool)} (h : s.Sound) :
    (s.pickoffOutput ahead samples).Sound := by
  unfold State.pickoffOutput
  extract_lets n done timed z
  have h1 : z.Sound := h.pkoGather
  clear_value z
  refine .ite h ?_
  split
  next heq =>
    have taken := Sound.of_eq heq (.foldl_fst h1.pair fun h => h.takeSample)
    split
    exact (taken.frame.wr.frame.wrB.wrB.wrS.then fun h => (Sound.ite h.count h).then fun h =>
      (Sound.ite h.count h)).updAxis

theorem Sound.elecFault {pin : Nat} (h : s.Sound) : (s.elecFault pin).Sound := (Sound.ite h.wr h.wr).wr.raise.logEvent

theorem Sound.elecRecover {pin : Nat} (h : s.Sound) : (s.elecRecover pin).Sound := by
  unfold State.elecRecover
  extract_lets f
  have cleared : (s.wr f 0).Sound := by
    unfold f
    split
    · exact h.wr
    · exact h.wr
  exact .ite cleared.wr h

end
end State
end Sys2Proof.Machine
end

section
/-! SUPPORT. The landing, the store, the converters and the echoes keep the forms (for O7). -/

namespace Sys2Proof.Machine
namespace State

section
variable {s r : State}

/-! ### The landing and the port arbiters (chapter 12) -/

theorem Sound.putRegion {n : Nat} {r : RegionSt} (h : s.Sound) : (s.putRegion n r).Sound := h.frame.wrAt
theorem Sound.updRegion {n : Nat} {f : RegionSt → RegionSt} (h : s.Sound) : (s.updRegion n f).Sound := h.putRegion
theorem Sound.putPort {p : Nat} {x : PortSt} (h : s.Sound) : (s.putPort p x).Sound := h.frame

theorem Sound.countDrop {n shots recs items bytes : Nat} (h : s.Sound) :
    (s.countDrop n shots recs items bytes).Sound :=
  .ite h.countN.countN.countN h.countN.countN

theorem Sound.closeDg {n : Nat} {flushed : Bool} (h : s.Sound) : (s.closeDg n flushed).Sound := by
  unfold State.closeDg
  split
  · exact h
  · exact h.updRegion

theorem Sound.putOpen {n : Nat} {d : OpenDg} (h : s.Sound) : (s.putOpen n d).Sound := h.updRegion

theorem Sound.packPiece {n : Nat} {u : EchoUnit} {cont shot : Bool} {ws : List Nat} (h : s.Sound) :
    (s.packPiece n u cont shot ws).1.Sound := by
  unfold State.packPiece
  dsimp only
  split
  · split
    · split
      · exact h.putOpen
      · exact h.closeDg.putOpen
    · exact h.closeDg.putOpen
  · exact h.putOpen

theorem Sound.packRecs {n : Nat} {u : EchoUnit} {cont : Bool} {rs : List (List Nat)} (h : s.Sound) :
    (s.packRecs n u cont rs).Sound := by
  induction rs generalizing s cont with
  | nil => exact h
  | cons r rs ih => exact ih h.packPiece

theorem Sound.packUnit {n : Nat} {u : EchoUnit} (h : s.Sound) : (s.packUnit n u).Sound := h.packPiece.packRecs

theorem Sound.releaseFrame {n k : Nat} (h : s.Sound) : (s.releaseFrame n k).Sound :=
  h.putRegion.foldl fun h => h.packUnit

theorem Sound.flushRegion {n : Nat} (h : s.Sound) : (s.flushRegion n).Sound :=
  (h.putRegion.foldl fun h => h.packUnit).closeDg

theorem Sound.flushAll (h : s.Sound) : s.flushAll.Sound := h.foldl fun h => h.flushRegion

theorem Sound.admitUnit {n : Nat} {u : EchoUnit} (h : s.Sound) : (s.admitUnit n u).Sound :=
  .ite (.ite h.updRegion.countN.count h.updRegion.countN) h.countDrop

theorem Sound.admitRecord {ws : List Nat} {n : Nat} (h : s.Sound) : (s.admitRecord ws n).Sound := by
  unfold State.admitRecord
  extract_lets b z
  have h1 : z.Sound := h.updRegion.countN
  clear_value z
  split
  · split
    · split
      · exact .ite h1.putOpen h1.closeDg.putOpen
      · exact h1.closeDg.putOpen
    · exact h1.putOpen
  · exact h.countDrop

theorem Sound.telemetry {ws : List Nat} (h : s.Sound) : (s.telemetry ws).Sound :=
  .ite h.count (h.foldl fun h => h.admitRecord)

theorem Sound.arbiterEvent {kind p req items : Nat} (h : s.Sound) : (s.arbiterEvent kind p req items).Sound :=
  h.telemetry

theorem Sound.packReport {n sector : Nat} {r : List Nat} (h : s.Sound) : (s.packReport n sector r).Sound := by
  unfold State.packReport
  extract_lets _ _
  split
  · split
    · exact .ite h.putOpen h.closeDg.putOpen
    · exact h.closeDg.putOpen
  · exact h.putOpen

theorem Sound.admitReports {n sector : Nat} {reports : List (List Nat)} (h : s.Sound) :
    (s.admitReports n sector reports).Sound := by
  unfold State.admitReports
  extract_lets step
  have stepped {p : State × List (List Nat)} {r : List Nat} (h : p.1.Sound) : (step p r).1.Sound := by
    unfold step
    dsimp only
    split
    · exact h.updRegion.countN
    · exact h.countDrop
  split
  next heq => exact ((Sound.of_eq heq (.foldl_fst h stepped)).foldl fun h => h.packReport).closeDg

theorem Sound.segmentDg {n seq line : Nat} {first : Bool} {g : Nat × List Nat} (h : s.Sound) :
    (s.segmentDg n seq line first g).Sound :=
  h.putOpen.closeDg

theorem Sound.admitLine {n seq line : Nat} {final : Bool} {os : List Nat} (h : s.Sound) :
    (s.admitLine n seq line final os).Sound := by
  unfold State.admitLine
  extract_lets b z room closed fresh y
  have h1 : z.Sound := h.updRegion.countN
  clear_value room z
  have h2 : y.Sound := by
    unfold y
    split
    · split
      · exact .ite h1.putOpen h1.closeDg.putOpen
      · exact h1.closeDg.putOpen
    · exact h1.putOpen
  clear_value y
  split
  · split
    · exact h1.closeDg.foldl fun h => h.segmentDg
    · exact .ite h2.closeDg h2
  · exact h.countDrop

theorem Sound.admitTrailer {n seq : Nat} {os : List Nat} (h : s.Sound) : (s.admitTrailer n seq os).Sound :=
  .ite h.updRegion.countN.closeDg.putOpen.closeDg h.countDrop

theorem Sound.dropDg {d : Datagram} (h : s.Sound) : (s.dropDg d).Sound := .ite h.updRegion.countDrop h.count

theorem Sound.discardRegion {n : Nat} (h : s.Sound) : (s.discardRegion n).Sound := by
  unfold State.discardRegion
  extract_lets _ z1 z2 z3
  have h1 : z1.Sound := h.foldl fun h => h.countDrop
  clear_value z1
  have h2 : z2.Sound := by
    unfold z2
    split
    · exact h1.countDrop
    · exact h1
  clear_value z2
  have h3 : z3.Sound := h2.foldl fun h => h.countDrop
  clear_value z3
  exact h3.putRegion

theorem wf_foldl_erase {l : List Nat} {k : Nat → Nat} {m : Sparse Nat} (h : Sparse.wf (fun _ => 0) m = true) :
    Sparse.wf (fun _ => 0) (l.foldl (fun m i => Sparse.erase m (k i)) m) = true := by
  induction l generalizing m with
  | nil => exact h
  | cons i l ih => exact ih (Sparse.wf_filter _ h)

theorem Sound.clearRegionCounters {n : Nat} (h : s.Sound) : (s.clearRegionCounters n).Sound :=
  ⟨h.regs, h.tabs, wf_foldl_erase h.live, h.cmd, h.codes⟩

theorem Sound.regionZero {n : Nat} (h : s.Sound) : (s.regionZero n).Sound := h.clearRegionCounters.updRegion

theorem Sound.resetRegion {n : Nat} (h : s.Sound) : (s.resetRegion n).Sound := by
  unfold State.resetRegion
  extract_lets z1 z2
  have h1 : z1.Sound := h.discardRegion
  clear_value z1
  have h2 : z2.Sound := h1.updRegion
  clear_value z2
  split
  · exact h2.regionZero
  · exact h2.updRegion.frame

theorem Sound.regionFollows {t : TxFrame} (h : s.Sound) : (s.regionFollows t).Sound := .ite h.regionZero h

theorem Sound.startTx {p req : Nat} (h : s.Sound) : (s.startTx p req).Sound := by
  refine .ite ?_ ?_
  · split
    · exact h
    · exact h.putPort
  · split
    · exact h
    · dsimp only
      split
      · exact h
      · exact h.putRegion.putPort

theorem Sound.setDrained {p : Nat} (h : s.Sound) : (s.setDrained p).Sound := h.wrBAt

theorem Sound.grant {p : Nat} (h : s.Sound) : (s.grant p).Sound := by
  unfold State.grant
  refine .ite h ?_
  split
  · exact h
  · exact h.wrAt.wrAt.putPort.startTx

theorem Sound.countTx {p bytes : Nat} (h : s.Sound) : (s.countTx p bytes).Sound := h.countN.frameTally
theorem Sound.putLane {l : Nat} {x : LaneSt} (h : s.Sound) : (s.putLane l x).Sound := h.frame
theorem Sound.frameOut {l : Nat} {c : CtrlFrame} (h : s.Sound) : (s.frameOut l c).Sound := h.putLane.countTx

theorem Sound.emitCtrl {l : Nat} {c : CtrlFrame} (h : s.Sound) : (s.emitCtrl l c).Sound := by
  unfold State.emitCtrl
  extract_lets z1
  have h1 : z1.Sound := h.frameOut
  clear_value z1
  split
  · exact h1
  · split
    · exact h1.frameOut
    · exact h1
    · exact h1.frame

theorem Sound.sendCtrl {p : Nat} (h : s.Sound) : (s.sendCtrl p).Sound := h.putLane.foldl fun h => h.emitCtrl
theorem Sound.endGrant {p : Nat} (h : s.Sound) : (s.endGrant p).Sound := h.wrAt.putPort.sendCtrl.setDrained
theorem Sound.replyGone (h : s.Sound) : s.replyGone.Sound := h.frame
theorem Sound.repliesGone {l : List StagedReply} (h : s.Sound) : (s.repliesGone l).Sound := .ite h.replyGone h

theorem Sound.frameEnd {p : Nat} (h : s.Sound) : (s.frameEnd p).Sound := by
  unfold State.frameEnd
  extract_lets x
  split
  · exact h
  · extract_lets z1 z2 z3 z4 sent _ z5 z6
    have h1 : z1.Sound := h.countTx.countN
    have h2 : z2.Sound := .ite h1.replyGone h1
    have h3 : z3.Sound := .ite h2.updRegion h2
    have h6 : z6.Sound := h3.regionFollows.putPort.sendCtrl
    exact .ite h6.startTx h6.endGrant

theorem Sound.abortTx {p : Nat} (h : s.Sound) : (s.abortTx p).Sound := by
  unfold State.abortTx
  extract_lets _ z
  have h1 : z.Sound := h.putLane
  clear_value z
  split
  · exact h1.endGrant
  · exact (Sound.ite h1.count.replyGone h1.count).dropDg.regionFollows.endGrant

theorem Sound.dropDatagrams {n : Nat} {p : State × Nat} (h : p.1.Sound) : (State.dropDatagrams p n).1.Sound := by
  unfold State.dropDatagrams
  extract_lets r z
  have h1 : z.Sound := h.foldl fun h => h.dropDg
  clear_value z
  split
  next heq =>
    refine Sound.pair (Sound.updRegion (.of_eq heq ?_))
    split
    · exact h1.updRegion.countDrop.pair
    · exact h1.pair

theorem Sound.wdtBite {p : Nat} (h : s.Sound) : (s.wdtBite p).Sound := by
  unfold State.wdtBite
  extract_lets req x
  refine .ite ?_ h
  split
  next cut =>
    have h1 := Sound.of_eq cut (by
      split
      · exact (Sound.ite h.replyGone h).dropDg.regionFollows.pair
      · exact h.pair)
    split
    next lost =>
      have h2 := Sound.of_eq lost (by
        split
        · exact h1.countN.repliesGone.pair
        · exact .foldl_fst h1.pair fun h => h.dropDatagrams)
      exact (Sound.ite h2.putPort h2).endGrant.wrAt.wrAt.raise.logEvent.arbiterEvent.count

theorem Sound.starve {p req : Nat} (h : s.Sound) : (s.starve p req).Sound := .ite h.setInAt.raise.arbiterEvent.count h

theorem Sound.stageReply {l : Nat} {r : StagedReply} (h : s.Sound) : (s.stageReply l r).Sound :=
  .ite h.putPort h.count.repliesGone

/-! ### The non-volatile store (chapter 17) -/

theorem Sound.putHalf {l : List JEntry} (h : s.Sound) : (s.putHalf l).Sound := h.frame.wr
theorem Sound.lifeAdd {k n : Nat} (h : s.Sound) : (s.lifeAdd k n).Sound := h.frame
theorem Sound.calendarAdd {event data : Nat} (h : s.Sound) : (s.calendarAdd event data).Sound := h.frame.lifeAdd
theorem Sound.lifeFlush (h : s.Sound) : s.lifeFlush.Sound := .ite h.frame h.frame

theorem Sound.lifeSecond (h : s.Sound) : s.lifeSecond.Sound :=
  h.lifeAdd.lifeAdd.then fun h1 => .ite h1.frame.lifeAdd h1.frame

theorem Sound.forecast (h : s.Sound) : s.forecast.Sound := by
  unfold State.forecast
  split
  · exact h.wr.wr.wr.wr

theorem Sound.showQueue (h : s.Sound) : s.showQueue.Sound := h.wr
theorem Sound.queueRefused (h : s.Sound) : s.queueRefused.Sound := h.count
theorem Sound.startCompaction (h : s.Sound) : s.startCompaction.Sound := h.frame.wr
theorem Sound.autoCompact (h : s.Sound) : s.autoCompact.Sound := .ite h.startCompaction h

theorem Sound.noteItem {j : JItem} (h : s.Sound) : (s.noteItem j).Sound := by
  unfold State.noteItem
  split
  · exact h.frame
  · exact h.frame
  · exact h

theorem Sound.renote (h : s.Sound) : s.renote.Sound := h.frame.foldl fun h => h.noteItem

theorem Sound.abandonGroup {g : JGroup} (h : s.Sound) : (s.abandonGroup g).Sound :=
  h.renote.wr.count.calendarAdd.then fun h2 => .ite h2.frame h2.logEntry

theorem Sound.takeFrom {l : List JGroup} (h : s.Sound) : (State.takeFrom l s).Sound := by
  induction l generalizing s with
  | nil => exact h
  | cons g rest ih => exact .ite h.frame.showQueue (.ite (ih h.frame.showQueue.abandonGroup) h)

theorem Sound.takeGroup (h : s.Sound) : s.takeGroup.Sound := .ite h.takeFrom h

theorem Sound.journal {items : List JItem} (h : s.Sound) : (s.journal items).Sound :=
  .ite h ((h.foldl fun h => h.noteItem).frame.showQueue.takeGroup)

theorem Sound.firstSuper (h : s.Sound) : s.firstSuper.Sound := .ite h.frame.wr h

theorem Sound.entryDone {ok : Bool} (h : s.Sound) : (s.entryDone ok).Sound := by
  unfold State.entryDone
  split
  · exact h
  · split
    · exact h.frame
    · extract_lets z1 e z2 z3
      have h2 : z2.Sound := h.firstSuper.putHalf
      have h3 : z3.Sound := h2.count.lifeAdd
      clear_value z2 z3
      exact .ite h3.frame.autoCompact.takeGroup (.ite h2.frame h2.frame.abandonGroup.takeGroup)

theorem Sound.writeSuper {sb : Superblock} (h : s.Sound) : (s.writeSuper sb).Sound := .ite h.frame h.frame

theorem Sound.compactFlip (h : s.Sound) : s.compactFlip.Sound :=
  .ite h.firstSuper.writeSuper.wr.wr.putHalf.wr.frame.count.lifeAdd.calendarAdd.wrB.takeGroup h

/-! ### Time-to-digital conversion (chapter 3) -/

theorem Sound.putStat {u : Nat} {x : StatUnit} (h : s.Sound) : (s.putStat u x).Sound := h.frame

theorem Sound.statResults {u : Nat} (h : s.Sound) : (s.statResults u).Sound :=
  h.putWordAt.putWordAt.putWordAt.putWordAt.wrAt.wrAt

theorem Sound.statEnd {u : Nat} (h : s.Sound) : (s.statEnd u).Sound := h.statResults.raise
theorem Sound.statStart {u : Nat} (h : s.Sound) : (s.statStart u).Sound := h.wrAt.wrAt.wrAt.wrAt.wrAt.wrAt.putStat
theorem Sound.statAbort {u : Nat} (h : s.Sound) : (s.statAbort u).Sound := .ite h.wrAt.statEnd h
theorem Sound.statTimeout {u : Nat} (h : s.Sound) : (s.statTimeout u).Sound := .ite h.wrAt.statEnd h
theorem Sound.statTake {u : Nat} (h : s.Sound) : (s.statTake u).Sound := (Sound.ite h.statResults.wrAt h).putStat.wrAt
theorem Sound.statGive {u : Nat} (h : s.Sound) : (s.statGive u).Sound := h.putStat.wrAt

theorem Sound.statSample {u v : Nat} (h : s.Sound) : (s.statSample u v).Sound :=
  .ite h.putStat.wrAt.statEnd h.putStat.wrAt

theorem Sound.offer {u : Nat} {times : List (Option Nat)} (h : s.Sound) : (s.offer u times).Sound := by
  unfold State.offer
  split
  · exact h.statSample
  · exact h

theorem Sound.statShots {f : Nat} {g : OpenGroup} {u : Nat} {p : Pairing} (h : s.Sound) :
    (s.statShots f g u p).Sound :=
  .ite h.putStat.offer h

theorem Sound.calSample {f u : Nat} {times : List (Option Nat)} (h : s.Sound) : (s.calSample f u times).Sound := by
  unfold State.calSample
  split
  · split
    · refine .ite ?_ h
      split
      · exact h.putStat.putRun
      · exact h.putStat
    · exact h
  · exact h

theorem Sound.statInj {f : Nat} {times : List (Option Nat)} {u : Nat} (h : s.Sound) : (s.statInj f times u).Sound :=
  .ite h.calSample.putStat.offer h.calSample

theorem Sound.completeGroup {f : Nat} {openG : Bool} (h : s.Sound) : (s.completeGroup f openG).Sound := by
  unfold State.completeGroup
  split
  · exact h
  · dsimp only
    split
    · exact h.updFe.updFe.foldl fun h => h.statInj
    · split
      · exact h.updFe
      · split
        · exact h.updFe
        · exact (h.updFe.updFe.updWin.then fun h => .ite h h.count).foldl fun h => h.foldl fun h => h.statShots

theorem Sound.binPairing {f : Nat} {p : Pairing} (h : s.Sound) : (s.binPairing f p).Sound := by
  unfold State.binPairing
  split
  · exact h
  · split
    · exact .ite h h.addBin
    · exact h

theorem Sound.markEvent {f : Nat} {p : Pairing} (h : s.Sound) : (s.markEvent f p).Sound := h.updShot

theorem Sound.openGroup {f : Nat} {e : Edge} {ws : List Shot} (h : s.Sound) : (s.openGroup f e ws).Sound := by
  unfold State.openGroup
  extract_lets _ _
  split
  · exact h.updFe
  · exact (h.updFe.foldl fun h => h.markEvent).foldl fun h => h.binPairing

theorem Sound.updOpen {f : Nat} {k : OpenGroup → OpenGroup} (h : s.Sound) : (s.updOpen f k).Sound := h.updFe

theorem Sound.markSat {f : Nat} (h : s.Sound) : (s.markSat f).Sound := by
  unfold State.markSat
  split
  · exact h
  · exact (Sound.ite h h.count).updOpen.wrAt

theorem Sound.placeEdge {f n : Nat} {e : Edge} {ws : List Shot} (h : s.Sound) : (s.placeEdge f n e ws).Sound :=
  .ite h.completeGroup.openGroup (.ite h.count (.ite h.updOpen.completeGroup (.ite h.updOpen h.updOpen)))

theorem Sound.tdcEdge {f n c fine : Nat} {sat : Bool} (h : s.Sound) : (s.tdcEdge f n c fine sat).Sound :=
  .ite h (.ite h ((Sound.ite h.markSat h).then fun h1 => .ite h1.count (h1.updFe.count.then fun h2 =>
    .ite h2.count h2.placeEdge)))

theorem Sound.windowGap {f : Nat} {closing : Option (Nat × Nat)} (h : s.Sound) : (s.windowGap f closing).Sound := by
  unfold State.windowGap
  refine .ite ?_ h
  extract_lets _ z1
  have h1 : z1.Sound := h.gapStart
  clear_value z1
  split
  · exact .ite h1.updWin h1
  · exact h1

theorem Sound.closeWin {id : Nat} {cut : Bool} {sat : Nat} {w : ChanWin} (h : s.Sound) :
    (s.closeWin id cut sat w).Sound :=
  .ite ((Sound.ite h.markSat h).then fun h1 => (Sound.ite
    (.ite h1.updFe h1.completeGroup) h1).updWin.updFe.windowGap) h.updWin

theorem Sound.injWindowClose {f : Nat} {sat : Bool} (h : s.Sound) : (s.injWindowClose f sat).Sound := by
  unfold State.injWindowClose
  refine .ite ?_ h
  extract_lets z1
  have h1 : z1.Sound := by
    unfold z1
    split
    · exact .ite ((Sound.ite h.markSat h).completeGroup) h
    · exact h
  clear_value z1
  exact h1.updFe.windowGap

theorem Sound.showDll (h : s.Sound) : s.showDll.Sound := .ite h.wr.wrB h.wr.wr
theorem Sound.unlockAll (h : s.Sound) : s.unlockAll.Sound := (h.foldl fun h => h.wrAt).showDll
theorem Sound.dllLock {f : Nat} (h : s.Sound) : (s.dllLock f).Sound := .ite h.wrAt.showDll h

theorem Sound.showLast {f : Nat} (h : s.Sound) : (s.showLast f).Sound := by
  unfold State.showLast
  split
  · exact h
  · exact h.wrBAt.wrBAt.wrAt

theorem Sound.lastLatch {f : Nat} (h : s.Sound) : (s.lastLatch f).Sound := by
  unfold State.lastLatch
  extract_lets z1
  have h1 : z1.Sound := h.showLast
  clear_value z1
  split
  · exact h1
  · exact h1.foldl fun h => h.wrBAt₂.wrAt₂

/-! ### Point geometry (chapter 10) -/

theorem Sound.poseLoad (h : s.Sound) : s.poseLoad.Sound := h.frame.wr
theorem Sound.poseMatrixDone (h : s.Sound) : s.poseMatrixDone.Sound := .ite ((h.foldl fun h => h.wrSAt).wr) h
theorem Sound.kappaWrite (h : s.Sound) : s.kappaWrite.Sound := h.wr
theorem Sound.kappaAtBoundary (h : s.Sound) : s.kappaAtBoundary.Sound := (Sound.ite h.frame.wr.wr h.bump).wrB
theorem Sound.envExchange {mask : Nat} (h : s.Sound) : (s.envExchange mask).Sound := h.wr.wr.journal
theorem Sound.updSector {n : Nat} {f : Sector → Sector} (h : s.Sound) : (s.updSector n f).Sound := h.frame

theorem Sound.sectorStart {frame : Nat} (h : s.Sound) : (s.sectorStart frame).Sound :=
  h.envExchange.then fun h1 => (Sound.ite h1.count h1).frame.wr

theorem Sound.sectorAtBoundary {frame : Nat} (h : s.Sound) : (s.sectorAtBoundary frame).Sound :=
  .ite ((Sound.ite h.frame.sectorStart h).updSector) h

theorem Sound.sectorClose (h : s.Sound) : s.sectorClose.Sound := by
  unfold State.sectorClose
  split
  · exact h
  · exact .ite h.updSector h

theorem Sound.noteReport {x : Sector} {e : Nat} (h : s.Sound) : (s.noteReport x e).Sound :=
  (Sound.ite h.count.setIn h.count).then fun h2 => .ite h2.clearIn h2.setIn

theorem Sound.envelopeReport (h : s.Sound) : s.envelopeReport.Sound := by
  unfold State.envelopeReport
  split
  · exact h
  · refine .ite ?_ h
    dsimp only
    split
    · exact (h.foldl fun h => h.noteReport).frame.admitReports
    · exact (h.foldl fun h => h.noteReport).frame

theorem Sound.sectorsDrop (h : s.Sound) : s.sectorsDrop.Sound := h.frame

theorem Sound.addPoint {n e : Nat} {ws : List Nat} {kappa : Int} {p : Vec} (h : s.Sound) :
    (s.addPoint n e ws kappa p).Sound :=
  h.updSector

theorem Sound.formPoint {vals : EchoVals} {ch range : Nat} {v : Int} {g : Nat} {invalid hard confirmed : Bool}
    {shot : Shot} (h : s.Sound) : (s.formPoint vals ch range v g invalid hard confirmed shot).1.Sound := by
  unfold State.formPoint
  extract_lets n sector b q p envs inside z y
  have h1 : z.Sound := h.countN
  have h2 : y.Sound := by
    unfold y
    clear_value sector
    cases sector
    · exact h1
    · exact .ite (h1.foldl fun h => h.addPoint) h1
  clear_value y
  split
  · exact h.count.updSector.pair
  · split
    · exact h2.pair
    · exact h.count.pair

/-! ### Echo formation (chapter 7) -/

theorem Sound.formRecords {v : EchoVals} {x : Shot} {win : ChanWin} {cs : List Cand} (h : s.Sound) :
    (s.formRecords v x win cs).1.Sound := by
  unfold State.formRecords
  exact .foldl_fst h fun h => h.formPoint

theorem Sound.suppress {v : EchoVals} {ch : Nat} {hasList : Bool} {p : State × List Cand} {c : Cand} (h : p.1.Sound) :
    (State.suppress v ch hasList p c).1.Sound := by
  unfold State.suppress
  split
  · exact h.count.pair
  · split
    · exact h.count.pair
    · exact h.pair

theorem Sound.formChannel {v : EchoVals} {x : Shot} {win : ChanWin} (h : s.Sound) : (s.formChannel v x win).1.Sound :=
    by
  unfold State.formChannel
  extract_lets g z dT cands y
  have h1 : z.Sound := .ite h.setIn h
  have h2 : y.Sound := h1.countN
  clear_value y z
  split
  · exact h1.pair
  · split
    next heq =>
      have h3 := Sound.of_eq heq (.foldl_fst h2.pair fun h => h.suppress)
      extract_lets excess kept w
      have h4 : w.Sound := .ite h3 h3.countN.setIn
      clear_value excess kept w
      split
      next heq2 => exact (Sound.countN (.of_eq heq2 h4.formRecords)).pair

theorem Sound.formUnit {id : Nat} (h : s.Sound) : (s.formUnit id).Sound := by
  unfold State.formUnit
  split
  · exact h
  · extract_lets v wins
    clear_value wins
    split
    next heq => exact (Sound.of_eq heq (.foldl_fst h.pair fun h => h.formChannel.pair)).updShot

theorem Sound.formClosed {x : Shot} (h : s.Sound) : (s.formClosed x).Sound := .ite h h.formUnit
theorem Sound.formAhead {k : Nat} (h : s.Sound) : (s.formAhead k).Sound := h.foldl fun h => h.formUnit

theorem Sound.closeShot {cut : Bool} {sat : Nat} {x : Shot} (h : s.Sound) : (s.closeShot cut sat x).Sound :=
  (h.foldl fun h => h.closeWin).then fun h1 =>
    (Sound.ite h1.updShot.frame h1.updShot.frame.formClosed).updGroup.closeGroup

theorem Sound.windowClose {e sat : Nat} (h : s.Sound) : (s.windowClose e sat).Sound := by
  unfold State.windowClose
  split
  · exact h
  · exact h.closeShot

theorem Sound.staveShotUnit {e : Nat} (h : s.Sound) : (s.staveShotUnit e).Sound := by
  unfold State.staveShotUnit
  split
  · exact h
  · extract_lets z unit _ y
    have h1 : z.Sound := .ite h h.formUnit
    clear_value z
    have h2 : y.Sound := h1.frame
    clear_value y
    split
    · exact h2.admitUnit
    · exact h2

/-! ### The thermal manager (chapter 15) -/

theorem Sound.putSensor {n : Nat} {x : SensorSt} (h : s.Sound) : (s.putSensor n x).Sound := h.frame
theorem Sound.putOctTherm {g : Nat} {x : OctTherm} (h : s.Sound) : (s.putOctTherm g x).Sound := h.frame

theorem Sound.setInForce {n : Nat} (h : s.Sound) : (s.setInForce n).Sound := by
  unfold State.setInForce
  extract_lets _
  refine .ite ?_ ?_
  · split
    · exact h.wrSAt.wrAt
    · exact h
  · refine .ite h.wrAt ?_
    split
    · exact h.wrSAt.wrAt
    · exact h.wrAt

theorem Sound.integOct {g : Nat} (h : s.Sound) : (s.integOct g).Sound := h.putOctTherm

theorem Sound.refreshOct {g : Nat} (h : s.Sound) : (s.refreshOct g).Sound := by
  unfold State.refreshOct
  extract_lets z1 z2 was z3
  have h1 : z1.Sound := h.integOct.wrSAt
  have h2 : z2.Sound := .ite h1.setIn h1.clearIn
  exact .ite (.ite h2 h2.putOctTherm.setIn.logEvent) (.ite h2.putOctTherm.clearIn h2)

theorem Sound.refreshTemps (h : s.Sound) : s.refreshTemps.Sound :=
  ((h.foldl fun h => h.setInForce).foldl fun h => h.setInForce).foldl fun h => h.refreshOct

theorem Sound.failSensor {n : Nat} (h : s.Sound) : (s.failSensor n).Sound :=
  .ite h h.putSensor.setIn.wrAt.count.raise.logEvent

theorem Sound.readmit {n : Nat} (h : s.Sound) : (s.readmit n).Sound := by
  unfold State.readmit
  exact h.putSensor.clearIn.wrAt.refreshTemps

theorem Sound.disagree {n : Nat} (h : s.Sound) : (s.disagree n).Sound := by
  unfold State.disagree
  extract_lets _
  refine .ite h ?_
  split
  · exact .ite h.failSensor h
  · exact .ite (.ite h.failSensor h.failSensor) h
  · exact h

theorem Sound.compare {n : Nat} (h : s.Sound) : (s.compare n).Sound :=
  (h.foldl fun h => h.disagree).foldl fun h => h.disagree

theorem Sound.sensorResult {n : Nat} {v : Int} {code : Nat} (h : s.Sound) : (s.sensorResult n v code).Sound :=
  .ite h.putSensor ((Sound.ite h.putSensor.failSensor h.putSensor).compare)

theorem Sound.sensorVisit {n code : Nat} {same : Bool} (h : s.Sound) : (s.sensorVisit n code same).Sound :=
  .ite h.putSensor.failSensor.compare h.putSensor

theorem Sound.setLevel {g l : Nat} (h : s.Sound) : (s.setLevel g l).Sound :=
  h.putOctTherm.wrAt.then fun h1 => (Sound.ite h1.count h1).then fun h2 => .ite h2.raise.logEvent h2

theorem Sound.levelStep {g : Nat} (h : s.Sound) : (s.levelStep g).Sound :=
  (Sound.ite h.putOctTherm h).then fun h1 => .ite h1.setLevel (.ite h1.setLevel (.ite h1.setLevel h1))

theorem Sound.warnTest {g : Nat} (h : s.Sound) : (s.warnTest g).Sound := .ite (.ite h h.setIn.count.raise) h.clearIn
theorem Sound.refreshRate {g : Nat} (h : s.Sound) : (s.refreshRate g).Sound := h.wrSAt.warnTest
theorem Sound.windowOct {g : Nat} (h : s.Sound) : (s.windowOct g).Sound := h.integOct.putOctTherm.refreshRate

theorem Sound.thermWindow (h : s.Sound) : s.thermWindow.Sound :=
  .ite ((h.foldl fun h => h.windowOct).then fun h1 => .ite h1.frame (h1.frame.foldl fun h => h.levelStep)) h

end
end State
end Sys2Proof.Machine
end

section
/-! SUPPORT. Firing, calibration, cameras, lanes, modes and the time base keep the forms (for O7). -/

namespace Sys2Proof.Machine
namespace State

section
variable {s r : State}

/-! ### Emitter firing (chapter 5) -/

theorem Sound.cutShot {x : Shot} (h : s.Sound) : (s.cutShot x).Sound :=
  .ite (.ite h.updShot.updShot.formClosed h.updShot.closeShot) h

theorem Sound.refreshAllow (h : s.Sound) : s.refreshAllow.Sound :=
  h.wrB.wrB.wrB.wrB.wrB.frame.then fun h3 => .ite (h3.frame.foldl fun h => h.cutShot) h3

theorem Sound.laserLow (h : s.Sound) : s.laserLow.Sound := h.frame.refreshAllow
theorem Sound.laserHigh (h : s.Sound) : s.laserHigh.Sound := h.frame.refreshAllow
theorem Sound.permitHold (h : s.Sound) : s.permitHold.Sound := .ite h.frame.refreshAllow h
theorem Sound.setPermits {b : Bool} (h : s.Sound) : (s.setPermits b).Sound := h.frame.refreshAllow
theorem Sound.refreshLevel {g : Nat} (h : s.Sound) : (s.refreshLevel g).Sound := h.wrBAt
theorem Sound.levelDac {g : Nat} (h : s.Sound) : (s.levelDac g).Sound := .ite h.wrAt h.wrAt
theorem Sound.levelsZero (h : s.Sound) : s.levelsZero.Sound := h.foldl fun h => h.wrAt
theorem Sound.refreshDelay {e : Nat} (h : s.Sound) : (s.refreshDelay e).Sound := h.wrAt

theorem Sound.refreshCompensation (h : s.Sound) : s.refreshCompensation.Sound :=
  (h.foldl fun h => h.refreshBias.refreshLevel).foldl fun h => h.refreshDelay

theorem Sound.refreshProof (h : s.Sound) : s.refreshProof.Sound := h.foldl fun h => h.wrBAt
theorem Sound.noteOff {e : Nat} (h : s.Sound) : (s.noteOff e).Sound := h.updEm

theorem Sound.preShort {e : Nat} (h : s.Sound) : (s.preShort e).Sound :=
  (h.foldl fun h => h.noteOff).wrAt.wrAt.wrAt.wrAt.setIn.raise.logEvent

theorem Sound.emClear {e : Nat} (h : s.Sound) : (s.emClear e).Sound :=
  .ite (.ite h.wrAt.wrAt.updEm (h.wrAt.wrAt.updEm.wrAt.clearIn.then fun h3 => .ite (h3.foldl fun h => h.updEm) h3)) h

theorem Sound.eyeSuppress {em : Nat} (h : s.Sound) : (s.eyeSuppress em).Sound := .ite h.count h.count.updEm.wrAt.raise
theorem Sound.charge {em e : Nat} (h : s.Sound) : (s.charge em e).Sound := h.updEm.wrAt
theorem Sound.eyeWindowEnd (h : s.Sound) : s.eyeWindowEnd.Sound := h.foldl fun h => h.updEm.wrAt
theorem Sound.putShot {x : Shot} (h : s.Sound) : (s.putShot x).Sound := h.frame
theorem Sound.claimAt {q : QueuedShot} (h : s.Sound) : (s.claimAt q).Sound := .ite h.claimBanks h

theorem Sound.notFired {q : QueuedShot} {outcome : Nat} (h : s.Sound) : (s.notFired q outcome).Sound :=
  (Sound.ite h.count (.ite h.count h)).claimAt.putShot.formClosed.updGroup.closeGroup

theorem Sound.enqueue {q : QueuedShot} (h : s.Sound) : (s.enqueue q).Sound := h.frame
theorem Sound.replan {dom : Nat} (h : s.Sound) : (s.replan dom).Sound := h.frame

theorem Sound.turnAway {q : QueuedShot} {outcome : Nat} (h : s.Sound) : (s.turnAway q outcome).Sound :=
  .ite h.replan.enqueue h.replan.notFired

theorem Sound.noteEdge {e c : Nat} (h : s.Sound) : (s.noteEdge e c).Sound := h.lifeAdd.updEm.frame

theorem Sound.openWin {id ch : Nat} {p : State × List ChanWin} (h : p.1.Sound) : (State.openWin id p ch).1.Sound := by
  unfold State.openWin
  extract_lets s f x w
  have hs : s.Sound := h
  clear_value s
  split
  · exact hs.pair
  · exact hs.leaveGap.updFe.pair

theorem Sound.fired {q : QueuedShot} (h : s.Sound) : (s.fired q).Sound := by
  unfold State.fired
  extract_lets e x z1 _ z2 z3 z4 z5 chans
  have h1 : z1.Sound := h.claimAt.charge.noteEdge
  clear_value z1
  have h2 : z2.Sound := h1.frame
  clear_value z2
  have h3 : z3.Sound := h2.countN
  clear_value z3
  have h4 : z4.Sound := .ite h3.count h3
  clear_value z4
  have h5 : z5.Sound := .ite h4.updEm h4
  clear_value z5 chans
  split
  next heq => exact (Sound.of_eq heq (.foldl_fst h5.pair fun h => h.openWin)).putShot

theorem Sound.launch {q : QueuedShot} (h : s.Sound) : (s.launch q).Sound := by
  unfold State.launch
  extract_lets _
  split
  · exact h.notFired
  · refine .ite h.turnAway ?_
    refine .ite h.turnAway ?_
    refine .ite h.turnAway ?_
    split
    · exact h.turnAway
    · exact .ite h.eyeSuppress.turnAway (.ite h.preShort.turnAway h.fired)

theorem Sound.noteNominal {t : Nat} (h : s.Sound) : (s.noteNominal t).Sound := h.frame

theorem Sound.launchLoop {t n : Nat} (h : s.Sound) : (s.launchLoop t n).Sound := by
  induction n generalizing s with
  | zero => exact h
  | succ n ih =>
    unfold State.launchLoop
    split
    · exact h
    · exact ih h.frame.pass.launch

theorem Sound.launchDue {t : Nat} (h : s.Sound) : (s.launchDue t).Sound := .ite h h.noteNominal.launchLoop
theorem Sound.arrive {t : Nat} (h : s.Sound) : (s.arrive t).Sound := h.launchDue.pass
theorem Sound.arriveFirst {t : Nat} (h : s.Sound) : (s.arriveFirst t).Sound := (Sound.ite h h.launchDue).pass

theorem Sound.decideSlot {j : SlotJob} {wMax : Nat} {late pre : Bool} (h : s.Sound) :
    (s.decideSlot j wMax late pre).Sound :=
  h.enterGroup.updGroup.updEm.enqueue.launchDue

theorem Sound.badResult {e kind : Nat} (h : s.Sound) : (s.badResult e kind).Sound :=
  .ite (.ite h.updEm h.updEm.noteOff.wrAt.wrAt.raise.logEvent) h.updEm

theorem Sound.sweepCheck (h : s.Sound) : s.sweepCheck.Sound := .ite h.wr h

theorem Sound.csEvaluate {e peak rise : Nat} (h : s.Sound) : (s.csEvaluate e peak rise).Sound := by
  unfold State.csEvaluate
  split
  · exact h
  · exact h.updEm.wrAt.wrAt.then fun h2 => (Sound.ite h2.wrAt.updEm h2.wrAt.badResult).then fun h4 =>
      .ite h4.updEm.wrAt.wrAt.sweepCheck h4

theorem Sound.diagOne {e : Nat} (h : s.Sound) : (s.diagOne e).Sound := by
  unfold State.diagOne
  exact (Sound.ite (.ite h.wrAt.wrAt.raise.logEvent h.wrAt) h).updEm

theorem Sound.diagIntervalEnd (h : s.Sound) : s.diagIntervalEnd.Sound := .ite (h.foldl fun h => h.diagOne) h
theorem Sound.sweepStart (h : s.Sound) : s.sweepStart.Sound := h.frame.wrB
theorem Sound.kerfGap {f : Nat} (h : s.Sound) : (s.kerfGap f).Sound := .ite h.takeGap.gapStart h

theorem Sound.kerfStart (h : s.Sound) : s.kerfStart.Sound := by
  unfold State.kerfStart
  split
  · exact h
  · exact (h.frame.foldl fun h => h.kerfGap).frame.frame

theorem Sound.kerfEnd (h : s.Sound) : s.kerfEnd.Sound := by
  unfold State.kerfEnd
  split
  · exact h
  · exact h.frame

theorem Sound.proofShot {pre : Bool} (h : s.Sound) : (s.proofShot pre).Sound := by
  unfold State.proofShot
  split
  · exact h
  · exact .ite h.frame.sweepCheck (.ite h.frame.eyeSuppress.sweepCheck
      (.ite h.frame.preShort.sweepCheck h.frame.charge.noteEdge.updEm))

theorem Sound.swapExchange (h : s.Sound) : s.swapExchange.Sound := h.wr.wr.wr.wr.frame.wr

/-! ### Calibration (chapter 16) -/

theorem Sound.addPend {g kinds : Nat} (h : s.Sound) : (s.addPend g kinds).Sound := h.frame.wrAt
theorem Sound.refreshWait (h : s.Sound) : s.refreshWait.Sound := h.foldl fun h => h.wrAt
theorem Sound.calTest {g : Nat} (h : s.Sound) : (s.calTest g).Sound := .ite (.ite h.addPend h) h
theorem Sound.pkoPoll (h : s.Sound) : s.pkoPoll.Sound := .ite h.frame.wr.wr h
theorem Sound.pkoTest (h : s.Sound) : s.pkoTest.Sound := .ite ((Sound.ite h.wr h).pkoPoll) h
theorem Sound.stepBegin {u f kind : Nat} {r : CalRun} (h : s.Sound) : (s.stepBegin u f kind r).Sound := h.putRun

theorem Sound.runEnd {u : Nat} {r : CalRun} (h : s.Sound) : (s.runEnd u r).Sound :=
  h.putRun.statGive.wrAt.wrAt.wrAt.wrAt.clearIn.wrSAt.journal

theorem Sound.runPoll {u : Nat} (h : s.Sound) : (s.runPoll u).Sound := by
  unfold State.runPoll
  split
  · exact h
  · extract_lets g idle r
    refine .ite h ?_
    split
    · exact .ite h h.runEnd
    · extract_lets z
      have h1 : z.Sound := h.putRun.wrAt
      refine .ite (.ite (.ite h1.stepBegin (.ite h1.requestSwitch h1)) ?_) (.ite h1.updFe.stepBegin h1)
      exact .ite h1.stepBegin (.ite h1 (.ite h1.requestSwitch h1.wrAt.requestSwitch))

theorem Sound.calPoll (h : s.Sound) : s.calPoll.Sound := h.runPoll.runPoll.pkoPoll

theorem Sound.runBegin {u : Nat} {r : CalRun} (h : s.Sound) : (s.runBegin u r).Sound := by
  unfold State.runBegin
  extract_lets g kinds steps _ z1 z2 z3 z4 z5 z6
  have h2 : z2.Sound := h.frame.putRun
  have h5 : z5.Sound := h2.wrAt.wrAt.wrAt.setIn.wrAt
  have h6 : z6.Sound := (Sound.ite h5.injEnd h5).wrAt
  exact .ite h.putRun h6.statTake.count.calPoll

theorem Sound.runConversion {g : Nat} (h : s.Sound) : (s.runConversion g).Sound := by
  unfold State.runConversion
  extract_lets _
  split
  · exact .ite (.ite h.runBegin h.putRun) h
  · exact h

theorem Sound.runRelease {u : Nat} (h : s.Sound) : (s.runRelease u).Sound := by
  unfold State.runRelease
  split
  · exact .ite h.putRun h
  · exact h

theorem Sound.runStart {g : Nat} (h : s.Sound) : (s.runStart g).Sound := by
  unfold State.runStart
  extract_lets z1 _
  have h1 : z1.Sound := h.refreshWait
  clear_value z1
  split
  · exact h1
  · exact .ite h1 (.ite h1.putRun h1.putRun.wr)

theorem Sound.stepEnd {g : Nat} (h : s.Sound) : (s.stepEnd g).Sound := by
  unfold State.stepEnd
  extract_lets u
  split
  · exact h
  · split
    · exact h
    · extract_lets more z y w
      have h1 : z.Sound := h.putRun
      have h2 : y.Sound := by
        unfold y
        split
        · exact h1.wrAt
        · exact h1
      clear_value more y
      exact (Sound.ite h2 (.ite (.ite h2.requestSwitch h2) h2.updFe)).calPoll

theorem Sound.calReject {order kind unit : Nat} (h : s.Sound) : (s.calReject order kind unit).Sound :=
  (Sound.ite h.count.wr h.count.setIn).logEvent

theorem Sound.putSkews {f : Nat} {sk : List Int} (h : s.Sound) : (s.putSkews f sk).Sound :=
  h.wrSAt.wrSAt.wrSAt.wrAt.wrSAt.wrSAt.wrSAt.wrSAt

theorem Sound.putWidths {f : Nat} {ws : List Nat} {src : Nat} (h : s.Sound) : (s.putWidths f ws src).Sound :=
  h.putTabs.wrAt.wrAt

theorem Sound.putWalk {f : Nat} {w k : List Int} (h : s.Sound) : (s.putWalk f w k).Sound :=
  h.foldl fun h => h.wrAt₂.wrSAt₂

theorem Sound.calTake {f : Nat} {r : CalRun} {v : CalFirst} (h : s.Sound) : (s.calTake f r v).Sound := by
  unfold State.calTake
  extract_lets z1
  have h1 : z1.Sound := h.count
  clear_value z1
  split
  · exact .ite h1.wrAt.putWidths.putSkews.journal h1.putSkews.journal
  · exact h1.wrSAt.wrSAt.putWalk.journal
  · exact h1.wrAt.journal

theorem Sound.stepJudged {r : CalRun} {f kind fails : Nat} {v : CalFirst} (h : s.Sound) :
    (s.stepJudged r f kind fails v).Sound := by
  unfold State.stepJudged
  split
  · exact h.calReject.stepEnd
  · exact h.putRun
  · exact h.calTake.stepEnd

theorem Sound.tdcStepDone {g : Nat} {x : CdResult} (h : s.Sound) : (s.tdcStepDone g x).Sound := by
  unfold State.tdcStepDone
  split
  · exact h
  · exact h.stepJudged

theorem Sound.injStepDone {g f : Nat} (h : s.Sound) : (s.injStepDone g f).Sound := by
  unfold State.injStepDone
  split
  · exact h
  · split
    · exact h
    · split
      · exact .ite h.stepJudged h

theorem Sound.timingStepDone {g f : Nat} (h : s.Sound) : (s.timingStepDone g f).Sound := by
  unfold State.timingStepDone
  split
  · exact h
  · split
    · exact h
    · split
      · exact .ite h.stepJudged h

theorem Sound.takeoverBack {g : Nat} (h : s.Sound) : (s.takeoverBack g).Sound :=
  .ite h (.ite (.ite h.dropSwitch h) (.ite h.dropSwitch.switchBack (.ite h h.requestSwitch)))

theorem Sound.runAbandon {cause u : Nat} (h : s.Sound) : (s.runAbandon cause u).Sound := by
  unfold State.runAbandon
  split
  · exact h
  · extract_lets g z f z1 z2 z3 z4 z5 z6
    have h0 : z.Sound := h.putRun
    have h3 : z3.Sound := h.putRun.statGive.wrAt.wrAt.wrAt.wrAt.clearIn
    have h4 : z4.Sound := .ite h3.updFe h3
    have h5 : z5.Sound := .ite h4.takeoverBack h4
    exact .ite (.ite h0.wr h0) h5.setIn.count.logEvent

theorem Sound.pkoAbandon {cause : Nat} (h : s.Sound) : (s.pkoAbandon cause).Sound := .ite h.wr.count.logEvent h

theorem Sound.calAbandon {cause : Nat} (h : s.Sound) : (s.calAbandon cause).Sound :=
  h.runAbandon.runAbandon.pkoAbandon

theorem Sound.calQuality (h : s.Sound) : s.calQuality.Sound := .ite h.calAbandon h
theorem Sound.pkoChain (h : s.Sound) : s.pkoChain.Sound := .ite h.pkoPoll h.pkoAbandon

theorem Sound.pkoDone {second : Bool} (h : s.Sound) : (s.pkoDone second).Sound := by
  unfold State.pkoDone
  extract_lets x gain ofs fails finish take
  have finished {r : State} (h : r.Sound) : (finish r).Sound := h.wr.wrS.journal.pkoPoll
  have taken {r : State} {g o : Int} (h : r.Sound) : (take g o r).Sound := h.count.wrS.wrS.journal
  clear_value fails finish take
  refine .ite h (.ite (finished h.calReject) (.ite (finished (taken h)) ?_))
  split
  · exact h.frame
  · exact .ite (finished (taken h)) (finished h.calReject)

theorem Sound.starterTdc {f : Nat} (h : s.Sound) : (s.starterTdc f).Sound := h.wrAt.putWidths.putSkews
theorem Sound.starterTiming {f : Nat} (h : s.Sound) : (s.starterTiming f).Sound := h.wrSAt.wrSAt.putWalk
theorem Sound.starterInj {g : Nat} (h : s.Sound) : (s.starterInj g).Sound := h.wrAt
theorem Sound.starterPko (h : s.Sound) : s.starterPko.Sound := h.wrS.wrS

theorem Sound.starterOct {kinds g : Nat} {p : State × List JItem} (h : p.1.Sound) :
    (State.starterOct kinds p g).1.Sound := by
  unfold State.starterOct
  extract_lets z0 fs z1 z2 z3 t z4 items
  have h1 : z1.Sound := .ite (h.foldl fun h => h.starterTdc) h
  have h2 : z2.Sound := .ite (h1.foldl fun h => h.starterTiming) h1
  have h3 : z3.Sound := .ite h2.starterInj h2
  exact (Sound.ite h3 h3.wrSAt).pair

theorem Sound.calStarter {gs : List Nat} {kinds : Nat} (h : s.Sound) : (s.calStarter gs kinds).Sound := by
  unfold State.calStarter
  split
  next heq =>
    have done := Sound.of_eq heq (.foldl_fst h.pair fun h => h.starterOct)
    exact .ite done.starterPko.wrS.journal.calendarAdd done.journal.calendarAdd

/-! ### Camera ports (chapter 11) -/

theorem Sound.putCam {p : Nat} {x : CamPort} (h : s.Sound) : (s.putCam p x).Sound := h.frame.wrAt.wrBAt
theorem Sound.updCam {p : Nat} {f : CamPort → CamPort} (h : s.Sound) : (s.updCam p f).Sound := h.putCam
theorem Sound.updLastFrame {p : Nat} {f : CamFrame → CamFrame} (h : s.Sound) : (s.updLastFrame p f).Sound := h.updCam
theorem Sound.camNext {p : Nat} (h : s.Sound) : (s.camNext p).Sound := h.frame
theorem Sound.camStart (h : s.Sound) : s.camStart.Sound := .ite h.camNext h

theorem Sound.deliverLine {p o : Nat} (h : s.Sound) : (s.deliverLine p o).Sound := by
  unfold State.deliverLine
  dsimp only
  split
  · exact h
  · split
    · exact h.putCam.admitLine
    · exact h.putCam

theorem Sound.finishFrame {p : Nat} (h : s.Sound) : (s.finishFrame p).Sound := by
  unfold State.finishFrame
  dsimp only
  split
  · exact h
  · refine .ite ?_ h
    split
    · exact h.putCam.admitTrailer
    · exact h.putCam

theorem Sound.flushFrame {p : Nat} (h : s.Sound) : (s.flushFrame p).Sound := by
  unfold State.flushFrame
  split
  · exact h
  · exact (h.foldl fun h => h.deliverLine).finishFrame

theorem Sound.flushFrames {p : Nat} (h : s.Sound) : (s.flushFrames p).Sound := h.foldl fun h => h.flushFrame

theorem Sound.camConsume {p n : Nat} (h : s.Sound) : (s.camConsume p n).Sound := by
  unfold State.camConsume
  extract_lets _
  split
  · exact h
  · exact .ite h h.putCam.frame.flushFrames

theorem Sound.refreshLoad (h : s.Sound) : s.refreshLoad.Sound := h.wr

theorem Sound.pipelineTurn (h : s.Sound) : s.pipelineTurn.Sound := by
  unfold State.pipelineTurn
  split
  · exact h
  · exact .ite h h.camConsume.camNext

theorem Sound.closeFrame {p : Nat} {cut : Bool} (h : s.Sound) : (s.closeFrame p cut).Sound := by
  unfold State.closeFrame
  split
  · exact h
  · exact h.updLastFrame.then fun h1 => (Sound.ite h1.count h1).then fun h2 =>
      (Sound.ite h2.count.wrAt h2).flushFrames.camStart

theorem Sound.closeMissing {p : Nat} (h : s.Sound) : (s.closeMissing p).Sound := .ite h.updLastFrame.closeFrame h

theorem Sound.csiFrameStart {p fn vc : Nat} (h : s.Sound) : (s.csiFrameStart p fn vc).Sound :=
  .ite h (.ite h.count (h.closeMissing.then fun h1 => ((Sound.ite h1.count h1).count).putCam.wrAt.wrAt))

theorem Sound.csiLine {p vc dt : Nat} {pixels : List Nat} {crcOk : Bool} {used : Nat} (h : s.Sound) :
    (s.csiLine p vc dt pixels crcOk used).Sound := by
  unfold State.csiLine
  extract_lets z x ctx
  have h1 : z.Sound := by
    unfold z
    split
    · exact h.camConsume
    · exact h
  clear_value z
  refine .ite h1 (.ite h1.count ?_)
  split
  · exact h1.count
  · exact .ite h1.closeFrame (.ite h1.updLastFrame h1.updLastFrame.camStart)

theorem Sound.csiFrameEnd {p vc : Nat} (h : s.Sound) : (s.csiFrameEnd p vc).Sound :=
  .ite h (.ite h.count (.ite h.closeFrame (.ite h h.count)))

theorem Sound.csiIgnored {p : Nat} (h : s.Sound) : (s.csiIgnored p).Sound := .ite h.count h
theorem Sound.sotError {p : Nat} (h : s.Sound) : (s.sotError p).Sound := .ite h.wrAt h
theorem Sound.hdrEcc {p : Nat} (h : s.Sound) : (s.hdrEcc p).Sound := .ite (.ite h.count.updLastFrame h.count) h
theorem Sound.feTimeout {p : Nat} (h : s.Sound) : (s.feTimeout p).Sound := .ite h.closeMissing h
theorem Sound.camEnable {p : Nat} (h : s.Sound) : (s.camEnable p).Sound := h.updCam.wrAt
theorem Sound.camClose {p : Nat} (h : s.Sound) : (s.camClose p).Sound := h.closeFrame
theorem Sound.camCloseAll (h : s.Sound) : s.camCloseAll.Sound := h.camClose.camClose
theorem Sound.cciIssue {p : Nat} (h : s.Sound) : (s.cciIssue p).Sound := h.putCam
theorem Sound.cciStart {p : Nat} (h : s.Sound) : (s.cciStart p).Sound := h.putCam.cciIssue.wrAt.wrAt.wrAt
theorem Sound.cciComplete {p : Nat} {nacked : Bool} (h : s.Sound) : (s.cciComplete p nacked).Sound := h.putCam.wrAt

theorem Sound.cciWriteDone {p : Nat} {ack : Bool} (h : s.Sound) : (s.cciWriteDone p ack).Sound :=
  .ite h (.ite (.ite h.bumpAt.cciComplete h.bumpAt.updCam.cciIssue) h.wrAt.raise.logEvent.cciComplete)

/-! ### Network lanes (chapter 12) -/

theorem Sound.setLink {l : Nat} {up : Bool} (h : s.Sound) : (s.setLink l up).Sound :=
  .ite h (h.wrBAt.raise.count.then fun h1 => .ite h1 h1.abortTx)

theorem Sound.pcsLock {l : Nat} {pcs : Bool} (h : s.Sound) : (s.pcsLock l pcs).Sound := .ite h.putLane.wrAt h.putLane

theorem Sound.laneChange {l : Nat} {pcs anDone half : Bool} {speed : Nat} (h : s.Sound) :
    (s.laneChange l pcs anDone half speed).Sound :=
  h.pcsLock.wrBAt.wrBAt.then fun h2 => (Sound.ite (.ite h2.wrAt.putLane h2.wrAt) h2).setLink

theorem Sound.laneDown {l : Nat} (h : s.Sound) : (s.laneDown l).Sound := h.pcsLock.wrAt.wrAt.setLink
theorem Sound.lanesFollow (h : s.Sound) : s.lanesFollow.Sound := h.foldl fun h => .ite h h.laneDown
theorem Sound.eqLock {l : Nat} (h : s.Sound) : (s.eqLock l).Sound := .ite ((Sound.ite h h.putLane.tick).wrAt) h
theorem Sound.rxFrame {l bytes : Nat} (h : s.Sound) : (s.rxFrame l bytes).Sound := h.countN
theorem Sound.rxPause {l bytes : Nat} (h : s.Sound) : (s.rxPause l bytes).Sound := .ite h.rxFrame.count h
theorem Sound.rxDiscard {l bytes : Nat} (h : s.Sound) : (s.rxDiscard l bytes).Sound := .ite h.rxFrame.count h

theorem Sound.sendControl {l : Nat} {c : CtrlFrame} (h : s.Sound) : (s.sendControl l c).Sound :=
  .ite h.putLane h.emitCtrl

theorem Sound.arpRequest {l target mac ip : Nat} (h : s.Sound) : (s.arpRequest l target mac ip).Sound :=
  .ite h (.ite h.rxFrame.sendControl h.rxDiscard)

theorem Sound.neighbourSolicit {l target mac ip : Nat} (h : s.Sound) : (s.neighbourSolicit l target mac ip).Sound :=
  .ite h (.ite h.rxFrame.sendControl h.rxDiscard)

theorem Sound.icmpEcho {l : Nat} {v6 : Bool} {dst mac ip bytes : Nat} (h : s.Sound) :
    (s.icmpEcho l v6 dst mac ip bytes).Sound :=
  .ite h (.ite (.ite h.putLane.rxFrame.sendControl h.rxDiscard) h.rxDiscard)

theorem Sound.flushTimeout {n : Nat} (h : s.Sound) : (s.flushTimeout n).Sound := h.closeDg
theorem Sound.echoRelease {n k : Nat} (h : s.Sound) : (s.echoRelease n k).Sound := .ite h.releaseFrame h

theorem Sound.budgetWrite {copy : Nat} (h : s.Sound) : (s.budgetWrite copy).Sound :=
  (h.foldl fun h => h.wrAt.wrAt).foldl fun h => h.wrAt

theorem Sound.budgetCheck {copy : Nat} (h : s.Sound) : (s.budgetCheck copy).1.Sound := by
  unfold State.budgetCheck
  extract_lets _ _ z1
  have h1 : z1.Sound := h.budgetWrite.tick
  clear_value z1
  split
  · split
    · exact h1.wr.wr.wr.wr
    · exact h1.wr.wr.wr
  · exact h1.wr.wr.wr.wr

/-! ### Modes (chapter 19) -/

theorem Sound.recipeGone (h : s.Sound) : s.recipeGone.Sound := h.frameRun.wr

theorem Sound.recipeFail {status : Nat} (h : s.Sound) : (s.recipeFail status).Sound := by
  unfold State.recipeFail
  split
  · exact h
  · exact h.recipeGone.logEntry.count

theorem Sound.recipesEnd {status : Nat} (h : s.Sound) : (s.recipesEnd status).Sound :=
  (h.recipeFail.frameCmd (h.recipeFail.withQueue (l := []) (by decide))).wr

theorem Sound.closeNow {x : Shot} (h : s.Sound) : (s.closeNow x).Sound := .ite h h.closeShot.updShot
theorem Sound.dropQueued {q : QueuedShot} (h : s.Sound) : (s.dropQueued q).Sound := h.updGroup.closeGroup
theorem Sound.framesStop (h : s.Sound) : s.framesStop.Sound := h.kerfEnd.frame.wr.wr

theorem Sound.scheduleStop (h : s.Sound) : s.scheduleStop.Sound :=
  (h.framesStop.frame.foldl fun h => h.dropQueued).foldl fun h => h.closeNow

theorem Sound.flushIdle (h : s.Sound) : s.flushIdle.Sound := .ite h.flushAll h
theorem Sound.cmdVdd {mv : Nat} (h : s.Sound) : (s.cmdVdd mv).Sound := .ite h (.ite h.wr.wrB.frame h.wr.wrB.frame)
theorem Sound.injEndAll (h : s.Sound) : s.injEndAll.Sound := h.foldl fun h => h.injEnd
theorem Sound.powerFollow (h : s.Sound) : s.powerFollow.Sound := .ite h.rxPowerUp h.rxPowerDown.injEndAll.levelsZero

theorem Sound.setMode {m cause : Nat} (h : s.Sound) (hm : m ≤ 7) : (s.setMode m cause).Sound := by
  unfold State.setMode
  extract_lets old wasFiring wasReceiving sectors z1 z2 z3 z4 z5 z6 z7 z8 z9 z10 z11 _ z12
  have h2 : z2.Sound := (((h.wrMode hm).wrTrans).wrTarget hm).refreshAllow
  have h3 : z3.Sound := .ite h2 h2.count
  have h4 : z4.Sound := .ite h3.scheduleStop h3
  have h5 : z5.Sound := .ite h4.sectorsDrop h4
  have h6 : z6.Sound := .ite h5.camCloseAll h5
  have h7 : z7.Sound := h6.powerFollow
  have h8 : z8.Sound := .ite h7 h7.calAbandon
  have h9 : z11.Sound := h8.angleRefresh.pkoChain.servoRefresh
  have h10 : z12.Sound := h9.frame
  exact h10.lanesFollow

theorem Sound.safeEnter {cause : Nat} (h : s.Sound) : (s.safeEnter cause).Sound := by
  unfold State.safeEnter
  extract_lets y z _ w x
  refine .ite h ?_
  split
  · exact h
  · have h1 : y.Sound := h.setPermits.setIn
    have h2 : w.Sound := h1.frame.recipesEnd
    exact .ite h1 (h2.setMode (by decide)).scheduleStop.flushIdle.raise

theorem Sound.startTransition {m : Nat} (h : s.Sound) (hm : m ≤ 7) : (s.startTransition m).Sound := by
  unfold State.startTransition
  refine .ite h.safeEnter ?_
  exact (h.wrTrans.wrTarget hm).frame.then fun h1 => (Sound.ite h1.frame.wr h1).then fun h2 =>
    (Sound.ite h2.rxPowerUp h2).then fun h3 => .ite h3.framesStop (.ite h3.frame h3)

theorem Sound.firingEntry (h : s.Sound) : s.firingEntry.Sound :=
  (h.frameRun.foldl fun h => h.groupEvent).frame.servoModeEntry.armTrigger.setPermits

theorem Sound.hkStop (h : s.Sound) : s.hkStop.Sound := h.frame.wr.wr

theorem Sound.parkEntry (h : s.Sound) : s.parkEntry.Sound :=
  (h.lifeFlush.forecast.hkStop.foldl fun h => h.discardRegion).frame.cmdVdd.wrAt.wrAt.foldl fun h => h.putPort

theorem Sound.selftestEntry (h : s.Sound) : s.selftestEntry.Sound := h.frame.cmdVdd
theorem Sound.entryRecipes {m : Nat} (h : s.Sound) : (s.entryRecipes m).Sound := h.triggerRecipes

theorem Sound.transitionDone (h : s.Sound) : s.transitionDone.Sound := by
  unfold State.transitionDone
  extract_lets m old z1 z2 z3 z4 z5 z6 z7
  have h1 : z1.Sound := .ite h.recipesEnd (.ite h.recipesEnd h)
  have h2 : z2.Sound := h1.setMode h.codes.2
  have h3 : z3.Sound := .ite h2.flushAll h2
  have h4 : z4.Sound := .ite h3.parkEntry h3
  have h5 : z5.Sound := .ite h4.selftestEntry h4
  have h6 : z6.Sound := .ite h5.servoModeEntry h5
  have h7 : z7.Sound := .ite h6.firingEntry h6
  exact .ite h7.raise.entryRecipes.calPoll h

theorem Sound.unitFormed {e : Nat} (h : s.Sound) : (s.unitFormed e).Sound := h.staveShotUnit.flushIdle

/-! ### Reference and device time (chapter 2) -/

theorem Sound.refreshQuality (h : s.Sound) : s.refreshQuality.Sound := h.wr.calQuality.calPoll
theorem Sound.freqFollow (h : s.Sound) : s.freqFollow.Sound := h.wr.refreshQuality
theorem Sound.refreshXtal (h : s.Sound) : s.refreshXtal.Sound := h.wr.wrB.wrB.wrS
theorem Sound.xtalMeasure {ppb : Int} (h : s.Sound) : (s.xtalMeasure ppb).Sound := .ite h.frame.refreshXtal h
theorem Sound.xtalJournal (h : s.Sound) : s.xtalJournal.Sound := .ite (h.frame.foldl fun h => h.journal) h

theorem Sound.pllSwitch {src : PllSource} (h : s.Sound) : (s.pllSwitch src).Sound :=
  h.frame.count.unlockAll.freqFollow.refreshXtal

theorem Sound.firstSwitch (h : s.Sound) : s.firstSwitch.Sound := .ite h.pllSwitch h
theorem Sound.timebaseLost (h : s.Sound) : s.timebaseLost.Sound := h.frame.setPermits.freqFollow.logEvent.safeEnter

theorem Sound.refAbsent (h : s.Sound) : s.refAbsent.Sound :=
  .ite (.ite h.wr.frame.pllSwitch.wr.raise h.wr.frame.wr.raise.timebaseLost) h.wr.frame

theorem Sound.refLost (h : s.Sound) : s.refLost.Sound := .ite h.refAbsent h
theorem Sound.refValid (h : s.Sound) : s.refValid.Sound := .ite h (.ite h.wr.frame.frame h.wr.frame.firstSwitch)

theorem Sound.refWindow {hz : Nat} (h : s.Sound) : (s.refWindow hz).Sound :=
  .ite (.ite (.ite h.refValid h.wr.wr.refAbsent) (.ite h.wr.refValid h.wr.refAbsent))
    (.ite h.wr.refValid h.wr.wr.refAbsent)

theorem Sound.refWarm {level : Bool} (h : s.Sound) : (s.refWarm level).Sound :=
  (Sound.ite h h.wrB.frame).then fun h1 => (Sound.ite h1.freqFollow h1).firstSwitch

theorem Sound.pllLock (h : s.Sound) : s.pllLock.Sound :=
  .ite h ((Sound.ite h.frame.freqFollow.refreshXtal h.frame).firstSwitch)

theorem Sound.refReturn (h : s.Sound) : s.refReturn.Sound := .ite h.pllSwitch h

theorem Sound.xtalFault (h : s.Sound) : s.xtalFault.Sound :=
  .ite (.ite h.wr.frame.pllSwitch h.wr.frame.timebaseLost) h.wr.frame

theorem Sound.xtalReturn (h : s.Sound) : s.xtalReturn.Sound := .ite h.frame.frame h.frame
theorem Sound.stepGo (h : s.Sound) : s.stepGo.Sound := h.wr.frame

theorem Sound.stepApply (h : s.Sound) : s.stepApply.Sound := by
  unfold State.stepApply
  split
  · exact h
  · exact h.frame.wr.wr.count.telemetry

theorem Sound.stepNow (h : s.Sound) : s.stepNow.Sound := .ite h h.stepApply
theorem Sound.timeLatch (h : s.Sound) : s.timeLatch.Sound := h.wr.wr.wr.wr
theorem Sound.setSync {v : Nat} (h : s.Sound) : (s.setSync v).Sound := h.wr.refreshQuality
theorem Sound.syncSource (h : s.Sound) : s.syncSource.Sound := h.frame.setSync
theorem Sound.syncLost (h : s.Sound) : s.syncLost.Sound := .ite h.frame.setSync h.frame
theorem Sound.syncExpire (h : s.Sound) : s.syncExpire.Sound := .ite h.setSync h

theorem Sound.offsetIn {need : Nat} {o : Int} (h : s.Sound) : (s.offsetIn need o).Sound :=
  (Sound.ite (.ite h h.wr.frame) h.wrS).then fun h1 => .ite (.ite h1.frame.setSync h1.frame)
    (.ite h1.frame.syncLost h1.frame)

theorem Sound.ptpReceive {fits : Bool} {l : Nat} {m : PtpMsg} {f : State → State} (h : s.Sound)
    (hf : ∀ {r : State}, r.Sound → (f r).Sound) : (s.ptpReceive fits l m f).Sound :=
  .ite (hf h.rxFrame) h.rxDiscard

theorem Sound.ptpSend {l : Nat} {m : PtpSent} (h : s.Sound) : (s.ptpSend l m).Sound := h.sendControl
theorem Sound.ptpAsk {l : Nat} (h : s.Sound) : (s.ptpAsk l).Sound := h.frame.ptpSend
theorem Sound.delayDone {both : Int} (h : s.Sound) : (s.delayDone both).Sound := h.frame

theorem Sound.syncComplete {l : Nat} {diff : Int} (h : s.Sound) : (s.syncComplete l diff).Sound :=
  h.frame.offsetIn.ptpAsk

theorem Sound.ptpSync {l : Nat} {m : PtpMsg} (h : s.Sound) : (s.ptpSync l m).Sound :=
  h.ptpReceive fun h => .ite h.count (.ite h.count.frame h.count.syncComplete)

theorem Sound.ptpFollowUp {l : Nat} {m : PtpMsg} (h : s.Sound) : (s.ptpFollowUp l m).Sound :=
  h.ptpReceive fun h => by
    split
    · exact .ite h.syncComplete h
    · exact h

theorem Sound.ptpDelayResp {l : Nat} {m : PtpMsg} (h : s.Sound) : (s.ptpDelayResp l m).Sound :=
  h.ptpReceive fun h => by
    split
    · exact .ite h.delayDone h
    · exact h

theorem Sound.ptpPdelayReq {l : Nat} {m : PtpMsg} (h : s.Sound) : (s.ptpPdelayReq l m).Sound :=
  h.ptpReceive fun h => h.ptpSend

theorem Sound.ptpPdelayResp {l : Nat} {m : PtpMsg} (h : s.Sound) : (s.ptpPdelayResp l m).Sound :=
  h.ptpReceive fun h => by
    split
    · exact h.delayDone
    · exact h

theorem Sound.ptpAnnounce {l : Nat} {m : PtpMsg} (h : s.Sound) : (s.ptpAnnounce l m).Sound :=
  h.ptpReceive fun h => .ite h.frame h

theorem Sound.announceTimeout (h : s.Sound) : s.announceTimeout.Sound := .ite h.frame.syncLost h
theorem Sound.ppsMiss (h : s.Sound) : s.ppsMiss.Sound := .ite h.frame.syncLost h.frame
theorem Sound.ppsAccept {o : Int} (h : s.Sound) : (s.ppsAccept o).Sound := h.frame.offsetIn

theorem Sound.ppsEdge {rising : Bool} {eighth : Nat} (h : s.Sound) : (s.ppsEdge rising eighth).Sound := by
  unfold State.ppsEdge
  refine .ite h ?_
  extract_lets _ _
  split
  · exact h.ppsAccept
  · exact .ite (.ite h.ppsAccept h.count) h

theorem Sound.ppsMissing (h : s.Sound) : s.ppsMissing.Sound := .ite h.ppsMiss h
theorem Sound.tuneWrite (h : s.Sound) : s.tuneWrite.Sound := .ite h.frame h
theorem Sound.tuneStep (h : s.Sound) : s.tuneStep.Sound := .ite h h.frame.frame

end
end State
end Sys2Proof.Machine
end

section
/-! SUPPORT. The frame boundary, housekeeping, the protocol and registers keep the forms (for O7). -/

namespace Sys2Proof.Machine
namespace State

section
variable {s r : State}

/-! ### The frame boundary -/

theorem Sound.refreshRequired (h : s.Sound) : s.refreshRequired.Sound := h.wr
theorem Sound.commitRate (h : s.Sound) : s.commitRate.Sound := h.frame.refreshRequired
theorem Sound.followRate (h : s.Sound) : s.followRate.Sound := .ite h.refreshRequired h
theorem Sound.showShed (h : s.Sound) : s.showShed.Sound := h.wr

theorem Sound.restoreHold (h : s.Sound) : s.restoreHold.Sound := by
  unfold State.restoreHold
  split
  · exact .ite h.frame h
  · exact h

theorem Sound.restoreLapse (h : s.Sound) : s.restoreLapse.Sound := .ite h h.frame

theorem Sound.shedAtBoundary {k : Nat} (h : s.Sound) : (s.shedAtBoundary k).Sound := by
  unfold State.shedAtBoundary
  extract_lets z _ y
  have h1 : z.Sound := h.refreshRequired
  have h2 : y.Sound := h1.frame
  clear_value y z
  refine .ite h (.ite ?_ ?_)
  · split
    · exact h2.updEm.refreshRequired.showShed.count
    · exact h2
  · split
    · extract_lets w v
      have h3 : w.Sound := h2.updEm.refreshRequired.showShed
      have h4 : v.Sound := h3.groupEvent
      exact .ite (.ite h4.wr h4) h1.restoreLapse
    · exact .ite h1 h1.wr

theorem Sound.throttleEm {k e : Nat} (h : s.Sound) : (s.throttleEm k e).Sound := .ite h.updEm.groupEvent h.updEm

theorem Sound.returnEm {k e : Nat} (h : s.Sound) : (s.returnEm k e).Sound :=
  .ite h.updEm.updEm.groupEvent h.updEm.updEm

theorem Sound.resumeAtBoundary {k : Nat} (h : s.Sound) : (s.resumeAtBoundary k).Sound :=
  .ite (h.frame.foldl fun h => h.groupEvent) h

theorem Sound.swapAtBoundary {k : Nat} (h : s.Sound) : (s.swapAtBoundary k).Sound :=
  .ite (h.swapExchange.foldl fun h => h.groupEvent) h

theorem Sound.epochAtBoundary {k : Nat} {swapped : Bool} (h : s.Sound) : (s.epochAtBoundary k swapped).Sound :=
  .ite (.ite (h.wr.frame.foldl fun h => h.groupEvent) h) (.ite (h.wr.frame.foldl fun h => h.groupEvent) h)

theorem Sound.memberActions {k : Nat} (h : s.Sound) : (s.memberActions k).Sound := by
  unfold State.memberActions
  extract_lets act z1 swapped z2 gone z3 z4 z5 z6 z7
  have h2 : z2.Sound := h.swapAtBoundary.epochAtBoundary
  have h4 : z4.Sound := (h2.foldl fun h => h.levelStep).foldl fun h => h.throttleEm
  have h5 : z5.Sound := .ite h4.refreshRequired (.ite h4.followRate h4)
  have h7 : z7.Sound := h5.shedAtBoundary.foldl fun h => h.returnEm
  exact h7.resumeAtBoundary

theorem Sound.stampAhead {k : Nat} (h : s.Sound) : (s.stampAhead k).Sound := h.frame

theorem Sound.nextMarker (h : s.Sound) : s.nextMarker.Sound := by
  unfold State.nextMarker
  split
  · exact h
  · exact h.frame

theorem Sound.frameStart {k : Nat} (h : s.Sound) : (s.frameStart k).Sound :=
  (h.stepApply.trigStart.memberActions.foldl fun h => h.levelDac).then fun h =>
    h.refreshProof.kappaAtBoundary.sectorAtBoundary.rasterAtBoundary.refAtBoundary.then fun h =>
    h.stampAhead.frame.nextMarker.formAhead.then fun h => .ite h h.frameRun.triggerRecipes

theorem Sound.frameBoundary (h : s.Sound) : s.frameBoundary.Sound := .ite (.ite h.frame (.ite h.frameStart h)) h

theorem Sound.earlyExecute {late pre : Bool} (h : s.Sound) : (s.earlyExecute late pre).Sound := by
  unfold State.earlyExecute
  extract_lets k done
  split
  · exact h
  · extract_lets plan
    clear_value plan
    split
    · exact h
    · exact h.updEm.frame.decideSlot

theorem Sound.slotExecute {late pre : Bool} (h : s.Sound) : (s.slotExecute late pre).Sound := by
  unfold State.slotExecute
  split
  · exact h.frame.decideSlot
  · exact .ite h.earlyExecute h

theorem Sound.armCheck (h : s.Sound) : s.armCheck.Sound := .ite h.armTrigger h
theorem Sound.trigEdge {level : Bool} (h : s.Sound) : (s.trigEdge level).Sound := h.armCheck.extTrigEdge
theorem Sound.trigExpire (h : s.Sound) : s.trigExpire.Sound := h.armCheck.trigTimeout

/-! ### The housekeeping converter (chapter 15) -/

theorem Sound.shutdown {g : Nat} (h : s.Sound) : (s.shutdown g).Sound :=
  h.setPermits.wr.logEvent.count.lifeAdd.calendarAdd.lifeFlush.forecast.then fun h3 => .ite h3.frame h3.safeEnter

theorem Sound.shutOct {g : Nat} (h : s.Sound) : (s.shutOct g).Sound :=
  (Sound.ite h h.putOctTherm).then fun h1 => .ite h1.shutdown h1

theorem Sound.shutTest (h : s.Sound) : s.shutTest.Sound := h.foldl fun h => h.shutOct
theorem Sound.tempRebase {n g : Nat} (h : s.Sound) : (s.tempRebase n g).Sound := h.frameRun

theorem Sound.tempTrigger {g : Nat} {r : Recipe} (h : s.Sound) : (s.tempTrigger g r).Sound := by
  unfold State.tempTrigger
  refine .ite ?_ h
  split
  · exact h.tempRebase
  · exact .ite h.queueRecipe h

theorem Sound.sensorTemp {n code : Nat} (h : s.Sound) : (s.sensorTemp n code).2.Sound := by
  unfold State.sensorTemp
  split
  · exact h
  · extract_lets i
    split
    · exact h
    · exact h.tick

theorem Sound.tempResult {n code : Nat} (h : s.Sound) : (s.tempResult n code).Sound := by
  unfold State.tempResult
  extract_lets p z1 z2 z3 z4
  have h1 : z1.Sound := h.sensorTemp.sensorResult.refreshTemps
  have h2 : z2.Sound := h1.refreshCompensation.refreshXtal
  have h3 : z3.Sound := h2.foldl fun h => h.tempTrigger
  have h4 : z4.Sound := .ite h3.calTest.pkoTest h2
  exact h4.shutTest

theorem Sound.hkResult {tag code : Nat} (h : s.Sound) : (s.hkResult tag code).Sound :=
  (Sound.ite h.wr.count h).then fun h1 => .ite (.ite h1.wr.wr.wr.tempResult h1.wr.wr.wr) h1.wr.wr.wr.snoopBus

theorem Sound.hkPhase {p : HkPhase} (h : s.Sound) : (s.hkPhase p).Sound := h.frame

theorem Sound.hkVisit (h : s.Sound) : s.hkVisit.Sound := by
  unfold State.hkVisit
  split
  · exact h.hkPhase
  · exact h.frame.wr

theorem Sound.hkRound (h : s.Sound) : s.hkRound.Sound := h.frame.hkVisit

theorem Sound.hkKick (h : s.Sound) : s.hkKick.Sound := by
  unfold State.hkKick
  split
  · exact h
  · exact h
  · exact h
  · refine .ite ?_ h
    split
    · exact h.hkPhase
    · exact h

theorem Sound.hkNext {wasInj : Bool} (h : s.Sound) : (s.hkNext wasInj).Sound := by
  unfold State.hkNext
  split
  · exact h.hkPhase
  · exact .ite (.ite h.hkPhase h.hkPhase) (.ite h.hkRound h.hkVisit)

theorem Sound.hkRoundStart (h : s.Sound) : s.hkRoundStart.Sound := by
  unfold State.hkRoundStart
  refine .ite h ?_
  refine .ite ?_ h.frame.count
  split
  · exact h.hkRound
  · exact h.frame

theorem Sound.hkSettleDone (h : s.Sound) : s.hkSettleDone.Sound := by
  unfold State.hkSettleDone
  split
  · exact h.hkPhase
  · exact h

theorem Sound.entryConversion {code : Nat} (h : s.Sound) : (s.entryConversion code).Sound := by
  unfold State.entryConversion
  split
  · exact h.hkPhase
  · extract_lets z1 first same left sum todo _ z2 z3 z4
    have h2 : z2.Sound := h.count.frame
    have h3 : z3.Sound := .ite h2.hkResult (.ite h2.hkResult h2)
    have h4 : z4.Sound := .ite h3.sensorVisit.refreshTemps.shutTest h3
    exact h4.hkNext

theorem Sound.hostConversion {code : Nat} (h : s.Sound) : (s.hostConversion code).Sound :=
  h.count.wr.wr.wr.hkResult.runRelease.runRelease.wrB.hkNext

theorem Sound.runSensorDone {n code : Nat} (h : s.Sound) : (s.runSensorDone n code).Sound :=
  h.hkResult.runConversion.wrB.hkNext

theorem Sound.hkConversionDone {code : Nat} (h : s.Sound) : (s.hkConversionDone code).Sound := by
  unfold State.hkConversionDone
  split
  · exact h.entryConversion
  · exact h.hostConversion
  · exact h.runSensorDone
  · exact h

theorem Sound.hkStart (h : s.Sound) : s.hkStart.Sound := by
  unfold State.hkStart
  exact (h.frame.foldl fun h => h.refreshRate).wr.hkRound

/-! ### The core supply -/

theorem Sound.regFault (h : s.Sound) : s.regFault.Sound := h.wr.wr.wrB.frame.restoreLapse

theorem Sound.floorTest {cannot : Bool} (h : s.Sound) : (s.floorTest cannot).Sound :=
  .ite h.frame.wr.raise.logEvent h.frame

theorem Sound.stepVdd {counter mv : Nat} (h : s.Sound) : (s.stepVdd counter mv).Sound := .ite h h.cmdVdd.count
theorem Sound.avsStep (h : s.Sound) : s.avsStep.Sound := .ite h (.ite (.ite h.stepVdd h) (.ite (.ite h.stepVdd h) h))
theorem Sound.avsHold (h : s.Sound) : s.avsHold.Sound := .ite h.cmdVdd h
theorem Sound.periodBegins {step : Nat} (h : s.Sound) : (s.periodBegins step).Sound := h.frame

theorem Sound.avsLoopPeriod {measured : Nat} (h : s.Sound) : (s.avsLoopPeriod measured).Sound :=
  .ite h.periodBegins (h.wr.restoreLapse.floorTest.then fun h2 => (Sound.ite h2.avsStep h2.avsHold).periodBegins)

theorem Sound.pmbusCommandDone {ack : Bool} (h : s.Sound) : (s.pmbusCommandDone ack).Sound := by
  unfold State.pmbusCommandDone
  split
  · exact h
  · exact .ite h.frame h.count.regFault

theorem Sound.pmbusStatus {status : Nat} (h : s.Sound) : (s.pmbusStatus status).Sound := .ite h h.regFault
theorem Sound.pmbAlert {status : Nat} (h : s.Sound) : (s.pmbAlert status).Sound := .ite h.frame h.frame.pmbusStatus
theorem Sound.pmbAlertTimeout (h : s.Sound) : s.pmbAlertTimeout.Sound := .ite h.frame.regFault h
theorem Sound.loopWrite (h : s.Sound) : s.loopWrite.Sound := .ite h h.cmdVdd

/-! ### The swap of schedules (chapter 5) -/

theorem Sound.swapDo (h : s.Sound) : s.swapDo.Sound :=
  .ite h.wr (h.swapExchange.refreshProof.followRate.then fun h2 => .ite h2 h2.uncommit)

/-! ### The Doley protocol (chapter 13) -/

theorem Sound.commandBegins (h : s.Sound) : s.commandBegins.Sound := h.frame
theorem Sound.commandEnds (h : s.Sound) : s.commandEnds.Sound := h.frame

theorem Sound.runHere {sp : OpSpec} {q : Req} (h : s.Sound) (row : KeepsForms sp) : (s.runHere sp q).state.Sound := by
  have run : (match s.checks8to12 sp q with
      | some (st, a) => OpResult.refuse st a s
      | none => sp.core (asLocal q s) s.commandBegins).state.Sound := by
    split
    · exact h
    · exact row _ _ h.commandBegins
  exact run.commandEnds

theorem Sound.cordSend {m : CordMsg} (h : s.Sound) : (s.cordSend m).Sound := h.frame

theorem Sound.ownAnswer {a : CordAnswer} (h : s.Sound) : (s.ownAnswer a).Sound := by
  unfold State.ownAnswer
  split
  · exact h.frame
  · exact h

theorem Sound.stepEnded {status : Nat} (h : s.Sound) : (s.stepEnded status).Sound := by
  unfold State.stepEnded
  split
  · exact h.frameRun
  · exact h

theorem Sound.holdReset {r : Reply} (h : s.Sound) : (s.holdReset r).Sound := .ite h.frame h
theorem Sound.uartSend {r : Reply} (h : s.Sound) : (s.uartSend r).Sound := .ite h.frameRun.frame h.frameRun

theorem Sound.deliver {src : Source} {r : Reply} (h : s.Sound) : (s.deliver src r).Sound := by
  unfold State.deliver
  split
  · exact h.frameRun.holdReset.stageReply
  · split
    next room =>
      have fits : (s.cmd.spiQ ++ [r]).length ≤ 4 := by
        rw [List.length_append]
        exact room
      exact (h.frameCmd (cmd := { s.cmd with spiQ := s.cmd.spiQ ++ [r], lastReply := some (.spi, r) })
        (h.withSpiQ fits)).holdReset
    · exact h.count
  · exact h.frameRun.uartSend
  · exact h.cordSend
  · exact h.ownAnswer
  · exact h.stepEnded

theorem Sound.keep {core : Nat} {k : KeptReply} (h : s.Sound) : (s.keep core k).Sound := by
  unfold State.keep
  extract_lets l0 l
  have fits : l.length ≤ 8 := by
    rw [List.length_drop]
    omega
  exact .ite (h.frameCmd (h.withKeptN fits)) (h.frameCmd (h.withKeptS fits))

theorem Sound.fitReply {src : Source} {r : Reply} (h : s.Sound) : (s.fitReply src r).2.Sound := by
  unfold State.fitReply
  split
  · extract_lets room
    split
    · exact h
    · exact h.logEntry.count.beside
  · exact h

theorem Sound.sendReply {src : Source} {r : Reply} (h : s.Sound) : (s.sendReply src r).Sound := by
  unfold State.sendReply
  refine .ite ?_ h.deliver
  split
  next r z heq =>
    have h1 : z.Sound := by
      have fitted : (z = (s.fitReply src _).2) := (congrArg Prod.snd heq).symm
      exact fitted ▸ h.fitReply
    extract_lets y
    have h2 : y.Sound := .ite h1 h1.keep
    exact .ite h2 h2.deliver

theorem Sound.logRefusal {q : Req} {opcode status address : Nat} (h : s.Sound) :
    (s.logRefusal q opcode status address).Sound :=
  .ite h h.logEntry.count

theorem Sound.finish {q : Req} {opcode : Nat} {before : State} {x : OpResult} (h : x.state.Sound) :
    (State.finish q opcode before x).Sound := by
  unfold State.finish
  extract_lets z rep _ y
  have h1 : z.Sound := h.logRefusal
  have h2 : y.Sound := h1.frame
  exact .ite (.ite h2.logRefusal.sendReply (.ite h1.frame h1.sendReply)) h1.sendReply

theorem Sound.settleOne {a : Nat × Source × Reply} (h : s.Sound) : (s.settleOne a).Sound :=
  .ite h.frame (.ite ((Sound.ite h h.logEntry.count).sendReply) h.sendReply)

theorem Sound.settle (h : s.Sound) : s.settle.Sound := (h.frame.foldl fun h => h.settleOne).frame

theorem Sound.countBytes {src : Source} {n : Nat} (h : s.Sound) : (s.countBytes src n).Sound := by
  unfold State.countBytes
  extract_lets z1
  have h1 : z1.Sound := h.count
  clear_value z1
  split
  · exact h1.countN
  · exact h1

theorem Sound.countPacket {q : Req} (h : s.Sound) : (s.countPacket q).Sound := h.countBytes

theorem Sound.accept {opcode : Nat} {q : Req} {f : State → State} (h : s.Sound)
    (hf : ∀ {r : State}, r.Sound → (f r).Sound) : (s.accept opcode q f).Sound := by
  refine .ite h.count ?_
  split
  · exact .ite h.count h.count.deliver
  · exact .ite (Sound.finish h) (.ite (Sound.finish h) (hf h))

theorem Sound.putQueue {core : Nat} {l : List QueuedReq} (h : s.Sound) (fits : l.length ≤ 8) :
    (s.putQueue core l).Sound :=
  .ite (h.frameCmd (h.withInN fits)).wr (h.frameCmd (h.withInS fits)).wr

/-! ### The tally (chapter 18) -/

theorem Sound.snapshot (h : s.Sound) : s.snapshot.Sound := h.frameTally.wr.wr.wr.count
theorem Sound.dumpDue (h : s.Sound) : s.dumpDue.Sound := .ite h (.ite h.count h.frameTally.wr.wr.count)
theorem Sound.dumpPeriod (h : s.Sound) : s.dumpPeriod.Sound := .ite h h.dumpDue

theorem Sound.dumpDone (h : s.Sound) : s.dumpDone.Sound := by
  unfold State.dumpDone
  split
  · exact h
  · exact (h.foldl fun h => h.telemetry).frameTally.wr

theorem Sound.bwPort {p : Nat} (h : s.Sound) : (s.bwPort p).Sound := .ite h.wrAt.wrAt h.wrAt

theorem Sound.bwWindow (h : s.Sound) : s.bwWindow.Sound := by
  unfold State.bwWindow
  extract_lets z
  have h1 : z.Sound := h.foldl fun h => h.bwPort
  exact h1.frameTally

theorem Sound.sampleTick (h : s.Sound) : s.sampleTick.Sound := by
  unfold State.sampleTick
  refine .ite ?_ h
  extract_lets _
  split
  · exact h.tick.wrAt.wrAt.wrAt.wrAt.wrAt.wr.count

theorem Sound.opTallySnapshot {q : Req} (h : s.Sound) : (s.opTallySnapshot q).state.Sound := by
  unfold State.opTallySnapshot
  exact h.snapshot

theorem Sound.opTallyRead {q : Req} (h : s.Sound) : (s.opTallyRead q).state.Sound := by
  unfold State.opTallyRead
  extract_lets _ _ _ _ _
  split
  · exact h
  · split
    · exact h
    · exact h

theorem Sound.opTallyDump {q : Req} (h : s.Sound) : (s.opTallyDump q).state.Sound := by
  unfold State.opTallyDump
  exact h.dumpDue

/-! ### Host accesses to registers -/

theorem Sound.takeBudget {v : State} (h : s.Sound) : (s.takeBudget v).Sound :=
  (h.frame.putWord.foldl fun h => h.putWordAt).foldl fun h => h.putWordAt

theorem Sound.checkWord {v : State} {acc : State × Option (Nat × Nat)} {aw : Nat × Nat} (h : acc.1.Sound) :
    (State.checkWord v acc aw).1.Sound := by
  unfold State.checkWord
  split
  · exact h
  next z =>
    have h1 : z.Sound := h
    split
    · exact h1
    · split
      · exact h1
      · split
        · exact h1
        · split
          · exact h1
          · split
            exact h1.takeBudget

theorem Sound.checkWords {ws : List (Nat × Nat)} (h : s.Sound) : (s.checkWords ws).1.Sound := by
  unfold State.checkWords
  split
  · exact h
  · split
    · exact h
    · split
      next heq => exact Sound.pair (.of_eq heq (.foldl_fst h.pair fun h => h.checkWord))
      next z heq =>
        have h1 : z.Sound := .of_eq heq (.foldl_fst h.pair fun h => h.checkWord)
        split
        · exact h1.queueRefused
        · exact h1

theorem Sound.actTime {a old w : Nat} (h : s.Sound) : (s.actTime a old w).Sound :=
  .ite (.ite h.syncSource h) (.ite (.ite h.stepGo h) (.ite h.tuneWrite h))

theorem Sound.actTdc {a old w : Nat} (h : s.Sound) : (s.actTdc a old w).Sound :=
  .ite (.ite h.unlockAll h) (.ite ((Sound.ite h.statStart h).then fun h1 => .ite h1.statAbort h1) h)

theorem Sound.actRxOct {a old w : Nat} (h : s.Sound) : (s.actRxOct a old w).Sound := by
  refine .ite h (.ite h.xbarSubst ?_)
  refine .ite (h.refreshBias.then fun h => .ite h h.biasOffOne) ?_
  exact .ite ((Sound.ite h.injStart h).then fun h => .ite h.injEnd h) h

theorem Sound.actRxFe {a old : Nat} (h : s.Sound) : (s.actRxFe a old).Sound :=
  .ite ((Sound.ite h.changeCfg h).then fun h1 => .ite h1 (.ite h1.loopRestart h1.showHeld)) (.ite
    (.ite h h.wrAt.changeThr.loopRestart) h)

theorem Sound.actFire {a old w : Nat} (h : s.Sound) : (s.actFire a old w).Sound := by
  unfold State.actFire
  extract_lets new e z1 z2
  have h1 : z1.Sound := .ite h.updEm h
  have h2 : z2.Sound := .ite h1.noteOff h1
  refine .ite (.ite h.swapDo h) (.ite (.ite h.sweepStart h) (.ite h.refreshLevel (.ite h.refreshCompensation ?_)))
  exact .ite (.ite h2.refreshDelay.refreshProof (.ite h.refreshDelay (.ite (.ite h.emClear h) h))) h

theorem Sound.actAngle {a w : Nat} (h : s.Sound) : (s.actAngle a w).Sound :=
  .ite (.ite h.requestReset h) (.ite h.excWrite (.ite h.rangeWrite (.ite h.wr h)))

theorem Sound.parkNow {ax : Axis} (h : s.Sound) : (s.parkNow ax).Sound :=
  .ite h.updAxis (.ite (.ite h.updAxis h.updAxis.axFault) h.updAxis.axPark)

theorem Sound.unparkNow {ax : Axis} (h : s.Sound) : (s.unparkNow ax).Sound := h.updAxis
theorem Sound.swapBanks {ax : Axis} (h : s.Sound) : (s.swapBanks ax).Sound := .ite h.servoSwap h.servoSwap.uncommit

theorem Sound.actAxis {ax : Axis} {w : Nat} (h : s.Sound) : (s.actAxis ax w).Sound :=
  (Sound.ite h.axRefresh.parkNow h.axRefresh).then fun h2 => (Sound.ite h2.unparkNow h2).then fun h3 =>
    .ite h3.swapBanks h3

theorem Sound.actServo {a w : Nat} (h : s.Sound) : (s.actServo a w).Sound :=
  .ite h.actAxis (.ite h.actAxis (.ite h.profileWrite (.ite h.busWrite h)))

theorem Sound.applyEnv {mask : Nat} (h : s.Sound) : (s.applyEnv mask).Sound := .ite h (.ite h.wr h.envExchange)
theorem Sound.poseLoadWrite (h : s.Sound) : s.poseLoadWrite.Sound := h.poseLoad.journal

theorem Sound.actGeom {a w : Nat} (h : s.Sound) : (s.actGeom a w).Sound :=
  .ite h.kappaWrite (.ite (.ite h.poseLoadWrite h) (.ite h.applyEnv h))

theorem Sound.actCam {a old w : Nat} (h : s.Sound) : (s.actCam a old w).Sound :=
  .ite (.ite (.ite h.camEnable h.camClose) h) (.ite (.ite h.cciStart h) h)

theorem Sound.recipeEnabledNow {n : Nat} (h : s.Sound) : (s.recipeEnabledNow n).Sound := by
  unfold State.recipeEnabledNow
  split
  · exact .ite h.tempRebase h
  · exact h

theorem Sound.actRest {a old w : Nat} (h : s.Sound) : (s.actRest a old w).Sound := by
  unfold State.actRest
  extract_lets new p b
  refine .ite h.lanesFollow (.ite (.ite h.resetRegion h) (.ite (.ite h.setDrained h) ?_))
  refine .ite (h.foldl fun h => h.recipeEnabledNow) (.ite (.ite h.wr.hkKick h) ?_)
  refine .ite (h.foldl fun h => h.warnTest).shutTest (.ite (h.foldl fun h => h.readmit) ?_)
  refine .ite (.ite h.calendarAdd h) (.ite (.ite h.dumpDue h) (.ite (.ite h.snapshot h) ?_))
  exact .ite h.frameTally (.ite h.loopWrite h)

theorem Sound.runChange {before : State} (h : s.Sound) : (s.runChange before).Sound :=
  .ite h h.angleRefresh.pkoChain.servoRefresh

theorem Sound.regAct {a old w : Nat} (h : s.Sound) : (s.regAct a old w).Sound := by
  unfold State.regAct
  split
  · exact h.actTime
  · exact h.actTdc
  · exact h.actRxOct
  · exact h.actFire
  · exact h.actAngle
  · exact h.actServo
  · exact h.actGeom
  · exact .ite h.actCam h
  · exact h.actRxFe
  · exact h.actRxFe
  · exact h.actRest

theorem Sound.putHost {aw : Nat × Nat} (h : s.Sound) : (s.putHost aw).Sound := by
  unfold State.putHost
  split
  · exact h
  next x hx =>
    extract_lets z old new clr y
    have h1 : z.Sound := .ite h.blankWrite h
    have h2 : y.Sound := .ite h1.uncommit h1
    have codes (e : aw.1 = A.DEV_MODE) : ModeCodes ((new - clr) % 2 ^ 32) := by
      have none : clr = 0 := by
        obtain ⟨-, w1c0, -⟩ := devMode_readOnly (e ▸ hx)
        simp [clr, w1c0]
      rw [none, Nat.sub_zero]
      exact ModeCodes.merge hx h1.codes_at e
    clear_value y
    exact .ite h (h2.putCodes codes).regAct

theorem Sound.putWords {ws : List (Nat × Nat)} (h : s.Sound) : (s.putWords ws).Sound := by
  unfold State.putWords
  extract_lets kept z
  have h1 : z.Sound := (h.foldl fun h => h.putHost).runChange
  exact h1.journal

theorem Sound.hostWrite {ws : List (Nat × Nat)} (h : s.Sound) : (s.hostWrite ws).1.Sound := by
  unfold State.hostWrite
  split
  next heq => exact Sound.pair (.of_eq heq h.checkWords)
  next heq => exact Sound.pair (Sound.putWords (.of_eq heq h.checkWords))

theorem Sound.beforeRead {a : Nat} (h : s.Sound) : (s.beforeRead a).Sound :=
  .ite h.timeLatch (.ite h.spyLatch (.ite h.armCheck (.ite h.refreshLoad (.ite h.refreshWait (.ite h.lastLatch h)))))

theorem Sound.hostRead {a : Nat} (h : s.Sound) : (s.hostRead a).1.Sound := by
  unfold State.hostRead
  split
  · exact h
  next x hx =>
    extract_lets z v c
    have h1 : z.Sound := h.beforeRead
    have codes (e : a = A.DEV_MODE) : ModeCodes ((v - c) % 2 ^ 32) := by
      have none : c = 0 := by
        obtain ⟨-, -, rdc0⟩ := devMode_readOnly (e ▸ hx)
        simp [c, rdc0]
      rw [none, Nat.sub_zero]
      exact h1.codes_at e
    exact .ite h1 (h1.putCodes codes)

theorem Sound.hostReads {l : List Nat} (h : s.Sound) : (State.hostReads l s).1.Sound := by
  induction l generalizing s with
  | nil => exact h
  | cons a l ih => exact ih h.hostRead

end
end State
end Sys2Proof.Machine
end

section
/-! SUPPORT. Tables, COMMIT, recipes, resets and the cord keep the forms (for O7). -/

namespace Sys2Proof.Machine
namespace State

section
variable {s r : State}

/-! ### Register, unit and table opcodes -/

theorem Sound.opRegRead {q : Req} (h : s.Sound) : (s.opRegRead q).state.Sound := by
  unfold State.opRegRead
  extract_lets n l
  split
  · exact h
  · split
    · exact h
    · exact h.hostReads

theorem Sound.opRegWrite {q : Req} (h : s.Sound) : (s.opRegWrite q).state.Sound := by
  unfold State.opRegWrite
  split
  next z _ _ heq => exact show z.Sound from .of_eq heq h.hostWrite
  next z heq => exact show z.Sound from .of_eq heq h.hostWrite

theorem Sound.opRegModify {q : Req} (h : s.Sound) : (s.opRegModify q).state.Sound := by
  unfold State.opRegModify
  extract_lets a
  split
  · exact h
  · extract_lets w
    split
    next z _ _ heq => exact show z.Sound from .of_eq heq h.checkWords
    next z heq =>
      have h1 : z.Sound := .of_eq heq h.checkWords
      exact h1.hostRead.putWords

theorem Sound.opUnitRead {q : Req} (h : s.Sound) : (s.opUnitRead q).state.Sound := by
  unfold State.opUnitRead
  extract_lets a n
  split
  · exact h
  · split
    · exact h
    · exact h
    · exact h.hostReads

theorem Sound.checkUnit {v : State} {a stride i : Nat} {ws : List Nat} {acc : State × Option (Nat × Nat × Nat)}
    (h : acc.1.Sound) : (State.checkUnit v a stride ws acc i).1.Sound := by
  unfold State.checkUnit
  split
  · exact h
  next z =>
    have h1 : z.Sound := h
    split
    next heq => exact Sound.pair (.of_eq heq (.foldl_fst h1.pair fun h => h.checkWord))
    next heq => exact Sound.pair (.of_eq heq (.foldl_fst h1.pair fun h => h.checkWord))

theorem Sound.opUnitWrite {q : Req} (h : s.Sound) : (s.opUnitWrite q).state.Sound := by
  unfold State.opUnitWrite
  extract_lets a ws
  split
  · exact h
  · exact h
  · extract_lets is all
    split
    next z _ _ _ heq => exact show z.Sound from .of_eq heq (.foldl_fst h.pair fun h => h.checkUnit)
    next z heq =>
      have h1 : z.Sound := .of_eq heq (.foldl_fst h.pair fun h => h.checkUnit)
      split
      · exact h1.queueRefused
      · exact h1.putWords

theorem Sound.tabPut {q : Req} {off : Nat} {ws : List Nat} (h : s.Sound) : (s.tabPut q off ws).Sound := by
  unfold State.tabPut
  extract_lets id fs z0 same z1 z2 z3
  have h0 : z0.Sound := h.foldl fun h => h.putWidths
  have h1 : z1.Sound := h.putTabs
  have h2 : z2.Sound := .ite h1.uncommit h1
  have h3 : z3.Sound := .ite (h2.foldl fun h => h.updCam) h2
  exact .ite h0.journal (.ite h3.journal h3)

theorem Sound.noteActive {a : Nat} (h : s.Sound) : (s.noteActive a).Sound := h.bump.wr

theorem Sound.opTableRead {q : Req} (h : s.Sound) : (s.opTableRead q).state.Sound := by
  unfold State.opTableRead
  extract_lets _ _
  split
  · exact h
  · exact h

theorem Sound.opTableWrite {q : Req} (h : s.Sound) : (s.opTableWrite q).state.Sound := by
  unfold State.opTableWrite
  extract_lets off ws
  split
  · exact h
  · split
    · exact .ite h.noteActive h
    · split
      · exact h.queueRefused
      · exact h.tabPut

theorem Sound.swapSchedule (h : s.Sound) : s.swapSchedule.state.Sound := by
  unfold State.swapSchedule
  split
  · exact h
  · split
    · split
      extract_lets z
      have h1 : z.Sound := h.takeBudget
      clear_value z
      split
      · exact h1
      · exact h1.swapDo
    · exact h.swapDo

theorem Sound.swapEnvelopes {mask : Nat} (h : s.Sound) : (s.swapEnvelopes mask).state.Sound := by
  unfold State.swapEnvelopes
  split
  · exact h
  · split
    · exact h.queueRefused
    · exact h.applyEnv

theorem Sound.opTableSwap {q : Req} (h : s.Sound) : (s.opTableSwap q).state.Sound := by
  unfold State.opTableSwap
  extract_lets _ _
  split
  · exact h.swapSchedule
  · split
    · exact h
    · split
      · exact h.swapEnvelopes
      · split
        · split
          · exact h
          · exact h.swapBanks
        · exact h

/-! ### COMMIT -/

theorem Sound.commitCheck (h : s.Sound) : s.commitCheck.1.Sound := by
  unfold State.commitCheck
  split
  · exact h
  · exact h.budgetCheck

theorem Sound.trialDone (h : s.Sound) : s.trialDone.Sound := h.frame.wr
theorem Sound.trialTimeout (h : s.Sound) : s.trialTimeout.Sound := .ite h.trialDone h

theorem Sound.opCommit {q : Req} (h : s.Sound) : (s.opCommit q).state.Sound := by
  unfold State.opCommit
  split
  · exact h
  · split
    next z _ _ heq => exact show z.Sound from .of_eq heq h.commitCheck
    next z heq =>
      have h1 : z.Sound := .of_eq heq h.commitCheck
      extract_lets items
      split
      · exact h1.queueRefused
      · exact h1.wr.trialDone.commitRate.journal

/-! ### Stored recipes -/

theorem Sound.setEnabled {n : Nat} {b : Bool} (h : s.Sound) : (s.setEnabled n b).Sound := by
  unfold State.setEnabled
  extract_lets f z y
  have h1 : z.Sound := by
    unfold z f
    split
    · split
      · exact h.setIn
      · exact h.setIn
    · split
      · exact h.clearIn
      · exact h.clearIn
  have h2 : y.Sound := h1.uncommit
  exact .ite h (.ite h2.recipeEnabledNow h2)

theorem Sound.putRecipe {n : Nat} {r : Option Recipe} (h : s.Sound) : (s.putRecipe n r).Sound := h.frameRun

theorem Sound.opRecipeStore {q : Req} (h : s.Sound) : (s.opRecipeStore q).state.Sound := by
  unfold State.opRecipeStore
  split
  · exact h
  · split
    · exact h
    · split
      · exact h
      · split
        · exact h.queueRefused
        · exact h.putRecipe.setEnabled.then fun h1 => (Sound.ite h1.recipeEnabledNow h1).journal

theorem Sound.opRecipeRead {q : Req} (h : s.Sound) : (s.opRecipeRead q).state.Sound := by
  unfold State.opRecipeRead
  split
  · exact h
  · exact h

theorem Sound.opRecipeEnable {q : Req} (h : s.Sound) : (s.opRecipeEnable q).state.Sound := by
  unfold State.opRecipeEnable
  extract_lets _
  split
  · exact h
  · exact h.setEnabled

theorem Sound.opRecipeDelete {q : Req} (h : s.Sound) : (s.opRecipeDelete q).state.Sound := by
  unfold State.opRecipeDelete
  extract_lets n z l _ y
  have h1 : z.Sound := h.setEnabled.putRecipe
  have fits : l.length ≤ 8 := (List.length_filter_le _ _).trans h1.queue_le
  have h2 : y.Sound := (h1.frameCmd (h1.withQueue fits)).wr
  split
  · exact h
  · split
    · exact h.queueRefused
    · exact h2.journal.ok

theorem Sound.opRecipeRun {q : Req} (h : s.Sound) : (s.opRecipeRun q).state.Sound := by
  unfold State.opRecipeRun
  split
  · exact h
  · exact h.queueRecipe

/-! ### Resets and start-up (chapter 19) -/

theorem Sound.keptRegs {kind : Nat} {before : State} (h : s.Sound) : (State.keptRegs kind before s).Sound := by
  unfold State.keptRegs
  extract_lets z1 z2 z3 z4 y z5 z6
  have h1 : z1.Sound := .ite h h.wr
  have h2 : z2.Sound := .ite h1 h1.putWord
  have h3 : z4.Sound := h2.wr.wr.wr
  exact .ite h3 h3.wr.wr.wr.wr.wr.wr

theorem reset_sound : State.reset.Sound := sound_iff.mp (by decide)

theorem Sound.enterReset {kind : Nat} (h : s.Sound) : (s.enterReset kind).Sound := by
  have fits (k : Nat) : (if k = 0 then [] else s.cmd.faults).length ≤ 16 := by
    split
    · exact Nat.zero_le _
    · exact h.faults_le
  unfold State.enterReset
  extract_lets k _ _ _ _ _ _ z y old
  have h1 : z.Sound := reset_sound.frameCmd (reset_sound.withFaults (fits _))
  clear_value z
  have h2 : y.Sound := h1.keptRegs.wr
  exact h2.wrB.refreshAllow

theorem Sound.supplyBad (h : s.Sound) : s.supplyBad.Sound := h.frame.enterReset.wr

theorem Sound.resetFall {resets : Bool} (h : s.Sound) : (s.resetFall resets).Sound :=
  h.frame.refreshAllow.then fun h1 => .ite h1.enterReset h1.calPoll

theorem Sound.sampleStraps {role : Bool} {id : Nat} (h : s.Sound) : (s.sampleStraps role id).Sound := h.wrB.wr.wrB

theorem Sound.resetRise {role : Bool} {id : Nat} (h : s.Sound) : (s.resetRise role id).Sound :=
  .ite h.frame.sampleStraps h.frame.refreshAllow

theorem Sound.thermalTrip (h : s.Sound) : s.thermalTrip.Sound := h.frame.enterReset
theorem Sound.tripRelease (h : s.Sound) : s.tripRelease.Sound := h.frame
theorem Sound.commandReset (h : s.Sound) : s.commandReset.Sound := .ite h.lifeFlush.enterReset h
theorem Sound.cordResetTaken (h : s.Sound) : s.cordResetTaken.Sound := .ite h.lifeFlush.enterReset h

theorem Sound.wdtRestart {hh : Half} (h : s.Sound) : (s.wdtRestart hh).Sound := by
  unfold State.wdtRestart
  extract_lets _
  split
  · exact h.frame
  · exact h.frame

theorem Sound.wdtKick {hh : Half} (h : s.Sound) : (s.wdtKick hh).Sound := .ite h.wdtRestart h

theorem Sound.watchdogBite {hh : Half} (h : s.Sound) : (s.watchdogBite hh).Sound :=
  .ite (h.setPermits.logEntry.then fun h1 => (Sound.ite h1.entryDone h1).lifeFlush.enterReset) h

theorem Sound.bootSelect {boot : Option (List Nat)} (h : s.Sound) : (s.bootSelect boot).Sound := by
  unfold State.bootSelect
  extract_lets _
  split
  · exact .ite h.frame h.frame
  · exact h

theorem Sound.bootSlot {bad0 bad1 : Bool} (h : s.Sound) : (s.bootSlot bad0 bad1).1.Sound := by
  unfold State.bootSlot
  extract_lets back _ z _ y k bad
  have h1 : z.Sound := .ite h.frame h
  have h2 : y.Sound := h1.frame
  clear_value y
  split
  · exact h2.pair
  · split
    · exact h2.pair
    · exact h2.pair

theorem Sound.replayReg {p : Nat × Word} (h : s.Sound) : (s.replayReg p).Sound := by
  unfold State.replayReg
  split
  next e => exact e ▸ h.putWord
  next => 
    split
    next hx => exact h.putMerge hx
    · exact h

theorem Sound.replayTab {p : Nat × Word} (h : s.Sound) : (s.replayTab p).Sound := h.putTab

theorem Sound.replayItem {p : Nat × List Nat} (h : s.Sound) : (s.replayItem p).Sound := by
  unfold State.replayItem
  extract_lets _ _
  split
  · exact h.wrAt.wrAt
  · exact h.putWordAt.putWordAt
  · exact h.wrAt
  · exact h.wrAt
  · exact h.wr
  · exact h.frame
  · exact h

theorem Sound.replayRecipe {p : Nat × List (Nat × List Nat)} (h : s.Sound) : (s.replayRecipe p).Sound := by
  unfold State.replayRecipe
  split
  · exact h.putRecipe
  · exact h

theorem Sound.starterFe {m : JMap} {f : Nat} (h : s.Sound) : (s.starterFe m f).Sound := by
  unfold State.starterFe
  extract_lets has reg z1 z2 z3 z4 z5 z6 z7
  have h1 : z1.Sound := .ite h h.putWidths
  have h2 : z2.Sound := .ite h1 h1.wrAt
  have h3 : z3.Sound := .ite h2 h2.putSkews
  have h4 : z4.Sound := .ite h3 h3.wrSAt
  have h5 : z5.Sound := .ite h4 h4.wrSAt.wrSAt
  have h6 : z6.Sound := .ite h5 h5.wrAt.wrAt
  have h7 : z7.Sound := .ite h6 h6.putWalk
  exact h7.wrAt

theorem Sound.starterPoly {m : JMap} {r : Nat} (h : s.Sound) : (s.starterPoly m r).Sound := .ite h h.putTabs

theorem Sound.starterFill {m : JMap} (h : s.Sound) : (s.starterFill m).Sound := by
  unfold State.starterFill
  extract_lets has z1 z2 z3 z4
  have h1 : z1.Sound := h.foldl fun h => h.starterFe
  have h2 : z2.Sound := h1.foldl fun h => (Sound.ite h h.starterInj).then fun h => .ite h h.wrSAt
  have h3 : z3.Sound := h2.foldl fun h => h.starterPoly
  have h4 : z4.Sound := .ite h3 h3.starterPko
  exact .ite h4 h4.wrS

theorem Sound.feReplay {f : Nat} (h : s.Sound) : (s.feReplay f).Sound := h.updFe.wrAt
theorem Sound.octReplay {g : Nat} (h : s.Sound) : (s.octReplay g).Sound := .ite h.requestSwitch h

theorem Sound.followReplay (h : s.Sound) : s.followReplay.Sound :=
  (Sound.ite h.wr.wr h.wr.wr.poseLoad.poseMatrixDone).frame.frame.then fun h =>
    ((h.foldl fun h => h.feReplay).foldl fun h => h.octReplay).refreshCompensation.refreshProof.showDll.refreshXtal

theorem Sound.openJournal (h : s.Sound) : s.openJournal.Sound := by
  unfold State.openJournal
  extract_lets best
  clear_value best
  split
  · exact h.wr
  · exact h.wr.wr.putHalf.frame

theorem Sound.replayAll (h : s.Sound) : s.replayAll.Sound :=
  (h.foldl fun h => h.replayReg).then fun h => (h.foldl fun h => h.replayTab).then fun h =>
    (h.foldl fun h => h.replayItem).then fun h => (h.foldl fun h => h.replayRecipe).frame.starterFill.followReplay

theorem Sound.lifeOpen (h : s.Sound) : s.lifeOpen.Sound := h.frame.frame

theorem Sound.lifeLoad (h : s.Sound) : s.lifeLoad.Sound :=
  h.lifeOpen.lifeAdd.then fun h1 => (Sound.ite h1.lifeAdd.calendarAdd h1).then fun h2 =>
    (Sound.ite h2.count h2).calendarAdd

theorem Sound.slotRecord {slot : Nat} {fell back : Bool} (h : s.Sound) : (s.slotRecord slot fell back).Sound :=
  (Sound.ite h.wr.wr.wrB.wrB.frame.calendarAdd h.wr.wr.wrB.wrB.frame).then fun h4 =>
    (Sound.ite h4.calendarAdd h4).then fun h5 => .ite h5.journal h5

theorem Sound.romSafe (h : s.Sound) : s.romSafe.Sound := by
  unfold State.romSafe
  extract_lets _ _ z y
  have h1 : z.Sound := h.lifeOpen.frame.snapshot
  clear_value z
  have h2 : y.Sound := ((h1.wrMode (by decide)).wrTarget (by decide)).setIn
  exact h2.wr.logEvent.raise

theorem Sound.resetRelease {role : Bool} {id : Nat} {bad0 bad1 : Bool} (h : s.Sound) :
    (s.resetRelease role id bad0 bad1).Sound := by
  unfold State.resetRelease
  extract_lets kind _ z1 z2 _ z3 z4 z5 back
  refine .ite h ?_
  have h1 : z1.Sound := h.frame
  have h2 : z2.Sound := .ite h1.sampleStraps h1
  have h3 : z3.Sound := .ite h2.frame h2
  have h4 : z4.Sound := h3.openJournal
  have h5 : z5.Sound := h4.bootSelect
  clear_value z5 back
  split
  next heq => exact (Sound.of_eq heq h5.bootSlot).romSafe
  next y _ _ heq =>
    have h6 : y.Sound := .of_eq heq h5.bootSlot
    exact (h6.frame.wdtRestart.wdtRestart.replayAll.then fun h => .ite h.syncSource h).lifeLoad.slotRecord.freqFollow
      |>.hkStart.selftestEntry

theorem Sound.enterQuiet {m : Nat} (h : s.Sound) (hm : m ≤ 7) : (s.enterQuiet m).Sound :=
  (Sound.ite (h.setMode hm).servoModeEntry (h.setMode hm)).raise.entryRecipes.calPoll

theorem Sound.autoMode (h : s.Sound) : s.autoMode.Sound := by
  have h1 : (s.enterQuiet Mode.config).Sound := h.enterQuiet (by decide)
  exact .ite h (.ite h1 (.ite h1.frame (.ite (h1.startTransition (by decide)) h1)))

theorem Sound.testResults {fails : List (Nat × Nat)} (h : s.Sound) : (s.testResults fails).Sound := by
  unfold State.testResults
  extract_lets l mask z1 z2 z3 ms z4
  have h1 : z1.Sound := h.wr.wr
  have h2 : z2.Sound := by
    unfold z2
    clear_value l
    cases l
    · exact h1.wr.wr
    · exact h1.wr.wr
  have h3 : z3.Sound := h2.foldl fun h => h.logEvent.count
  have h4 : z4.Sound := h3.wrB
  exact h4.frame

theorem Sound.stepSeven (h : s.Sound) : s.stepSeven.Sound := by
  unfold State.stepSeven
  split
  next heq => exact (Sound.of_eq heq h.commitCheck).wrB.snapshot.frame

theorem Sound.selftestDone {fails : List (Nat × Nat)} (h : s.Sound) : (s.selftestDone fails).Sound := by
  unfold State.selftestDone
  extract_lets first z1 z2 z3
  have h1 : z1.Sound := h.testResults
  have h2 : z2.Sound := .ite h1.stepSeven h1
  have h3 : z3.Sound := h2.enterQuiet (by decide)
  exact .ite h (.ite h2.safeEnter (.ite h2 (.ite h3.autoMode h3)))

theorem Sound.wake {how : Wake} (h : s.Sound) : (s.wake how).Sound := .ite h.frame.cmdVdd h

theorem Sound.wakeComplete (h : s.Sound) : s.wakeComplete.Sound := by
  unfold State.wakeComplete
  extract_lets src _ z1 z2 z3
  have h1 : z1.Sound := h.frame
  have h2 : z2.Sound := h1.wdtRestart.wdtRestart
  have h3 : z3.Sound := h2.freqFollow.syncSource.refreshXtal.hkStart.enterQuiet (by decide)
  exact .ite (.ite h3.startCompaction h3) h

/-! ### Cords of devices (chapter 14) -/

theorem Sound.rollCall (h : s.Sound) : s.rollCall.Sound := .ite h.cordSend.count h
theorem Sound.rollCallRx {ms : List Nat} (h : s.Sound) : (s.rollCallRx ms).Sound := .ite h.cordSend h
theorem Sound.leaveCord (h : s.Sound) : s.leaveCord.Sound := h.wr.wr.wr.frame
theorem Sound.takeSeeds {seeds : List Nat} (h : s.Sound) : (s.takeSeeds seeds).Sound := .ite h.cordSend h.putTabs
theorem Sound.cordForms {seeds : List Nat} (h : s.Sound) : (s.cordForms seeds).Sound := h.wr.wr.takeSeeds

theorem Sound.rollCallReturn {lead : Nat} {ms : List RollEntry} {seeds : List Nat} (h : s.Sound) :
    (s.rollCallReturn lead ms seeds).Sound :=
  .ite h (.ite h.leaveCord ((Sound.ite h.wr.wr.cordSend h.wr.wr).then fun h2 => .ite
    (.ite h2.frame h2.frame.raise) h2.frame.cordForms))

theorem Sound.splitAuthority {cause extra : Nat} (h : s.Sound) : (s.splitAuthority cause extra).Sound :=
  h.setPermits.frame.wr.wr.logEvent.safeEnter

theorem Sound.halfSend {hh : Half} (h : s.Sound) : (s.halfSend hh).Sound := by
  unfold State.halfSend
  refine .ite ?_ h
  extract_lets _ _
  split
  · exact h.frame
  · exact h.frame

theorem Sound.halfOk (h : s.Sound) : s.halfOk.Sound := .ite h.frame h

theorem Sound.halfFault {hh : Half} (h : s.Sound) : (s.halfFault hh).Sound := by
  unfold State.halfFault
  extract_lets till other _ z
  have h1 : z.Sound := h.frame
  refine .ite h1 ?_
  cases hh
  · exact h1.frame
  · exact h1.frame

theorem Sound.halfHeartbeat {hh : Half} {claim : Nat} (h : s.Sound) : (s.halfHeartbeat hh claim).Sound := by
  unfold State.halfHeartbeat
  extract_lets z
  have h1 : z.Sound := by
    unfold z
    cases hh
    · exact h.wr
    · exact h.wr
  clear_value z
  exact .ite (.ite h1.halfOk h1.halfFault.splitAuthority) h

theorem Sound.halfTimeout {hh : Half} (h : s.Sound) : (s.halfTimeout hh).Sound := by
  unfold State.halfTimeout
  extract_lets o
  have h1 : (s.wr (hbOk o) 0).Sound := by
    clear_value o
    cases o
    · exact h.wr
    · exact h.wr
  exact .ite h1.halfFault.splitAuthority h

theorem Sound.cordFault (h : s.Sound) : s.cordFault.Sound := h.frame
theorem Sound.cordHbSend (h : s.Sound) : s.cordHbSend.Sound := .ite h.cordSend h

theorem Sound.followerHb {mac member : Nat} (h : s.Sound) : (s.followerHb mac member).Sound :=
  .ite h.frame.cordFault.splitAuthority (.ite h.frame.cordFault.splitAuthority h.frame.frame)

theorem Sound.cordHeartbeat {mac member epoch : Nat} (h : s.Sound) : (s.cordHeartbeat mac member epoch).Sound :=
  .ite (.ite (.ite h.cordSend h.cordSend.cordFault.splitAuthority) h.cordSend.followerHb) h

theorem Sound.cordHbTimeout (h : s.Sound) : s.cordHbTimeout.Sound := .ite h.cordFault.splitAuthority h
theorem Sound.markerSend (h : s.Sound) : s.markerSend.Sound := .ite h.cordSend (.ite h.cordSend.frame h)

theorem Sound.putStart {start : Nat} {epoch forced : Bool} (h : s.Sound) : (s.putStart start epoch forced).Sound :=
  .ite h.frame h.frame

theorem Sound.markerMissed (h : s.Sound) : s.markerMissed.Sound :=
  h.bump.putStart.then fun h1 => .ite h1.frame h1.frame.cordFault.splitAuthority

theorem Sound.syncMiss (h : s.Sound) : s.syncMiss.Sound := .ite h.markerMissed h

theorem Sound.markerTaken {epoch forced : Bool} (h : s.Sound) : (s.markerTaken epoch forced).Sound :=
  .ite h.frame.putStart h

theorem Sound.syncMarker {width : Nat} (h : s.Sound) : (s.syncMarker width).Sound := by
  unfold State.syncMarker
  refine .ite ?_ h
  split
  · exact h
  · exact .ite (.ite h.markerMissed h) h.markerTaken

theorem Sound.cordResetMarker (h : s.Sound) : s.cordResetMarker.Sound := .ite h.frame.cordResetTaken h
theorem Sound.epochAnnounce {n ev : Nat} (h : s.Sound) : (s.epochAnnounce n ev).Sound := .ite h.frame h

theorem Sound.announce {before : State} (h : s.Sound) : (s.announce before).Sound :=
  .ite h (.ite h.cordSend (.ite h.frame.cordSend h))

theorem Sound.relayDatagram {ws octets : List Nat} (h : s.Sound) : (s.relayDatagram ws octets).Sound := by
  unfold State.relayDatagram
  refine .ite h ?_
  refine .ite ?_ (.ite h.frame.count h)
  split
  · exact h
  · exact .ite h.countN.count.updRegion h.countDrop

theorem Sound.cordTxEnd (h : s.Sound) : s.cordTxEnd.Sound := by
  unfold State.cordTxEnd
  refine .ite h ?_
  split
  · extract_lets r
    split
    · exact h
    · exact h.putRegion.cordSend
  · split
    · exact h
    · exact h.frame.cordSend

theorem Sound.orderBack (h : s.Sound) : s.orderBack.Sound := .ite h.wrAt h
theorem Sound.txEnd {p : Nat} (h : s.Sound) : (s.txEnd p).Sound := .ite h.frameEnd.orderBack h.cordTxEnd

theorem Sound.relayTimeout {p : Nat} (h : s.Sound) : (s.relayTimeout p).Sound := by
  unfold State.relayTimeout
  split
  · exact h
  · exact .ite h h.dropDg.regionFollows.endGrant.arbiterEvent.bumpAt.wrAt

theorem Sound.cordLink {n : Nat} {up : Bool} (h : s.Sound) : (s.cordLink n up).Sound := h.wrBAt.orderBack

end
end State
end Sys2Proof.Machine
end

section
/-! SUPPORT. The opcodes and the requests keep the forms (for O7). -/

namespace Sys2Proof.Machine
namespace State

section
variable {s r : State}

/-! ### Opcodes -/

theorem Sound.opModeSet {q : Req} (h : s.Sound) : (s.opModeSet q).state.Sound := by
  unfold State.opModeSet
  extract_lets m wide
  split
  · exact h
  next known =>
    have started : (OpResult.ok (s.startTransition m)).state.Sound := (h.startTransition (Nat.not_lt.mp known)).ok
    split
    · exact h
    · split
      · exact h
      · split
        · exact h
        · split
          · exact h
          · split
            · exact h
            · split
              · exact h
              · exact started

theorem Sound.opModeGet {q : Req} (h : s.Sound) : (s.opModeGet q).state.Sound := by
  unfold State.opModeGet
  exact h

theorem Sound.opReset {q : Req} (h : s.Sound) : (s.opReset q).state.Sound := by
  unfold State.opReset
  split
  · exact h
  · exact h.frame

theorem Sound.opCalRun {q : Req} (h : s.Sound) : (s.opCalRun q).state.Sound := by
  unfold State.opCalRun
  extract_lets k p z y
  have h1 : z.Sound := .ite h (h.foldl fun h => h.addPend)
  have h2 : y.Sound := .ite h1.wr.pkoPoll h1
  clear_value y
  split
  · exact h
  · split
    · exact h
    · exact h2.refreshWait

theorem Sound.opCalStatus {q : Req} (h : s.Sound) : (s.opCalStatus q).state.Sound := by
  unfold State.opCalStatus
  exact h.refreshWait

theorem Sound.opCalStarter {q : Req} (h : s.Sound) : (s.opCalStarter q).state.Sound := by
  unfold State.opCalStarter
  extract_lets k p
  split
  · exact h
  · split
    · exact h
    · split
      · exact h.queueRefused
      · exact h.calStarter

theorem Sound.opImageWrite {q : Req} (h : s.Sound) : (s.opImageWrite q).state.Sound := by
  unfold State.opImageWrite
  extract_lets _ _ _
  split
  · exact h
  · split
    · exact h
    · split
      · exact h
      · exact .ite h.frame.wr h.frame

theorem Sound.opImageActivate {q : Req} (h : s.Sound) : (s.opImageActivate q).state.Sound := by
  unfold State.opImageActivate
  extract_lets k n crc _ z
  have h1 : z.Sound := h.frame
  split
  · exact h
  · split
    · exact h
    · split
      · exact h
      · split
        · exact h.queueRefused
        · exact h1.wr.calendarAdd.journal.ok

theorem Sound.opLifeRead {q : Req} (h : s.Sound) : (s.opLifeRead q).state.Sound := by
  unfold State.opLifeRead
  extract_lets _ _
  split
  · exact h
  · exact h

theorem Sound.opCompact {q : Req} (h : s.Sound) : (s.opCompact q).state.Sound := by
  unfold State.opCompact
  split
  · exact h
  · exact h.startCompaction

theorem Sound.opCordStatus {q : Req} (h : s.Sound) : (s.opCordStatus q).state.Sound := by
  unfold State.opCordStatus
  split
  · exact h
  · exact h

theorem Sound.opCordReset {q : Req} (h : s.Sound) : (s.opCordReset q).state.Sound := by
  unfold State.opCordReset
  split
  · exact h
  · split
    · exact h.frame
    · split
      · exact h
      · exact h

theorem Sound.opSelftestReport {q : Req} (h : s.Sound) : (s.opSelftestReport q).state.Sound := by
  unfold State.opSelftestReport
  exact h

theorem Sound.opFaultRead {q : Req} (h : s.Sound) : (s.opFaultRead q).state.Sound := by
  unfold State.opFaultRead
  exact h

theorem Sound.opFaultClear {q : Req} (h : s.Sound) : (s.opFaultClear q).state.Sound :=
  Sound.wr (h.frameCmd (h.withFaults (l := []) (by decide)))

theorem Sound.opIdent {q : Req} (h : s.Sound) : (s.opIdent q).state.Sound := by
  unfold State.opIdent
  exact h

theorem Sound.opTimeGet {q : Req} (h : s.Sound) : (s.opTimeGet q).state.Sound := by
  unfold State.opTimeGet
  exact h

theorem Sound.opTimeOfDay {q : Req} (h : s.Sound) : (s.opTimeOfDay q).state.Sound := by
  unfold State.opTimeOfDay
  split
  · exact h
  · split
    · exact h
    · exact h.frame

theorem opTable_keepsForms : ∀ sp ∈ opTable, KeepsForms sp := by
  simp only [opTable, List.forall_mem_cons, List.not_mem_nil, false_imp_iff, implies_true, and_true]
  and_intros
  · exact fun q s (h : s.Sound) => h.opRegRead
  · exact fun q s (h : s.Sound) => h.opRegWrite
  · exact fun q s (h : s.Sound) => h.opRegModify
  · exact fun q s (h : s.Sound) => h.opUnitRead
  · exact fun q s (h : s.Sound) => h.opUnitWrite
  · exact fun q s (h : s.Sound) => h.opTableRead
  · exact fun q s (h : s.Sound) => h.opTableWrite
  · exact fun q s (h : s.Sound) => h.opTableSwap
  · exact fun q s (h : s.Sound) => h.opModeSet
  · exact fun q s (h : s.Sound) => h.opModeGet (q := q)
  · exact fun q s (h : s.Sound) => h.opReset
  · exact fun q s (h : s.Sound) => h.opCommit (q := q)
  · exact fun q s (h : s.Sound) => h.opCalRun
  · exact fun q s (h : s.Sound) => h.opCalStatus
  · exact fun q s (h : s.Sound) => h.opCalStarter
  · exact fun q s (h : s.Sound) => h.opImageWrite
  · exact fun q s (h : s.Sound) => h.opImageActivate
  · exact fun q s (h : s.Sound) => h.opLifeRead
  · exact fun q s (h : s.Sound) => h.opCompact (q := q)
  · exact fun q s (h : s.Sound) => h.opTallySnapshot (q := q)
  · exact fun q s (h : s.Sound) => h.opTallyRead
  · exact fun q s (h : s.Sound) => h.opTallyDump (q := q)
  · exact fun q s (h : s.Sound) => h.opCordStatus (q := q)
  · exact fun q s (h : s.Sound) => h.opCordReset
  · exact fun q s (h : s.Sound) => h.opRecipeStore
  · exact fun q s (h : s.Sound) => h.opRecipeRead
  · exact fun q s (h : s.Sound) => h.opRecipeEnable
  · exact fun q s (h : s.Sound) => h.opRecipeDelete
  · exact fun q s (h : s.Sound) => h.opRecipeRun
  · exact fun q s (h : s.Sound) => h.opSelftestReport (q := q)
  · exact fun q s (h : s.Sound) => h.opFaultRead (q := q)
  · exact fun q s (h : s.Sound) => h.opFaultClear (q := q)
  · exact fun q s (h : s.Sound) => h.opIdent (q := q)
  · exact fun q s (h : s.Sound) => h.opTimeGet (q := q)
  · exact fun q s (h : s.Sound) => h.opTimeOfDay

theorem opSpec_keepsForms {op : Nat} {sp : OpSpec} (h : opSpec op = some sp) : KeepsForms sp :=
  opTable_keepsForms sp (List.mem_of_find?_eq_some h)

/-! ### Requests on their way -/

theorem Sound.recipeStart (h : s.Sound) : s.recipeStart.Sound := by
  have bound := h.queue_le
  unfold State.recipeStart
  split
  next n rest _ heq =>
    refine .ite ?_ h
    extract_lets _ z _
    have fits : rest.length ≤ 8 := by
      rw [heq, List.length_cons] at bound
      omega
    have h1 : z.Sound := (h.frameCmd (h.withQueue fits)).wr
    split
    · exact h1
    · exact h1.frameRun.wr.wr.wr.recipeEnabledNow
  · exact h

theorem Sound.putRecipeRun {r : RecipeRun} (h : s.Sound) : (s.putRecipeRun r).Sound := h.frameRun

theorem Sound.stepDone {status : Nat} (h : s.Sound) : (s.stepDone status).Sound := by
  unfold State.stepDone
  split
  · exact h
  · exact .ite h.recipeFail (.ite h.recipeGone h.putRecipeRun.wr)

theorem Sound.recipeResume (h : s.Sound) : s.recipeResume.Sound := by
  unfold State.recipeResume
  split
  · split
    · exact h.stepDone
    · exact h
  · exact h

theorem Sound.recipeAcquire {r : RecipeRun} {p : RecipeStep} (h : s.Sound) : (s.recipeAcquire r p).Sound := by
  unfold State.recipeAcquire
  extract_lets _
  split
  · exact h.stepDone
  · split
    · refine .ite ?_ h.putRecipeRun.stepDone
      split
      · exact h
      · exact h.putRecipeRun

theorem Sound.recipeRelease {r : RecipeRun} {p : RecipeStep} (h : s.Sound) : (s.recipeRelease r p).Sound := by
  unfold State.recipeRelease
  extract_lets _
  split
  · exact h.stepDone
  · exact h.putRecipeRun.stepDone

theorem Sound.recipeWait {r : RecipeRun} {p : RecipeStep} (h : s.Sound) : (s.recipeWait r p).Sound := by
  unfold State.recipeWait
  extract_lets _
  split
  · exact h.stepDone
  · exact h.putRecipeRun

theorem Sound.countStep {r : RecipeRun} (h : s.Sound) : (s.countStep r).Sound := by
  unfold State.countStep
  split
  · exact h.count
  · exact h

theorem Sound.ownStep {op : Nat} {act : RecipeRun → RecipeStep → State → State} (h : s.Sound)
    (hact : ∀ {r : RecipeRun} {p : RecipeStep} {s : State}, s.Sound → (act r p s).Sound) : (s.ownStep op act).Sound :=
      by
  unfold State.ownStep
  split
  · exact .ite (hact h.countStep) h
  · exact h

theorem Sound.acquireTimeout (h : s.Sound) : s.acquireTimeout.Sound := by
  unfold State.acquireTimeout
  split
  · split
    · exact h.stepDone
    · exact h
  · exact h

theorem Sound.waitExpire (h : s.Sound) : s.waitExpire.Sound := by
  unfold State.waitExpire
  split
  · split
    · exact h.stepDone
    · exact h
  · exact h

theorem Sound.putTxn {x : Option CordTxn} (h : s.Sound) : (s.putTxn x).Sound := h.frame

theorem Sound.answerTo {x : CordTxn} {log : Bool} {status address : Nat} {payload : List Nat} (h : s.Sound) :
    (s.answerTo x log status address payload).Sound := by
  unfold State.answerTo
  extract_lets z1 _
  have h1 : z1.Sound := h.putTxn
  clear_value z1
  split
  · exact h1.stepEnded
  · exact .ite h1.frame h1
  · exact (Sound.ite h1.logRefusal h1).sendReply

theorem Sound.ownApply {sp : OpSpec} {q : Req} (h : s.Sound) (row : KeepsForms sp) : (s.ownApply sp q).Sound :=
  Sound.finish (h.runHere row)

theorem Sound.checkResolved {x : CordTxn} (h : s.Sound) : (s.checkResolved x).Sound := by
  unfold State.checkResolved
  extract_lets stop commit
  have stopped {st a : Nat} {ws : List Nat} : (stop st a ws).Sound := h.cordSend.count.answerTo
  clear_value stop
  split
  · exact stopped
  · refine .ite stopped ?_
    split
    · exact stopped
    next known => exact h.cordSend.putTxn.ownApply (opSpec_keepsForms known)

theorem Sound.applyResolved {x : CordTxn} (h : s.Sound) : (s.applyResolved x).Sound := by
  unfold State.applyResolved
  split
  · exact h.answerTo
  · exact h.answerTo

theorem Sound.statusResolved {x : CordTxn} (h : s.Sound) : (s.statusResolved x).Sound := h.answerTo

theorem Sound.resolveOne (h : s.Sound) : s.resolveOne.Sound := by
  unfold State.resolveOne
  split
  · exact h
  · refine .ite h ?_
    split
    · split
      · exact h.answerTo
      · exact h
    · exact h.checkResolved
    · exact h.applyResolved
    · exact h.statusResolved

theorem Sound.resolve (h : s.Sound) : s.resolve.Sound := h.resolveOne.resolveOne.recipeResume
theorem Sound.beginTxn {x : CordTxn} {m : CordMsg} (h : s.Sound) : (s.beginTxn x m).Sound := h.cordSend.putTxn.resolve

theorem Sound.checkAnswer {sp : OpSpec} {q : Req} (h : s.Sound) : (s.checkAnswer sp q).1.Sound := by
  unfold State.checkAnswer
  extract_lets x ws
  exact h.takeBudget.frame.pair

theorem Sound.carryOut {sp : OpSpec} {q : Req} (h : s.Sound) (row : KeepsForms sp) : (s.carryOut sp q).Sound := by
  unfold State.carryOut
  extract_lets txn all busy
  have refused : busy.Sound := Sound.finish h
  clear_value busy
  split
  · exact (Sound.finish (h.runHere row)).announce
  · exact .ite refused h.beginTxn
  · refine .ite refused ?_
    split
    next heq => exact (Sound.of_eq heq h.checkAnswer).beginTxn.announce
  · split
    · exact Sound.finish h
    · exact .ite refused h.beginTxn

theorem Sound.unknownOp {op : Nat} {q : Req} (h : s.Sound) : (s.unknownOp op q).Sound :=
  .ite (Sound.finish h) (.ite (Sound.finish h) (Sound.finish h))

theorem Sound.queueFull {op : Nat} {q : Req} (h : s.Sound) : (s.queueFull op q).Sound := by
  unfold State.queueFull
  split
  · exact h.unknownOp
  · split
    exact Sound.finish h

theorem Sound.receiveWith {opcode : Nat} {q : Req} {f : State → State} (h : s.Sound)
    (hf : ∀ {r : State}, r.Sound → (f r).Sound) : (s.receiveWith opcode q f).Sound := by
  unfold State.receiveWith
  refine .ite h (.ite ?_ ?_)
  · split
    · exact h.rxDiscard
    · exact h
  · extract_lets z c
    have h1 : z.Sound := h.countPacket
    clear_value z
    split
    · split
      next room =>
        refine h1.putQueue ?_
        rw [List.length_append]
        exact room
      · exact h1.accept fun h => h.queueFull
    · exact h1.accept hf

theorem Sound.request {sp : OpSpec} {q : Req} (h : s.Sound) (row : KeepsForms sp) : (s.request sp q).Sound :=
  h.receiveWith fun h => (h.carryOut row).recipeResume

theorem Sound.execQueued {x : QueuedReq} (h : s.Sound) : (s.execQueued x).Sound := by
  refine h.accept fun h => ?_
  split
  next known => exact (h.carryOut (opSpec_keepsForms known)).recipeResume
  · exact h.unknownOp

theorem Sound.drainCore {core n : Nat} (h : s.Sound) : (State.drainCore core n s).Sound := by
  induction n generalizing s with
  | zero => exact h
  | succ n ih =>
    unfold State.drainCore
    refine .ite h ?_
    split
    · exact h
    next x rest heq =>
      have fits : rest.length ≤ 8 := by
        have bound := h.inQueue_le (core := core)
        rw [heq, List.length_cons] at bound
        omega
      exact ih (h.putQueue fits).execQueued

theorem Sound.drain (h : s.Sound) : s.drain.Sound := h.drainCore.drainCore

theorem Sound.recipeStep (h : s.Sound) : s.recipeStep.Sound := by
  unfold State.recipeStep
  split
  · exact h
  · extract_lets z q
    have h1 : z.Sound := h.countStep
    clear_value z
    refine .ite h1.recipeAcquire (.ite h1.recipeRelease (.ite h1.recipeWait ?_))
    split
    · exact h1.stepDone
    next known => exact (h1.putRecipeRun.carryOut (opSpec_keepsForms known)).recipeResume.drain

theorem Sound.memberAnswer {a : CordAnswer} (h : s.Sound) : (s.memberAnswer a).Sound := by
  unfold State.memberAnswer
  split
  · exact h
  · exact .ite h.putTxn.resolve.announce.drain h

theorem Sound.cordTimeout (h : s.Sound) : s.cordTimeout.Sound := by
  unfold State.cordTimeout
  split
  · exact h
  next x _ =>
    extract_lets _ z mask y
    have h1 : z.Sound := h.frame
    clear_value z
    have h2 : y.Sound := by
      unfold y
      cases x.phase
      · exact h1.answerTo
      · exact h1.cordSend.count.answerTo
      · exact h1.answerTo
      · exact h1.statusResolved
    exact h2.recipeResume.drain

theorem Sound.cordRequest {op : Nat} {q : Req} (h : s.Sound) : (s.cordRequest op q).Sound := by
  unfold State.cordRequest
  refine .ite h ?_
  extract_lets q'
  split
  · exact Sound.finish h
  next known => exact (Sound.finish (h.runHere (opSpec_keepsForms known))).announce

theorem Sound.cordCheck {op : Nat} {q : Req} (h : s.Sound) : (s.cordCheck op q).Sound := by
  unfold State.cordCheck
  refine .ite h (.ite h.cordSend ?_)
  extract_lets q'
  split
  · exact h.cordSend
  · split
    next heq => exact (Sound.of_eq heq h.checkAnswer).frame.cordSend

theorem Sound.cordForget (h : s.Sound) : s.cordForget.Sound := h.frame

theorem Sound.cordApply (h : s.Sound) : s.cordApply.Sound := by
  unfold State.cordApply
  split
  · exact h
  · extract_lets z
    have h1 : z.Sound := h.cordForget
    clear_value z
    split
    · exact h1
    next known => exact (Sound.finish (h1.runHere (opSpec_keepsForms known))).announce

theorem Sound.autoEntry {ms : List RollEntry} (h : s.Sound) : (s.autoEntry ms).Sound :=
  .ite (h.carryOut (opTable_keepsForms _ (by simp [opTable]))).drain h

theorem Sound.settleAll (h : s.Sound) : s.settleAll.Sound := h.settle.resolve.drain

theorem Sound.writeDone {ok : Bool} (h : s.Sound) : (s.writeDone ok).Sound :=
  h.entryDone.settleAll.then fun h1 => (Sound.ite h1.frame.safeEnter h1).cordResetTaken

theorem Sound.echoReply {src : Source} {r : Reply} {address : Nat} (h : s.Sound) :
    (s.echoReply src r address).Sound :=
  h.logEntry.count.deliver

theorem Sound.packetBytes {src : Source} {bs : List Nat} (h : s.Sound) : (s.packetBytes src bs).Sound := by
  unfold State.packetBytes
  extract_lets f len q op head crc z
  have h1 : z.Sound := h.countBytes
  clear_value z
  refine .ite h1.count (.ite h1.echoReply (.ite h1.echoReply ?_))
  split
  next known => exact h.request (opSpec_keepsForms known)
  · exact h.receiveWith fun h => h.unknownOp

theorem Sound.malformed {src : Source} {bs : List Nat} (h : s.Sound) : (s.malformed src bs).Sound := by
  unfold State.malformed
  refine .ite h ?_
  refine .ite ?_ h.packetBytes
  split
  · exact h.rxDiscard
  · exact h

theorem Sound.spiRead {command clocked : Nat} (h : s.Sound) : (s.spiRead command clocked).Sound := by
  have bound := h.spiQ_le
  unfold State.spiRead
  refine .ite h ?_
  split
  · exact h.frameRun
  next r rest heq =>
    extract_lets bs _ z _ y
    have fits : rest.length ≤ 4 := by
      rw [heq, List.length_cons] at bound
      omega
    have h1 : z.Sound := h.frameRun
    have h2 : y.Sound := h1.frameCmd (h1.withSpiQ fits)
    exact .ite (.ite h2.replyGone h2) h1

theorem Sound.uartError (h : s.Sound) : s.uartError.Sound := .ite h.count h

end
end State
end Sys2Proof.Machine
end

section
/-! SUPPORT. Every command keeps the forms, and the proof of O7. -/

namespace Sys2Proof.Machine

/-- A command completes in a state that keeps the forms. -/
def AnswersSound (o : Res) : Prop := answers o State.Sound

theorem regRead_keepsForms : State.KeepsForms Op.regRead := State.opTable_keepsForms _ (by simp [opTable])
theorem regWrite_keepsForms : State.KeepsForms Op.regWrite := State.opTable_keepsForms _ (by simp [opTable])

section
variable {t : Nat} {f : State → State} {i : Instr} {s : State} (h : s.Sound)
include h

theorem run_sound (hf : ∀ {r : State}, r.Sound → (f r).Sound) : AnswersSound (run t f s) := by
  rw [run_gives]
  exact ⟨_, rfl, (hf h.arrive).frame⟩

theorem live_sound (hf : ∀ {r : State}, r.Sound → (f r).Sound) : AnswersSound (live t f s) := by
  unfold live
  exact run_sound h fun hr => .ite hr (hf hr)

theorem awake_sound (hf : ∀ {r : State}, r.Sound → (f r).Sound) : AnswersSound (awake t f s) := by
  unfold awake
  exact live_sound h fun hr => .ite hr (hf hr)

theorem awakeFirst_sound (hf : ∀ {r : State}, r.Sound → (f r).Sound) : AnswersSound (awakeFirst t f s) := by
  unfold awakeFirst
  extract_lets a b
  have first : a.Sound := h.arriveFirst
  have acted : b.Sound := .ite first (hf first)
  exact ⟨_, rfl, acted.launchDue.frame⟩

theorem run_request_sound {sp : OpSpec} (row : State.KeepsForms sp) (q : Req) :
    AnswersSound (run t (fun s => s.request sp q) s) :=
  run_sound h fun hr => hr.request row

/-- The commands that act before the fire edges of their instant. -/
theorem exec_first_sound (hf : actsFirst i = true) : AnswersSound (exec i s) := by
  cases i <;> simp only [actsFirst, Bool.false_eq_true] at hf
  case frameBoundary => exact awakeFirst_sound h fun hr => hr.frameBoundary
  case pickoffOutput => exact awakeFirst_sound h fun hr => hr.pickoffOutput

/-- The commands that act while the internal reset is held. -/
theorem exec_inReset_sound (ha : actsInReset i = true) : AnswersSound (exec i s) := by
  cases i <;> simp only [actsInReset, Bool.false_eq_true] at ha
  case laserPermitLow => exact run_sound h fun hr => hr.laserLow.calPoll
  case laserPermitHigh => exact run_sound h fun hr => hr.laserHigh
  case permitHoldExpire => exact run_sound h fun hr => hr.permitHold
  case gateFault => exact run_sound h fun hr => hr.gateFault
  case thermalTrip => exact run_sound h fun hr => hr.thermalTrip
  case tripRelease => exact run_sound h fun hr => hr.tripRelease
  case pmbAlert => exact run_sound h fun hr => hr.pmbAlert
  case supplyOutOfRange => exact run_sound h fun hr => hr.supplyBad
  case resetNFall => exact run_sound h fun hr => hr.resetFall
  case resetNRise => exact run_sound h fun hr => hr.resetRise
  case resetRelease => exact run_sound h fun hr => hr.resetRelease

open State in
/-- The commands of the blocks that stop in PARK. -/
theorem exec_awake_sound (hp : stopsInPark i = true) (hf : actsFirst i = false) : AnswersSound (exec i s) := by
  cases i <;> simp only [stopsInPark, actsFirst, Bool.false_eq_true, reduceCtorEq] at hp hf
  case acquire => exact awake_sound h fun hr => hr.ownStep fun h => h.recipeAcquire
  case release => exact awake_sound h fun hr => hr.ownStep fun h => h.recipeRelease
  case wait => exact awake_sound h fun hr => hr.ownStep fun h => h.recipeWait
  case linkChange => exact awake_sound h fun hr => .ite hr.laneChange hr.cordLink
  all_goals
    exact awake_sound h fun hr => by simp only [hr,
      Sound.acquireTimeout, Sound.waitExpire, Sound.recipeStart, Sound.recipeStep, Sound.refReturn, Sound.ptpSync,
      Sound.ptpFollowUp, Sound.ptpDelayResp, Sound.ptpPdelayReq, Sound.ptpPdelayResp, Sound.ptpAnnounce,
      Sound.announceTimeout, Sound.syncExpire, Sound.ppsEdge, Sound.ppsMissing, Sound.xtalMeasure,
      Sound.xtalJournal, Sound.tuneStep, Sound.tdcEdge, Sound.dllLock, Sound.statTimeout, Sound.windowClose,
      Sound.calPoll, Sound.injWindowClose, Sound.gainStall, Sound.dcUpdate, Sound.background, Sound.adaptPeriod,
      Sound.biasStep, Sound.xbarTimeout, Sound.injPulse, Sound.restoreHold, Sound.slotExecute, Sound.csEvaluate,
      Sound.diagIntervalEnd, Sound.kerfStart, Sound.kerfEnd, Sound.proofShot, Sound.peakListDone, Sound.trigEdge,
      Sound.trigExpire, Sound.unitFormed, Sound.demodBoundary, Sound.clipReset, Sound.requestReset, Sound.elecFault,
        Sound.elecRecover,
      Sound.servoPeriodStart, Sound.outputInstant, Sound.parkSlew, Sound.acqTimeout, Sound.rasterTimer,
      Sound.encEdge, Sound.encIndex, Sound.pwmUpdate, Sound.setBus, Sound.alignDone, Sound.poseMatrixDone,
      Sound.sectorClose, Sound.envelopeReport, Sound.csiFrameStart, Sound.csiLine, Sound.csiFrameEnd,
      Sound.csiIgnored, Sound.sotError, Sound.feTimeout, Sound.pipelineTurn, Sound.cciWriteDone, Sound.eqLock,
      Sound.rxPause, Sound.arpRequest, Sound.neighbourSolicit, Sound.icmpEcho, Sound.rxDiscard, Sound.flushTimeout,
      Sound.echoRelease, Sound.grant, Sound.txEnd, Sound.wdtBite, Sound.starve, Sound.relayDatagram,
      Sound.relayTimeout, Sound.rollCall, Sound.rollCallRx, Sound.rollCallReturn, Sound.autoEntry,
      Sound.cordRequest, Sound.cordTimeout, Sound.cordCheck, Sound.cordApply, Sound.cordForget, Sound.markerSend,
      Sound.syncMarker, Sound.syncMiss, Sound.cordResetMarker, Sound.epochAnnounce, Sound.cordHbSend,
      Sound.cordHeartbeat, Sound.cordHbTimeout, Sound.halfSend, Sound.halfHeartbeat, Sound.halfTimeout,
      Sound.hkRoundStart, Sound.hkSettleDone, Sound.hkConversionDone, Sound.thermWindow, Sound.runStart,
      Sound.hkKick, Sound.tdcStepDone, Sound.injStepDone, Sound.timingStepDone, Sound.pkoDone, Sound.dumpPeriod,
      Sound.dumpDone, Sound.bwWindow, Sound.sampleTick, Sound.avsLoopPeriod, Sound.transitionDone,
      Sound.memberAnswer, Sound.hdrEcc]

open State in
/-- R319, R320, R322, R328, R340, R445: every command keeps the forms. -/
theorem exec_sound : AnswersSound (exec i s) := by
  cases hq : requestOf i with
  | some p =>
    rw [exec_request hq]
    exact run_request_sound h (opTable_keepsForms _ (requestOf_row hq)) _
  | none =>
    cases hw : writeOf i with
    | some p =>
      rw [exec_write hw]
      exact run_request_sound h regWrite_keepsForms _
    | none =>
      cases hr : readOf i with
      | some p =>
        rw [exec_read hr]
        exact run_request_sound h regRead_keepsForms _
      | none =>
        cases hf : actsFirst i with
        | true => exact exec_first_sound h hf
        | false =>
          cases hp : stopsInPark i with
          | true => exact exec_awake_sound h hp hf
          | false =>
            cases ha : actsInReset i with
            | true => exact exec_inReset_sound h ha
            | false =>
              cases i <;> simp only [requestOf, writeOf, readOf, stopsInPark, actsInReset, actsFirst, reduceCtorEq]
                at hq hw hr hp ha hf
              case rxThresholdWrite => exact run_request_sound h regWrite_keepsForms _
              case malformedPacket => exact run_sound h fun hr => hr.malformed
              all_goals
                exact live_sound h fun hr => by simp only [hr,
          Sound.spiRead, Sound.uartError, Sound.refLost, Sound.refWindow, Sound.refWarm, Sound.pllLock,
          Sound.xtalFault, Sound.xtalReturn, Sound.stepNow, Sound.eyeWindowEnd, Sound.writeDone, Sound.compactFlip,
          Sound.settleAll, Sound.lifeFlush, Sound.forecast, Sound.lifeSecond, Sound.trialTimeout,
          Sound.pmbusCommandDone, Sound.pmbusStatus, Sound.pmbAlertTimeout, Sound.selftestDone, Sound.commandReset,
          Sound.watchdogBite, Sound.wdtKick, Sound.wake, Sound.wakeComplete]

end

/-- Settles O7: every command that the queue brings keeps the forms, and the empty queue leaves the state as it
stands. -/
theorem everyStepKeepsTheForms : Obligations.EveryStepKeepsTheForms := by
  intro s r hs hr
  unfold step at hr
  split at hr
  case h_1 => exact Host.Outcome.next.inj hr ▸ hs
  case h_2 i rest _ =>
    obtain ⟨x, hx, kept⟩ := exec_sound (i := i) (s := { s with pending := rest }) (State.sound_iff.mp hs).frame
    obtain rfl : x = r := Host.Outcome.next.inj (hx.symm.trans hr)
    exact State.sound_iff.mpr kept

end Sys2Proof.Machine
end
